-- ==== Sys2Proof/Word.lean ====
section
/-! DEFINITION. The word types of the PB5120: 16-bit bus words, bytes, the 64-bit system time base and the 48-bit
AON counter (rules R4, R5, R25). -/

namespace Sys2Proof

/-- A 16-bit word of the host bus and of every register space (R25). -/
abbrev Word := BitVec 16

/-- A byte of a stored image or of a link packet (R4). -/
abbrev Byte := BitVec 8

/-- A 32-bit item (R47). -/
abbrev Long := BitVec 32

/-- A system time base value in ticks of 10 ns (R5, R104). -/
abbrev Tick := BitVec 64

/-- An AON counter value (R111). -/
abbrev AonTick := BitVec 48

end Sys2Proof
end

