-- ==== Sys2Proof/Syntax.lean ====
section
/-! DEFINITION. The commands of the PB5120: one constructor per row of spec/opcode_table.json, in the table's order,
with the operands the spec gives the operation (a written word, an index, the data that the outside world or the
analogue side supplies at that event). The commands whose names begin with `loam` (but for loamWatchdog and loamdbg)
are the instructions of the Loam sequencer; they carry no operand, because Loam fetches its instruction word from its
own program memory (R231, R238). -/

namespace Sys2Proof

/-- The conversions of one converter group in one row: the group, its raw codes in conversion order (roles A and B
alternating, R315), and the raw codes of slice S for the conversions it shadowed (R321). -/
structure GroupRow where
  /-- converter group 0-161 -/
  group : Nat
  /-- raw codes of the conversions, in order -/
  raw : List Nat
  /-- raw codes of slice S on the conversions it shadowed -/
  shadow : List Nat
  deriving DecidableEq, Repr

/-- The camera packet errors of R452 that discard or correct a packet. -/
inductive CsiError where
  /-- SoT sync error on a lane -/
  | sot
  /-- header ECC, single bit: corrected -/
  | eccCorrected
  /-- header ECC, two or more bits -/
  | eccDouble
  /-- unsupported data type -/
  | unsupported
  deriving DecidableEq, Repr

/-- The source of an edge that reaches a timer's prescaler (R129). -/
inductive ClkSource where
  /-- CORE -/
  | core
  /-- STB -/
  | stb
  /-- REFCLK -/
  | refclk
  /-- AONCLK -/
  | aonclk
  /-- an edge of pin GPp, rising or falling -/
  | pin (p : Fin 32) (rising : Bool)
  deriving DecidableEq, Repr

/-- The commands: the rows of spec/opcode_table.json, in its order. -/
inductive Instr where
  /-- REGISTER_WRITE (R8) -/
  | registerWrite (sp off : Nat) (v : Word)
  /-- WINDATA_READ (R43) -/
  | windataRead
  /-- WINDATA_WRITE (R47) -/
  | windataWrite (v : Word) (held : Bool)
  /-- WINDOW_TIMEOUT (R35) -/
  | windowTimeout (read : Bool)
  /-- HELD_WINDOW_WRITE_DONE (R36) -/
  | heldWindowWriteDone
  /-- STB0_READ (R52) -/
  | stb0Read
  /-- AONCNT0_READ (R52) -/
  | aoncnt0Read
  /-- FRAMENUM_READ (R180) -/
  | framenumRead
  /-- HKQ0_READ (R214) -/
  | hkq0Read
  /-- MODE_REQUEST (R62) -/
  | modeRequest (v : Word)
  /-- RUN_TO_IDLE_ENTRY (R66) -/
  | runToIdleEntry
  /-- MODE_SEQUENCE_END (R64) -/
  | modeSequenceEnd
  /-- DRAIN_TIMEOUT (R69) -/
  | drainTimeout
  /-- WAKE_PIN (R554) -/
  | wakePin (n : Fin 8)
  /-- SQUELCH_CHANGE (R77) -/
  | squelchChange (isOpen : Bool)
  /-- PHRASE_QUIET_EXPIRY (R78) -/
  | phraseQuietExpiry
  /-- WPHRASE_WRITE (R76) -/
  | wphraseWrite (v : Word)
  /-- SYS_PLL_LOCK_TIMEOUT (R72) -/
  | sysPllLockTimeout
  /-- CLOCK_FAILURE (R88) -/
  | clockFailure
  /-- AON_CRYSTAL_ADOPTED (R86) -/
  | aonCrystalAdopted
  /-- AON_CRYSTAL_START_TIMEOUT (R86) -/
  | aonCrystalStartTimeout
  /-- AON_CRYSTAL_STOP (R87) -/
  | aonCrystalStop
  /-- XTALRETRY (R87) -/
  | xtalretry (v : Word)
  /-- PIXN_WRITE (R90) -/
  | pixnWrite (v : Word)
  /-- PIXN_PENDING_APPLY (R90) -/
  | pixnPendingApply
  /-- PIX_RELOCK_DONE (R91) -/
  | pixRelockDone
  /-- PIX_FREQ_MONITOR_TRIP (R92) -/
  | pixFreqMonitorTrip (kHz : Nat)
  /-- SUPPLY_WARN (R93) -/
  | supplyWarn (r : Fin 4)
  /-- SUPPLY_GOOD (R95) -/
  | supplyGood
  /-- SUPPLY_RESET (R96) -/
  | supplyReset (r : Fin 4)
  /-- SYSRST (R98) -/
  | sysrst (v : Word)
  /-- POWER_ON_RESET (R97) -/
  | powerOnReset
  /-- BOOT_READY (R576) -/
  | bootReady
  /-- BLKRST_CAPT (R101) -/
  | blkrstCapt
  /-- BLKRST_HKC (R570) -/
  | blkrstHkc
  /-- BLKRST_ILLUM (R570) -/
  | blkrstIllum
  /-- BLKRST_WAVE (R99) -/
  | blkrstWave
  /-- BLKRST_PIPE (R570) -/
  | blkrstPipe
  /-- BLKRST_CSI (R99) -/
  | blkrstCsi
  /-- BLKRST_POOL (R99) -/
  | blkrstPool
  /-- BLKRST_LNKPKT (R570) -/
  | blkrstLnkpkt
  /-- BLKRST_LNKPHY (R570) -/
  | blkrstLnkphy
  /-- BLKRST_NVMC (R392) -/
  | blkrstNvmc
  /-- BLKRST_MARL (R347) -/
  | blkrstMarl
  /-- BLKRST_DONE (R99) -/
  | blkrstDone (b : Fin 11)
  /-- AONLOCK_WRITE (R102) -/
  | aonlockWrite (v : Word)
  /-- CMP_MATCH_LOAD (R121) -/
  | cmpMatchLoad (n : Fin 16) (v : Word)
  /-- CMP_MATCH (R122) -/
  | cmpMatch (n : Fin 16)
  /-- ALARM_LOAD (R112) -/
  | alarmLoad (v : Word)
  /-- ALARM_DISARM (R112) -/
  | alarmDisarm (v : Word)
  /-- ALARM_FIRE (R113) -/
  | alarmFire
  /-- SYNC_FRAME_SEND (R115) -/
  | syncFrameSend
  /-- SYNC_FRAME_RECEIVED (R117) -/
  | syncFrameReceived (start : Nat) (pulses : List Nat) (elapsed : Nat)
  /-- SYNC_LOST (R119) -/
  | syncLost
  /-- TIMER_SOURCE_EDGE (R131): the timer and the edge -/
  | timerSourceEdge (e : Fin 8 × ClkSource)
  /-- TIMER_MATCH (R132) -/
  | timerMatch (n : Fin 8)
  /-- TIMER_TERMINAL (R132) -/
  | timerTerminal (n : Fin 8)
  /-- TSTART_START (R136) -/
  | tstartStart (v : Word)
  /-- TSTART_STOP (R136) -/
  | tstartStop (v : Word)
  /-- REARM (R135) -/
  | rearm (n : Fin 8) (v : Word)
  /-- TIMER_CAPTURE (R140) -/
  | timerCapture (n : Fin 8) (rising : Bool)
  /-- ARM (R165) -/
  | arm (v : Word)
  /-- ARM_CHECK_COMPLETE (R165) -/
  | armCheckComplete
  /-- DISARM (R169) -/
  | disarm (v : Word)
  /-- ABORT (R170) -/
  | abort (v : Word)
  /-- PIN_TRIGGER (R171) -/
  | pinTrigger (p : Fin 32) (rising : Bool)
  /-- TRIGSW (R173) -/
  | trigsw (v : Word)
  /-- HELD_TRIGGER_RELEASE (R177) -/
  | heldTriggerRelease
  /-- STRBMAX_EXPIRY (R188) -/
  | strbmaxExpiry (c : Fin 8)
  /-- REGCTL_EN_WRITE (R194) -/
  | regctlEnWrite (c : Fin 8) (v : Word)
  /-- ISETVAL_WRITE (R195) -/
  | isetvalWrite (c : Fin 8) (v : Word)
  /-- REG_BOUND_WRITE (R192) -/
  | regBoundWrite (c : Fin 8) (hi : Bool) (v : Word)
  /-- HKCTRIG (R204) -/
  | hkctrig (v : Word)
  /-- HKC_REQUEST_DUE (R207) -/
  | hkcRequestDue (sl : Fin 8)
  /-- HKC_WAIT_EXPIRY (R208) -/
  | hkcWaitExpiry (sl : Fin 8)
  /-- HKC_RESULT (R202): the raw code, and slice C's where it sampled the conversion too (R225) -/
  | hkcResult (codes : Nat × Nat)
  /-- HKCCTL_EN_WRITE (R221) -/
  | hkcctlEnWrite (v : Word)
  /-- HKC_SHUTDOWN_DONE (R221) -/
  | hkcShutdownDone
  /-- CALMODE_WRITE (R226) -/
  | calmodeWrite (v : Word)
  /-- HKC_SPARE_SETTLED (R226) -/
  | hkcSpareSettled
  /-- HKC_SHADOW_WINDOW_END (R227): of slice A or B -/
  | hkcShadowWindowEnd (x : Fin 2)
  /-- NOP (R239) -/
  | loamNop
  /-- END (R253) -/
  | loamEnd
  /-- JMP (R240) -/
  | loamJmp
  /-- JZ (R240) -/
  | loamJz
  /-- JNZ (R240) -/
  | loamJnz
  /-- DJNZ (R240) -/
  | loamDjnz
  /-- CALL (R241) -/
  | loamCall
  /-- RET (R241) -/
  | loamRet
  /-- LDI (R242) -/
  | loamLdi
  /-- LDIH (R242) -/
  | loamLdih
  /-- LDC (R242) -/
  | loamLdc
  /-- ALU (R242) -/
  | loamAlu
  /-- ADDI (R242) -/
  | loamAddi
  /-- JLT (R240) -/
  | loamJlt
  /-- GET (R243) -/
  | loamGet
  /-- MEM (R239) -/
  | loamMem
  /-- WAITT (R244) -/
  | loamWaitt
  /-- WAITT_REACHED (R244) -/
  | waittReached
  /-- WAITE (R244) -/
  | loamWaite
  /-- WAITE_EVENT (R244) -/
  | waiteEvent
  /-- BASE (R257) -/
  | loamBase
  /-- STR (R245) -/
  | loamStr
  /-- OPEN (R246) -/
  | loamOpen
  /-- CLOSE (R246) -/
  | loamClose
  /-- STRB (R246) -/
  | loamStrb
  /-- ISETL (R246) -/
  | loamIsetl
  /-- HKT (R247) -/
  | loamHkt
  /-- PIN (R247) -/
  | loamPin
  /-- READP (R248) -/
  | loamReadp
  /-- READB (R249) -/
  | loamReadb
  /-- DRAIN (R250) -/
  | loamDrain
  /-- EMIT (R251) -/
  | loamEmit
  /-- FLAG (R252) -/
  | loamFlag
  /-- BREAK (R254) -/
  | loamBreak
  /-- ACTION_QUEUE_STALL_END (R232) -/
  | actionQueueStallEnd
  /-- STRATUM_OPEN (R146) -/
  | stratumOpen
  /-- STRATUM_CLOSE (R146) -/
  | stratumClose
  /-- STRATUM_MAX_CLOSE (R236) -/
  | stratumMaxClose
  /-- STRB_EDGE (R184) -/
  | strbEdge
  /-- ISET_APPLY (R185) -/
  | isetApply
  /-- PIN_ACTION (R233) -/
  | pinAction
  /-- HKT_ACTION (R247) -/
  | hktAction
  /-- ROW_READ (R151) -/
  | rowRead (codes : List GroupRow)
  /-- READOUT_RESUME (R21) -/
  | readoutResume
  /-- PACE_RESUME (R436) -/
  | paceResume
  /-- LOAM_WATCHDOG (R256) -/
  | loamWatchdog
  /-- HALT (R261) -/
  | halt (v : Word)
  /-- RESUME (R262) -/
  | resume (v : Word)
  /-- STEP (R264) -/
  | step (v : Word)
  /-- BREAKPOINT_HIT (R265) -/
  | breakpointHit
  /-- PROGRAM_RAM_WRITE (R260) -/
  | programRamWrite (off : Nat) (v : Word)
  /-- SYSRESET (R267) -/
  | sysreset
  /-- LOAMDBG (R268) -/
  | loamdbg (dr : BitVec 40)
  /-- STEP_TAKE_UP (R271) -/
  | stepTakeUp
  /-- DRIFT_EXPOSURE_OPEN (R271) -/
  | driftExposureOpen
  /-- DRIFT_EXPOSURE_CLOSE (R271) -/
  | driftExposureClose
  /-- BAND_READ_START (R273) -/
  | bandReadStart
  /-- BAND_READ_END (R275) -/
  | bandReadEnd (rows : List (List GroupRow))
  /-- DRIFT_END_PIN (R284) -/
  | driftEndPin (rising : Bool)
  /-- DRIFT_TAIL_EXPIRY (R284) -/
  | driftTailExpiry
  /-- DRIFT_STALL (R284) -/
  | driftStall
  /-- WP_INPUT_FRAME (R296) -/
  | wpInputFrame (p : Fin 2) (slots : List (BitVec 32))
  /-- WP_SYNC_LOSS (R303) -/
  | wpSyncLoss (p : Fin 3) (clockLost : Bool)
  /-- WP_SYNC_REGAINED (R304) -/
  | wpSyncRegained (p : Fin 3)
  /-- RESYNC (R295) -/
  | resync (v : Word)
  /-- WP_EN_WRITE (R312) -/
  | wpEnWrite (v : Word)
  /-- WP_SHUTDOWN_DONE (R312) -/
  | wpShutdownDone (p : Fin 3)
  /-- P2PLAY (R305) -/
  | p2play (v : Word)
  /-- P2STOP (R306) -/
  | p2stop (v : Word)
  /-- MUTEALL (R308) -/
  | muteall (v : Word)
  /-- WP2_PLAY_START (R305) -/
  | wp2PlayStart
  /-- WP2_OUTPUT_FRAME (R307) -/
  | wp2OutputFrame
  /-- WP2_GAIN_WRITE (R310) -/
  | wp2GainWrite (c : Fin 8) (v : Word)
  /-- WP2_MUTE_WRITE (R308) -/
  | wp2MuteWrite (v : Word)
  /-- WP2_ZERO_CROSS_TIMEOUT (R308) -/
  | wp2ZeroCrossTimeout (c : Fin 8)
  /-- SHADOW_WINDOW_END (R326): of a group, on role A or B -/
  | shadowWindowEnd (g : Fin 162) (x : Fin 2)
  /-- FORCE (R337) -/
  | force (g : Fin 162) (v : Word)
  /-- RESTORE (R338) -/
  | restore (g : Fin 162) (v : Word)
  /-- MARL_DWELL_END (R345) -/
  | marlDwellEnd
  /-- TRIM_STEP (R354) -/
  | trimStep (g : Fin 162) (p : Fin 3) (t : Fin 4)
  /-- HKC_TRIM_STEP (R355) -/
  | hkcTrimStep (i : Fin 6)
  /-- TRIM_TARGET_WRITE (R357) -/
  | trimTargetWrite (off : Nat) (v : Word)
  /-- MARLEN_CLEAR (R343) -/
  | marlenClear (v : Word)
  /-- UNPINALL (R359) -/
  | unpinall (v : Word)
  /-- RUN_VREF (R363) -/
  | runVref (v : Word)
  /-- RUN_WHITE (R367) -/
  | runWhite (v : Word)
  /-- CANCEL (R362) -/
  | cancel (v : Word)
  /-- VREF_RUN_COMPLETE (R364); the outside brings nothing to it -/
  | vrefRunComplete (u : Unit)
  /-- VREF_RUN_TIMEOUT (R366) -/
  | vrefRunTimeout
  /-- WHITE_CAPTURE_START (R367) -/
  | whiteCaptureStart
  /-- WHITE_RUN_COMPLETE (R369); the outside brings nothing to it, neither node values nor defects -/
  | whiteRunComplete (u v : Unit)
  /-- WHITE_RUN_TIMEOUT (R372) -/
  | whiteRunTimeout
  /-- STAGE (R378) -/
  | stage (v : Word)
  /-- STAGE_COMPLETE (R378) -/
  | stageComplete
  /-- COMMIT (R380) -/
  | commit (v : Word)
  /-- COMMIT_COMPLETE (R382) -/
  | commitComplete (verifyFail : Option Nat)
  /-- LOAD (R389) -/
  | load (v : Word)
  /-- RETCMD (R388) -/
  | retcmd (v : Word)
  /-- LFLUSH (R395) -/
  | lflush (v : Word)
  /-- LEDGER_FLUSH_DUE (R395) -/
  | ledgerFlushDue
  /-- LEDGER_FLUSH_COMPLETE (R394) -/
  | ledgerFlushComplete (verifyFail : Bool)
  /-- LEDGER_HOUR_TICK (R393) -/
  | ledgerHourTick
  /-- PROG (R401) -/
  | prog (v : Word)
  /-- KEYPROG (R407) -/
  | keyprog (v : Word)
  /-- GLOCK (R404) -/
  | glock (v : Word)
  /-- KEYLOCK_WRITE (R408) -/
  | keylockWrite (v : Word)
  /-- OTP_OP_COMPLETE (R401) -/
  | otpOpComplete
  /-- PIPE_SEGMENT (R435) -/
  | pipeSegment
  /-- STATCTL_UNLOCK (R448) -/
  | statctlUnlock (v : Word)
  /-- INSRC_SWITCH (R23) -/
  | insrcSwitch
  /-- CSI_FRAME_START (R453) -/
  | csiFrameStart (p : Fin 2) (vc : Fin 16) (fn : Word)
  /-- CSI_LONG_PACKET (R454) -/
  | csiLongPacket (p : Fin 2) (vc : Fin 16) (dt : Nat) (payload : List Byte) (crcOk : Bool)
  /-- CSI_FRAME_END (R453) -/
  | csiFrameEnd (p : Fin 2) (vc : Fin 16)
  /-- CSI_PACKET_ERROR (R452) -/
  | csiPacketError (p : Fin 2) (kind : CsiError)
  /-- PCAM_VSYNC_OPEN (R456) -/
  | pcamVsyncOpen
  /-- PCAM_LINE (R456) -/
  | pcamLine (vals : List Word)
  /-- PCAM_VSYNC_CLOSE (R456) -/
  | pcamVsyncClose (midLine : Bool)
  /-- PCAM_PCLK_TIMEOUT (R457) -/
  | pcamPclkTimeout
  /-- CAMERA_PORT_EN_WRITE (R463) -/
  | cameraPortEnWrite (p : Fin 3) (v : Word)
  /-- CAMERA_PORT_SHUTDOWN_DONE (R463) -/
  | cameraPortShutdownDone (p : Fin 3)
  /-- POOL_HOLD_GRANT (R468) -/
  | poolHoldGrant (st : Fin 8)
  /-- HOLDLIM_EXPIRY (R468) -/
  | holdlimExpiry (st : Fin 8)
  /-- STREAM_EN_WRITE (R473) -/
  | streamEnWrite (v : Word)
  /-- MOVER_REQUEST (R475) -/
  | moverRequest (m : Fin 4)
  /-- MOVER_COPY_COMPLETE (R476) -/
  | moverCopyComplete (m : Fin 4)
  /-- LINK_EN_WRITE (R502) -/
  | linkEnWrite (v : Word)
  /-- RETRAIN (R513) -/
  | retrain (v : Word)
  /-- RETIRE (R510) -/
  | retire (v : Word)
  /-- LINKUP (R497) -/
  | linkup (lanes : BitVec 4) (mseq : Byte) (ackReq : Bool)
  /-- TRAIN_TIMEOUT (R498) -/
  | trainTimeout
  /-- RXL_SYNC (R491) -/
  | rxlSync
  /-- RXL_SYNC_LOSS (R491) -/
  | rxlSyncLoss
  /-- RXLOSS_EXPIRY (R496) -/
  | rxlossExpiry
  /-- RXL_SKIP (R493) -/
  | rxlSkip (fill : Nat)
  /-- ELASTIC_BUFFER_ERROR (R494) -/
  | elasticBufferError
  /-- LANE_DRIVER_FAULT (R507) -/
  | laneDriverFault (n : Fin 4)
  /-- RETIREMENT_APPLY (R510) -/
  | retirementApply
  /-- RETMAX_EXPIRY (R510) -/
  | retmaxExpiry
  /-- PACKET_START (R528) -/
  | packetStart
  /-- PACKET_COMPLETE (R470) -/
  | packetComplete
  /-- ALIGN_COLUMN (R485) -/
  | alignColumn
  /-- IDLE_COLUMN (R488) -/
  | idleColumn
  /-- CREDIT (R527) -/
  | credit (vc : Fin 8) (inf : Bool) (count : BitVec 24) (mseq : Byte) (ackReq : Bool)
  /-- TRIG (R531) -/
  | trig (mask : Word) (mseq : Byte) (ackReq : Bool)
  /-- ACK (R532) -/
  | ack (vc : Fin 8) (nak : Bool) (fn : Long) (mseq : Byte) (ackReq : Bool)
  /-- LANEMAP (R510) -/
  | lanemap (lanes : BitVec 4) (mseq : Byte) (ackReq : Bool)
  /-- LANEFAULT (R507) -/
  | lanefault (lane : Fin 4) (mseq : Byte) (ackReq : Bool)
  /-- MESSAGE_DISCARDED (R529) -/
  | messageDiscarded
  /-- SEALLOCK_WRITE (R538) -/
  | seallockWrite (v : Word)
  /-- GPIOSET (R546) -/
  | gpioset (hi : Bool) (v : Word)
  /-- GPIOCLR (R546) -/
  | gpioclr (hi : Bool) (v : Word)
  /-- GPIOTGL (R546) -/
  | gpiotgl (hi : Bool) (v : Word)
  /-- COMMIT_STAGED_PINS (R547) -/
  | commitStagedPins (v : Word)
  /-- STAGE_DISCARD (R548) -/
  | stageDiscard (v : Word)
  /-- PCFG_WRITE (R541) -/
  | pcfgWrite (n : Fin 32) (v : Word)
  /-- PAD_WRITE (R549) -/
  | padWrite (n : Fin 32) (v : Word)
  /-- SLP_WRITE (R552) -/
  | slpWrite (n : Fin 32) (v : Word)
  /-- PIN_INPUT_CHANGE (R545) -/
  | pinInputChange (n : Fin 32) (level : Bool)
  /-- ENC_A_EDGE (R543) -/
  | encAEdge (bHigh : Bool)
  /-- EVSTAT_CLEAR (R557) -/
  | evstatClear (hi : Bool) (v : Word)
  /-- EVEN_WRITE (R558) -/
  | evenWrite (hi : Bool) (v : Word)
  /-- EVVEC_WRITE (R559) -/
  | evvecWrite (v : Word)
  /-- THERMAL_SAMPLE (R563) -/
  | thermalSample (t0 t1 : Nat)
  /-- FACK_WRITE (R566) -/
  | fackWrite (v : Word)
  /-- SUPPLY_WARN_CLEAR (R94) -/
  | supplyWarnClear (r : Fin 4)
  /-- VDDAON_LOSS (R577) -/
  | vddaonLoss
  /-- INVALID_CODE_GROUP (R491) -/
  | invalidCodeGroup
  /-- DOMAIN_OFF_READ (R15) -/
  | domainOffRead (a : Nat)
  /-- EXTEST_UPDATE (R602) -/
  | extestUpdate (cells : BitVec 178)
  deriving DecidableEq, Repr

end Sys2Proof
end

