-- ==== Sys2Proof/Config.lean ====
section
/-! DEFINITION. What the spec leaves open: the free values. Each is an opaque constant without a body, so that no proof
can see a value of it; a statement holds for every value. A meaning applies `freeWord` and `freeNat` to the plain
counter `Machine.free`, which it then advances. -/

namespace Sys2Proof.Config

/-- The word a stopped OTP program leaves beyond its old value (R401, R606: "any subset of the 1 bits of PDATA"); the
model masks it with PDATA. DESIGN CHOICE, log entry 2: a free value. -/
opaque freeWord : Nat → Word

/-- How far an operation that a reset or a loss of power cut short had come (R392: how many pages of a commit; R407:
which steps of a key program; R606: whether a lock bit was set). DESIGN CHOICE, log entry 2: a free value. -/
opaque freeNat : Nat → Nat

/-- The ROM bank's words outside the three programs that R258 lists word for word (log entry 2). DESIGN CHOICE: the spec
does not give them, so each is a free constant. -/
opaque romWord : Nat → Long

/-- Whether raising a trim by a tap raises the estimate that it corrects: 0 DLY, 1 THR, 2 GAIN, 4 HKC offset, 5 HKC gain
(R345, R349; log entry 12). The spec gives the sense of OFS alone (R319). -/
opaque tapRaises : Nat → Bool

/-- The code of full node charge, 9,500 electrons, on physical slice p of group g, at 12 bits (false) or 10 bits (true), before
the digital offset (R150): near 3,928 or 982, with the conversion gain within 5 %; the part's own value is a free constant
(log entry 71). -/
opaque fullCode : Nat → Nat → Bool → Nat

end Sys2Proof.Config
end

