-- ==== Sys2Proof/Machine/RegMap.lean ====
section
/-! DEFINITION. The register map: for every word of the direct map (space 0) and of the indirect spaces, its reset
value, the bits a write sets (RW, RWL), the bits a written 1 clears (W1C) and the bits a read clears (RC), as the
Reference tables of the chapters give them (R6, R7, R8, R41). A word without a row reads 0x0000 and ignores writes
(R9). Words that a chapter gives an effect of their own are handled by that chapter's file; their row here gives the
masks of their plain fields. -/

namespace Sys2Proof.Machine

/-- One row of the register map: `count` blocks of `width` equal words, `stride` apart. -/
structure RegRow where
  /-- first offset -/
  first : Nat
  /-- blocks -/
  count : Nat
  /-- distance of blocks -/
  stride : Nat
  /-- equal words per block -/
  width : Nat
  /-- reset value -/
  reset : Word
  /-- bits a write sets -/
  rw : Word
  /-- bits a written 1 clears -/
  w1c : Word
  /-- bits a read clears -/
  rc : Word
  deriving DecidableEq, Repr

/-- The row covers the offset. -/
def RegRow.covers (r : RegRow) (o : Nat) : Bool :=
  decide (r.first ≤ o) && decide ((o - r.first) / r.stride < r.count) && decide ((o - r.first) % r.stride < r.width)

/-- Direct map, 0x00-0x3F (R41). -/
def rowsDirect : List RegRow :=
  [⟨0x00, 1, 1, 1, 0x5120, 0, 0, 0⟩, ⟨0x01, 1, 1, 1, 0x00A1, 0, 0, 0⟩, ⟨0x02, 1, 1, 1, 0x0A03, 0xFF57, 0, 0⟩,
   ⟨0x03, 1, 1, 1, 0, 0, 0x0D10, 0⟩, ⟨0x04, 1, 1, 1, 0xF000, 0, 0x0FFF, 0⟩, ⟨0x05, 1, 1, 1, 0, 0x03FF, 0, 0⟩,
   ⟨0x06, 1, 1, 1, 0, 0, 0x00F0, 0⟩, ⟨0x0A, 2, 1, 1, 0, 0xFFFF, 0, 0⟩, ⟨0x0C, 1, 1, 1, 0x8000, 0, 0, 0⟩,
   ⟨0x0D, 1, 1, 1, 0x1700, 0, 0, 0⟩, ⟨0x0E, 1, 1, 1, 0x0001, 0, 0x0F1F, 0⟩, ⟨0x10, 1, 1, 1, 0x0080, 0x00FF, 0, 0⟩,
   ⟨0x11, 1, 1, 1, 0, 0, 0x0020, 0⟩, ⟨0x13, 2, 1, 1, 0, 0, 0xFFFF, 0⟩, ⟨0x15, 2, 1, 1, 0, 0xFFFF, 0, 0⟩]
  ++ [⟨0x1E, 2, 1, 1, 0, 0xFFFF, 0, 0⟩, ⟨0x21, 1, 1, 1, 0, 0x00F1, 0x0300, 0⟩, ⟨0x2A, 1, 1, 1, 0, 0x800F, 0, 0⟩,
   ⟨0x2B, 1, 1, 1, 0, 0, 0x3800, 0⟩, ⟨0x31, 1, 1, 1, 0, 0, 0x8000, 0⟩, ⟨0x32, 1, 1, 1, 0, 0x1800, 0, 0⟩,
   ⟨0x34, 1, 1, 1, 0x8000, 0xE30F, 0, 0⟩, ⟨0x35, 1, 1, 1, 0, 0, 0x0400, 0⟩, ⟨0x38, 1, 1, 1, 0x000F, 0x83FF, 0, 0⟩,
   ⟨0x39, 1, 1, 1, 0, 0, 0x0F00, 0⟩, ⟨0x3A, 1, 1, 1, 0, 0, 0x6000, 0⟩, ⟨0x3B, 1, 1, 1, 0, 0x00FF, 0, 0⟩,
   ⟨0x3C, 1, 1, 1, 0, 0x8007, 0, 0⟩, ⟨0x3D, 1, 1, 1, 0, 0, 0x0080, 0⟩, ⟨0x3E, 1, 1, 1, 0, 0x0013, 0x0600, 0⟩]

/-- One context block, offsets relative to CTX + 0x100 k (chapter 6 and the Drift words of chapter 9). -/
def rowsCtx : List RegRow :=
  [⟨0x00, 1, 1, 1, 0, 0x7F7F, 0, 0⟩, ⟨0x01, 1, 1, 1, 0, 0xFF0F, 0, 0⟩, ⟨0x02, 1, 1, 1, 0, 0x8FFF, 0, 0⟩,
   ⟨0x03, 1, 1, 1, 0, 0x0007, 0, 0⟩, ⟨0x04, 3, 1, 1, 0, 0xFFFF, 0, 0⟩,
   ⟨0x08, 1, 1, 1, 0, 0, 0x1000, 0⟩, ⟨0x09, 2, 1, 1, 0, 0, 0, 0xFFFF⟩, ⟨0x10, 8, 4, 2, 0, 0x1FFF, 0, 0⟩,
   ⟨0x12, 8, 4, 2, 0, 0x0FFF, 0, 0⟩, ⟨0x30, 4, 16, 5, 0, 0xFFFF, 0, 0⟩, ⟨0x35, 4, 16, 1, 0, 0x000F, 0, 0⟩,
   ⟨0x36, 4, 16, 1, 0, 0xFFFF, 0, 0⟩, ⟨0x38, 4, 16, 8, 0, 0x03FF, 0, 0⟩]
  ++ [⟨0xC0, 1, 1, 1, 0, 0xF777, 0, 0⟩, ⟨0xC1, 1, 1, 1, 0, 0x877F, 0, 0⟩, ⟨0xC2, 1, 1, 1, 0, 0x0FFF, 0, 0⟩,
   ⟨0xC3, 4, 1, 1, 0, 0xFFFF, 0, 0⟩, ⟨0xD0, 1, 1, 1, 0, 0, 0x8000, 0⟩, ⟨0xD1, 2, 1, 1, 0, 0, 0, 0xFFFF⟩,
   ⟨0xD5, 1, 1, 1, 0, 0, 0, 0x0003⟩]

/-- LOAM space (chapter 8). -/
def rowsLoam : List RegRow :=
  [⟨0x0000, 8192, 1, 1, 0, 0xFFFF, 0, 0⟩, ⟨0x3000, 1, 1, 1, 0, 0, 0xE000, 0⟩, ⟨0x3001, 1, 1, 1, 0, 0x1FFF, 0, 0⟩,
   ⟨0x3002, 1, 1, 1, 0x1388, 0xFFFF, 0, 0⟩, ⟨0x3003, 1, 1, 1, 0, 0, 0, 0xFFFF⟩, ⟨0x3008, 4, 1, 1, 0, 0xCFFF, 0, 0⟩,
   ⟨0x3040, 128, 1, 1, 0, 0xFFFF, 0, 0⟩]

/-- TMR space (chapter 4). -/
def rowsTmr : List RegRow :=
  [⟨0x0000, 1, 1, 1, 0, 0x0003, 0, 0⟩, ⟨0x0001, 1, 1, 1, 0, 0, 0x000C, 0xFFF0⟩, ⟨0x0002, 1, 1, 1, 0, 0, 0x0006, 0⟩,
   ⟨0x0008, 3, 1, 1, 0, 0, 0xFFFF, 0⟩, ⟨0x000B, 1, 1, 1, 0, 0, 0x00FF, 0⟩, ⟨0x0013, 1, 1, 1, 0, 0, 0x4000, 0⟩,
   ⟨0x0104, 16, 16, 2, 0, 0xFFFF, 0, 0⟩, ⟨0x0106, 16, 16, 1, 0, 0xEF3F, 0, 0⟩, ⟨0x0107, 16, 16, 1, 0, 0, 0x0001, 0⟩,
   ⟨0x0108, 16, 16, 1, 0, 0, 0, 0xFFFF⟩]
  ++ [⟨0x0200, 8, 32, 6, 0, 0xFFFF, 0, 0⟩, ⟨0x0206, 8, 32, 1, 0, 0xFFFF, 0, 0⟩, ⟨0x0207, 8, 32, 1, 1, 0xFFFF, 0, 0⟩,
   ⟨0x020A, 8, 32, 1, 0x4000, 0xFF1F, 0, 0⟩, ⟨0x020B, 8, 32, 2, 0, 0x8F3F, 0, 0⟩, ⟨0x020D, 8, 32, 1, 0, 0xF00F, 0, 0⟩,
   ⟨0x020F, 8, 32, 1, 0, 0, 0x0004, 0⟩, ⟨0x0210, 8, 32, 1, 0, 0, 0, 0xFFFF⟩]

/-- HKC space (chapter 7). -/
def rowsHkc : List RegRow :=
  [⟨0x0000, 1, 1, 1, 0x0100, 0x817F, 0, 0⟩, ⟨0x0001, 1, 1, 1, 0, 0, 0x6000, 0⟩, ⟨0x0002, 1, 1, 1, 0, 0, 0, 0xFFFF⟩,
   ⟨0x0004, 1, 1, 1, 0, 0, 0x00FF, 0⟩, ⟨0x0100, 8, 16, 1, 0, 0xEFE0, 0, 0⟩, ⟨0x0101, 8, 16, 1, 0, 0xF31F, 0, 0⟩,
   ⟨0x0102, 8, 16, 1, 0, 0xFFFF, 0, 0⟩, ⟨0x0103, 8, 16, 1, 0, 0x0FFF, 0, 0⟩, ⟨0x0104, 8, 16, 1, 0x0FFF, 0x0FFF, 0, 0⟩,
   ⟨0x0105, 8, 16, 1, 0, 0x800F, 0, 0⟩, ⟨0x0106, 8, 16, 1, 0, 0, 0, 0xFFFF⟩, ⟨0x0200, 16, 2, 1, 0, 0xFFFF, 0, 0⟩,
   ⟨0x0201, 16, 2, 1, 0x4000, 0xFFFF, 0, 0⟩, ⟨0x0300, 6, 1, 1, 0, 0x00FF, 0, 0⟩]

/-- CAL space (chapters 11 and 12). -/
def rowsCal : List RegRow :=
  [⟨0x0000, 1, 1, 1, 0x0008, 0x00FF, 0, 0⟩, ⟨0x0001, 1, 1, 1, 0x0002, 0x000F, 0, 0⟩, ⟨0x0002, 1, 1, 1, 0x0AF0, 0x0FFF, 0, 0⟩,
   ⟨0x0003, 1, 1, 1, 0x8019, 0x807F, 0, 0⟩, ⟨0x0004, 1, 1, 1, 0x0080, 0x0FFF, 0, 0⟩, ⟨0x0005, 1, 1, 1, 0x0200, 0x0FFF, 0, 0⟩,
   ⟨0x0006, 1, 1, 1, 0, 0, 0x003F, 0⟩, ⟨0x0019, 3, 16, 1, 0, 0, 0, 0xFFFF⟩, ⟨0x0100, 162, 1, 1, 0x1800, 0, 0x0001, 0⟩,
   ⟨0x0300, 162, 1, 1, 0, 0, 0x0FFF, 0⟩, ⟨0x1000, 486, 8, 1, 0, 0x3F1F, 0, 0⟩, ⟨0x1001, 486, 8, 1, 0, 0x003F, 0, 0⟩,
   ⟨0x1002, 486, 8, 1, 0, 0x0FFF, 0, 0⟩, ⟨0x1007, 486, 8, 1, 0, 0, 0, 0xFFFF⟩, ⟨0x2000, 1024, 2, 1, 0, 0x9FFF, 0, 0⟩,
   ⟨0x2001, 1024, 2, 1, 0, 0x0FFF, 0, 0⟩, ⟨0x4000, 8, 0x1000, 3300, 0x4000, 0xFFFF, 0, 0⟩]

/-- NVM space: configuration, staging image and raw slots (chapter 13). -/
def rowsNvm : List RegRow :=
  [⟨0x0000, 1, 1, 1, 0x003C, 0xFFFF, 0, 0⟩, ⟨0x0001, 1, 1, 1, 0x0018, 0x00FF, 0, 0⟩,
   ⟨0x8000, 0x8000, 1, 1, 0xFFFF, 0xFFFF, 0, 0⟩, ⟨0x100000, 0x100000, 1, 1, 0xFFFF, 0, 0, 0⟩]

/-- OTP space (chapter 13). -/
def rowsOtp : List RegRow :=
  [⟨0x1000, 1, 1, 1, 0, 0x0FFF, 0, 0⟩, ⟨0x1001, 1, 1, 1, 0, 0xFFFF, 0, 0⟩, ⟨0x1008, 8, 1, 1, 0, 0xFFFF, 0, 0⟩]

/-- One pipeline profile block, offsets relative to PIPE + 0x0100 + 0x40 p (chapter 14). -/
def rowsProfile : List RegRow :=
  [⟨0x00, 1, 1, 1, 0x0FFF, 0x0FFF, 0, 0⟩, ⟨0x01, 1, 1, 1, 0x0003, 0x8007, 0, 0⟩, ⟨0x02, 4, 1, 1, 0x0080, 0x0FFF, 0, 0⟩,
   ⟨0x06, 1, 1, 1, 0xC100, 0xCFFF, 0, 0⟩, ⟨0x07, 1, 1, 1, 0x7000, 0xF00F, 0, 0⟩, ⟨0x08, 1, 1, 1, 0x0400, 0xBC07, 0, 0⟩,
   ⟨0x09, 1, 1, 1, 0xE000, 0xFFFF, 0, 0⟩, ⟨0x0A, 1, 1, 1, 0x0100, 0xFFFF, 0, 0⟩, ⟨0x0B, 1, 1, 1, 0, 0x00FF, 0, 0⟩,
   ⟨0x0C, 1, 1, 1, 0, 0x0FFF, 0, 0⟩, ⟨0x0D, 1, 1, 1, 0xB80F, 0xFC0F, 0, 0⟩, ⟨0x0E, 1, 1, 1, 0x0F3C, 0x0FFF, 0, 0⟩,
   ⟨0x0F, 1, 1, 1, 0, 0x000F, 0, 0⟩]
  ++ [⟨0x10, 16, 1, 1, 0x4000, 0xFFFF, 0, 0⟩, ⟨0x20, 2, 5, 1, 0x1000, 0xFFFF, 0, 0⟩, ⟨0x2B, 1, 1, 1, 0x1000, 0xFFFF, 0, 0⟩,
   ⟨0x20, 12, 1, 1, 0, 0xFFFF, 0, 0⟩, ⟨0x30, 4, 1, 1, 0x8000, 0x8007, 0, 0⟩, ⟨0x34, 4, 1, 1, 0, 0x0FFF, 0, 0⟩,
   ⟨0x38, 4, 1, 1, 0, 0xFFFF, 0, 0⟩]

/-- PIPE space outside the profiles and tone tables. -/
def rowsPipe : List RegRow :=
  [⟨0x0000, 1, 1, 1, 0, 0, 0xE000, 0⟩, ⟨0x0001, 2, 1, 1, 0, 0, 0, 0xFFFF⟩, ⟨0x0010, 1, 1, 1, 0, 0x0003, 0, 0⟩]

/-- STAT space: only STATCTL has writable bits. -/
def rowsStat : List RegRow := [⟨0x0000, 1, 1, 1, 0, 0x8000, 0, 0⟩]

/-- POOL space (chapter 15). -/
def rowsPool : List RegRow :=
  [⟨0x0000, 1, 1, 1, 0x0020, 0x07FF, 0, 0⟩, ⟨0x0003, 1, 1, 1, 0, 0, 0x0001, 0⟩, ⟨0x0100, 8, 16, 1, 0, 0x8700, 0, 0⟩,
   ⟨0x0101, 8, 16, 1, 0, 0x07FF, 0, 0⟩, ⟨0x0102, 8, 16, 1, 0x0400, 0x07FF, 0, 0⟩, ⟨0x0103, 8, 16, 1, 0x0064, 0xFFFF, 0, 0⟩,
   ⟨0x0105, 8, 16, 4, 0, 0, 0, 0xFFFF⟩, ⟨0x0200, 4, 16, 1, 0x0040, 0xF77F, 0, 0⟩, ⟨0x0203, 4, 16, 3, 0, 0, 0, 0xFFFF⟩]

/-- LINK space (chapter 16). -/
def rowsLink : List RegRow :=
  [⟨0x000C, 4, 1, 1, 0, 0x9F1F, 0, 0⟩, ⟨0x0010, 1, 1, 1, 0x000A, 0xFFFF, 0, 0⟩, ⟨0x0011, 1, 1, 1, 0x0002, 0x00FF, 0, 0⟩,
   ⟨0x0012, 1, 1, 1, 0x0064, 0xFFFF, 0, 0⟩, ⟨0x0013, 1, 1, 1, 0x1000, 0xFFFF, 0, 0⟩, ⟨0x0018, 6, 1, 1, 0, 0, 0, 0xFFFF⟩]

/-- CSI space (chapter 15). The counters stand at +0x05 to +0x0C; +0x0D is unassigned (log entry 30). -/
def rowsCsi : List RegRow :=
  [⟨0x0000, 2, 64, 1, 0x0003, 0x8003, 0, 0⟩, ⟨0x0080, 1, 1, 1, 0, 0x801F, 0, 0⟩, ⟨0x0001, 2, 64, 1, 0x00E4, 0x1FFF, 0, 0⟩,
   ⟨0x0081, 1, 1, 1, 0, 0x0003, 0, 0⟩, ⟨0x0002, 2, 64, 1, 0x0020, 0x00FF, 0, 0⟩, ⟨0x0003, 3, 64, 1, 0, 0x003F, 0, 0⟩,
   ⟨0x0004, 3, 64, 1, 0, 0, 0x803F, 0⟩, ⟨0x0005, 3, 64, 8, 0, 0, 0, 0xFFFF⟩, ⟨0x0100, 16, 8, 1, 0, 0xFFF7, 0, 0⟩,
   ⟨0x0101, 16, 8, 1, 0, 0x803F, 0, 0⟩, ⟨0x0104, 16, 8, 1, 0, 0x000F, 0, 0⟩]

/-- WAVE space (chapter 10). -/
def rowsWave : List RegRow :=
  [⟨0x0000, 3, 64, 1, 0x0208, 0xFFFC, 0, 0⟩, ⟨0x0001, 3, 64, 1, 0, 0x00FF, 0, 0⟩, ⟨0x0002, 3, 64, 1, 0, 0xFFFF, 0, 0⟩,
   ⟨0x0003, 3, 64, 1, 4, 0xFFFF, 0, 0⟩, ⟨0x0004, 3, 64, 1, 0, 0x8713, 0, 0⟩, ⟨0x0005, 2, 64, 1, 0x0100, 0x07FF, 0, 0⟩,
   ⟨0x0006, 3, 64, 1, 0, 0, 0x000F, 0⟩, ⟨0x000A, 2, 64, 2, 0, 0, 0, 0xFFFF⟩, ⟨0x008B, 1, 1, 1, 0, 0, 0, 0xFFFF⟩]
  ++ [⟨0x0010, 2, 64, 15, 0, 0xFFFF, 0, 0⟩, ⟨0x001F, 2, 64, 1, 0x4000, 0xFFFF, 0, 0⟩, ⟨0x00A0, 1, 1, 1, 0x080A, 0x8FFF, 0, 0⟩,
   ⟨0x00A1, 1, 1, 1, 0, 0x3FFF, 0, 0⟩, ⟨0x00A2, 2, 1, 1, 0, 0xFFFF, 0, 0⟩, ⟨0x00B0, 8, 1, 1, 0x4000, 0xFFFF, 0, 0⟩,
   ⟨0x00B8, 1, 1, 1, 0, 0x00FF, 0, 0⟩, ⟨0x00B9, 2, 1, 1, 0, 0, 0, 0xFFFF⟩, ⟨0x4000, 0x4000, 1, 1, 0, 0xFFFF, 0, 0⟩]

/-- PIN space (chapter 18). -/
def rowsPin : List RegRow :=
  [⟨0x0000, 32, 4, 1, 0, 0x8077, 0, 0⟩, ⟨0x0001, 32, 4, 1, 0, 0xFEF0, 0, 0⟩, ⟨0x0002, 32, 4, 1, 0, 0x0037, 0, 0⟩,
   ⟨0x0080, 1, 1, 1, 0, 0x8000, 0, 0⟩, ⟨0x0089, 1, 1, 1, 0, 0, 0, 0xFFFF⟩, ⟨0x008A, 1, 1, 1, 0, 0, 0x0007, 0⟩,
   ⟨0x008B, 1, 1, 1, 0x0055, 0x00FF, 0, 0⟩]

/-- ILLUM space (chapter 6). -/
def rowsIllum : List RegRow :=
  [⟨0x0000, 1, 1, 1, 0, 0, 0xFF00, 0⟩, ⟨0x0100, 8, 32, 1, 0, 0xE700, 0, 0⟩, ⟨0x0101, 8, 32, 2, 0, 0xFFFF, 0, 0⟩,
   ⟨0x0103, 8, 32, 1, 0, 0x03FF, 0, 0⟩, ⟨0x0104, 8, 32, 1, 0, 0x87FF, 0x0800, 0⟩, ⟨0x0105, 8, 32, 1, 0, 0x0FFF, 0, 0⟩,
   ⟨0x0106, 8, 32, 1, 0, 0x03FF, 0, 0⟩, ⟨0x0107, 8, 32, 1, 0x03FF, 0x03FF, 0, 0⟩, ⟨0x0108, 8, 32, 1, 0, 0x00FF, 0, 0⟩,
   ⟨0x0109, 8, 32, 1, 0x0010, 0x03FF, 0, 0⟩, ⟨0x010A, 8, 32, 3, 0, 0, 0, 0xFFFF⟩]

/-- FAULT space (chapter 19). -/
def rowsFault : List RegRow :=
  [⟨0x0001, 1, 1, 1, 0, 0xFFFF, 0, 0⟩, ⟨0x0002, 1, 1, 1, 0, 0, 0x8000, 0⟩, ⟨0x0003, 1, 1, 1, 0, 0, 0, 0xFFFF⟩]

/-- SEAL space (chapter 17). -/
def rowsSeal : List RegRow :=
  [⟨0x0001, 1, 1, 1, 0, 0x000F, 0, 0⟩, ⟨0x0002, 2, 1, 1, 0, 0, 0, 0xFFFF⟩, ⟨0x0010, 8, 1, 1, 0, 0x8001, 0, 0⟩,
   ⟨0x0026, 8, 8, 2, 0, 0, 0, 0xFFFF⟩]

/-- The row of a space's word: contexts and profiles are looked up within their block. -/
def regRow (sp off : Nat) : Option RegRow :=
  match sp with
  | 0x00 => rowsDirect.find? (·.covers off)
  | 0x01 => if off < 0x1000 then rowsCtx.find? (·.covers (off % 0x100)) else none
  | 0x02 => rowsLoam.find? (·.covers off)
  | 0x03 => rowsTmr.find? (·.covers off)
  | 0x04 => rowsHkc.find? (·.covers off)
  | 0x05 => rowsCal.find? (·.covers off)
  | 0x06 => rowsNvm.find? (·.covers off)
  | 0x07 => rowsOtp.find? (·.covers off)
  | 0x08 =>
    if 0x100 ≤ off ∧ off < 0x300 then rowsProfile.find? (·.covers ((off - 0x100) % 0x40))
    else if 0x400 ≤ off ∧ off < 0x600 ∧ (off - 0x400) % 0x80 ≤ 64 then
      some ⟨off, 1, 1, 1, BitVec.ofNat 16 (min (1024 * ((off - 0x400) % 0x80)) 65535), 0xFFFF, 0, 0⟩
    else rowsPipe.find? (·.covers off)
  | 0x09 => rowsStat.find? (·.covers off)
  | 0x0A => rowsPool.find? (·.covers off)
  | 0x0B => rowsLink.find? (·.covers off)
  | 0x0C => rowsCsi.find? (·.covers off)
  | 0x0D => rowsWave.find? (·.covers off)
  | 0x0E => rowsPin.find? (·.covers off)
  | 0x0F => rowsIllum.find? (·.covers off)
  | 0x11 => rowsFault.find? (·.covers off)
  | 0x12 => rowsSeal.find? (·.covers off)
  | _ => none

/-- The reset word of a space's word (R9: 0x0000 where nothing is assigned). -/
def resetWord (sp off : Nat) : Word :=
  match regRow sp off with
  | some r => r.reset
  | none => 0

/-- The key of a word: space above, 24-bit offset below. -/
def key (sp off : Nat) : Nat := sp * 0x1000000 + off

/-- What an unlisted key of the store reads as. -/
def unlisted (k : Nat) : Word := resetWord (k / 0x1000000) (k % 0x1000000)

/-- An offset within a half-open range. -/
def inRange (lo hi off : Nat) : Bool := decide (lo ≤ off) && decide (off < hi)

/-- The low word's offset of a 32-bit item that a host can write (R47): STRBMAX and FRMPER begin at an odd offset. -/
def itemLowRw (sp off : Nat) : Bool :=
  match sp with
  | 0x01 =>
    let o := off % 0x100
    decide (off < 0x1000) && (o == 0x05 || o == 0xC4 || (inRange 0x30 0x70 o && (o % 16 == 0 || o % 16 == 2)))
  | 0x02 => (decide (off < 0x2000) || inRange 0x3010 0x3020 off || inRange 0x3040 0x30C0 off) && off % 2 == 0
  | 0x03 => (inRange 0x0100 0x0200 off && off % 16 == 4) || (inRange 0x0200 0x0300 off && off % 32 < 8 && off % 2 == 0)
  | 0x0D => off == 0x02 || off == 0x42 || off == 0x82
  | 0x0F => inRange 0x0100 0x0200 off && off % 32 == 1
  | _ => false

/-- The low word's offset of a read-only 32-bit item of the space maps: a write to it is staged too (R47), and changes
nothing when it takes effect (R6). Log entry 89 lists those that a map does not call 32-bit in so many words. -/
def itemLowRo (sp off : Nat) : Bool :=
  match sp with
  | 0x01 => decide (off < 0x1000) && off % 0x100 == 0xD3
  | 0x02 => inRange 0x2000 0x2800 off && off % 2 == 0
  | 0x03 => inRange 0x0200 0x0300 off &&
      (off % 32 == 0x08 || off % 32 == 0x12 || off % 32 == 0x14 || off % 32 == 0x16 || off % 32 == 0x18)
  | 0x04 => inRange 0x0100 0x0200 off && off % 16 == 8
  | 0x05 => inRange 0x0010 0x0040 off && off % 16 == 0
  | 0x06 => inRange 0x0040 0x0080 off && off % 2 == 0
  | 0x09 => off == 0x100 || off == 0x10D ||
      (inRange 0x0110 0x0150 off && (off % 16 == 0 || off % 16 == 6 || off % 16 == 8)) ||
      (inRange 0x1000 0x5000 off && off % 0x1000 < 0x200 && off % 2 == 0)
  | 0x0C => inRange 0x0100 0x0180 off && off % 8 == 2
  | 0x0D => off == 0x08 || off == 0x48
  | 0x0E => off == 0x81 || off == 0x83 || off == 0x85
  | 0x10 => off == 0x20
  | 0x11 => off == 0x04
  | 0x12 => inRange 0x0020 0x0060 off && (off % 8 == 0 || off % 8 == 2 || off % 8 == 4)
  | _ => false

/-- The low word's offset of a 32-bit item (R47). -/
def itemLow (sp off : Nat) : Bool := itemLowRw sp off || itemLowRo sp off

end Sys2Proof.Machine
end

