-- ==== Sys2Proof/Machine/State.lean ====
section
/-! DEFINITION. The state of the PB5120 as plain data, its faults and refusals, and the state right after a power-on
reset. Registers and addressed memories stand in one sparse store of words (`Bank`), keyed by space and offset; every
engine of the spec has a structure of its own. -/

namespace Sys2Proof.Machine

/-- A sparse store of 16-bit words: (key, word) pairs, keys strictly rising, no word equal to its key's reset word
(log entry 1). -/
abbrev Bank := List (Nat × Word)

/-- The power modes (R14). -/
inductive Mode where
  /-- all domains on -/
  | run
  /-- ARRAY off -/
  | idle
  /-- clocks stopped -/
  | doze
  /-- only AON on -/
  | sleep
  deriving DecidableEq, Repr

/-- The entry and exit sequences of the mode tables (R62). -/
inductive Seq where
  /-- RUN to IDLE, waiting for the running capture's frame end (R66) -/
  | runIdleWait
  /-- RUN to IDLE, running -/
  | runIdle
  /-- IDLE to DOZE -/
  | idleDoze
  /-- DOZE to SLEEP -/
  | dozeSleep
  /-- wake from SLEEP -/
  | wakeSleep
  /-- wake from DOZE -/
  | wakeDoze
  /-- IDLE to RUN -/
  | idleRun
  deriving DecidableEq, Repr

/-- An event mask and the fault records held in AON while CORE is off (R561, R567): a record is its code and DETAIL. -/
structure Deferred where
  /-- bit n: event n waits -/
  events : BitVec 32
  /-- fault records that wait: code and DETAIL bytes -/
  faults : List (Nat × List Byte)
  deriving DecidableEq, Repr

/-- Power, clocks, supplies and the wake logic of AON (chapter 3). -/
structure Power where
  /-- PWRSTAT.CUR -/
  cur : Mode
  /-- the sequence in progress -/
  sq : Option Seq
  /-- the newest requested mode -/
  target : Mode
  /-- a wake source has fired and its wake has not reached its target (R73, R74) -/
  wake : Bool
  /-- CORE powered and clocked -/
  core : Bool
  /-- ARRAY powered and clocked -/
  array : Bool
  /-- PIPE powered and clocked -/
  pipe : Bool
  /-- LINK powered and clocked -/
  link : Bool
  /-- the ISET outputs carry their codes; outside RUN they are at 0 V (R196) -/
  isetOn : Bool
  /-- VDDAON present -/
  vddaon : Bool
  /-- the boot reader has finished: the host bus is ready (R576) -/
  ready : Bool
  /-- PWRSTAT.RCCLK: AON runs from the RC oscillator -/
  rc : Bool
  /-- the RC oscillator has been used since the last phase record (R109) -/
  rcUsed : Bool
  /-- the crystal is being tried (R86, R87) -/
  xtalTry : Bool
  /-- the trial is the one after the power-on reset (R86) -/
  xtalFirst : Bool
  /-- no make-up at the next wake (R110) -/
  noMakeup : Bool
  /-- AUTORUN has asked for RUN; the request is made at the next tick (R67) -/
  auto : Bool
  /-- the record of R106: S_e, A_e, p_e -/
  phase : Option (Tick × AonTick × Nat)
  /-- supplies below their reset level, in SUPSTAT.WARN order (R575) -/
  below : BitVec 4
  /-- supplies that have not recovered from a fall below their warning level (R95) -/
  low : BitVec 4
  /-- ticks for which each supply has been above its warning level plus hysteresis, up to 10 ms (R95) -/
  good : List Nat
  /-- SUPPLY_GOOD came in DOZE: the stores act on it at the wake (R95) -/
  goodHeld : Bool
  /-- causes held in AON (R561) -/
  deferred : Deferred
  /-- the refused write held in AON (R103): address and value -/
  refused : Option (Nat × Word)
  /-- the mode that the wake in progress is bound for: RUN or IDLE (R64, R71) -/
  bound : Mode
  /-- AON tick at which WAKESRC.FIRST was recorded (R74) -/
  firstAt : AonTick
  /-- AON tick at which the alarm was loaded (R113) -/
  alarmAt : AonTick
  /-- the SLEEP entry has drained or given up (R69) -/
  drained : Bool
  /-- STB at which the drain of the SLEEP entry began (R69) -/
  drainFrom : Tick
  /-- SYSSTAT.PIXFB: ARRAY clock on REFCLK/1 -/
  pixFb : Bool
  /-- SYSSTAT.PIXPEND -/
  pixPend : Bool
  /-- the PIXN the PIX PLL runs with -/
  pixN : Nat
  deriving DecidableEq, Repr

/-- The state of the keep store (R81, R83, R580). -/
inductive Keep where
  /-- nothing saved since the power-on reset -/
  | empty
  /-- a save with a valid CRC: the saved words and the saved small state -/
  | saved (words : Bank) (small : List Nat)
  /-- a save whose CRC is not valid -/
  | corrupt
  deriving DecidableEq, Repr

/-- The squelch interval and the matcher of the wake phrase (R77-R80). -/
structure Phrase where
  /-- the squelch is open (a burst) -/
  isOpen : Bool
  /-- AON tick at which the present interval began -/
  since : AonTick
  /-- the element the next interval is judged against -/
  index : Nat
  deriving DecidableEq, Repr

/-- The STB, the AON counter, their latches and the sync role (chapters 2 and 4). -/
structure TimeBase where
  /-- the system time base -/
  stb : Tick
  /-- the AON counter -/
  aon : AonTick
  /-- phase within the AON tick, in 1/128 ticks: 0 to 390,624 -/
  sub : Nat
  /-- STB bits [63:16] latched by the last STB0 read -/
  stbLatch : AonTick
  /-- AON bits [47:16] latched by the last AONCNT0 read -/
  aonLatch : Long
  /-- SYNC_OUT frame of the present epoch (R115): tick of its marker, high ticks of each cell; none when no frame runs -/
  syncOut : Option (Tick × List Nat)
  /-- tick of the last accepted marker, follower -/
  marker : Option Tick
  /-- a frame has been accepted since MODE was set to follower -/
  locked : Bool
  /-- tick from which the epochs without an accepted frame count (R119) -/
  syncFrom : Tick
  /-- LOST has been set in the present run of epochs without a frame (R119) -/
  lost : Bool
  /-- steps in consecutive epochs -/
  stepRun : Nat
  /-- the estimated rate difference of R118: ticks per epoch by which the follower's own count runs ahead -/
  drift : Int
  /-- error at the last accepted marker, and corrections made since, in ticks -/
  lastErr : Int
  applied : Int
  /-- the corrections still to make in this epoch: their direction, and the ticks before each, points of the epoch that the
  spec leaves open -/
  slewUp : Bool
  slews : List Nat
  /-- ticks to the end of the epoch that the corrections are planned for -/
  epochLeft : Nat
  /-- match values the follower's compare channels have acted on since the last step, and before it (R120) -/
  acted : List (Nat × Tick)
  barred : List (Nat × Tick)
  /-- timers whose last count made COUNT equal MATCH (R132) -/
  matchDue : BitVec 8
  /-- timers whose last count was terminal (R132) -/
  termDue : BitVec 8
  /-- timers with an earlier rising capture since CAPEN was set (R140) -/
  rose : BitVec 8
  deriving DecidableEq, Repr

/-- The window's staged low word, held write and the FRAMENUM state of AON (chapters 2 and 6). -/
structure Window where
  /-- a staged low word: space, offset, value (R47) -/
  staged : Option (Nat × Nat × Word)
  /-- the value of a held write, for the word that the pointer names (R36) -/
  heldWrite : Option Word
  deriving DecidableEq, Repr

/-- One entry of the action queue (R232-R234). -/
structure Action where
  /-- STB tick -/
  tick : Tick
  /-- kind in the order of R234: 0 CLOSE, 1 OPEN, 2 STRB, 3 ISET, 4 PIN, 5 HKT -/
  kind : Nat
  /-- stratum, slot or pin -/
  arg : Nat
  /-- STRB: channel mask -/
  mask : BitVec 8
  /-- STRB: rise; PIN: unused -/
  rise : Bool
  /-- PIN: 1 high, 2 low, 3 toggle -/
  op : Nat
  deriving DecidableEq, Repr

/-- What a waiting Loam instruction waits for. -/
inductive LoamWait where
  /-- WAITT: the tick -/
  | tick (t : Tick)
  /-- WAITE: the event selector -/
  | event (sel : Nat)
  /-- a timing instruction stalled on the action queue (R232): the actions to place -/
  | queue (acts : List Action)
  /-- READP: the plane -/
  | readp (k : Nat)
  /-- READB: node, depth, first row -/
  | readb (x depth row : Nat)
  /-- BASE with X = 1 that ends or suspends the capture (R257): LB -/
  | base (lb : Long)
  /-- END (R253) -/
  | atEnd
  deriving DecidableEq, Repr

/-- The Loam sequencer (chapter 8). -/
structure Loam where
  /-- L0-L7 -/
  regs : List Long
  /-- the call stack, top first -/
  stack : List Nat
  /-- the program counter; one bit more than an address, so that running past the bank shows (R240) -/
  pc : Nat
  /-- bank: true for ROM -/
  rom : Bool
  /-- base time T0 -/
  t0 : Tick
  /-- LOAMCTL.RUNNING -/
  running : Bool
  /-- LOAMCTL.HALTED -/
  halted : Bool
  /-- LOAMCTL.HCAUSE -/
  hcause : Nat
  /-- the waiting instruction -/
  wait : Option LoamWait
  /-- the instruction at the PC does not trigger its breakpoint (R265) -/
  skipBp : Bool
  /-- a STEP is executing one instruction (R264) -/
  stepping : Bool
  /-- cause of a halt that waits for the instruction boundary, 0 none (R261) -/
  haltPend : Nat
  /-- the action queue, in scheduling order -/
  queue : List Action
  /-- ticks the watchdog has counted (R256) -/
  watch : Nat
  deriving DecidableEq, Repr

/-- A row the row engine has still to read: plane and array row. -/
structure RowTodo where
  /-- plane -/
  plane : Nat
  /-- array row -/
  row : Nat
  deriving DecidableEq, Repr

/-- A suspect strip (R333). -/
structure Strip where
  /-- group 0-161 -/
  group : Nat
  /-- 0 A, 1 B, 2 both -/
  role : Nat
  /-- plane -/
  stratum : Nat
  /-- 0 SHADOW, 1 TEST, 2 SINGLE, 3 DEAD -/
  cause : Nat
  /-- first and last row -/
  first : Nat
  last : Nat
  /-- first and last step, 0 outside Drift -/
  step0 : Nat
  step1 : Nat
  deriving DecidableEq, Repr

/-- A step of the Drift engine (R269-R275). -/
structure DStep where
  /-- step number -/
  num : Nat
  /-- tick t_s -/
  ts : Tick
  /-- a_s -/
  acc : Nat
  /-- P of the step timer -/
  psc : Nat
  /-- stratum -/
  stratum : Nat
  /-- opening and closing tick, once it is taken up -/
  openAt : Tick
  closeAt : Tick
  /-- start and end of its band read, once it is taken up -/
  bandFrom : Tick
  bandTo : Tick
  /-- first row of its band, once it is taken up -/
  row : Nat
  /-- its strobes have risen -/
  lit : Bool
  deriving DecidableEq, Repr

/-- One accumulator line: sums per column and the weight (R275), both in sixteenths. -/
structure AccLine where
  /-- accumulator line number -/
  line : Nat
  /-- sums -/
  sums : List Nat
  /-- weight -/
  weight : Nat
  deriving DecidableEq, Repr

/-- The Drift engine (chapter 9). -/
structure Drift where
  /-- steps the timer has produced -/
  count : Nat
  /-- steps not yet taken up, oldest first -/
  outstanding : List DStep
  /-- steps not dropped whose WAITE 2 has not completed (R282) -/
  released : List Nat
  /-- steps that WAITE 2 has released and whose READB has not been issued (R282, R283) -/
  asked : List Nat
  /-- READB issued for the step not yet taken up: node, first row, depth -/
  readb : Option (Nat × Nat × Nat)
  /-- steps taken up, exposure not yet open, oldest first -/
  taken : List DStep
  /-- exposure open -/
  exposing : Option DStep
  /-- closed, band not yet read -/
  closed : List DStep
  /-- band being read -/
  reading : Option DStep
  /-- close of the exposure taken up last; end of the band read taken up last; the same per stratum -/
  lastClose : Option Tick
  lastBand : Option Tick
  bandEnd : List (Nat × Tick)
  /-- dropped steps not yet accounted for in the ring -/
  droppedSteps : List DStep
  /-- edges the step timer has received, newest first -/
  edges : List Tick
  /-- rising captures of the phase timer, newest first: tick, PERIOD, PVALID -/
  caps : List (Tick × Nat × Bool)
  /-- the rings, one per stratum -/
  rings : List (List AccLine)
  /-- next output line -/
  nextLine : Nat
  /-- last emitted line of each stratum: sums and the black levels it was formed with (R279); none yet: an empty line -/
  lastLine : List (List Nat × Int)
  /-- numbers, positions in sixteenths and midpoints, in half ticks, of recent steps, in the order of the numbers (R280) -/
  mids : List (Nat × Nat × Tick)
  /-- no further step is taken up (R285) -/
  ending : Bool
  /-- the document has ended (R284) -/
  ended : Bool
  /-- the steps still to come after the end-pin edge -/
  tail : Option Nat
  /-- tick of the last step, for STALLTMO -/
  lastStep : Tick
  /-- the document ended by stall -/
  stalled : Bool
  deriving DecidableEq, Repr

/-- A capture: what was latched at its trigger (R13, R168), its frame and its array state. -/
structure Capture where
  /-- context -/
  ctx : Fin 16
  /-- FRAMENUM of the current frame -/
  fn : Long
  /-- the latched context words, keyed by context offset -/
  words : Bank
  /-- the latched PIPE space (R410) -/
  pipe : Bank
  /-- the FLAT and DEFADD words in force for the frame (R371) -/
  cal : Bank
  /-- regulators active at the start (R197) -/
  regAct : BitVec 8
  /-- the open stratum and its tick -/
  opened : Option (Nat × Tick)
  /-- tick of the latest close -/
  lastClose : Option Tick
  /-- strata closed in this frame -/
  closed : BitVec 4
  /-- rows still to read -/
  todo : List RowTodo
  /-- planes the row engine has taken (R248, R420) -/
  read : BitVec 4
  /-- rows converted in the current plane (GET 6) -/
  converted : Nat
  /-- the row engine waits for a pool buffer (R21) -/
  pausedPool : Bool
  /-- the row engine waits for the in-line buffer (R436) -/
  pausedPace : Bool
  /-- strata carrying ILLUM -/
  illum : BitVec 4
  /-- SUPPLY -/
  supply : Bool
  /-- ABORTED -/
  aborted : Bool
  /-- USER flags (R252) -/
  user : BitVec 4
  /-- suspect strips of the frame (R333) -/
  strips : List Strip
  /-- BLKRST.ILLUM keeps capture-driven strobes low (R570) -/
  dark : Bool
  /-- groups whose T_c doubling or SINGLE falls in this frame (R330): group, role -/
  vacant : List (Nat × Nat)
  /-- test-row sums: plane, group, physical slice, test row, sum, count (R335) -/
  tests : List (Nat × Nat × Nat × Nat × Int × Nat)
  /-- T_c is doubled for the frame (R318) -/
  double : Bool
  /-- tick of the latest row conversion of the frame -/
  lastRow : Option Tick
  /-- its context has been disarmed: a Continuous capture ends with its frame (R164) -/
  stop : Bool
  /-- the device has been asked to leave RUN while it ran (R66, R372) -/
  left : Bool
  /-- started by a WHITE run -/
  white : Bool
  /-- the in-line source at its start was the array -/
  inline : Bool
  deriving DecidableEq, Repr

/-- A Continuous capture that has yielded (R19, R257), with its Loam state. -/
structure Suspended where
  /-- the capture -/
  cap : Capture
  /-- Loam as it stood -/
  loam : Loam
  deriving DecidableEq, Repr

/-- Capture control (chapter 6). -/
structure CaptureCtl where
  /-- the running capture -/
  cap : Option Capture
  /-- the suspended Continuous captures, the one displaced last first -/
  susp : List Suspended
  /-- contexts with a held trigger, in arrival order -/
  heldTrig : List (Fin 16)
  /-- an arm check in progress -/
  checking : Option (Fin 16)
  /-- FRAMENUM counter of AON (R178) -/
  frameNum : Long
  /-- FRAMENUM of the most recently started capture -/
  lastFn : Long
  /-- CAPSTAT shadow (R180) -/
  shadow : Word
  /-- storage nodes hold charge -/
  nodes : BitVec 4
  /-- electrons that the test DAC has put into the nodes of test rows 40 to 47, one list per node (R150, R153) -/
  charge : List (List Nat)
  /-- the Drift engine of the running capture -/
  drift : Drift
  deriving DecidableEq, Repr

/-- A strobe channel and its regulator (chapter 6). -/
structure Channel where
  /-- pin level -/
  level : Bool
  /-- what its source drives -/
  src : Bool
  /-- tick of the last rise -/
  rise : Tick
  /-- STRBMAX in force for the interval -/
  limit : Long
  /-- high intervals, newest first (R189) -/
  past : List (Tick × Tick)
  /-- present DAC code -/
  dac : BitVec 10
  /-- regulator's ISET value -/
  reg : BitVec 10
  /-- a regulator value waiting for the strobe's fall -/
  waiting : Bool
  /-- REGCTL.ACT -/
  act : Bool
  /-- REGCTL.PEND -/
  pend : Bool
  /-- REGLO and REGHI held while the strobe is high (R192) -/
  heldLo : Option (BitVec 10)
  heldHi : Option (BitVec 10)
  deriving DecidableEq, Repr

/-- A request of an HKC slot (R607). -/
structure HkcReq where
  /-- due tick -/
  due : Tick
  /-- channel -/
  ch : Nat
  /-- priority -/
  prio : Nat
  /-- DROP policy -/
  drop : Bool
  /-- result enters the queue -/
  qen : Bool
  /-- not started in its due cycle -/
  waited : Bool
  deriving DecidableEq, Repr

/-- A conversion in progress. -/
structure HkcConv where
  /-- slot -/
  slot : Nat
  /-- the request -/
  req : HkcReq
  /-- sample tick -/
  at_ : Tick
  /-- a WARN bit was 1 (R223) -/
  supply : Bool
  /-- slice B converts -/
  sliceB : Bool
  /-- slice C samples with it (R225) -/
  shadow : Bool
  /-- OFS and GAIN of the channel at the conversion (R218) -/
  ofs : Word
  gain : Word
  deriving DecidableEq, Repr

/-- The housekeeping converter (chapter 7). -/
structure Hkc where
  /-- HKCCTL.ACT -/
  act : Bool
  /-- HKCCTL.PEND -/
  pend : Bool
  /-- the result queue, oldest first: result word, tag word, sample instant -/
  queue : List (Word × Word × Tick)
  /-- HKQ1 and HKQ2 -/
  popped : Word × Word
  /-- SEQ of the next entry -/
  seq : Nat
  /-- the next entry carries LOSS -/
  loss : Bool
  /-- requests per slot -/
  reqs : List (Option HkcReq)
  /-- limit runs per slot -/
  runs : List Nat
  /-- conversions in progress, oldest first -/
  conv : List HkcConv
  /-- last sample instant -/
  last : Option Tick
  /-- the next conversion is slice B's -/
  nextB : Bool
  /-- CALMODE in effect is BACKGROUND -/
  background : Bool
  /-- HKCSTAT.SPAREON -/
  spareOn : Bool
  /-- slice C shadows slice B -/
  shadowB : Bool
  /-- tick from which slice C settles (R226) -/
  spareFrom : Tick
  /-- conversions that slice C has sampled in the present turn (R225) -/
  turn : Nat
  /-- windows of slices A and B: codes of the conversions outside supply warnings, conversions delivered, learning discarded
  (R225, R227, R350) -/
  windows : List (List (Nat × Nat) × Nat × Bool)
  /-- previous window's estimates per slice: offset num/den, gain num/den -/
  prev : List (Option (Int × Nat × Int × Nat))
  /-- trims in force, TRIMA_O to TRIMC_G -/
  applied : List (BitVec 8)
  /-- conversions of the slice since each trim's last step (R355) -/
  sinceStep : List Nat
  deriving DecidableEq, Repr

/-- Rows of one plane of one capture that a slice converted since its last passing check (R333). -/
structure Span where
  /-- FRAMENUM of the capture -/
  fn : Long
  /-- plane -/
  stratum : Nat
  /-- first and last row -/
  first : Nat
  last : Nat
  /-- first and last step, 0 outside Drift -/
  step0 : Nat
  step1 : Nat
  deriving DecidableEq, Repr

/-- Shadow history of one converter group (R321-R326): only groups that differ from the start are listed. -/
structure GroupHist where
  /-- group -/
  group : Nat
  /-- the last window on role A and on role B failed -/
  lastA : Option Bool
  lastB : Option Bool
  /-- the role, 0 A or 1 B, of a deferred failing window (R326) -/
  deferred : Option Nat
  /-- rows of roles A and B since their last passing check -/
  spanA : List Span
  spanB : List Span
  /-- FORCE writes that wait for the row boundary -/
  force : List Nat
  /-- the last row read in the group: plane and row -/
  lastRow : Option (Nat × Nat)
  /-- conversions since the present window began (R321) -/
  conv : Nat
  /-- the present window's rows: LSB per code, and the pairs (working code, S code) (R322) -/
  pairs : List (Nat × List (Int × Int))
  /-- a conversion of the present window fell under a supply warning (R323) -/
  warned : Bool
  /-- the present window gives no learning (R350) -/
  stale : Bool
  /-- the pairs and the warning of the next window, where a window ends within a row -/
  nextPairs : List (Nat × List (Int × Int))
  nextWarned : Bool
  deriving DecidableEq, Repr

/-- The statistics of one half of a Marl dwell on one role (R344). -/
structure HalfStat where
  /-- samples, windows -/
  n : Nat
  /-- windows -/
  windows : Nat
  /-- sums of d, x = c_S - 2048, x x, d x -/
  sd : Int
  sx : Int
  sxx : Int
  sdx : Int
  /-- odd working codes: count and sum of d; the even ones are the rest -/
  nOdd : Nat
  sOdd : Int
  /-- consecutive differences: count, sums of y, y y, d, d y -/
  m : Nat
  sy : Int
  syy : Int
  sdy : Int
  sdm : Int
  deriving DecidableEq, Repr

/-- A user calibration run (R360-R372). -/
inductive CalRun where
  /-- no run -/
  | none
  /-- VREF: a conversion carried SUPPLY; conversions made; the sums of the raw codes of each 64, in the order of R363: for each
  channel, each pass, the ground point and the 0.75 VREFX point -/
  | vref (spoiled : Bool) (n : Nat) (sums : List Nat)
  /-- WHITE on a context: captures started, captures ended, spoiled -/
  | white (ctx : Fin 16) (started ended : Nat) (spoiled : Bool)
  deriving DecidableEq, Repr

/-- What Marl has gathered in a dwell (R344, R348). -/
structure Dwell where
  /-- usable windows on roles A and B -/
  winA : Nat
  winB : Nat
  /-- statistics: A first half, A last half, B first half, B last half -/
  stats : List HalfStat
  /-- m_0 and m_7 of slice S in each 12-bit plane of the dwell: sums and counts -/
  planes : List (Int × Nat × Int × Nat)
  deriving DecidableEq, Repr

/-- Marl, the user runs and the tables in force (chapters 11 and 12). -/
structure Calib where
  /-- group of the dwell -/
  group : Option Nat
  /-- the rotation continues from this group -/
  from_ : Nat
  /-- the dwell so far -/
  dwell : Dwell
  /-- the dwell and the HKC slices' previous estimates as they stood at the start of the capture in progress (R350) -/
  mark : Dwell × List (Option (Int × Nat × Int × Nat))
  /-- CALSTAT.WARNHOLD: captures still to discard -/
  hold : Nat
  /-- MARLEN was cleared: stop at the next window boundary -/
  stopping : Bool
  /-- group histories -/
  hist : List GroupHist
  /-- rows since the last step of a trim that walked: block 3 g + p, trim, rows (R354) -/
  walked : List (Nat × Nat × Nat)
  /-- the run -/
  run : CalRun
  /-- tick of the RUN write -/
  runStart : Tick
  /-- the TEMP0 code of the latest sample, none since CORE was last unclocked (R563); at the start of the run's latest capture -/
  temp0 : Option Nat
  tempAt : Option Nat
  /-- CALSTAT.RESULT -/
  result : Nat
  /-- the words of a load or a WHITE result that wait for the frame boundary, in order (R371, R389) -/
  atBoundary : Option (List (Nat × Word))
  deriving DecidableEq, Repr

/-- The commit in progress (R382). -/
structure Commit where
  /-- target slot -/
  slot : Nat
  /-- sequence number -/
  seq : Nat
  /-- AON counter at its start -/
  aon : AonTick
  /-- it is the repeat of R391 -/
  again : Bool
  /-- ECNT of the target before the erase (R386) -/
  old : Nat
  /-- ticks since the erase began; pages programmed and verified -/
  ticks : Nat
  pages : Nat
  /-- it stops once the page or erase in progress is complete (R94, R390) -/
  stop : Bool
  deriving DecidableEq, Repr

/-- The operation of the OTP controller (R401-R408). -/
inductive OtpOp where
  /-- PROG of a word with a value; stopped by a supply warning -/
  | prog (word : Nat) (value : Word) (stopped : Bool)
  /-- KEYPROG of a slot with eight words -/
  | key (k : Nat) (words : List Word)
  /-- GLOCK of a generation -/
  | glock (g : Nat)
  /-- KEYLOCK of the bits -/
  | keylock (mask : Word)
  deriving DecidableEq, Repr

/-- The stores controller (chapter 13). -/
structure Stores where
  /-- the commit in progress -/
  commit : Option Commit
  /-- a commit waits for the staging copy or the flush to end; true with FORCE -/
  waiting : Option Bool
  /-- the staging copy runs -/
  staging : Bool
  /-- a frame boundary fell in the staging copy (R378) -/
  boundaryHeld : Bool
  /-- NVMSTAT.STGVALID -/
  stgValid : Bool
  /-- NVMSTAT.CAUSE -/
  cause : Nat
  /-- NVMSTAT.RETRYPEND -/
  retryPend : Bool
  /-- every supply is good, and the repeat waits for a flush to end (R383, R391) -/
  retryDue : Bool
  /-- the slot in which the most recent commit started (R381) -/
  lastSlot : Nat
  /-- erase counts of the slots (R386) -/
  ecnt : List Nat
  /-- a ledger flush runs, into the page; true on its repeat -/
  flush : Option (Nat × Bool)
  /-- a flush is due; it is the repeat of R398 -/
  flushDue : Bool
  flushAgain : Bool
  /-- a flush was stopped and waits for good supplies (R395) -/
  flushRetry : Bool
  /-- AON time from which LFLINT counts: the last flush since the power-on reset (R395) -/
  lastFlush : AonTick
  /-- LAON: the AON counter at the last flush, which may lie before the power-on reset -/
  laon : AonTick
  /-- flushed base of the eight counters -/
  base : List Nat
  /-- increments since -/
  incr : List Nat
  /-- strobe on-time not yet a millisecond, in ticks -/
  onTicks : Nat
  /-- AON ticks not yet an hour -/
  hourTicks : Nat
  /-- LSEQ and last flushed page -/
  lseq : Nat
  lpage : Nat
  /-- LPAGE.NOPAGE -/
  noPage : Bool
  /-- the ledger pages that are not erased: page and its 256 bytes -/
  pages : List (Nat × List Byte)
  /-- the OTP operation -/
  otp : Option OtpOp
  /-- generation in force, 7 none -/
  gen : Nat
  /-- FACTCRC -/
  factBad : Bool
  deriving DecidableEq, Repr

/-- A row that has entered the pipeline's input (R435-R439). -/
structure PRow where
  /-- the frame it belongs to: source, context or route, frame number -/
  src : Nat
  id : Nat
  fn : Long
  /-- plane -/
  plane : Nat
  /-- array row, or line index -/
  row : Nat
  /-- tick of its conversion or arrival -/
  stamp : Tick
  /-- values -/
  vals : List Nat
  /-- values still to take in segments -/
  left : Nat
  /-- black level of the four sites after this row, 8 fractional bits -/
  bl : List Int
  /-- the stream and buffer group that store it, for a row of a memory pass -/
  store : Option (Nat × Nat)
  deriving DecidableEq, Repr

/-- A frame in the pipeline. -/
structure PFrame where
  /-- source: 0 array, 1 CSIA, 2 CSIB, 3 PCAM -/
  src : Nat
  /-- context or route -/
  id : Nat
  /-- FRAMENUM or camera frame number -/
  fn : Long
  /-- profile number and latched PIPE words -/
  prof : Nat
  pipe : Bank
  /-- latched context words (empty for a camera) -/
  words : Bank
  /-- camera value depth, 0 for the array -/
  depth : Nat
  /-- three values per pixel (RGB888) -/
  rgb : Bool
  /-- in-line -/
  inline : Bool
  /-- STB at frame start -/
  start : Tick
  /-- rows processed, in order -/
  rows : List PRow
  /-- next output row per (window, stratum) -/
  next : List (Nat × Nat)
  /-- the source has ended the frame; every row read of it has been processed since; aborted -/
  asked : Bool
  ended : Bool
  partial_ : Bool
  /-- lost by BLKRST.PIPE -/
  lost : Bool
  /-- strata for which ILLUM is set -/
  illum : BitVec 4
  /-- FLAT and DEFADD words in force for the frame -/
  cal : Bank
  /-- image stream; statistics stream -/
  img : Option Nat
  stat : Option Nat
  /-- sites whose black level this frame has updated; tracked level of each luminance-binned plane -/
  seeded : List Bool
  lumBl : List (Option Int)
  /-- a WHITE run measures it (R368) -/
  white : Bool
  deriving DecidableEq, Repr

/-- A Drift line waiting for the pipeline. -/
structure DLine where
  /-- line number, stratum, repeated, TSTAMP -/
  num : Nat
  stratum : Nat
  repeated : Bool
  stamp : Tick
  /-- FRAMENUM of its document; pixels a value sums; sum of the four black levels, 8 fractional bits (R417) -/
  fn : Long
  pixels : Nat
  bl : Int
  /-- values -/
  vals : List Nat
  /-- values still to take -/
  left : Nat
  deriving DecidableEq, Repr

/-- The pipeline and the statistics (chapter 14). -/
structure Pipe where
  /-- in-line rows, oldest first -/
  inline : List PRow
  /-- memory-pass rows, oldest first -/
  memory : List PRow
  /-- Drift lines -/
  lines : List DLine
  /-- open frames -/
  frames : List PFrame
  /-- black level, 12-bit set then 10-bit set, four sites each, 8 fractional bits; none before the first update -/
  black : List (Option Int)
  /-- a waiting statistics set: its words -/
  waiting : Option Bank
  /-- completed sets -/
  sets : Nat
  /-- in-line source -/
  act : Nat
  /-- the frames that the WHITE run has measured, in order (R368) -/
  white : List PFrame
  deriving DecidableEq, Repr

/-- An open camera frame. -/
structure CamFrame where
  /-- virtual channel -/
  vc : Nat
  /-- CSI-2 frame number -/
  csiFn : Word
  /-- tick of the frame start -/
  stamp : Tick
  /-- route once bound; `some none` when no route qualified -/
  route : Option (Option Nat)
  /-- camera frame number -/
  fn : Long
  /-- values of the first line -/
  len : Option Nat
  /-- lines so far -/
  lines : Nat
  /-- data type -/
  dt : Nat
  /-- RCFG of its route as it stood at the binding (R458) -/
  cfg : Word
  /-- statistics stream of its route, likewise (R462) -/
  stat : Option Nat
  /-- a row has gone to memory, and the rest follow (R437) -/
  spilled : Bool
  deriving DecidableEq, Repr

/-- A camera port (R463). -/
structure CamPort where
  /-- PCTL.ACT -/
  act : Bool
  /-- PCTL.PEND -/
  pend : Bool
  /-- open frames -/
  frames : List CamFrame
  /-- tick at which EN was last cleared -/
  stopAt : Tick
  deriving DecidableEq, Repr

/-- A record of the pool (R465). -/
structure Rec where
  /-- data type -/
  dt : Nat
  /-- FN -/
  fn : Long
  /-- context or route -/
  ctx : Nat
  /-- SRC code -/
  src : Nat
  /-- stratum, window, original data type -/
  stratum : Nat
  window : Nat
  odt : Nat
  /-- line-start payload, empty where the record is no line -/
  lineStart : List Byte
  /-- payload -/
  payload : List Byte
  /-- it belongs to a frame (R519) -/
  framed : Bool
  /-- packets of it already sent -/
  sent : Nat
  /-- the buffer group that holds it -/
  buf : Nat
  /-- the mover channel whose copy it is -/
  chan : Option Nat
  deriving DecidableEq, Repr

/-- A buffer group of a stream: its number of buffers, bytes used, records not yet sent. -/
structure Buf where
  /-- group number -/
  num : Nat
  /-- buffers -/
  weight : Nat
  /-- bytes used -/
  used : Nat
  /-- records -/
  live : Nat
  deriving DecidableEq, Repr

/-- A frame open on a stream (R519-R524). -/
structure Frame where
  /-- source and context or route -/
  src : Nat
  ctx : Nat
  /-- FN -/
  fn : Long
  /-- TSTART -/
  tstart : Tick
  /-- line packets sent -/
  lines : Nat
  /-- frame-end flags -/
  flags : Word
  /-- USER -/
  user : BitVec 4
  /-- strips -/
  strips : List Strip
  /-- the frame end has been asked for; the frame-end record is in the pool -/
  endAsked : Bool
  endQueued : Bool
  /-- records are discarded to the frame end (R508) -/
  cut : Bool
  /-- sealed with the key slot, once the frame start has been sent -/
  sealKey : Option Nat
  /-- CMAC message so far -/
  msg : List Byte
  deriving DecidableEq, Repr

/-- A stream of the pool (chapter 15). -/
structure Stream where
  /-- ACT, PEND -/
  act : Bool
  pend : Bool
  /-- records in order -/
  recs : List Rec
  /-- buffer groups, the open one last -/
  bufs : List Buf
  /-- next buffer group number -/
  nextBuf : Nat
  /-- buffers of the Drift ring -/
  ring : Nat
  /-- refused records being held: record, ticks held with the PIPE clocks running (R468), never dropped (R520), readout waits
  (R21) -/
  held : List (Rec × Tick × Bool × Bool)
  /-- open frames -/
  frames : List Frame
  /-- PSEQ -/
  pseq : Word
  /-- credits, unmetered -/
  credits : Nat
  inf : Bool
  deriving DecidableEq, Repr

/-- A mover channel (R475). -/
structure Mover where
  /-- ACT, PEND, BUSY, HELD -/
  act : Bool
  pend : Bool
  busy : Bool
  heldReq : Bool
  /-- the copy holds the front bank of the statistics -/
  stat : Bool
  /-- FAULT sequence number of the next record to copy -/
  from_ : Word
  deriving DecidableEq, Repr

/-- A packet in flight (R515). -/
structure Flight where
  /-- stream -/
  stream : Nat
  /-- the bytes -/
  bytes : List Byte
  /-- the record's data type and buffer group; it was the record's last packet -/
  dt : Nat
  buf : Nat
  final : Bool
  /-- the frame's source, context and number -/
  src : Nat
  ctx : Nat
  fn : Long
  framed : Bool
  /-- the mover channel whose copy it carries -/
  chan : Option Nat
  deriving DecidableEq, Repr

/-- Lane states (R495). -/
inductive LaneState where
  /-- OFF -/
  | off
  /-- TRAIN -/
  | train
  /-- ACTIVE -/
  | active
  /-- UNUSED -/
  | unused
  /-- RETIRED -/
  | retired
  deriving DecidableEq, Repr

/-- A forward lane. -/
structure Lane where
  /-- state -/
  st : LaneState
  /-- cause of the last retirement, 4 for DIS -/
  cause : Nat
  /-- taps in use, as in EQ -/
  eq : Word
  /-- scrambler state (R482) -/
  scr : BitVec 58
  deriving DecidableEq, Repr

/-- The Speura link (chapters 16 and 17). -/
structure Link where
  /-- LINKCTL.ACT, PEND -/
  act : Bool
  pend : Bool
  /-- LINKSTAT.STATE: 0 OFF, 1 TRAIN, 2 ACTIVE, 3 NOLANE -/
  st : Nat
  /-- lanes -/
  lanes : List Lane
  /-- rate in use -/
  rate : Nat
  /-- RXL in sync -/
  rxSync : Bool
  /-- MCOUNT of the last marker -/
  mcount : BitVec 24
  /-- a training waits for the end of the packet in flight; a shut-down likewise -/
  trainAfter : Bool
  offAfter : Bool
  /-- pending planned retirement: lanes; RETMAX has passed; a frame end has been sent -/
  retire : BitVec 4
  retireNow : Bool
  retireEdge : Bool
  /-- the packet in flight -/
  flight : Option Flight
  /-- the training that runs started at this tick, until its time limit is reported (R498) -/
  trainFrom : Option Tick
  /-- RXL lost its sync at this tick (R496); the pending retirement was requested at this tick (R510) -/
  lostAt : Tick
  retireAt : Tick
  /-- columns sent since the last marker column (R485) and since the last IDLE column (R488) -/
  sinceAlign : Nat
  sinceIdle : Nat
  /-- the columns sent last: one block of 66 bits per lane -/
  column : List (BitVec 66)
  deriving DecidableEq, Repr

/-- A waveform port (chapter 10). -/
structure WavePort where
  /-- ACT, PEND -/
  act : Bool
  pend : Bool
  /-- LOCK -/
  lock : Bool
  /-- input history per channel, newest first -/
  hist : List (List Int)
  /-- input frames since the resynchronisation, modulo R -/
  phase : Nat
  /-- settling output frames still to count -/
  settle : Nat
  /-- the block: output samples per frame, newest last -/
  block : List (List Int)
  /-- stamp of the block, its settling frames, its flags -/
  stamp : Tick
  settled : Nat
  flags : Nat
  /-- input frames in the block, tick of its first and last FS edge -/
  inputs : Nat
  /-- CAPFN of the block -/
  capFn : Long
  firstFs : Tick
  lastFs : Tick
  /-- the next block carries LOSS; RESYNC -/
  loss : Bool
  resync : Bool
  /-- EN was cleared: the block closes at the next output frame; it has closed, and no further frame is taken -/
  closing : Bool
  shut : Bool
  /-- a clock that WP drives (R290): 1/131,072 ticks since the last frame opened, less whole frames; a frame opens in the present
  tick -/
  clock : Nat
  edge : Bool
  /-- the configuration in force: FMT, CHMASK, DEC, BLKLEN -/
  fmt : Word
  chmask : Word
  dec : Word
  blklen : Word
  deriving DecidableEq, Repr

/-- One WP2 channel (R308-R310). -/
structure WpChan where
  /-- gain in force -/
  gain : Word
  /-- gain that waits for a crossing -/
  newGain : Option Word
  /-- gain of the next unmute (R310) -/
  nextGain : Option Word
  /-- ticks of the GAIN write and of the MUTE write that wait for a crossing -/
  gainSince : Tick
  muteSince : Tick
  /-- the mute state in force or ramped to; a mute change that waits -/
  muted : Bool
  newMute : Option Bool
  /-- effective gain and the ramp's step per sample, in 1/4,096 of the gain's unit -/
  level : Nat
  rate : Nat
  /-- previous sample -/
  prev : Int
  deriving DecidableEq, Repr

/-- The waveform ports and WP2's playback. -/
structure Wave where
  /-- WP0, WP1, WP2 -/
  ports : List WavePort
  /-- WP2 channels -/
  chans : List WpChan
  /-- playback asked for; running; stop asked for -/
  armed : Bool
  playing : Bool
  stopAsked : Bool
  /-- next frame and loops sent -/
  frame : Nat
  loops : Nat
  /-- last frame sent on WP2_SD -/
  out : List (BitVec 32)
  deriving DecidableEq, Repr

/-- Pins, the JTAG cells and IRQ_N (chapters 8, 18 and 21). -/
structure Pins where
  /-- output latches -/
  out : BitVec 32
  /-- staged masks -/
  sset : BitVec 32
  sclr : BitVec 32
  stgl : BitVec 32
  /-- levels at the pins -/
  level : BitVec 32
  /-- debounced levels of the PAPER pins -/
  paper : BitVec 32
  /-- the pins stand in their sleep states -/
  asleep : Bool
  /-- pins that drove a level as their sleep states began, and the levels -/
  heldDrive : BitVec 32
  heldLevel : BitVec 32
  /-- AON copy of the SLP words -/
  slp : List Word
  /-- TRIG_OUT -/
  trigOut : Bool
  /-- AON copies of SEALLOCK and the locked SEALCFG words -/
  sealLock : Word
  sealCfg : List Word
  /-- LOAMDBG: data of the last read, DONE, OFF -/
  dbg : Word × Bool × Bool
  /-- boundary-scan update cells while EXTEST drives -/
  extest : Option (BitVec 178)
  /-- IRQ_N is pulled low -/
  irq : Bool
  deriving DecidableEq, Repr

/-- What has happened in the present CORE cycle (log entry 17): the coincidences that R10, R127, R128,
R173 and R564 speak of. -/
structure Cycle where
  /-- sources that have acted in the cycle; a source that acts again opens a new one -/
  seen : List Nat
  /-- words with RC or W1C bits set in the cycle: key, value before the first set, bits or count set since (R10) -/
  marks : List (Nat × Word × Word)
  /-- Loam has halted in the cycle (R261) -/
  halted : Bool
  /-- timers stopped in the cycle (R128) -/
  stopped : BitVec 8
  /-- contexts whose trigger has been taken in the cycle (R173) -/
  triggered : BitVec 16
  /-- OUT (bits 0-31) and the timer-driven strobe levels (bits 32-39) before the first drive of the cycle (R127) -/
  base : BitVec 40
  /-- drives of the cycle in the order of R127: rank, bits set, cleared and toggled -/
  drives : List (Nat × BitVec 40 × BitVec 40 × BitVec 40)
  /-- codes of the fault records of the cycle, the newest in the ring first (R564) -/
  codes : List Nat
  deriving DecidableEq, Repr

/-- Everything but the queue: what a command acts on. -/
structure Chip where
  /-- registers and addressed memories -/
  regs : Bank
  /-- words of multi-word loads and held configuration, keyed as `regs` -/
  held : Bank
  /-- the model's free-value counter -/
  free : Nat
  /-- the last data driven on HD -/
  hd : Word
  /-- the present CORE cycle -/
  cyc : Cycle
  pw : Power
  keep : Keep
  phrase : Phrase
  tb : TimeBase
  win : Window
  cc : CaptureCtl
  loam : Loam
  chans : List Channel
  hkc : Hkc
  cal : Calib
  st : Stores
  pipe : Pipe
  cams : List CamPort
  streams : List Stream
  movers : List Mover
  link : Link
  wave : Wave
  pins : Pins
  deriving DecidableEq, Repr

/-- The machine: the waiting commands, first in first out, and the chip. -/
structure State where
  /-- the waiting commands -/
  pending : List Instr
  /-- the chip -/
  chip : Chip
  deriving DecidableEq, Repr

/-- Why a run would stop with a fault. No meaning of this model raises one: every failure the spec describes is an
effect on the state (a fault record, an event, a status bit). Safe. -/
inductive Fault where
  /-- Raised by nobody. Safe. -/
  | none
  deriving DecidableEq, Repr

/-- Why a command is refused. -/
inductive Refusal where
  /-- Raised by Dispatch for a command without a meaning; none is left. Safe. -/
  | notModelled (mnemonic : String)
  deriving DecidableEq, Repr

/-- Power right after a power-on reset: SLEEP, on the RC oscillator (R86, R97). -/
def Power.reset : Power :=
  { cur := .sleep, sq := none, target := .sleep, wake := false, core := false, array := false, pipe := false,
    link := false, isetOn := false, vddaon := true, ready := false, rc := true, rcUsed := true, xtalTry := true, xtalFirst := true,
    noMakeup := true, auto := false,
    phase := none, below := 0, deferred := ⟨0, []⟩, refused := none, bound := .idle,
    firstAt := 0, alarmAt := 0, low := 0, good := List.replicate 4 0, goodHeld := false, drained := false, drainFrom := 0,
    pixFb := false, pixPend := false, pixN := 128 }

/-- The time base after reset (R104, R111). -/
def TimeBase.reset : TimeBase :=
  { stb := 0, aon := 0, sub := 0, stbLatch := 0, aonLatch := 0, syncOut := none, marker := none, locked := false,
    syncFrom := 0, lost := false, stepRun := 0, drift := 0, lastErr := 0, applied := 0, slewUp := false, slews := [],
    epochLeft := 0, acted := [], barred := [], matchDue := 0, termDue := 0, rose := 0 }

/-- A CORE cycle in which nothing has happened yet. -/
def Cycle.fresh : Cycle :=
  { seen := [], marks := [], halted := false, stopped := 0, triggered := 0, base := 0, drives := [], codes := [] }

/-- Loam idle and not halted (R266). -/
def Loam.reset : Loam :=
  { regs := List.replicate 8 0, stack := [], pc := 0, rom := false, t0 := 0, running := false, halted := false,
    hcause := 0, wait := none, skipBp := false, stepping := false, haltPend := 0, queue := [], watch := 0 }

/-- The Drift engine with no document. -/
def Drift.reset : Drift :=
  { count := 0, outstanding := [], released := [], asked := [], readb := none, taken := [], exposing := none, closed := [],
    reading := none, lastClose := none, lastBand := none, bandEnd := [], droppedSteps := [], edges := [], caps := [],
    rings := [[], []], nextLine := 0, lastLine := [([], 0), ([], 0)], mids := [], ending := false, ended := false, tail := none,
    lastStep := 0, stalled := false }

/-- No capture, no held trigger; FRAMENUM 0 (R178). -/
def CaptureCtl.reset : CaptureCtl :=
  { cap := none, susp := [], heldTrig := [], checking := none, frameNum := 0, lastFn := 0, shadow := 0, nodes := 0,
    charge := List.replicate 4 (List.replicate 8 0), drift := Drift.reset }

/-- A strobe low, its regulator inactive; the DAC code is the model's choice (log entry 7). -/
def Channel.reset : Channel :=
  { level := false, src := false, rise := 0, limit := 0, past := [], dac := 0, reg := 0, waiting := false, act := false,
    pend := false, heldLo := none, heldHi := none }

/-- The HKC inactive, its queue empty (R222). -/
def Hkc.reset : Hkc :=
  { act := false, pend := false, queue := [], popped := (0, 0), seq := 0, loss := false,
    reqs := List.replicate 8 none, runs := List.replicate 8 0, conv := [], last := none, nextB := false,
    background := true, spareOn := false, shadowB := false, spareFrom := 0, turn := 0,
    windows := [([], 0, false), ([], 0, false)], prev := [none, none], applied := List.replicate 6 0,
    sinceStep := List.replicate 6 256 }

/-- Empty statistics of a dwell half. -/
def HalfStat.zero : HalfStat :=
  { n := 0, windows := 0, sd := 0, sx := 0, sxx := 0, sdx := 0, nOdd := 0, sOdd := 0, m := 0, sy := 0, syy := 0,
    sdy := 0, sdm := 0 }

/-- A dwell that has gathered nothing. -/
def Dwell.zero : Dwell := { winA := 0, winB := 0, stats := List.replicate 4 HalfStat.zero, planes := [] }

/-- Marl before its first dwell; no user run. -/
def Calib.reset : Calib :=
  { group := none, from_ := 0, dwell := Dwell.zero, mark := (Dwell.zero, [none, none]), hold := 0,
    stopping := false, hist := [], walked := [], run := .none, runStart := 0, temp0 := none, tempAt := none, result := 0, atBoundary := none }

/-- The stores idle, nothing flushed, no valid ledger page (R397), no generation in force. -/
def Stores.reset : Stores :=
  { commit := none, waiting := none, staging := false, boundaryHeld := false, stgValid := false, cause := 0, retryPend := false, retryDue := false, lastSlot := 31,
    ecnt := List.replicate 32 0, flush := none, flushDue := false, flushAgain := false, flushRetry := false, lastFlush := 0, laon := 0,
    base := List.replicate 8 0, incr := List.replicate 8 0, onTicks := 0, hourTicks := 0, lseq := 0, lpage := 0,
    noPage := false, pages := [], otp := none, gen := 7, factBad := false }

/-- An empty pipeline with the array in-line. -/
def Pipe.reset : Pipe :=
  { inline := [], memory := [], lines := [], frames := [], black := List.replicate 8 none,
    waiting := none, sets := 0, act := 0, white := [] }

/-- An inactive camera port. -/
def CamPort.reset : CamPort := { act := false, pend := false, frames := [], stopAt := 0 }

/-- An inactive, empty stream. -/
def Stream.reset : Stream :=
  { act := false, pend := false, recs := [], bufs := [], nextBuf := 0, ring := 0, held := [], frames := [], pseq := 0,
    credits := 0, inf := false }

/-- An inactive mover channel. -/
def Mover.reset : Mover := { act := false, pend := false, busy := false, heldReq := false, stat := false, from_ := 0 }

/-- A lane that is off; the scrambler state is the model's choice (log entry 9). -/
def Lane.reset : Lane := { st := .off, cause := 0, eq := 0, scr := 0 }

/-- The link disabled. -/
def Link.reset : Link :=
  { act := false, pend := false, st := 0, lanes := List.replicate 4 Lane.reset, rate := 0, rxSync := false, mcount := 0,
    trainAfter := false, offAfter := false, retire := 0, retireNow := false, retireEdge := false, flight := none,
    trainFrom := none, lostAt := 0, retireAt := 0, sinceAlign := 0, sinceIdle := 0, column := [] }

/-- An inactive waveform port with the reset configuration. -/
def WavePort.reset : WavePort :=
  { act := false, pend := false, lock := false, hist := [], phase := 0, settle := 0, block := [], stamp := 0,
    settled := 0, flags := 0, inputs := 0, capFn := 0, firstFs := 0, lastFs := 0, loss := false, resync := false,
    closing := false, shut := false, clock := 0, edge := false, fmt := 0x0208, chmask := 0, dec := 0, blklen := 0x0100 }

/-- A WP2 channel at unity gain, not muted. -/
def WpChan.reset : WpChan :=
  { gain := 0x4000, newGain := none, nextGain := none, gainSince := 0, muteSince := 0, muted := false, newMute := none
    level := 0x4000000, rate := 0, prev := 0 }

/-- The waveform block idle. -/
def Wave.reset : Wave :=
  { ports := List.replicate 3 WavePort.reset, chans := List.replicate 8 WpChan.reset, armed := false, playing := false,
    stopAsked := false, frame := 0, loops := 0, out := [] }

/-- Pins right after power-on: high impedance, IRQ_N released (R555); the levels are the model's choice (log entry 8). -/
def Pins.reset : Pins :=
  { out := 0, sset := 0, sclr := 0, stgl := 0, level := 0, paper := 0, asleep := true, heldDrive := 0, heldLevel := 0,
    slp := List.replicate 32 0, trigOut := false, sealLock := 0, sealCfg := List.replicate 8 0, dbg := (0, false, false),
    extest := none, irq := false }

/-- The chip right after a power-on reset (R97): every register at its reset value, the device in SLEEP, the boot reader
running. -/
def Chip.reset : Chip :=
  { regs := [], held := [], free := 0, hd := 0, cyc := Cycle.fresh, pw := Power.reset, keep := .empty,
    phrase := { isOpen := false, since := 0, index := 0 }, tb := TimeBase.reset,
    win := { staged := none, heldWrite := none }, cc := CaptureCtl.reset, loam := Loam.reset,
    chans := List.replicate 8 Channel.reset, hkc := Hkc.reset, cal := Calib.reset, st := Stores.reset,
    pipe := Pipe.reset, cams := List.replicate 3 CamPort.reset, streams := List.replicate 8 Stream.reset,
    movers := List.replicate 4 Mover.reset, link := Link.reset, wave := Wave.reset, pins := Pins.reset }

/-- The machine right after a power-on reset: no command waits. -/
def State.reset : State := { pending := [], chip := Chip.reset }

end Sys2Proof.Machine
end

