-- ==== Sys2Proof/Machine/Ops.lean ====
section
/-! DEFINITION. The named operations over the word store and the chip: reading and writing words, 32-bit and 64-bit
items, saturating counters, fields, and the small list helpers every family uses. -/

namespace Sys2Proof.Machine

/-! ## The word store -/

/-- The word at a key: the listed one, else what an unlisted key reads as. -/
def Bank.get (b : Bank) (k : Nat) : Word :=
  match b.find? (fun c => c.1 == k) with
  | some c => c.2
  | none => unlisted k

/-- No word listed at a key. -/
def Bank.drop (b : Bank) (k : Nat) : Bank := b.filter (fun c => c.1 != k)

/-- Write one word, keeping the canonical form. -/
def Bank.put : Bank → Nat → Word → Bank
  | [], k, v => if v = unlisted k then [] else [(k, v)]
  | c :: r, k, v =>
    if c.1 = k then Bank.put r k v
    else if k < c.1 then (if v = unlisted k then c :: Bank.drop r k else (k, v) :: c :: Bank.drop r k)
    else c :: Bank.put r k v

/-- Reset every word whose key does not satisfy the test. -/
def Bank.keepIf (b : Bank) (p : Nat → Bool) : Bank := b.filter (fun c => p c.1)

/-- Write a list of words. -/
def Bank.putAll (b : Bank) (ws : List (Nat × Word)) : Bank := ws.foldl (fun b w => Bank.put b w.1 w.2) b

/-- The canonical form: keys strictly rising, no word equal to what its key reads as when unlisted. -/
def Bank.wf : Bank → Bool
  | [] => true
  | [c] => decide (c.2 ≠ unlisted c.1)
  | c :: d :: r => decide (c.2 ≠ unlisted c.1) && decide (c.1 < d.1) && Bank.wf (d :: r)

/-! ## Words and fields -/

/-- Bit i of a word. -/
def tst (w : Word) (i : Nat) : Bool := w.getLsbD i

/-- The field of `n` bits from bit `lo`, as a number. -/
def fld (w : Word) (lo n : Nat) : Nat := (w.toNat / 2 ^ lo) % 2 ^ n

/-- A word from a number. -/
def wd (n : Nat) : Word := BitVec.ofNat 16 n

/-- Write the bits of a mask (R8: the others keep their value). -/
def merge (old mask v : Word) : Word := (old &&& ~~~mask) ||| (v &&& mask)

/-- One bit as a word. -/
def bitW (i : Nat) : Word := wd (2 ^ i)

/-- Set or clear one bit. -/
def setBit (w : Word) (i : Nat) (b : Bool) : Word := if b then w ||| bitW i else w &&& ~~~bitW i

/-- A Bool as a bit. -/
def b2n (b : Bool) : Nat := if b then 1 else 0

/-- Two's complement reading of an `n`-bit field. -/
def sext (v n : Nat) : Int := if 2 * (v % 2 ^ n) < 2 ^ n then (v % 2 ^ n : Nat) else (v % 2 ^ n : Nat) - (2 ^ n : Nat)

/-- Two's complement encoding in `n` bits. -/
def enc (i : Int) (n : Nat) : Nat := (i % (2 ^ n : Nat)).toNat

/-- Clamp. -/
def clampI (lo hi x : Int) : Int := max lo (min hi x)

/-- Nearest integer of num/den, a half rounded up (R608). -/
def roundDiv (num : Int) (den : Nat) : Int := (2 * num + den).fdiv (2 * den)

/-- A saturating 16-bit addition (the counters of the Reference tables). -/
def satAdd (w : Word) (n : Nat) : Word := wd (min (w.toNat + n) 0xFFFF)

/-- The two bytes of a word, least significant first (R4). -/
def bytes2 (w : Word) : List Byte := [w.setWidth 8, (w >>> 8).setWidth 8]

/-- `n` bytes of a number, least significant first (R4). -/
def bytesN (v : Nat) : Nat → List Byte
  | 0 => []
  | n + 1 => BitVec.ofNat 8 v :: bytesN (v / 256) n

/-- The number of a byte list, least significant first (R4). -/
def ofBytes : List Byte → Nat
  | [] => 0
  | b :: r => b.toNat + 256 * ofBytes r

/-! ## Lists -/

/-- Replace element i. -/
def upd {α : Type} (l : List α) (i : Nat) (f : α → α) : List α := l.modify i f

/-- Element i of a list of numbers, 0 beyond its end. -/
def nth (l : List Nat) (i : Nat) : Nat := l.getD i 0

/-! ## Registers of the chip -/

/-- The stored word of a space. -/
def Chip.rd (m : Chip) (sp off : Nat) : Word := Bank.get m.regs (key sp off)

/-- Store a word. -/
def Chip.wr (m : Chip) (sp off : Nat) (v : Word) : Chip := { m with regs := Bank.put m.regs (key sp off) v }

/-- Store several words from an offset on. -/
def Chip.wrList (m : Chip) (sp off : Nat) : List Word → Chip
  | [] => m
  | v :: r => (m.wr sp off v).wrList sp (off + 1) r

/-- The shadow word of a multi-word load or of a held configuration word. -/
def Chip.rdHeld (m : Chip) (sp off : Nat) : Word := Bank.get m.held (key sp off)

/-- Store a shadow word. -/
def Chip.wrHeld (m : Chip) (sp off : Nat) (v : Word) : Chip := { m with held := Bank.put m.held (key sp off) v }

/-- A 32-bit item, low word first (R47). -/
def Chip.rd32 (m : Chip) (sp off : Nat) : Nat := (m.rd sp off).toNat + 0x10000 * (m.rd sp (off + 1)).toNat

/-- Store a 32-bit item. -/
def Chip.wr32 (m : Chip) (sp off v : Nat) : Chip := (m.wr sp off (wd v)).wr sp (off + 1) (wd (v / 0x10000))

/-- A 64-bit item, lowest word first. -/
def Chip.rd64 (m : Chip) (sp off : Nat) : Nat := m.rd32 sp off + 0x100000000 * m.rd32 sp (off + 2)

/-- Store a 64-bit item. -/
def Chip.wr64 (m : Chip) (sp off v : Nat) : Chip := (m.wr32 sp off v).wr32 sp (off + 2) (v / 0x100000000)

/-! ## Sets and clears of one cycle (R10) -/

/-- What the cycle has set in a word: its value before, and the bits, or the count of a counter, set since. -/
def Cycle.mark (c : Cycle) (k : Nat) : Option (Word × Word) := (c.marks.find? (fun x => x.1 == k)).map (·.2)

/-- Note a set of a word in the cycle. -/
def Cycle.note (c : Cycle) (k : Nat) (before : Word) (f : Word → Word) : Cycle :=
  match c.mark k with
  | some x => { c with marks := (k, x.1, f x.2) :: c.marks.filter (fun y => y.1 != k) }
  | none => { c with marks := (k, before, f 0) :: c.marks }

/-- The bits, or the count, that the cycle has set in a word. -/
def Chip.fresh (m : Chip) (sp off : Nat) : Word := ((m.cyc.mark (key sp off)).map (·.2)).getD 0

/-- The word as it stood before the sets of the cycle. -/
def Chip.before (m : Chip) (sp off : Nat) : Word := ((m.cyc.mark (key sp off)).map (·.1)).getD (m.rd sp off)

/-- Set bits of a stored word; a clear in the same cycle leaves them (R10). -/
def Chip.orBits (m : Chip) (sp off : Nat) (b : Word) : Chip :=
  Chip.wr { m with cyc := m.cyc.note (key sp off) (m.rd sp off) (fun f => f ||| b) } sp off (m.rd sp off ||| b)

/-- Clear bits of a stored word. -/
def Chip.clrBits (m : Chip) (sp off : Nat) (b : Word) : Chip := m.wr sp off (m.rd sp off &&& ~~~b)

/-- Add to a saturating 16-bit counter; a clearing read in the same cycle leaves what was added (R10). -/
def Chip.bump (m : Chip) (sp off n : Nat) : Chip :=
  Chip.wr { m with cyc := m.cyc.note (key sp off) (m.rd sp off) (fun f => satAdd f n) } sp off (satAdd (m.rd sp off) n)

/-- A W1C clear: bits that the cycle has set stay (R10). -/
def Chip.w1c (m : Chip) (sp off : Nat) (b : Word) : Chip := m.clrBits sp off (b &&& ~~~m.fresh sp off)

/-- The plain write of a word: its RW bits take the value, its W1C bits clear where the value has a 1 unless the cycle has
set them, every other bit keeps its value (R6, R7, R8, R10); a word without a row ignores the write (R9). -/
def Chip.plainWrite (m : Chip) (sp off : Nat) (v : Word) : Chip :=
  match regRow sp off with
  | none => m
  | some r => m.wr sp off (merge (m.rd sp off) r.rw v &&& ~~~(v &&& r.w1c &&& ~~~m.fresh sp off))

/-- A source acts: one that has acted in the cycle already opens a new cycle (log entry 17). -/
def Chip.begin (m : Chip) (src : Nat) : Chip :=
  { m with cyc := if m.cyc.seen.any (fun x => x == src) then { Cycle.fresh with seen := [src] }
                  else { m.cyc with seen := src :: m.cyc.seen } }

/-- Take one free value: the opaque word at the counter, which advances. -/
def Chip.takeFree (m : Chip) : Word × Chip := (Config.freeWord m.free, { m with free := m.free + 1 })

/-- Take one free number. -/
def Chip.takeFreeNat (m : Chip) : Nat × Chip := (Config.freeNat m.free, { m with free := m.free + 1 })

/-! ## Names of the spaces (R41) -/

abbrev spCtx : Nat := 0x01
abbrev spLoam : Nat := 0x02
abbrev spTmr : Nat := 0x03
abbrev spHkc : Nat := 0x04
abbrev spCal : Nat := 0x05
abbrev spNvm : Nat := 0x06
abbrev spOtp : Nat := 0x07
abbrev spPipe : Nat := 0x08
abbrev spStat : Nat := 0x09
abbrev spPool : Nat := 0x0A
abbrev spLink : Nat := 0x0B
abbrev spCsi : Nat := 0x0C
abbrev spWave : Nat := 0x0D
abbrev spPin : Nat := 0x0E
abbrev spIllum : Nat := 0x0F
abbrev spLedger : Nat := 0x10
abbrev spFault : Nat := 0x11
abbrev spSeal : Nat := 0x12

/-- The present STB tick. -/
def Chip.now (m : Chip) : Tick := m.tb.stb

/-- Any SUPSTAT.WARN bit is 1 (R94). -/
def Chip.warn (m : Chip) : Bool := fld (m.rd 0 0x06) 0 4 != 0

/-- Reached-or-passed comparison with the STB (R105). -/
def Chip.reached (m : Chip) (t : Tick) : Bool := decide (t.toNat ≤ m.tb.stb.toNat)

/-- Add to a ledger counter's increments; the live total saturates at 2^48 - 1 (R393). -/
def Chip.ledger (m : Chip) (i n : Nat) : Chip :=
  { m with st := { m.st with
      incr := upd m.st.incr i (fun x => min (x + n) (0xFFFFFFFFFFFF - nth m.st.base i)) } }

end Sys2Proof.Machine
end

