-- ==== Sys2Proof/Machine/Flags.lean ====
section
/-! DEFINITION. Events and IRQ_N: raising an event (R557, R561), the evaluation of IRQ_N (R558), and the one way in which
a meaning answers its next state. -/

namespace Sys2Proof.Machine

/-! ## Event numbers (R562) -/

abbrev evFrameStart : Nat := 0
abbrev evFrameEnd : Nat := 1
abbrev evStratumDone : Nat := 2
abbrev evTrigOverrun : Nat := 3
abbrev evDriftOverspeed : Nat := 4
abbrev evLoamHalt : Nat := 5
abbrev evIllumSat : Nat := 6
abbrev evIllumFault : Nat := 7
abbrev evHkcThresh : Nat := 8
abbrev evHkcDrop : Nat := 9
abbrev evHkcLimit : Nat := 10
abbrev evTmrMatch : Nat := 11
abbrev evTmrCapture : Nat := 12
abbrev evTmrMissed : Nat := 13
abbrev evWaveBlock : Nat := 14
abbrev evWaveErr : Nat := 15
abbrev evPoolLow : Nat := 16
abbrev evPoolNobuf : Nat := 17
abbrev evStreamDrop : Nat := 18
abbrev evCsiErr : Nat := 19
abbrev evPcamErr : Nat := 20
abbrev evLaneFault : Nat := 21
abbrev evLinkState : Nat := 22
abbrev evStatsReady : Nat := 23
abbrev evCalDone : Nat := 24
abbrev evCalFail : Nat := 25
abbrev evSliceSwap : Nat := 26
abbrev evNvmDone : Nat := 27
abbrev evNvmFail : Nat := 28
abbrev evLockViolation : Nat := 29
abbrev evSupplyWarn : Nat := 30
abbrev evThermalWarn : Nat := 31

/-- Raise event n: set its EVSTAT bit (R557); while CORE is not clocked the cause is held in AON (R561). -/
def Chip.raise (m : Chip) (n : Nat) : Chip :=
  if m.pw.core then m.orBits 0 (0x13 + n / 16) (bitW (n % 16))
  else { m with pw := { m.pw with deferred := { m.pw.deferred with events := m.pw.deferred.events ||| BitVec.ofNat 32 (2 ^ n) } } }

/-- Raise an event under a condition. -/
def Chip.raiseIf (m : Chip) (c : Bool) (n : Nat) : Chip := if c then m.raise n else m

/-- Some enabled event is pending. -/
def Chip.irqWanted (m : Chip) : Bool :=
  (m.rd 0 0x13 &&& m.rd 0 0x15) != 0 || (m.rd 0 0x14 &&& m.rd 0 0x16) != 0

/-- A DOZE or SLEEP entry is in progress: IRQ_N stays released from its start (R558), and the domains that it will turn
off no longer answer (R37). -/
def Chip.entering (m : Chip) : Bool :=
  m.pw.sq == some .idleDoze || m.pw.sq == some .dozeSleep

/-- IRQ_N follows the pending enabled events while CORE is clocked and no entry is in progress (R28, R558). -/
def Chip.irqLevel (m : Chip) : Bool := m.pw.core && !m.entering && m.irqWanted

/-- Evaluate IRQ_N. -/
def Chip.settle (m : Chip) : Chip := { m with pins := { m.pins with irq := m.irqLevel } }

/-- The next state of a meaning: the chip with IRQ_N evaluated, the queue as it stands. -/
def done (s : State) (m : Chip) : Host.Outcome State Fault Refusal := .next { s with chip := m.settle }

/-- An event command whose condition does not hold changes nothing (log entry 4). -/
def guarded (s : State) (c : Bool) (m : Chip) : Host.Outcome State Fault Refusal := done s (if c then m else s.chip)

/-- The first stage of a wake runs: the domains are powered and clocked, and answer from the end of its last step on
(R37). -/
def Chip.waking (m : Chip) : Bool := m.pw.sq == some .wakeSleep || m.pw.sq == some .wakeDoze

/-- A direct register at 0x10-0x3F or a space whose domain is CORE answers (R15, R37). -/
def Chip.coreOn (m : Chip) : Bool := m.pw.ready && m.pw.core && !m.entering && !m.waking

/-- PIPE answers. -/
def Chip.pipeOn (m : Chip) : Bool := m.pw.ready && m.pw.pipe && !m.entering && !m.waking

/-- LINK answers. -/
def Chip.linkOn (m : Chip) : Bool := m.pw.ready && m.pw.link && !m.entering && !m.waking

/-- The host bus is ready (R576). -/
def Chip.busOn (m : Chip) : Bool := m.pw.ready && m.pw.vddaon

/-- The owner of a space answers: direct registers below 0x10 are AON's, LINKSTAT is LINK's, POOLSTAT is PIPE's, the
other direct registers are CORE's; the spaces as the table of R15. -/
def Chip.owned (m : Chip) (sp off : Nat) : Bool :=
  match sp with
  | 0x00 => if off < 0x10 then m.busOn else if off = 0x39 then m.linkOn else if off = 0x3A then m.pipeOn else m.coreOn
  | 0x08 => m.pipeOn
  | 0x09 => m.pipeOn
  | 0x0A => m.pipeOn
  | 0x0B => m.linkOn
  | 0x0C => m.pipeOn
  | 0x12 => m.pipeOn
  | _ => m.coreOn

/-- An access to a domain that is off sets PWRSTAT.BUSERR (R15, R39). -/
def Chip.busErr (m : Chip) : Chip := m.orBits 0 0x03 0x0010

/-- A host write to a word of a space: while its owner is off it is discarded and sets BUSERR (R15); before the bus is
ready nothing happens (R576). The host is source 0 of the cycle. -/
def hostWrite (s : State) (sp off : Nat) (f : Chip → Chip) : Host.Outcome State Fault Refusal :=
  let m := s.chip.begin 0
  done s (if m.busOn then (if m.owned sp off then f m else m.busErr) else s.chip)

/-- A host read of a word of a space: 0xFFFF and BUSERR while its owner is off (R15), nothing before the bus is ready. -/
def hostRead (s : State) (sp off : Nat) (f : Chip → Chip) : Host.Outcome State Fault Refusal :=
  let m := s.chip.begin 0
  done s (if m.busOn then (if m.owned sp off then f m else { m.busErr with hd := 0xFFFF }) else s.chip)

end Sys2Proof.Machine
end

