-- ==== Sys2Proof/Machine/Operands.lean ====
section
/-! DEFINITION. The operand forms of the control bus: the window pointer and its advance (R43-R46), the kind of an
offset within its space, and the indexed register blocks that the families address. -/

namespace Sys2Proof.Machine

/-- WINPTRH.SPACE. -/
def Chip.ptrSpace (m : Chip) : Nat := fld (m.rd 0 0x1F) 8 8

/-- The 24-bit window offset. -/
def Chip.ptrOff (m : Chip) : Nat := fld (m.rd 0 0x1F) 0 8 * 0x10000 + (m.rd 0 0x1E).toNat

/-- The offset after one advance under WINCTL.WRAP (R46). -/
def nextOff (wrap off : Nat) : Nat :=
  if wrap = 0 then (off + 1) % 0x1000000 else off / 2 ^ wrap * 2 ^ wrap + (off % 2 ^ wrap + 1) % 2 ^ wrap

/-- The pointer advances after a performed access when AINC is 1 (R45, R46). -/
def Chip.advance (m : Chip) : Chip :=
  if tst (m.rd 0 0x21) 0 then
    let o := nextOff (fld (m.rd 0 0x21) 4 4) m.ptrOff
    (m.wr 0 0x1E (wd o)).wr 0 0x1F (wd (m.ptrSpace * 256 + o / 0x10000))
  else m

/-- The space number names a space (R44). -/
def spaceKnown (sp : Nat) : Bool := decide (1 ≤ sp) && decide (sp ≤ 0x12)

/-- A read clears the RC bits of its word; what the cycle has set stays set (R6, R10, R30). -/
def Chip.clearRc (m : Chip) (sp off : Nat) : Chip :=
  match regRow sp off with
  | some r => if r.rc = 0 then m else m.wr sp off ((m.rd sp off &&& ~~~r.rc) ||| (m.fresh sp off &&& r.rc))
  | none => m

/-- What a read returns of a word with RC bits: those bits as they stood before the sets of the cycle (R10). -/
def Chip.rcValue (m : Chip) (sp off : Nat) (v : Word) : Word :=
  match regRow sp off with
  | some r => if r.rc = 0 then v else (v &&& ~~~r.rc) ||| (m.before sp off &&& r.rc)
  | none => v

/-- CTX offset of a word of context k. -/
def ctxOff (k : Fin 16) (o : Nat) : Nat := 0x100 * k.val + o

/-- TMR offset of a word of timer n. -/
def tmOff (n : Nat) (o : Nat) : Nat := 0x200 + 0x20 * n + o

/-- TMR offset of a word of compare channel n. -/
def cmpOff (n : Nat) (o : Nat) : Nat := 0x100 + 0x10 * n + o

/-- HKC offset of a word of slot s. -/
def slotOff (s : Nat) (o : Nat) : Nat := 0x100 + 0x10 * s + o

/-- ILLUM offset of a word of channel c. -/
def chanOff (c : Nat) (o : Nat) : Nat := 0x100 + 0x20 * c + o

/-- POOL offset of a word of stream s. -/
def streamOff (s : Nat) (o : Nat) : Nat := 0x100 + 0x10 * s + o

/-- POOL offset of a word of mover channel c. -/
def moverOff (c : Nat) (o : Nat) : Nat := 0x200 + 0x10 * c + o

/-- CSI offset of a word of port p. -/
def portOff (p : Nat) (o : Nat) : Nat := 0x40 * p + o

/-- CSI offset of a word of route r. -/
def routeOff (r : Nat) (o : Nat) : Nat := 0x100 + 8 * r + o

/-- WAVE offset of a word of port p. -/
def waveOff (p : Nat) (o : Nat) : Nat := 0x40 * p + o

/-- SEAL offset of a status word of stream s. -/
def sealOff (s : Nat) (o : Nat) : Nat := 0x20 + 8 * s + o

/-- CAL offset of a word of the trim block of slice p of group g. -/
def trimOff (g p o : Nat) : Nat := 0x1000 + 0x18 * g + 8 * p + o

/-- PIN offset of word o of pin n. -/
def pinOff (n o : Nat) : Nat := 4 * n + o

end Sys2Proof.Machine
end

