-- ==== Sys2Proof/Machine/Pins.lean ====
section
/-! DEFINITION. Pins (chapter 18): functions, the output latch, GPIO writes and staging, pads and sleep states, the
quadrature monitor, and the event registers' own commands. -/

namespace Sys2Proof.Machine

/-! ## Functions and levels -/

/-- PCFG.FSEL of a pin. -/
def Chip.fsel (m : Chip) (n : Nat) : Nat := fld (m.rd spPin (pinOff n 0)) 0 3

/-- The table "Pin functions" has an entry for this pin and FSEL (R539). -/
def fselOk (n f : Nat) : Bool :=
  match f with
  | 5 => decide (n ≤ 9)
  | 6 => (decide (5 ≤ n) && decide (n ≤ 7)) || (decide (10 ≤ n) && decide (n ≤ 15)) || (decide (29 ≤ n) && decide (n ≤ 31))
  | 7 => decide (16 ≤ n) && decide (n ≤ 31)
  | _ => true

/-- The waveform signal on a pin with FSEL 6: 3 p for BCLK, 3 p + 1 for FS, 3 p + 2 for SD of port p ("Pin
functions"). -/
def waveSignal (n : Nat) : Nat := if n ≥ 29 then n - 23 else if n ≤ 7 then n + 1 else n - 10

/-- A waveform signal is an input: BCLK and FS of a port that is no master, SD of WP0 and WP1 ("Pin functions"). -/
def waveIsInput (g : Nat) (master : Bool) : Bool := if g % 3 = 2 then decide (g / 3 < 2) else !master

/-- A name for the input signal that a pin with this FSEL carries, none where it carries no input: TCAP, ENC_A and ENC_B
feed the capture input of timer TSEL; the WP and PCAM inputs are named by their place (R542). master tells of each
waveform port whether it drives its clocks. -/
def inputSignal (n f tsel : Nat) (master : Nat → Bool) : Option Nat :=
  if f = 2 then some tsel
  else if f = 5 ∧ (n = 8 ∨ n = 9) then some tsel
  else if f = 6 then (if waveIsInput (waveSignal n) (master (waveSignal n / 3)) then some (16 + waveSignal n) else none)
  else if f = 7 then some (64 + n)
  else none

/-- The input signal of pin n. -/
def Chip.signalOf (m : Chip) (n : Nat) : Option Nat :=
  inputSignal n (m.fsel n) (fld (m.rd spPin (pinOff n 0)) 4 3) (fun p => tst (m.rd spWave (waveOff p 0)) 13)

/-- Two pins carry the same input signal, of those that a test names: PINERR.DUPIN is set (R542). -/
def Chip.noteDup (m : Chip) (f : Nat → Bool) : Chip :=
  let l := ((List.range 32).filterMap m.signalOf).filter f
  if l.any (fun g => decide (1 < l.count g)) then m.orBits spPin 0x8A 0x0002 else m

/-- The lowest-numbered pin muxed to the capture input of timer t (R542, R543). -/
def Chip.capPin (m : Chip) (t : Nat) : Option Nat :=
  (List.range 32).find? (fun n => decide (m.signalOf n = some t))

/-- What a pin's function drives (R540): OUT under TCO, OUT under GPIO with OE, TRIG_OUT under TRIG_OUT; none where the
board gives the level, or a block whose output is not held in the state. -/
def Chip.driver (m : Chip) (n : Nat) : Option Bool :=
  match m.fsel n with
  | 0 => if tst (m.rd spPin (pinOff n 0)) 15 then some (m.pins.out.getLsbD n) else none
  | 1 => some (m.pins.out.getLsbD n)
  | 4 => some m.pins.trigOut
  | _ => none

/-- The pin is high impedance: it is no output, or an open-drain output that drives a 1 (R540, R550). -/
def Chip.highZ (m : Chip) (n : Nat) : Bool :=
  match m.driver n with
  | some v => v && tst (m.rd spPin (pinOff n 1)) 14
  | none => true

/-- The level at a pin: what it drives, else what the board gives. -/
def Chip.drives (m : Chip) (n : Nat) : Bool :=
  if m.highZ n then m.pins.level.getLsbD n else (m.driver n).getD false

/-- The level a pin's input buffer shows at the last reported change of level: 0 while PAD.INDIS is 1 (R544). -/
def Chip.pinIn (m : Chip) (n : Nat) : Bool := m.pins.level.getLsbD n && !tst (m.rd spPin (pinOff n 1)) 15

/-- GPIOIN bit of a pin: the debounced level for PAPER (R545). -/
def Chip.gpioIn (m : Chip) (n : Nat) : Bool :=
  if m.fsel n = 5 ∧ n < 8 then m.pins.paper.getLsbD n && !tst (m.rd spPin (pinOff n 1)) 15
  else m.drives n && !tst (m.rd spPin (pinOff n 1)) 15

/-- One half of a 32-bit pin mask as a word. -/
def half (b : BitVec 32) (hi : Bool) : Word := if hi then (b >>> 16).setWidth 16 else b.setWidth 16

/-- A word placed in one half of a 32-bit mask. -/
def halfMask (v : Word) (hi : Bool) : BitVec 32 := if hi then (v.setWidth 32) <<< 16 else v.setWidth 32

/-! ## Several drives in one cycle -/

/-- OUT and, above it, what the source of each strobe channel drives. -/
def Chip.driven (m : Chip) : BitVec 40 :=
  (List.range 8).foldl (fun v c => if (m.chans.getD c Channel.reset).src then v ||| BitVec.ofNat 40 (2 ^ (32 + c)) else v)
    (m.pins.out.setWidth 40)

/-- One drive: bits set, then cleared, then toggled. -/
def applyDrive (v : BitVec 40) (d : Nat × BitVec 40 × BitVec 40 × BitVec 40) : BitVec 40 :=
  ((v ||| d.2.1) &&& ~~~d.2.2.1) ^^^ d.2.2.2

/-- Insert a drive behind those of an equal or lower rank. -/
def insertDrive (d : Nat × BitVec 40 × BitVec 40 × BitVec 40) :
    List (Nat × BitVec 40 × BitVec 40 × BitVec 40) → List (Nat × BitVec 40 × BitVec 40 × BitVec 40)
  | [] => [d]
  | x :: r => if d.1 < x.1 then d :: x :: r else x :: insertDrive d r

/-- The bits that drives reach. -/
def reachedBits (l : List (Nat × BitVec 40 × BitVec 40 × BitVec 40)) : BitVec 40 :=
  l.foldl (fun v d => v ||| d.2.1 ||| d.2.2.1 ||| d.2.2.2) 0

/-- The cycle after one more drive. -/
def Chip.driveCycle (m : Chip) (rank : Nat) (set clr tgl : BitVec 40) : Cycle :=
  let old := reachedBits m.cyc.drives
  { m.cyc with base := (m.cyc.base &&& old) ||| (m.driven &&& ~~~old), drives := insertDrive (rank, set, clr, tgl) m.cyc.drives }

/-- What the drives of a cycle leave, from the levels before the first of them (R127). -/
def Cycle.result (c : Cycle) : BitVec 40 := c.drives.foldl applyDrive c.base

/-- A drive of OUT with its rank in the order of R127: 0 the host, 1 + n compare channel n, 17 + 2 n and 18 + 2 n the match
and the terminal action of timer n, 40 Loam. All drives of the cycle are applied again in that order. -/
def Chip.driveOut (m : Chip) (rank : Nat) (set clr tgl : BitVec 32) : Chip :=
  let c := m.driveCycle rank (set.setWidth 40) (clr.setWidth 40) (tgl.setWidth 40)
  let all := reachedBits c.drives
  { m with cyc := c, pins := { m.pins with
      out := (m.pins.out &&& ~~~all.setWidth 32) ||| ((c.result &&& all).setWidth 32) } }

/-- A pin action of a compare channel, a timer or Loam on OUT: 1 high, 2 low, 3 toggle; only while the pin is muxed to
TCO (R126, R540). -/
def Chip.drivePin (m : Chip) (rank n op : Nat) : Chip :=
  if m.fsel n = 1 then
    let b := BitVec.ofNat 32 (2 ^ n)
    m.driveOut rank (if op = 1 then b else 0) (if op = 2 then b else 0) (if op = 1 ∨ op = 2 then 0 else b)
  else m

/-! ## GPIO registers -/

/-- Staging is on (R547). -/
def Chip.staging (m : Chip) : Bool := tst (m.rd spPin 0x80) 15

/-- A GPIOSETx write: sets OUT bits, or stages them (R546, R547). -/
def Chip.gpioSet (m : Chip) (hi : Bool) (v : Word) : Chip :=
  if m.staging then { m with pins := { m.pins with sset := m.pins.sset ||| halfMask v hi } }
  else m.driveOut 0 (halfMask v hi) 0 0

/-- A GPIOCLRx write. -/
def Chip.gpioClr (m : Chip) (hi : Bool) (v : Word) : Chip :=
  if m.staging then { m with pins := { m.pins with sclr := m.pins.sclr ||| halfMask v hi } }
  else m.driveOut 0 0 (halfMask v hi) 0

/-- A GPIOTGLx write. -/
def Chip.gpioTgl (m : Chip) (hi : Bool) (v : Word) : Chip :=
  if m.staging then { m with pins := { m.pins with stgl := m.pins.stgl ||| halfMask v hi } }
  else m.driveOut 0 0 0 (halfMask v hi)

/-- Discard the staged masks (R548). -/
def Chip.dropStaged (m : Chip) : Chip := { m with pins := { m.pins with sset := 0, sclr := 0, stgl := 0 } }

/-- The commit: OUT becomes ((OUT or S) and not C) xor T, in the host's place of R127, and the masks clear (R547). -/
def Chip.commitPins (m : Chip) : Chip := (m.driveOut 0 m.pins.sset m.pins.sclr m.pins.stgl).dropStaged

/-- Some staged mask is not empty. -/
def Chip.anyStaged (m : Chip) : Bool := m.pins.sset != 0 || m.pins.sclr != 0 || m.pins.stgl != 0

/-- A GPSTG write: STAGE takes the value; COMMIT applies the masks first; with STAGE = 0 and COMMIT = 0 they are
discarded (R547, R548). -/
def Chip.writeGpstg (m : Chip) (v : Word) : Chip :=
  let m := if tst v 14 then m.commitPins else if tst v 15 then m else m.dropStaged
  m.plainWrite spPin 0x80 v

/-! ## Pin configuration -/

/-- A PCFG write: discarded with PINERR.CFG where FSEL is not a function of the pin; DUPIN when the signal it takes is
already on another pin (R539, R541, R542). -/
def Chip.writePcfg (m : Chip) (n : Nat) (v : Word) : Chip :=
  if fselOk n (fld v 0 3) then
    let m := m.plainWrite spPin (pinOff n 0) v
    match m.signalOf n with
    | none => m
    | some g =>
      if (List.range 32).any (fun k => k != n && decide (m.signalOf k = some g)) then m.orBits spPin 0x8A 0x0002 else m
  else m.orBits spPin 0x8A 0x0001

/-- A PAD write: PULL = 0b11 discards it and sets PINERR.CFG (R549). -/
def Chip.writePad (m : Chip) (n : Nat) (v : Word) : Chip :=
  if fld v 12 2 = 3 then m.orBits spPin 0x8A 0x0001 else m.plainWrite spPin (pinOff n 1) v

/-- An SLP write: STATE 6 or 7 discards it and sets PINERR.CFG; else the AON copy follows (R551, R552). -/
def Chip.writeSlp (m : Chip) (n : Nat) (v : Word) : Chip :=
  if 6 ≤ fld v 0 3 then m.orBits spPin 0x8A 0x0001
  else
    let m := m.plainWrite spPin (pinOff n 2) v
    { m with pins := { m.pins with slp := upd m.pins.slp n (fun _ => m.rd spPin (pinOff n 2)) } }

/-- A THCFG write: THLIM above 125 discards it (R563). -/
def Chip.writeThcfg (m : Chip) (v : Word) : Chip := if 125 < fld v 0 8 then m else m.plainWrite spPin 0x8B v

/-- A write to a PIN space word. -/
def Chip.writePin (m : Chip) (off : Nat) (v : Word) : Chip :=
  if off < 0x80 then
    match off % 4 with
    | 0 => m.writePcfg (off / 4) v
    | 1 => m.writePad (off / 4) v
    | 2 => m.writeSlp (off / 4) v
    | _ => m
  else if off = 0x80 then m.writeGpstg v
  else if off = 0x8B then m.writeThcfg v
  else m.plainWrite spPin off v

/-- The read of a PIN space word: staged masks, ENCSTAT.VALID (R543, R547). -/
def Chip.readPin (m : Chip) (off : Nat) : Word :=
  match off with
  | 0x81 => half m.pins.sset false
  | 0x82 => half m.pins.sset true
  | 0x83 => half m.pins.sclr false
  | 0x84 => half m.pins.sclr true
  | 0x85 => half m.pins.stgl false
  | 0x86 => half m.pins.stgl true
  | 0x88 => setBit (m.rd spPin 0x88) 15 (decide (m.fsel 8 = 5) && decide (m.fsel 9 = 5))
  | _ => m.rd spPin off

/-! ## Sleep states -/

/-- The pin is an output at present that drives a level. -/
def Chip.isOutput (m : Chip) (n : Nat) : Bool := !m.highZ n

/-- A 32-bit mask of the pins that satisfy a test. -/
def pinMask32 (f : Nat → Bool) : BitVec 32 := BitVec.ofNat 32 ((List.range 32).map (fun n => b2n (f n) * 2 ^ n)).sum

/-- The pins take the sleep states of the AON copy (R551); which pins drive at that moment, and their levels, are
recorded for STATE 5. -/
def Chip.pinsSleep (m : Chip) : Chip :=
  { m with pins := { m.pins with
      asleep := true
      heldDrive := pinMask32 m.isOutput
      heldLevel := pinMask32 m.drives } }

/-- The level at a pin that the sleep states drive (R551): none where the pin floats or has only a pull. -/
def Chip.sleepDrive (m : Chip) (n : Nat) : Option Bool :=
  match fld (m.pins.slp.getD n 0) 0 3 with
  | 3 => some false
  | 4 => some true
  | 5 => if m.pins.heldDrive.getLsbD n then some (m.pins.heldLevel.getLsbD n) else none
  | _ => none

/-! ## Commands -/

/-- GPIOSET: a host write of GPIOSETx (R546). -/
def execGpioset (hi : Bool) (v : Word) (s : State) : Host.Outcome State Fault Refusal :=
  hostWrite s 0 (if hi then 0x25 else 0x24) (·.gpioSet hi v)

/-- GPIOCLR: a host write of GPIOCLRx (R546). -/
def execGpioclr (hi : Bool) (v : Word) (s : State) : Host.Outcome State Fault Refusal :=
  hostWrite s 0 (if hi then 0x27 else 0x26) (·.gpioClr hi v)

/-- GPIOTGL: a host write of GPIOTGLx (R546). -/
def execGpiotgl (hi : Bool) (v : Word) (s : State) : Host.Outcome State Fault Refusal :=
  hostWrite s 0 (if hi then 0x29 else 0x28) (·.gpioTgl hi v)

/-- ENC_A_EDGE: ENC_A rises with ENC_B at the given level; DIR follows, and a change counts in REVCNT, while both pins
are muxed to the encoder functions and CORE is clocked (R543). -/
def execEncAEdge (bHigh : Bool) (s : State) : Host.Outcome State Fault Refusal :=
  let m := s.chip
  guarded s (m.pw.core && decide (m.fsel 8 = 5) && decide (m.fsel 9 = 5))
    (let old := tst (m.rd spPin 0x88) 14
     let m := m.wr spPin 0x88 (setBit (m.rd spPin 0x88) 14 bHigh)
     if old = bHigh then m else m.bump spPin 0x89 1)

/-! ## Event registers -/

/-- Clear EVSTAT bits of one half; a raise of the same cycle prevails (R10, R557). -/
def Chip.clearEvents (m : Chip) (hi : Bool) (v : Word) : Chip := m.w1c 0 (if hi then 0x14 else 0x13) v

/-- The number of the lowest pending enabled event (R559). -/
def Chip.topEvent (m : Chip) : Option Nat :=
  (List.range 32).find? (fun n => tst (m.rd 0 (0x13 + n / 16)) (n % 16) && tst (m.rd 0 (0x15 + n / 16)) (n % 16))

/-- The EVVEC read word (R559). -/
def Chip.evvec (m : Chip) : Word :=
  match m.topEvent with
  | some n => wd n
  | none => 0x8000

/-- An EVVEC write: 0x0000-0x001F clears that event, any other word is discarded (R559). -/
def Chip.writeEvvec (m : Chip) (v : Word) : Chip :=
  if v.toNat < 32 then m.w1c 0 (0x13 + v.toNat / 16) (bitW (v.toNat % 16)) else m

/-- EVSTAT_CLEAR (R557). -/
def execEvstatClear (hi : Bool) (v : Word) (s : State) : Host.Outcome State Fault Refusal :=
  hostWrite s 0 (if hi then 0x14 else 0x13) (·.clearEvents hi v)

/-- EVEN_WRITE (R558). -/
def execEvenWrite (hi : Bool) (v : Word) (s : State) : Host.Outcome State Fault Refusal :=
  hostWrite s 0 (if hi then 0x16 else 0x15) (fun m => m.plainWrite 0 (if hi then 0x16 else 0x15) v)

/-- EVVEC_WRITE (R559). -/
def execEvvecWrite (v : Word) (s : State) : Host.Outcome State Fault Refusal :=
  hostWrite s 0 0x17 (·.writeEvvec v)

/-- THERMAL_SAMPLE: the two codes of the millisecond; TMAX, WARN and THERMAL_WARN (R563). A code is 16 per degree from
-64 degrees. -/
def execThermalSample (t0 t1 : Nat) (s : State) : Host.Outcome State Fault Refusal :=
  let m := s.chip
  let t := max (t0 % 4096) (t1 % 4096)
  let lim := 16 * (fld (m.rd spPin 0x8B) 0 8 + 64)
  let was := tst (m.rd spPin 0x8C) 15
  let warn := decide (lim < t) || (was && !decide (t + 80 < lim))
  let m := { m with cal := { m.cal with temp0 := some (t0 % 4096) } }
  guarded s m.pw.core
    ((m.wr spPin 0x8C (wd (t + (if warn then 0x8000 else 0)))).raiseIf (warn && !was) evThermalWarn)

end Sys2Proof.Machine
end

