-- ==== Sys2Proof/Machine/Pool.lean ====
section
/-! DEFINITION. The Silt pool, its streams and the packet mover (chapter 15): buffer requests and refusals (R465-R469),
records and frames on a stream (R470-R474, R519, R520), and the mover channels (R475-R478). -/

namespace Sys2Proof.Machine

/-! ## Enable bits -/

/-- The EN pattern of R463, R473, R478, R502 and R312: a write of EN against ACT, PEND and the old EN gives whether the
unit starts, the new PEND, and whether a shut-down begins. -/
def enPattern (act pend oldEn newEn : Bool) : Bool × Bool × Bool :=
  (newEn && !act, newEn && act && (pend || !oldEn), oldEn && !newEn && act)

/-! ## Buffers -/

/-- Stream s. -/
def Chip.stream (m : Chip) (s : Nat) : Stream := m.streams.getD s Stream.reset

/-- Change stream s. -/
def Chip.mapStream (m : Chip) (s : Nat) (f : Stream → Stream) : Chip := { m with streams := upd m.streams s f }

/-- Buffers held (R466): the groups and the Drift ring (R281). -/
def Stream.used (t : Stream) : Nat := t.ring + (t.bufs.map Buf.weight).sum

/-- RES of stream s. -/
def Chip.resOf (m : Chip) (s : Nat) : Nat := fld (m.rd spPool (streamOff s 1)) 0 11

/-- MAX of stream s. -/
def Chip.maxOf (m : Chip) (s : Nat) : Nat := fld (m.rd spPool (streamOff s 2)) 0 11

/-- The sum of RES. -/
def Chip.resSum (m : Chip) : Nat := ((List.range 8).map m.resOf).sum

/-- The free shared buffers: those not in any RES less those the streams hold beyond their RES. -/
def Chip.sharedFree (m : Chip) : Nat :=
  1024 - m.resSum - ((List.range 8).map (fun s => (m.stream s).used - m.resOf s)).sum

/-- The free buffers, reserved and shared. -/
def Chip.poolFree (m : Chip) : Nat := 1024 - ((List.range 8).map (fun s => (m.stream s).used)).sum

/-- A request of n buffers can be granted (R466): the part beyond the reservation comes from the shared buffers, within
MAX. -/
def Chip.room (m : Chip) (s n : Nat) : Bool :=
  let used := (m.stream s).used
  let extra := n - (m.resOf s - used)
  extra == 0 || (decide (used + n ≤ m.maxOf s) && decide (extra ≤ m.sharedFree))

/-- POOL_LOW when the free shared buffers fall below LOWMARK (R469). -/
def Chip.lowCheck (before after : Chip) : Chip :=
  let mark := fld (after.rd spPool 0) 0 11
  after.raiseIf (decide (mark ≤ before.sharedFree) && decide (after.sharedFree < mark)) evPoolLow

/-- PEAK follows the largest USED. -/
def Chip.peak (m : Chip) (s : Nat) : Chip :=
  let o := streamOff s 5
  m.wr spPool o (wd (max (m.rd spPool o).toNat (m.stream s).used))

/-- Take a new buffer group for a record of sz bytes. -/
def Chip.newGroup (m : Chip) (s sz : Nat) : Option (Chip × Nat) :=
  let n := (sz + 16383) / 16384
  let t := m.stream s
  if m.room s n then
    let m' := m.mapStream s (fun t => { t with bufs := t.bufs ++ [⟨t.nextBuf, n, sz, 1⟩], nextBuf := t.nextBuf + 1 })
    some ((Chip.lowCheck m m').peak s, t.nextBuf)
  else none

/-- Find space for a record of sz bytes, descriptor included: the open buffer where it fits, else a new group (R465). -/
def Chip.place (m : Chip) (s sz : Nat) : Option (Chip × Nat) :=
  match (m.stream s).bufs.getLast? with
  | some b =>
    if b.weight = 1 ∧ b.used + sz ≤ 16384 then
      some (m.mapStream s (fun t => { t with bufs := t.bufs.dropLast ++ [{ b with used := b.used + sz, live := b.live + 1 }] }),
        b.num)
    else m.newGroup s sz
  | none => m.newGroup s sz

/-- STREAMEN.EN of stream s. -/
def Chip.streamEn (m : Chip) (s : Nat) : Bool := tst (m.rd 0 0x3B) s

/-- A shut-down ends when the stream holds no buffer, no held request and no open frame: ACT clears, and PEND restarts it
(R473). -/
def Chip.streamIdle (m : Chip) (s : Nat) : Chip :=
  let t := m.stream s
  if t.act && (t.pend || !m.streamEn s) && t.used == 0 && t.held.isEmpty && t.frames.isEmpty then
    m.mapStream s (fun t => { t with act := t.pend, pend := false })
  else m

/-- Every shut-down whose stream holds nothing any more ends. -/
def Chip.streamsIdle (m : Chip) : Chip := (List.range 8).foldl (fun m s => m.streamIdle s) m

/-- One record of a group has gone; the group is freed with its last record (R470). -/
def Chip.freeRec (m : Chip) (s g : Nat) : Chip :=
  (m.mapStream s (fun t => { t with
    bufs := (t.bufs.map (fun b => if b.num = g then { b with live := b.live - 1 } else b)).filter
      (fun b => b.num != g || b.live != 0) })).streamIdle s

/-! ## Frames on a stream -/

/-- The record belongs to the frame. -/
def Rec.ofFrame (r : Rec) (f : Frame) : Bool :=
  r.framed && r.fn == f.fn && (if r.src = 10 then decide (f.src ≤ 1) else r.src == f.src && r.ctx == f.ctx)

/-- Change the frames that satisfy a test. -/
def Chip.mapFrames (m : Chip) (s : Nat) (p : Frame → Bool) (g : Frame → Frame) : Chip :=
  m.mapStream s (fun t => { t with frames := t.frames.map (fun f => if p f then g f else f) })

/-- Set frame-end flag bits of a record's frame. -/
def Chip.flagFrame (m : Chip) (s : Nat) (r : Rec) (bits : Word) : Chip :=
  m.mapFrames s (fun f => r.ofFrame f) (fun f => { f with flags := f.flags ||| bits })

/-- Frame-end flag bits (R524). -/
abbrev flSupply : Word := 0x0001
abbrev flLane : Word := 0x0002
abbrev flAborted : Word := 0x0008
abbrev flStall : Word := 0x0010
abbrev flStripovf : Word := 0x0020
abbrev flCamerr : Word := 0x0040
abbrev flShort : Word := 0x0080
abbrev flLoss : Word := 0x0100
abbrev flSealerr : Word := 0x0200

/-! ## Mover contents -/

/-- Queue entries an HKC copy takes: those present, at most MAXENT (R476). -/
def Chip.moverTake (m : Chip) (c : Nat) : Nat := min (fld (m.rd spPool (moverOff c 0)) 0 7) m.hkc.queue.length

/-- The 12 bytes of a queue entry (R525). -/
def entryBytes (e : Word × Word × Tick) : List Byte := bytes2 e.1 ++ bytes2 e.2.1 ++ bytesN e.2.2.toNat 8

/-- Fault records added since the channel's last copy. -/
def Chip.moverNew (m : Chip) (c : Nat) : Nat :=
  ((m.rd spFault 0).toNat + 65536 - (m.movers.getD c Mover.reset).from_.toNat) % 65536

/-- The 32 bytes of the fault record with sequence number q. -/
def Chip.faultBytes (m : Chip) (q : Nat) : List Byte :=
  (List.range 16).flatMap (fun w => bytes2 (m.rd spFault (0x100 + 0x10 * (q % 32) + w)))

/-- The payload of a copy of channel c as it stands now: HKC entries (source code 7) or fault records (R476, R477). -/
def Chip.moverPayload (m : Chip) (c src : Nat) : List Byte :=
  if src = 7 then (m.hkc.queue.take (m.moverTake c)).flatMap entryBytes
  else
    let n := min (m.moverNew c) 32
    (List.range n).flatMap (fun i => m.faultBytes ((m.rd spFault 0).toNat + 65536 - n + i))

/-- The copy has got its space: the entries leave the queue (R215, R476), or the copied records are marked (R477). -/
def Chip.moverTaken (m : Chip) (c src : Nat) : Chip :=
  if src = 7 then { m with hkc := { m.hkc with queue := m.hkc.queue.drop (m.moverTake c) } }
  else
    let m' := m.bump spPool (moverOff c 4) (m.moverNew c - 32)
    { m' with movers := upd m'.movers c (fun x => { x with from_ := m.rd spFault 0 }) }

/-! ## Offering records -/

/-- Who decides about a refused request. -/
inductive Refused where
  /-- the stream's POLICY and HOLDLIM (R22) -/
  | policy
  /-- held until granted (R520) -/
  | forever
  /-- readout pauses and repeats the request (R21) -/
  | readout
  deriving DecidableEq, Repr

/-- A row of a memory pass from its stored record. -/
def Rec.toRow (r : Rec) (s : Nat) : PRow :=
  { src := r.src - 1, id := r.ctx, fn := r.fn, plane := r.stratum, row := ofBytes (r.lineStart.take 4),
    stamp := BitVec.ofNat 64 (ofBytes ((r.lineStart.drop 4).take 8)),
    vals := (List.range (r.payload.length / 2)).map (fun i => ofBytes ((r.payload.drop (2 * i)).take 2)),
    left := ofBytes ((r.lineStart.drop 12).take 2), bl := [], store := some (s, r.buf) }

/-- FRAME_END (R562): the last frame-end record of an array frame has been handed to the pool; no stream has the frame
open without its frame end, and none holds it back. -/
def Chip.frameEndCheck (m : Chip) (r : Rec) : Chip :=
  let owes := m.streams.any (fun t =>
    t.frames.any (fun f => f.fn == r.fn && decide (f.src ≤ 1) && !f.endQueued) ||
      t.held.any (fun h => h.1.dt == 2 && h.1.fn == r.fn && decide (h.1.src ≤ 1)))
  m.raiseIf (r.dt == 2 && decide (r.src ≤ 1) && !owes) evFrameEnd

/-- A record has its buffer space: an input row joins the memory passes (R439), every other record its stream (R470); a
waveform block is handed over (R299). -/
def Chip.accepted (m : Chip) (s : Nat) (r : Rec) : Chip :=
  let m := if r.dt = 0 then { m with pipe := { m.pipe with memory := m.pipe.memory ++ [r.toRow s] } }
    else (m.mapStream s (fun t => { t with recs := t.recs ++ [r] })).frameEndCheck r
  let m := match r.chan with
    | some c => if r.src = 7 ∨ r.src = 9 then m.moverTaken c r.src else m
    | none => m
  if r.src = 5 ∨ r.src = 6 then m.raiseIf (tst (m.rd spWave (waveOff (r.src - 5) 4)) 15) evWaveBlock else m

/-- The bytes a record occupies (R465). -/
def Rec.bytes (r : Rec) : Nat := r.payload.length + 64

/-- A record is dropped (R469): STREAM_DROP, POOLSTAT.DROP, DROPCNT, and LOSS on its frame. -/
def Chip.dropRec (m : Chip) (s : Nat) (r : Rec) : Chip :=
  (((m.raise evStreamDrop).orBits 0 0x3A 0x2000).bump spPool (streamOff s 7) 1).flagFrame s r flLoss

/-- A refused request (R469): POOL_NOBUF, POOLSTAT.NOBUF, REFCNT; then it is held or dropped (R21, R22, R468, R520). -/
def Chip.refuse (m : Chip) (s : Nat) (r : Rec) (w : Refused) : Chip :=
  let m := ((m.raise evPoolNobuf).orBits 0 0x3A 0x4000).bump spPool (streamOff s 6) 1
  let hold := m.mapStream s (fun t => { t with held := t.held ++ [(r, 0, w == .forever, w == .readout)] })
  match w with
  | .forever => hold
  | .readout => { hold with cc := { hold.cc with cap := hold.cc.cap.map (fun c => { c with pausedPool := true }) } }
  | .policy => if tst (m.rd spPool (streamOff s 0)) 15 then m.dropRec s r else hold

/-- The stream accepts the record (R473, R474): it is active, and where EN is 0 the record belongs to a frame already
started; a framed record needs its frame. -/
def Chip.accepts (m : Chip) (s : Nat) (r : Rec) : Bool :=
  let t := m.stream s
  t.act && (if r.framed && r.dt != 1 then t.frames.any (fun f => r.ofFrame f) else m.streamEn s && !t.pend)

/-- Offer a record to stream s: discarded into OFFCNT where the stream does not accept it (R474), silently where its frame
was cut by a lane fault (R508); else it gets its space or is refused. A request behind a held one of its stream is
refused as well, so that records keep their order (R465). -/
def Chip.offer (m : Chip) (s : Nat) (r : Rec) (w : Refused) : Chip :=
  if m.accepts s r then
    if r.dt != 2 && (m.stream s).frames.any (fun f => r.ofFrame f && f.cut) then m
    else if (m.stream s).held.isEmpty then
      match m.place s r.bytes with
      | some (m', g) => m'.accepted s { r with buf := g }
      | none => m.refuse s r w
    else m.refuse s r w
  else m.bump spPool (streamOff s 8) 1

/-- A frame starts on stream s with its frame-start record (R519, R520); under a supply warning it carries SUPPLY (R94). -/
def Chip.openFrame (m : Chip) (s : Nat) (f : Frame) (r : Rec) : Chip :=
  let f := if m.warn then { f with flags := f.flags ||| flSupply } else f
  if m.accepts s r then (m.mapStream s (fun t => { t with frames := t.frames ++ [f] })).offer s r .forever
  else m.bump spPool (streamOff s 8) 1

/-- The frame-end record of a frame is formed and offered (R520, R523): its payload begins with TEND; the rest is
filled in as its packet starts, so only its length counts here. -/
def Chip.endFrame (m : Chip) (s : Nat) (f : Frame) : Chip :=
  let strips := min f.strips.length 8
  let len := 8 + 16 * strips + (if tst (m.rd spSeal (0x10 + s)) 15 then 16 else 0)
  let r : Rec :=
    { dt := 2, fn := f.fn, ctx := f.ctx, src := f.src, stratum := 0, window := 0, odt := 0,
      lineStart := [], payload := bytesN m.now.toNat 8 ++ List.replicate len 0, framed := true, sent := 0, buf := 0,
      chan := none }
  (m.mapFrames s (fun g => g == f) (fun g => { g with endAsked := true, endQueued := true })).offer s r .forever

/-- The first held request that satisfies a test, with the rest. -/
def splitHeld (p : Rec × Tick × Bool × Bool → Bool) :
    List (Rec × Tick × Bool × Bool) → Option ((Rec × Tick × Bool × Bool) × List (Rec × Tick × Bool × Bool))
  | [] => none
  | h :: t => if p h then some (h, t) else (splitHeld p t).map (fun x => (x.1, h :: x.2))

/-- Drop the first held request that satisfies a test. -/
def Chip.dropHeld (m : Chip) (s : Nat) (p : Rec × Tick × Bool × Bool → Bool) : Chip :=
  match splitHeld p (m.stream s).held with
  | none => m
  | some (h, rest) => ((m.mapStream s (fun t => { t with held := rest })).dropRec s h.1).streamIdle s

/-- The record of a held request as it would be formed now (a mover copy takes what is present, R476). -/
def Chip.refresh (m : Chip) (r : Rec) : Rec :=
  match r.chan with
  | some c => if r.src = 7 ∨ r.src = 9 then { r with payload := m.moverPayload c r.src, fn := m.cc.lastFn } else r
  | none => r

/-- Repeat the oldest held request of stream s (R468); a mover copy that has nothing left to send goes, and a repeated
refusal raises POOL_NOBUF again (R469). -/
def Chip.grantHead (m : Chip) (s : Nat) : Chip :=
  match (m.stream s).held with
  | [] => m
  | h :: rest =>
    let r := m.refresh h.1
    let m' := m.mapStream s (fun t => { t with held := rest })
    if r.chan.isSome && r.payload.isEmpty then m'.streamIdle s
    else
      match m'.place s r.bytes with
      | some (m'', g) => m''.accepted s { r with buf := g }
      | none => (m.raise evPoolNobuf).orBits 0 0x3A 0x4000

/-! ## Statistics packets -/

/-- A word of a set. -/
def setWord (b : Bank) (o : Nat) : Word := Bank.get b (key spStat o)

/-- Words as bytes. -/
def setBytes (b : Bank) (o n : Nat) : List Byte := (List.range n).flatMap (fun i => bytes2 (setWord b (o + i)))

/-- The 16-byte header of a statistics packet. -/
def statHeader (b : Bank) (k kind : Nat) : List Byte :=
  let info := setWord b 0x102
  setBytes b 0x100 2 ++ setBytes b 0x104 4 ++
    [BitVec.ofNat 8 (fld info 12 4 + 16 * fld info 10 2), BitVec.ofNat 8 (k + 4 * fld info 0 3), BitVec.ofNat 8 kind,
     BitVec.ofNat 8 (fld (setWord b 0x103) 0 2)]

/-- The packets of a set (R449): one per kind and stratum, and one for the MRZ values. The word at 0x00F0 of the set, which
no map shows, holds the kinds gathered. -/
def statPackets (b : Bank) (chan : Option Nat) : List Rec :=
  let kinds := setWord b 0xF0
  let info := setWord b 0x102
  let one := fun (k kind : Nat) (body : List Byte) =>
    ({ dt := 0x30, fn := BitVec.ofNat 32 (ofBytes (setBytes b 0x100 2)), ctx := fld info 12 4, src := 8, stratum := k,
       window := 0, odt := 0, lineStart := [], payload := statHeader b k kind ++ body, framed := false, sent := 0,
       buf := 0, chan := chan } : Rec)
  let of := fun (kind : Nat) (f : Nat → List Byte) =>
    if tst kinds kind then ((List.range 4).filter (fun k => tst info (4 + k))).map (fun k => one k kind (f k)) else []
  of 0 (fun k => setBytes b (0x1000 + 0x1000 * k) 512) ++ of 1 (fun k => setBytes b (0x1200 + 0x1000 * k) 768) ++
    of 2 (fun k => setBytes b (0x1500 + 0x1000 * k) 192) ++ of 3 (fun k => setBytes b (0x110 + 0x10 * k) 10) ++
    (if tst kinds 4 then [one 0 4 (setBytes b 0x109 6)] else [])

/-- The front set. -/
def Chip.frontSet (m : Chip) : Bank := m.regs.filter (fun c => decide (key spStat 0xF0 ≤ c.1) && decide (c.1 < key spStat 0x5000))

/-- A set becomes the front bank (R448). -/
def Chip.setFront (m : Chip) (b : Bank) : Chip :=
  { m with regs := Bank.putAll (Bank.keepIf m.regs (fun k => decide (k < key spStat 0xF0) || decide (key spStat 0x5000 ≤ k))) b }

/-- A STAT copy holds the front bank (R477). -/
def Chip.statHeld (m : Chip) : Bool := m.movers.any (fun x => x.stat)

/-- The waiting set becomes the front bank, unless LOCK or a copy holds the front (R448, R477). -/
def Chip.frontUpdate (m : Chip) : Chip :=
  match m.pipe.waiting with
  | some b =>
    if tst (m.rd spStat 0) 15 || m.statHeld then m
    else { m.setFront b with pipe := { m.pipe with waiting := none } }
  | none => m

/-! ## The packet mover -/

/-- Mover channel c. -/
def Chip.mover (m : Chip) (c : Nat) : Mover := m.movers.getD c Mover.reset

/-- Change mover channel c. -/
def Chip.mapMover (m : Chip) (c : Nat) (f : Mover → Mover) : Chip := { m with movers := upd m.movers c f }

/-- The records that a copy of channel c sends now. -/
def Chip.moverRecs (m : Chip) (c : Nat) : List Rec :=
  let kind := fld (m.rd spPool (moverOff c 0)) 12 2
  let src := if kind = 0 then 7 else 9
  let one : Rec :=
    { dt := if kind = 0 then 0x31 else 0x34, fn := m.cc.lastFn, ctx := 15, src := src, stratum := 0,
      window := 0, odt := 0, lineStart := [], payload := m.moverPayload c src, framed := false, sent := 0, buf := 0,
      chan := some c }
  if kind = 2 then statPackets m.frontSet (some c) else if one.payload.isEmpty then [] else [one]

/-- A record of channel c's copy is still held or unsent. -/
def Chip.moverOwes (m : Chip) (c : Nat) : Bool :=
  m.streams.any (fun t => t.recs.any (fun r => r.chan == some c) || t.held.any (fun h => h.1.chan == some c)) ||
    (match m.link.flight with
      | some f => f.chan == some c
      | none => false)

/-- A copy starts (R476, R477): an empty source sends nothing; a STAT copy holds the front bank. -/
def Chip.moverStart (m : Chip) (c : Nat) : Chip :=
  let s := fld (m.rd spPool (moverOff c 0)) 8 3
  let m := (m.moverRecs c).foldl (fun m r => m.offer s r .policy) m
  let b := m.moverOwes c
  m.mapMover c (fun x => { x with busy := b, stat := b && fld (m.rd spPool (moverOff c 0)) 12 2 == 2 })

/-- A request of channel c: ignored where the channel is not enabled, held or merged while it is busy (R475). -/
def Chip.moverRequest (m : Chip) (c : Nat) : Chip :=
  let x := m.mover c
  if x.act && tst (m.rd spPool (moverOff c 0)) 15 && !x.pend && m.pw.pipe then
    if x.busy then
      if x.heldReq then m.bump spPool (moverOff c 3) 1 else m.mapMover c (fun x => { x with heldReq := true })
    else m.moverStart c
  else m

/-- The copy has ended: a STAT copy gives the front bank back; a shut-down ends or the held request starts (R475-R478). -/
def Chip.moverDone (m : Chip) (c : Nat) : Chip :=
  let m := (m.mapMover c (fun x => { x with busy := false, stat := false })).frontUpdate
  let x := m.mover c
  if !tst (m.rd spPool (moverOff c 0)) 15 || x.pend then
    m.mapMover c (fun x => { x with act := x.pend, pend := false, heldReq := false })
  else if x.heldReq then (m.mapMover c (fun x => { x with heldReq := false })).moverStart c
  else m

/-- The rise of HKC_THRESH requests the HKC channels with THRTRIG; a new fault record the FAULT channels (R475). -/
def Chip.thrTrig (m : Chip) (kind : Nat) : Chip :=
  (List.range 4).foldl (fun m c =>
    if tst (m.rd spPool (moverOff c 0)) 14 && fld (m.rd spPool (moverOff c 0)) 12 2 == kind then m.moverRequest c else m) m

/-! ## Writes of the POOL space -/

/-- A write of RES (R471). -/
def Chip.writeRes (m : Chip) (s : Nat) (v : Word) : Chip :=
  if (m.stream s).act || decide (1024 < m.resSum - m.resOf s + fld v 0 11) then m.orBits spPool 3 1
  else m.plainWrite spPool (streamOff s 1) v

/-- A write of MAX (R471). -/
def Chip.writeMax (m : Chip) (s : Nat) (v : Word) : Chip :=
  if (m.stream s).act then m.orBits spPool 3 1 else m.plainWrite spPool (streamOff s 2) v

/-- A write of MCFG: SRC 0b11 or MAXENT outside 1-64 discards it; EN follows R478. -/
def Chip.writeMcfg (m : Chip) (c : Nat) (v : Word) : Chip :=
  if fld v 12 2 = 3 ∨ fld v 0 7 = 0 ∨ 64 < fld v 0 7 then m
  else
    let x := m.mover c
    let r := enPattern x.act x.pend (tst (m.rd spPool (moverOff c 0)) 15) (tst v 15)
    let m := m.plainWrite spPool (moverOff c 0) v
    m.mapMover c (fun x => { x with act := r.1 || (x.act && !(r.2.2 && !x.busy)), pend := r.2.1, heldReq := x.heldReq && !r.2.2 })

/-- A write to a word of the POOL space. -/
def Chip.writePool (m : Chip) (off : Nat) (v : Word) : Chip :=
  if 0x100 ≤ off ∧ off < 0x180 then
    match off % 16 with
    | 1 => m.writeRes ((off - 0x100) / 16) v
    | 2 => m.writeMax ((off - 0x100) / 16) v
    | 3 => if v = 0 then m else m.plainWrite spPool off v
    | _ => m.plainWrite spPool off v
  else if 0x200 ≤ off ∧ off < 0x240 then
    match off % 16 with
    | 0 => m.writeMcfg ((off - 0x200) / 16) v
    | 1 => if tst v 0 then m.moverRequest ((off - 0x200) / 16) else m
    | _ => m.plainWrite spPool off v
  else m.plainWrite spPool off v

/-- The read of a word of the POOL space. -/
def Chip.readPool (m : Chip) (off : Nat) : Word :=
  if 0x100 ≤ off ∧ off < 0x180 then
    let t := m.stream ((off - 0x100) / 16)
    match off % 16 with
    | 0 => setBit (m.rd spPool off) 14 (!t.held.isEmpty)
    | 4 => wd t.used
    | 9 => setBit 0 14 t.pend
    | _ => m.rd spPool off
  else if 0x200 ≤ off ∧ off < 0x240 then
    let x := m.mover ((off - 0x200) / 16)
    match off % 16 with
    | 2 => setBit (setBit (setBit (setBit 0 15 x.act) 14 x.pend) 13 x.busy) 12 x.heldReq
    | _ => m.rd spPool off
  else
    match off with
    | 1 => wd m.sharedFree
    | 2 => wd m.resSum
    | _ => m.rd spPool off

/-- POOLSTAT: LOW and FREE are live. -/
def Chip.readPoolstat (m : Chip) : Word :=
  setBit (merge (m.rd 0 0x3A) 0x07FF (wd m.poolFree)) 15 (decide (m.sharedFree < fld (m.rd spPool 0) 0 11))

/-- STREAMEN: ACT is live. -/
def Chip.readStreamen (m : Chip) : Word :=
  (List.range 8).foldl (fun w s => setBit w (8 + s) (m.stream s).act) (m.rd 0 0x3B &&& 0x00FF)

/-- A STREAMEN write (R473). -/
def Chip.writeStreamen (m : Chip) (v : Word) : Chip :=
  let old := m.rd 0 0x3B
  let m := m.plainWrite 0 0x3B v
  (List.range 8).foldl (fun m s =>
    let t := m.stream s
    let r := enPattern t.act t.pend (tst old s) (tst v s)
    (m.mapStream s (fun t => { t with act := t.act || r.1, pend := r.2.1 })).streamIdle s) m

/-! ## Commands -/

/-- POOL_HOLD_GRANT: the oldest held request of a stream is repeated and granted where there is room (R468, R520); a
request for which readout is paused waits for READOUT_RESUME. -/
def execPoolHoldGrant (st : Fin 8) (s : State) : Host.Outcome State Fault Refusal :=
  guarded s (s.chip.pw.pipe && (s.chip.stream st.val).held.head?.any (fun h => !h.2.2.2))
    (s.chip.grantHead st.val)

/-- HOLDLIM_EXPIRY: the oldest droppable held request has waited HOLDLIM microseconds of the PIPE clocks and is dropped (R468). -/
def execHoldlimExpiry (st : Fin 8) (s : State) : Host.Outcome State Fault Refusal :=
  let m := s.chip
  let lim := 100 * (m.rd spPool (streamOff st.val 3)).toNat
  guarded s m.pw.pipe
    (m.dropHeld st.val (fun h => !h.2.2.1 && !h.2.2.2 && decide (lim ≤ h.2.1.toNat)))

/-- STREAM_EN_WRITE (R473). -/
def execStreamEnWrite (v : Word) (s : State) : Host.Outcome State Fault Refusal := hostWrite s 0 0x3B (·.writeStreamen v)

/-- MOVER_REQUEST: MCMD.REQ or another request of the channel (R475). -/
def execMoverRequest (m : Fin 4) (s : State) : Host.Outcome State Fault Refusal := done s (s.chip.moverRequest m.val)

/-- MOVER_COPY_COMPLETE: the channel's packets are sent (R475, R476). -/
def execMoverCopyComplete (m : Fin 4) (s : State) : Host.Outcome State Fault Refusal :=
  guarded s ((s.chip.mover m.val).busy && !s.chip.moverOwes m.val) (s.chip.moverDone m.val)

/-- READOUT_RESUME: every waiting row of the array capture gets its space, as far as there is room, and readout continues
when none waits (R21). -/
def execReadoutResume (s : State) : Host.Outcome State Fault Refusal :=
  let grantAll := fun (m : Chip) (st : Nat) =>
    (m.stream st).held.foldl (fun m _ => if (m.stream st).held.head?.any (fun h => h.2.2.2) then m.grantHead st else m) m
  let m := (List.range 8).foldl grantAll s.chip
  let waits := m.streams.any (fun t => t.held.any (fun h => h.2.2.2))
  guarded s s.chip.pw.pipe
    { m with cc := { m.cc with cap := m.cc.cap.map (fun c => { c with pausedPool := c.pausedPool && waits }) } }

end Sys2Proof.Machine
end

