-- ==== Sys2Proof/Machine/Faults.lean ====
section
/-! DEFINITION. The fault ring (chapter 19): adding a record (R564-R567), a refused locked write (R59), FACK. -/

namespace Sys2Proof.Machine

/-- FRAMENUM of the running capture, 0 when none runs (R565). -/
def Chip.runFn (m : Chip) : Nat :=
  match m.cc.cap with
  | some c => c.fn.toNat
  | none => 0

/-- The sixteen words of a byte record, padded with zero bytes. -/
def recordWords (b : List Byte) : List Word :=
  (List.range 16).map (fun i => wd (ofBytes [b.getD (2 * i) 0, b.getD (2 * i + 1) 0]))

/-- How many records at the ring's end a new one precedes: those of its cycle with a greater code (R564) that no mover
channel has copied. -/
def Chip.recordMoves (m : Chip) (code : Nat) : Nat :=
  (List.range 4).foldl (fun k c => min k (m.moverNew c)) (m.cyc.codes.takeWhile (fun c => decide (code < c))).length

/-- The record with sequence number q makes room: it takes the next number. -/
def Chip.moveRecord (m : Chip) (q : Nat) : Chip :=
  m.wrList spFault (0x100 + 0x10 * ((q + 1) % 32))
    (wd (q + 1) :: (List.range 15).map (fun w => m.rd spFault (0x101 + 0x10 * (q % 32) + w)))

/-- Write one record into the ring (R564, R566), those of one cycle in ascending order of code; a FAULT mover channel with
THRTRIG is requested (R475). -/
def Chip.writeRecordFn (m : Chip) (code : Nat) (detail : List Byte) (late : Bool) (fn : Nat) : Chip :=
  let q := (m.rd spFault 0).toNat
  let full := decide (32 ≤ (q + 65536 - (m.rd spFault 1).toNat) % 65536)
  let k := m.recordMoves code
  let place := q + 65536 - k
  let body := bytesN place 2 ++ [BitVec.ofNat 8 code, if late then 1 else 0] ++ bytesN m.tb.stb.toNat 8 ++
    bytesN fn 4 ++ detail
  let m := (List.range k).foldl (fun m i => m.moveRecord (q + 65535 - i)) m
  let m := { m with cyc := { m.cyc with codes := m.cyc.codes.take k ++ code :: m.cyc.codes.drop k } }
  let m := m.wrList spFault (0x100 + 0x10 * (place % 32)) (recordWords body)
  let m := m.wr spFault 0 (wd (q + 1))
  let m := m.wr32 spFault 4 (m.rd32 spFault 4 + 1)
  let m := if full then ((m.wr spFault 1 (m.rd spFault 1 + 1)).orBits spFault 2 0x8000).bump spFault 3 1 else m
  m.thrTrig 1

/-- Write one record with the FRAMENUM of the running capture (R565). -/
def Chip.writeRecord (m : Chip) (code : Nat) (detail : List Byte) (late : Bool) : Chip := m.writeRecordFn code detail late m.runFn

/-- Add a fault record: at once while CORE is clocked, else after the next wake with DEFERRED (R567). -/
def Chip.fault (m : Chip) (code : Nat) (detail : List Byte) : Chip :=
  if m.pw.core then m.writeRecord code detail false
  else { m with pw := { m.pw with deferred := { m.pw.deferred with faults := m.pw.deferred.faults ++ [(code, detail)] } } }

/-- A write refused under R58: LOCK_VIOLATION and a LOCKV record (R59). -/
def Chip.lockViolation (m : Chip) (sp off : Nat) (lo hi : Word) (item : Bool) : Chip :=
  (m.fault 0x01 ([BitVec.ofNat 8 sp] ++ bytesN off 3 ++ bytes2 lo ++ bytes2 hi ++ [if item then 1 else 0])).raise
    evLockViolation

/-- A write of FACK: discarded when it would make the unread count exceed 32 or negative (R566). -/
def Chip.writeFack (m : Chip) (v : Word) : Chip :=
  if 32 < (m.rd spFault 0 - v).toNat then m else m.wr spFault 1 v

/-- The read of a FAULT word: FSTAT shows the unread count. -/
def Chip.readFault (m : Chip) (off : Nat) : Word :=
  if off = 2 then m.rd spFault 2 ||| (m.rd spFault 0 - m.rd spFault 1) else m.rd spFault off

end Sys2Proof.Machine
end

