-- ==== Sys2Proof/Machine/Slots.lean ====
section
/-! DEFINITION. The trigger slots of the housekeeping converter: source events, requests, and their drops
(R204-R206, R210, R607). -/

namespace Sys2Proof.Machine

/-- Change the running capture. -/
def Chip.mapCap (m : Chip) (f : Capture → Capture) : Chip := { m with cc := { m.cc with cap := m.cc.cap.map f } }

/-- A regulator whose REGCTL.SLOT names slot s and which is active misses a sample (R190). -/
def Chip.missSlot (m : Chip) (s : Nat) : Chip :=
  (List.range 8).foldl (fun m c =>
    if (m.chans.getD c Channel.reset).act && fld (m.rd spIllum (chanOff c 4)) 8 3 == s then
      m.bump spIllum (chanOff c 0xB) 1
    else m) m

/-- A drop under R206, R208 or R209 (R210): DROPCNT, HKC_DROP, and the regulators' MISSCNT. -/
def Chip.dropSlot (m : Chip) (s : Nat) : Chip := ((m.bump spHkc (slotOff s 6) 1).raise evHkcDrop).missSlot s

/-- The request of slot s. -/
def Chip.slotReq (m : Chip) (s : Nat) : Option HkcReq := m.hkc.reqs.getD s none

/-- Replace the request of slot s. -/
def Chip.setReq (m : Chip) (s : Nat) (r : Option HkcReq) : Chip :=
  { m with hkc := { m.hkc with reqs := upd m.hkc.reqs s (fun _ => r) } }

/-- The slots accept source events (R221): the converter is active, not shutting down, and CORE is clocked. -/
def Chip.slotsOn (m : Chip) : Bool := m.pw.core && m.hkc.act && tst (m.rd spHkc 0) 15 && !m.hkc.pend

/-- A source event reaches slot s at tick t0 (R205, R206); during a block reset of the HKC it creates no request and counts
for the regulators (R570). -/
def Chip.slotEvent (m : Chip) (s : Nat) (t0 : Tick) : Chip :=
  let cfg := m.rd spHkc (slotOff s 0)
  if tst cfg 15 && m.slotsOn then
    if tst (m.rd 0 0x12) 1 then m.missSlot s
    else
      match m.slotReq s with
      | some _ => m.dropSlot s
      | none =>
        let least := if fld (m.rd spHkc (slotOff s 1)) 12 4 = 8 then 4 else 2
        let due := t0 + BitVec.ofNat 64 (max (m.rd spHkc (slotOff s 2)).toNat least)
        m.setReq s (some { due := due, ch := fld cfg 8 4, prio := fld cfg 5 3, drop := tst cfg 14, qen := tst cfg 13, waited := false })
  else m

/-- SSRC.SRC of slot s. -/
def Chip.slotSrc (m : Chip) (s : Nat) : Nat := fld (m.rd spHkc (slotOff s 1)) 12 4

/-- An event of a selected source (strobe edges, stratum openings, pins): every slot that names the source and the
selector gets it (R204). -/
def Chip.sourceEvent (m : Chip) (src sel : Nat) (t0 : Tick) : Chip :=
  (List.range 8).foldl (fun m s =>
    if m.slotSrc s == src && fld (m.rd spHkc (slotOff s 1)) 0 5 == sel then m.slotEvent s t0 else m) m

/-- An event that names its slot (software, action 0x4, Loam): it counts only where the slot's SRC is that source. -/
def Chip.targetEvent (m : Chip) (src s : Nat) (t0 : Tick) : Chip := if m.slotSrc s = src then m.slotEvent s t0 else m

/-- An event without a selector (the Drift step). -/
def Chip.stepEvent (m : Chip) (t0 : Tick) : Chip :=
  (List.range 8).foldl (fun m s => if m.slotSrc s = 7 then m.slotEvent s t0 else m) m

/-- A sample of slot s is outstanding: requested or converting (R194). -/
def Chip.slotBusy (m : Chip) (s : Nat) : Bool := (m.slotReq s).isSome || m.hkc.conv.any (fun c => c.slot == s)

end Sys2Proof.Machine
end

