-- ==== Sys2Proof/Machine/Illum.lean ====
section
/-! DEFINITION. Strobes, ISET levels and the illumination regulators (chapter 6: R183-R199). -/

namespace Sys2Proof.Machine

/-! ## Channels -/

/-- Channel c. -/
def Chip.chan (m : Chip) (c : Nat) : Channel := m.chans.getD c Channel.reset

/-- Change channel c. -/
def Chip.mapChan (m : Chip) (c : Nat) (f : Channel → Channel) : Chip := { m with chans := upd m.chans c f }

/-- STRBSTAT.FLT bit c. -/
def Chip.flt (m : Chip) (c : Nat) : Bool := tst (m.rd spIllum 0) (8 + c)

/-- FLT with FLTOFF holds the strobe low (R199). -/
def Chip.fltHolds (m : Chip) (c : Nat) : Bool := m.flt c && tst (m.rd spIllum (chanOff c 0)) 14

/-- The regulator's ISET value goes to the DAC: at once while the strobe is low, else at its fall (R189, R194). -/
def Chip.regApply (m : Chip) (c : Nat) : Chip :=
  m.mapChan c (fun x => if x.level then { x with waiting := true } else { x with dac := x.reg, waiting := false })

/-- A regulator starts or restarts at REGLO (R194). -/
def Chip.regStart (m : Chip) (c : Nat) : Chip :=
  let lo := (m.rd spIllum (chanOff c 6)).setWidth 10
  (m.mapChan c (fun x => { x with act := true, pend := false, reg := lo })).regApply c

/-- A regulator's shut-down ends when no sample of its slot is outstanding; PEND restarts it (R194). -/
def Chip.regIdle (m : Chip) (c : Nat) : Chip :=
  let x := m.chan c
  let ctl := m.rd spIllum (chanOff c 4)
  if x.act && (x.pend || !tst ctl 15) && !m.slotBusy (fld ctl 8 3) then
    if x.pend then m.regStart c else m.mapChan c (fun x => { x with act := false })
  else m

/-- The shut-downs of all regulators. -/
def Chip.regsIdle (m : Chip) : Chip := (List.range 8).foldl (fun m c => m.regIdle c) m

/-- Bounds that take effect move the present ISET code to the nearer bound (R192); only while the regulator is active: R192
does not say (DESIGN CHOICE, log entry 80). -/
def Chip.boundsApply (m : Chip) (c : Nat) (lo hi : Option (BitVec 10)) : Chip :=
  let m := match lo with
    | some v => m.wr spIllum (chanOff c 6) (v.setWidth 16)
    | none => m
  let m := match hi with
    | some v => m.wr spIllum (chanOff c 7) (v.setWidth 16)
    | none => m
  let l := (m.rd spIllum (chanOff c 6)).toNat
  let h := (m.rd spIllum (chanOff c 7)).toNat
  let fit := fun (v : BitVec 10) => BitVec.ofNat 10 (max l (min h v.toNat))
  m.mapChan c (fun x => if x.act then { x with reg := fit x.reg, dac := fit x.dac } else x)

/-! ## Edges -/

/-- The pin of channel c falls in tick t: the interval is recorded, held bounds and a waiting regulator value take effect
(R189, R192), and the slots see the edge. -/
def Chip.strobeFall (m : Chip) (c : Nat) (t : Tick) : Chip :=
  let x := m.chan c
  if x.level then
    let m := m.mapChan c (fun x => { x with level := false, past := (x.rise, t) :: x.past.take 31, heldLo := none, heldHi := none })
    let m := if x.waiting then m.mapChan c (fun x => { x with dac := x.reg, waiting := false }) else m
    let m := if x.heldLo.isSome || x.heldHi.isSome then m.boundsApply c x.heldLo x.heldHi else m
    m.sourceEvent 4 c t
  else m

/-- The pin of channel c rises in tick t, unless FLT holds it low. -/
def Chip.strobeRise (m : Chip) (c : Nat) (t : Tick) : Chip :=
  if m.fltHolds c || (m.chan c).level then m
  else
    let lim := BitVec.ofNat 32 (m.rd32 spIllum (chanOff c 1))
    (m.mapChan c (fun x => { x with level := true, rise := t, limit := lim })).sourceEvent 3 c t

/-- The source of channel c drives it high or low in tick t (R184, R188). -/
def Chip.strobeDrive (m : Chip) (c : Nat) (on : Bool) (t : Tick) : Chip :=
  let was := (m.chan c).src
  let m := m.mapChan c (fun x => { x with src := on })
  if on then (if was then m else m.strobeRise c t) else m.strobeFall c t

/-- The capture drives the channels of a mask (R183): those whose STRBCFG.SRC is 0; after BLKRST.ILLUM a rise is dark
(R570). -/
def Chip.captureStrobe (m : Chip) (mask : BitVec 8) (on : Bool) (t : Tick) : Chip :=
  let dark := m.cc.cap.any (·.dark)
  (List.range 8).foldl (fun m c =>
    if mask.getLsbD c && !tst (m.rd spIllum (chanOff c 0)) 15 && !(on && dark) then m.strobeDrive c on t else m) m

/-- A timer or compare action on STRBc: 1 high, 2 low, 3 toggle; only while STRBCFG.SRC is 1 (R183) and ILLUM is not in
reset ("Block reset effects"). It takes its place among the drives of the cycle (R127). -/
def Chip.timerStrobe (m : Chip) (rank c op : Nat) : Chip :=
  if tst (m.rd spIllum (chanOff c 0)) 15 && !tst (m.rd 0 0x12) 2 then
    let b := BitVec.ofNat 40 (2 ^ (32 + c))
    let k := m.driveCycle rank (if op = 1 then b else 0) (if op = 2 then b else 0) (if op = 1 ∨ op = 2 then 0 else b)
    Chip.strobeDrive { m with cyc := k } c (k.result.getLsbD (32 + c)) m.now
  else m

/-- Every strobe goes low now. -/
def Chip.strobesLow (m : Chip) : Chip := (List.range 8).foldl (fun m c => m.strobeDrive c false m.now) m

/-- The capture-driven strobes go low now. -/
def Chip.captureLow (m : Chip) : Chip := m.captureStrobe 0xFF false m.now

/-! ## Levels -/

/-- The word of a capture's latched context. -/
def Capture.word (c : Capture) (o : Nat) : Word := Bank.get c.words (key spCtx o)

/-- STRBMASK of stratum k. -/
def Capture.strbMask (c : Capture) (k : Nat) : BitVec 8 := (c.word (0x34 + 0x10 * k)).setWidth 8

/-- REGMASK of stratum k. -/
def Capture.regMask (c : Capture) (k : Nat) : BitVec 8 := (c.word (0x34 + 0x10 * k) >>> 8).setWidth 8

/-- What the ISET pin of channel c carries: its DAC code in RUN, 0 V outside RUN (R196, "RUN to IDLE"). -/
def Chip.isetOut (m : Chip) (c : Nat) : BitVec 10 := if m.pw.isetOn then (m.chan c).dac else 0

/-- The ISET levels of stratum k reach the DACs (R185, R197). -/
def Chip.isetApply (m : Chip) (cap : Capture) (k : Nat) : Chip :=
  (List.range 8).foldl (fun m c =>
    if (cap.strbMask k).getLsbD c then
      let reg := (cap.regMask k).getLsbD c && cap.regAct.getLsbD c && (m.chan c).act
      m.mapChan c (fun x => { x with dac := if reg then x.reg else (cap.word (0x38 + 0x10 * k + c)).setWidth 10, waiting := false })
    else m) m

/-! ## Driver faults -/

/-- Strata of a capture whose mask names channel c. -/
def Capture.lit (cap : Capture) (c : Nat) : BitVec 4 :=
  (List.range 4).foldl (fun w k =>
    if decide (k < fld (cap.word 0) 4 3) && (cap.strbMask k).getLsbD c then w ||| BitVec.ofNat 4 (2 ^ k) else w) 0

/-- The strata of a mask of the running capture carry ILLUM, and CAPSTAT.ILLUM is set (R198). -/
def Chip.flagIllum (m : Chip) (strata : BitVec 4) : Chip :=
  if strata = 0 then m
  else
    let fn := m.cc.cap.map (·.fn)
    let m := { m with pipe := { m.pipe with frames := m.pipe.frames.map (fun (f : PFrame) =>
      if f.src = 0 ∧ some f.fn = fn then { f with illum := f.illum ||| strata } else f) } }
    (m.mapCap (fun x => { x with illum := x.illum ||| strata })).orBits 0 0x2B 0x1000

/-- STRBSTAT.FLT bit c is set and ILLUM_FAULT raised; the running capture's strata that use the channel carry ILLUM; FLTOFF
holds the strobe low (R198, R199). -/
def Chip.setFlt (m : Chip) (c : Nat) : Chip :=
  let m := (m.orBits spIllum 0 (bitW (8 + c))).raise evIllumFault
  let m := match m.cc.cap with
    | some cap => m.flagIllum (cap.lit c)
    | none => m
  if m.fltHolds c then m.strobeFall c m.now else m

/-- The strata of a capture whose masks name a channel and that have not closed in this frame. -/
def Capture.unlit (cap : Capture) : BitVec 4 :=
  (List.range 8).foldl (fun w c => w ||| cap.lit c) 0 &&& ~~~cap.closed

/-- A frame that starts carries ILLUM on the strata whose channels have FLT set (R198), and on every lit stratum of a capture
that BLKRST.ILLUM keeps dark (R570). -/
def Chip.illumAtStart (m : Chip) : Chip :=
  match m.cc.cap with
  | some cap =>
    let m := if cap.dark then m.flagIllum cap.unlit else m
    (List.range 8).foldl (fun m c => if m.flt c then m.flagIllum (cap.lit c) else m) m
  | none => m

/-! ## The regulator -/

/-- The stamp lies within a high interval of the channel. -/
def Channel.high (x : Channel) (t : Tick) : Bool :=
  (x.level && decide (x.rise.toNat ≤ t.toNat)) ||
    x.past.any (fun p => decide (p.1.toNat ≤ t.toNat) && decide (t.toNat < p.2.toNat))

/-- The update of R189 on a usable sample: LASTSMP, the clamped step, SAT (R191). -/
def Chip.regStep (m : Chip) (c : Nat) (sample : Nat) : Chip :=
  let r := fun o => m.rd spIllum (chanOff c o)
  let e : Int := (r 5).toNat - (sample : Int)
  let m := m.wr spIllum (chanOff c 0xD) (wd sample)
  if e.natAbs ≤ (r 8).toNat then m
  else
    let ms : Int := (r 9).toNat
    let step := clampI (-ms) ms ((e * (fld (r 4) 0 8 : Nat)).fdiv 256)
    let want : Int := ((m.chan c).reg.toNat : Int) + step
    let v := clampI (r 6).toNat (r 7).toNat want
    let sat := decide (want ≠ v)
    let was := tst (r 4) 12
    let m := m.wr spIllum (chanOff c 4) (setBit (r 4) 12 sat)
    let m := if sat then m.bump spIllum (chanOff c 0xC) 1 else m
    ((m.raiseIf (sat && !was) evIllumSat).mapChan c (fun x => { x with reg := BitVec.ofInt 10 v })).regApply c

/-- A result of slot s with its stamp reaches the regulators that name the slot (R189, R190). A regulator that is not active
takes no sample and counts none in MISSCNT: R190 does not say (DESIGN CHOICE, log entry 80). -/
def Chip.regResult (m : Chip) (s sample : Nat) (t : Tick) : Chip :=
  (List.range 8).foldl (fun m c =>
    if (m.chan c).act && fld (m.rd spIllum (chanOff c 4)) 8 3 == s then
      if (m.chan c).high t then m.regStep c sample else m.bump spIllum (chanOff c 0xB) 1
    else m) m

/-! ## Register writes -/

/-- A REGCTL write (R194): EN follows the pattern; CFGERR clears with a 1. -/
def Chip.writeRegctl (m : Chip) (c : Nat) (v : Word) : Chip :=
  let x := m.chan c
  let r := enPattern x.act x.pend (tst (m.rd spIllum (chanOff c 4)) 15) (tst v 15)
  let m := (m.plainWrite spIllum (chanOff c 4) v).mapChan c (fun x => { x with pend := r.2.1 })
  if r.1 then m.regStart c else m.regIdle c

/-- An ISETVAL write: rejected while the regulator is active, else applied at once (R195). -/
def Chip.writeIsetval (m : Chip) (c : Nat) (v : Word) : Chip :=
  if (m.chan c).act then m.bump spIllum (chanOff c 0xA) 1 else m.mapChan c (fun x => { x with dac := v.setWidth 10, waiting := false })

/-- A REGLO or REGHI write (R192): discarded with CFGERR where REGLO would exceed REGHI, held while the strobe is high. -/
def Chip.writeBound (m : Chip) (c : Nat) (hi : Bool) (v : Word) : Chip :=
  let x := m.chan c
  let lo' := if hi then x.heldLo.getD ((m.rd spIllum (chanOff c 6)).setWidth 10) else v.setWidth 10
  let hi' := if hi then v.setWidth 10 else x.heldHi.getD ((m.rd spIllum (chanOff c 7)).setWidth 10)
  if hi'.toNat < lo'.toNat then m.orBits spIllum (chanOff c 4) 0x0800
  else if x.level then
    m.mapChan c (fun x => if hi then { x with heldHi := some hi' } else { x with heldLo := some lo' })
  else m.boundsApply c (if hi then none else some lo') (if hi then some hi' else none)

/-- A STRBCFG write; FLTOFF with FLT drives the strobe low (R199). -/
def Chip.writeStrbcfg (m : Chip) (c : Nat) (v : Word) : Chip :=
  let m := m.plainWrite spIllum (chanOff c 0) v
  if m.fltHolds c then m.strobeFall c m.now else m

/-- A write to a word of the ILLUM space. -/
def Chip.writeIllum (m : Chip) (off : Nat) (v : Word) : Chip :=
  if 0x100 ≤ off ∧ off < 0x200 then
    let c := (off - 0x100) / 0x20
    match off % 0x20 with
    | 0 => m.writeStrbcfg c v
    | 3 => m.writeIsetval c v
    | 4 => m.writeRegctl c v
    | 6 => m.writeBound c false v
    | 7 => m.writeBound c true v
    | _ => m.plainWrite spIllum off v
  else m.plainWrite spIllum off v

/-- The read of a word of the ILLUM space: strobe levels, ISETVAL, ACT and PEND are live. -/
def Chip.readIllum (m : Chip) (off : Nat) : Word :=
  if off = 0 then (List.range 8).foldl (fun w c => setBit w c (m.chan c).level) (m.rd spIllum 0 &&& 0xFF00)
  else if 0x100 ≤ off ∧ off < 0x200 then
    let x := m.chan ((off - 0x100) / 0x20)
    match off % 0x20 with
    | 3 => x.dac.setWidth 16
    | 4 => setBit (setBit (m.rd spIllum off) 14 x.act) 13 x.pend
    | _ => m.rd spIllum off
  else m.rd spIllum off

/-! ## Commands -/

/-- The source of channel c lets the strobe fall by tick t: a queued fall, or the close of the Drift exposure that lights
it. -/
def Chip.fallsBy (m : Chip) (c : Nat) (t : Tick) : Bool :=
  m.loam.queue.any (fun a => a.kind == 2 && !a.rise && a.mask.getLsbD c && decide (a.tick.toNat ≤ t.toNat)) ||
    match m.cc.cap, m.cc.drift.exposing with
    | some cap, some d => (cap.strbMask d.stratum).getLsbD c && decide (d.closeAt.toNat ≤ t.toNat)
    | _, _ => false

/-- STRBMAX_EXPIRY: a strobe that its source keeps high beyond STRBMAX ticks after its rise is forced low in that tick
(R188). -/
def execStrbmaxExpiry (c : Fin 8) (s : State) : Host.Outcome State Fault Refusal :=
  let m := s.chip
  let x := m.chan c.val
  let t := x.rise + x.limit.setWidth 64
  guarded s (x.level && x.limit != 0 && m.reached t && !m.fallsBy c.val t)
    (((m.strobeFall c.val t).setFlt c.val).fault 0x03 [BitVec.ofNat 8 c.val])

end Sys2Proof.Machine
end

