-- ==== Sys2Proof/Machine/Hkc.lean ====
section
/-! DEFINITION. The housekeeping converter (chapter 7): arbitration and conversions (R200-R209), correction (R217), the
result queue (R212-R216), limits (R219, R220), enable (R221) and calibration modes (R226). -/

namespace Sys2Proof.Machine

/-! ## Conversions -/

/-- The converter is ready: 10 ticks have passed since the previous sample instant (R200). -/
def Chip.hkcReady (m : Chip) : Bool :=
  match m.hkc.last with
  | none => true
  | some t => decide (t.toNat + 10 ≤ m.now.toNat)

/-- The request is due (R205). -/
def Chip.isDue (m : Chip) (r : HkcReq) : Bool := decide (r.due.toNat ≤ m.now.toNat)

/-- The due or waiting request of slot s wins: no due request has a higher priority, or the same priority and a lower
slot (R207). -/
def Chip.wins (m : Chip) (s : Nat) (r : HkcReq) : Bool :=
  (List.range 8).all (fun j =>
    match m.slotReq j with
    | none => true
    | some q => j == s || !m.isDue q || decide (q.prio < r.prio) || (decide (q.prio = r.prio) && decide (s < j)))

/-- CALMODE comes into effect in a ready cycle (R226): a change to TRIM powers slice C off and abandons the windows, a change to
BACKGROUND lets slice C settle. -/
def Chip.calmodeTake (m : Chip) : Chip :=
  let b := tst (m.rd spHkc 0) 8
  if m.hkcReady && b != m.hkc.background then
    { m with hkc := { m.hkc with background := b, spareOn := false, shadowB := false, spareFrom := m.now, turn := 0,
                                 windows := Hkc.reset.windows } }
  else m

/-- Slice C has powered up and settled for 20 us (R226). -/
def Chip.spareReady (m : Chip) : Bool := m.hkc.background && decide (m.hkc.spareFrom.toNat + 2000 ≤ m.now.toNat)

/-- A conversion starts: the sample is taken now by the slice whose turn it is, and by slice C where it shadows that slice
(R200, R225, R226); the conversions of each slice since its trims' last steps count on (R355). -/
def Chip.sampleTaken (m : Chip) : Bool × Bool × Chip :=
  let m := m.calmodeTake
  let m := if m.spareReady then { m with hkc := { m.hkc with spareOn := true } } else m
  let b := m.hkc.nextB
  let sh := m.hkc.spareOn && b == m.hkc.shadowB
  let count := (List.range 6).map (fun i =>
    nth m.hkc.sinceStep i + b2n (if i / 2 = 2 then sh else decide (i / 2 = b2n b)))
  let full := decide (256 ≤ m.hkc.turn + b2n sh)
  (b, sh, { m with hkc := { m.hkc with
    last := some m.now, nextB := !b, sinceStep := count, turn := if full then 0 else m.hkc.turn + b2n sh,
    shadowB := if full then !m.hkc.shadowB else m.hkc.shadowB } })

/-- Slot s starts its request (R200, R223). -/
def Chip.convert (m : Chip) (s : Nat) (r : HkcReq) : Chip :=
  let x := m.sampleTaken
  let m := x.2.2
  let waited := r.waited || decide (r.due ≠ m.now)
  let c : HkcConv :=
    { slot := s, req := { r with waited := waited }, at_ := m.now, supply := m.warn, sliceB := x.1, shadow := x.2.1,
      ofs := m.rd spHkc (0x200 + 2 * r.ch), gain := m.rd spHkc (0x201 + 2 * r.ch) }
  let m := m.setReq s none
  { m with hkc := { m.hkc with conv := m.hkc.conv ++ [c] } }

/-- Slot s loses its request without a result. -/
def Chip.dropReq (m : Chip) (s : Nat) : Chip := ((m.setReq s none).dropSlot s).regsIdle

/-- The due instant of slot s's request, or a later ready cycle (R207-R209). -/
def Chip.serve (m : Chip) (s : Nat) : Chip :=
  match m.slotReq s with
  | none => m
  | some r =>
    if !m.isDue r then m
    else if m.now.toNat ≥ r.due.toNat + 20 || (r.drop && decide (m.now ≠ r.due)) then m.dropReq s
    else if m.hkcReady && m.wins s r then m.convert s r
    else if r.drop then m.dropReq s
    else m.setReq s (some { r with waited := true })

/-- The corrected result and its CLIP flag (R201, R217). -/
def correct (raw : Nat) (ofs gain : Word) : Nat × Bool :=
  let c := ((16 * (raw : Int) - sext ofs.toNat 16) * (gain.toNat : Int) + 131072).fdiv 262144
  let k := clampI 0 4095 c
  (k.toNat, decide (k ≠ c) || raw == 0 || raw == 4095)

/-! ## Queue -/

/-- The tag word (R213, "Tag word"). -/
def tagWord (c : HkcConv) (lim loss clip : Bool) (seq : Nat) : Word :=
  wd (4096 * c.req.ch + 512 * c.slot + 256 * b2n lim + 128 * b2n c.req.waited + 64 * b2n loss + 32 * b2n c.supply +
    16 * b2n clip + seq % 16)

/-- QTHRESH. -/
def Chip.qthresh (m : Chip) : Nat := fld (m.rd spHkc 0) 0 7

/-- Write a result to the queue, or lose it (R212, R213, R216). -/
def Chip.enqueue (m : Chip) (c : HkcConv) (code : Nat) (lim clip : Bool) : Chip :=
  if m.hkc.queue.length ≥ 64 then
    let m := (m.bump spHkc 2 1).orBits 0 0x31 0x8000
    { m with hkc := { m.hkc with loss := true } }
  else
    let e := (wd (0x8000 + code), tagWord c lim m.hkc.loss clip m.hkc.seq, c.at_)
    let m := { m with hkc := { m.hkc with queue := m.hkc.queue ++ [e], seq := m.hkc.seq + 1, loss := false } }
    if m.qthresh != 0 && m.hkc.queue.length == m.qthresh then (m.raise evHkcThresh).thrTrig 0 else m

/-- Reading HKQ0 removes the oldest entry; HKQ1 and HKQ2 follow (R214). -/
def Chip.popHkq (m : Chip) : Word × Chip :=
  match m.hkc.queue with
  | [] => (0, { m with hkc := { m.hkc with popped := (0, 0) } })
  | e :: r => (e.1, { m with hkc := { m.hkc with queue := r, popped := (e.2.1, wd e.2.2.toNat) } })

/-- HKQSTAT: THR and LEVEL are live. -/
def Chip.readHkqstat (m : Chip) : Word :=
  let n := m.hkc.queue.length
  setBit ((m.rd 0 0x31 &&& 0x8000) ||| wd n) 14 (m.qthresh != 0 && decide (m.qthresh ≤ n))

/-! ## Limits and delivery -/

/-- The limit comparison of slot s (R219, R220): the LIM flag, the run, LIMFLG and HKC_LIMIT. A result within the limits
restarts the count; the model takes it that the LIM flag also ends there, and that a new run of LIMN results must complete
before a result carries it again (DEDUCED, log entry 85). -/
def Chip.limits (m : Chip) (s code : Nat) : Bool × Chip :=
  let ctl := m.rd spHkc (slotOff s 5)
  let out := decide (code < (m.rd spHkc (slotOff s 3)).toNat) || decide ((m.rd spHkc (slotOff s 4)).toNat < code)
  let setRun := fun (m : Chip) (n : Nat) => { m with hkc := { m.hkc with runs := upd m.hkc.runs s (fun _ => n) } }
  if tst ctl 15 && out then
    let n := min (nth m.hkc.runs s + 1) 16
    let lim := decide (max (fld ctl 0 4) 1 ≤ n)
    let was := tst (m.rd spHkc 4) s
    let m := setRun m n
    (lim, if lim then (m.orBits spHkc 4 (bitW s)).raiseIf (!was) evHkcLimit else m)
  else (false, setRun m 0)

/-- The channels whose FLTSLOT names the slot report a driver fault (R198). -/
def Chip.driverFaults (m : Chip) (s : Nat) : Chip :=
  (List.range 8).foldl (fun m c =>
    let cfg := m.rd spIllum (chanOff c 0)
    if tst cfg 13 && fld cfg 8 3 == s then m.setFlt c else m) m

/-- Delivery of a conversion (R202): correction, limits, queue, the slot's last sample, regulators, driver faults. -/
def Chip.deliver (m : Chip) (c : HkcConv) (raw : Nat) : Chip :=
  let (code, clip) := correct (min raw 4095) c.ofs c.gain
  let (lim, m) := m.limits c.slot code
  let m := m.wr spHkc (slotOff c.slot 7) (wd (0x8000 + code))
  let m := m.wr32 spHkc (slotOff c.slot 8) (c.at_.toNat % 0x100000000)
  let m := if c.req.qen then m.enqueue c code lim clip else m
  let m := m.regResult c.slot code c.at_
  let m := if lim then m.driverFaults c.slot else m
  m.regsIdle

/-! ## Register writes -/

/-- Cancel every held request, uncounted (R221, R222). -/
def Chip.cancelRequests (m : Chip) : Chip := ({ m with hkc := { m.hkc with reqs := List.replicate 8 none } }).regsIdle

/-- An HKCCTL write (R221, R226): QTHRESH 65-127 discards it. A VREF run in progress fails where EN is cleared (`writeHkcEn`). -/
def Chip.writeHkcctl (m : Chip) (v : Word) : Chip :=
  if 64 < fld v 0 7 then m
  else
    let r := enPattern m.hkc.act m.hkc.pend (tst (m.rd spHkc 0) 15) (tst v 15)
    let m := m.plainWrite spHkc 0 v
    let m := { m with hkc := { m.hkc with act := m.hkc.act || r.1, pend := r.2.1 } }
    (if r.2.2 then m.cancelRequests else m).calmodeTake

/-- An SSRC write: SRC 9-15, EDGE 0b11 or a SEL out of range discards it (R204). -/
def Chip.writeSsrc (m : Chip) (off : Nat) (v : Word) : Chip :=
  let src := fld v 12 4
  let sel := fld v 0 5
  let bad := decide (9 ≤ src) || fld v 8 2 == 3 || ((src == 3 || src == 4) && decide (8 ≤ sel)) || (src == 5 && decide (4 ≤ sel))
  if bad then m else m.plainWrite spHkc off v

/-- An HKCTRIG write: a software event to each named slot (R204). -/
def Chip.writeHkctrig (m : Chip) (v : Word) : Chip :=
  (List.range 8).foldl (fun m s => if tst v s then m.targetEvent 1 s m.now else m) m

/-- A LIMFLG write: writing 1 also restarts the slot's count (R220). -/
def Chip.writeLimflg (m : Chip) (v : Word) : Chip :=
  let m := m.plainWrite spHkc 4 v
  { m with hkc := { m.hkc with runs := (List.range 8).map (fun s => if tst v s then 0 else nth m.hkc.runs s) } }

/-- A write to an HKC word (that of HKCCTL is `writeHkcEn`); a slice trim write pins the trim (R357). -/
def Chip.writeHkc (m : Chip) (off : Nat) (v : Word) : Chip :=
  if off = 0 then m.writeHkcctl v
  else if off = 3 then m.writeHkctrig v
  else if off = 4 then m.writeLimflg v
  else if 0x100 ≤ off ∧ off < 0x180 ∧ off % 16 = 1 then m.writeSsrc off v
  else if 0x300 ≤ off ∧ off < 0x306 then (m.plainWrite spHkc off v).orBits spCal 6 (bitW (off - 0x300))
  else m.plainWrite spHkc off v

/-- The read of an HKC word: ACT, PEND and SPAREON are live. -/
def Chip.readHkc (m : Chip) (off : Nat) : Word :=
  match off with
  | 0 => setBit (setBit (m.rd spHkc 0) 14 m.hkc.act) 13 m.hkc.pend
  | 1 => setBit (m.rd spHkc 1) 15 m.hkc.spareOn
  | _ => m.rd spHkc off

/-! ## Commands -/

/-- HKC_REQUEST_DUE: the slot's request is due or waiting: it starts, waits or is dropped (R207-R209). -/
def execHkcRequestDue (sl : Fin 8) (s : State) : Host.Outcome State Fault Refusal :=
  guarded s s.chip.pw.core (s.chip.serve sl.val)

/-- HKC_WAIT_EXPIRY: a request that has not started within 20 ticks of its due tick is dropped (R208). -/
def execHkcWaitExpiry (sl : Fin 8) (s : State) : Host.Outcome State Fault Refusal :=
  let m := s.chip
  guarded s (m.pw.core && (m.slotReq sl.val).any (fun r => decide (r.due.toNat + 20 ≤ m.now.toNat))) (m.dropReq sl.val)

/-- HKC_SHUTDOWN_DONE: no conversion is left, so ACT clears, and PEND restarts the converter (R221). -/
def execHkcShutdownDone (s : State) : Host.Outcome State Fault Refusal :=
  let m := s.chip
  guarded s (m.hkc.act && (m.hkc.pend || !tst (m.rd spHkc 0) 15) && m.hkc.conv.isEmpty)
    { m with hkc := { m.hkc with act := m.hkc.pend, pend := false } }

/-- HKC_SPARE_SETTLED: 20 us after its power-up slice C begins to shadow slice A (R225, R226). -/
def execHkcSpareSettled (s : State) : Host.Outcome State Fault Refusal :=
  let m := s.chip.calmodeTake
  guarded s (m.pw.core && m.spareReady && !m.hkc.spareOn)
    { m with hkc := { m.hkc with spareOn := true, shadowB := false, turn := 0 } }

end Sys2Proof.Machine
end

