-- ==== Sys2Proof/Machine/Stages.lean ====
section
/-! DEFINITION. The stages of the image pipeline as functions of one frame (chapter 14: R413-R433, R608): the value of an
output position after each stage, the components of a pixel, and the packing of a line. Positions are counted within a
window's output grid; working values are exact integers, saturated after every stage. -/

namespace Sys2Proof.Machine

/-- The 18-bit saturation of working values (R413). -/
def satW (x : Int) : Int := clampI (-131072) 131071 x

/-! ## Configuration of a frame -/

/-- A word of the frame's latched profile. -/
def PFrame.pw (f : PFrame) (o : Nat) : Word := Bank.get f.pipe (key spPipe (0x100 + 0x40 * f.prof + o))

/-- A word of the latched context. -/
def PFrame.cw (f : PFrame) (o : Nat) : Word := Bank.get f.words (key spCtx o)

/-- A stage enable of PCFG: 7 black level, 6 defect, 5 strata, 4 flat-field, 3 white balance, 2 demosaic, 1 matrix,
0 tone. -/
def PFrame.on (f : PFrame) (b : Nat) : Bool := tst (f.pw 0) b

/-- The frame comes from the array. -/
def PFrame.array (f : PFrame) : Bool := f.src == 0

/-- A binning code as a factor. -/
def binOf (c : Nat) : Nat := if c = 0 then 1 else if c = 1 then 2 else 4

/-- Horizontal binning. -/
def PFrame.bx (f : PFrame) : Nat := if f.array then binOf (fld (f.cw 0) 8 2) else 1

/-- Vertical binning. -/
def PFrame.by_ (f : PFrame) : Nat := if f.array then binOf (fld (f.cw 0) 10 2) else 1

/-- 10-bit conversions. -/
def PFrame.ten (f : PFrame) : Bool := f.array && tst (f.cw 0) 2

/-- Stratum k is luminance-binned. -/
def PFrame.lum (f : PFrame) (k : Nat) : Bool := f.array && tst (f.cw (0x35 + 0x10 * k)) 0

/-- Strata of the frame. -/
def PFrame.strata (f : PFrame) : Nat := if f.array then fld (f.cw 0) 4 3 else 1

/-- Windows of the frame. -/
def PFrame.windows (f : PFrame) : Nat := if f.array then fld (f.cw 0) 12 3 else 1

/-- Start column, width, start row and height of window w. -/
def PFrame.win (f : PFrame) (w i : Nat) : Nat := (f.cw (0x10 + 4 * w + i)).toNat

/-- Output values per row of window w (pixels for RGB888). -/
def PFrame.wide (f : PFrame) (w : Nat) : Nat :=
  if f.array then f.win w 1 / f.bx
  else (match f.rows with
    | [] => 0
    | r :: _ => if f.rgb then r.vals.length / 3 else r.vals.length)

/-- Output rows of window w; a camera frame grows until it ends. -/
def PFrame.high (f : PFrame) (w : Nat) : Nat :=
  if f.array then f.win w 3 / f.by_ else if f.ended then f.rows.length else f.rows.length + 1000000

/-- Array rows that output row y of window w in plane k sums (R158, R159). -/
def PFrame.sumRows (f : PFrame) (w k y : Nat) : List Nat :=
  if !f.array then [y]
  else if f.lum k then (List.range f.by_).map (fun j => f.win w 2 + f.by_ * y + j)
  else (List.range f.by_).map (fun j => f.win w 2 + 2 * f.by_ * (y / 2) + 2 * j + y % 2)

/-- The row of plane k that was read; the lines of a camera frame are those that arrived, in order. -/
def PFrame.rowAt (f : PFrame) (k r : Nat) : Option PRow :=
  if f.array then f.rows.find? (fun q => q.plane == k && q.row == r) else f.rows[r]?

/-- Every row that output row y sums has been read. -/
def PFrame.has (f : PFrame) (w k y : Nat) : Bool := (f.sumRows w k y).all (fun r => (f.rowAt k r).isSome)

/-- Pixels a value sums (R413). -/
def PFrame.pixels (f : PFrame) : Nat := f.bx * f.by_

/-- Site of an output position: 0 R, 1 G, 2 N, 3 B (R145); a camera's monochrome plane is all R. -/
def PFrame.site (f : PFrame) (y x : Nat) : Nat := if f.array then 2 * (y % 2) + x % 2 else 0

/-! ## Mirroring -/

/-- An index mirrored about the edges of 0 to n - 1, as often as it lies beyond one, so that its colour site stays (R414). -/
def mirror (n : Nat) (i : Int) : Nat :=
  let j := (i.emod (2 * (n - 1) : Nat)).toNat
  if n ≤ 1 then 0 else if j < n then j else 2 * (n - 1) - j

/-- Output row y sums a test row. -/
def PFrame.testLine (f : PFrame) (w k y : Nat) : Bool :=
  f.array && (f.sumRows w k y).any (fun r => decide (40 ≤ r) && decide (r ≤ 47))

/-- The output rows of window w in plane k in read order: test rows first (R156). -/
def PFrame.order (f : PFrame) (w k : Nat) : List Nat :=
  if f.array then
    let ys := List.range (f.high w)
    ys.filter (fun y => f.testLine w k y) ++ ys.filter (fun y => !f.testLine w k y)
  else List.range f.rows.length

/-- The last output row of window w that was read in plane k. -/
def PFrame.lastRead (f : PFrame) (w k : Nat) : Nat := ((f.order w k).filter (fun y => f.has w k y)).getLastD 0

/-- The output row that stands for index i near row y (R414): mirrored at the window's edge, and about the last row read
where the frame ended before it; the row itself where that one was not read either (log entry 59). -/
def PFrame.rowFor (f : PFrame) (w k y : Nat) (i : Int) : Nat :=
  let a := mirror (f.high w) i
  if f.has w k a then a
  else
    let b := mirror (f.lastRead w k + 1) i
    if f.has w k b then b else y

/-! ## Stage 1 -/

/-- The value that enters the pipeline at output row y, column x of window w: the sum of its rows (R158, R159). -/
def PFrame.raw (f : PFrame) (w k y x : Nat) : Nat :=
  let col := if f.array then f.win w 0 / f.bx + x else x
  ((f.sumRows w k y).map (fun r => match f.rowAt k r with
    | some q => nth q.vals col
    | none => 0)).sum

/-- The sum of the black levels of its rows, 8 fractional bits. -/
def PFrame.blSum (f : PFrame) (w k y x : Nat) : Int :=
  ((f.sumRows w k y).map (fun r => match f.rowAt k r with
    | some q => q.bl.getD (f.site y x) 0
    | none => 0)).sum

/-- log2 of the pixels a value sums. -/
def PFrame.logP (f : PFrame) : Nat := Nat.log2 f.pixels

/-- The working value (R413). -/
def PFrame.w1 (f : PFrame) (w k y x : Nat) : Int :=
  let v : Int := f.raw w k y x
  if f.array then
    let bl := if f.on 7 then f.blSum w k y x else 0
    let n := f.by_
    let e := if f.ten then 6 else 4
    satW (roundDiv ((256 * n * v - f.pixels * bl) * (2 ^ e : Nat)) (256 * n * f.pixels))
  else
    satW (v * (2 ^ (16 - f.depth) : Nat) - (if f.on 7 then 16 * ((f.pw 2).toNat : Int) else 0))

/-! ## Stage 2 -/

/-- The pixel at array row r, column c is in the static map in force for the frame: the factory map of the OTP or a valid
DEFADD entry (R418). -/
def PFrame.listed (f : PFrame) (otp : List (Nat × Nat × Nat)) (r c : Nat) : Bool :=
  otp.any (fun d => d.1 == r && decide (d.2.1 ≤ c) && decide (c < d.2.1 + d.2.2)) ||
    f.cal.any (fun e => decide (key spCal 0x2000 ≤ e.1) && decide (e.1 < key spCal 0x2800) && e.1 % 2 == 0 && tst e.2 15 &&
      fld e.2 0 13 == c && fld (Bank.get f.cal (e.1 + 1)) 0 12 == r)

/-- The position is an active pixel of the static map, and the map applies: DEFCFG.STATIC, no binning, stage enabled. -/
def PFrame.bad (f : PFrame) (otp : List (Nat × Nat × Nat)) (w : Nat) (y x : Nat) : Bool :=
  let r := f.win w 2 + y
  let c := f.win w 0 + x
  f.array && f.on 6 && tst (f.pw 6) 15 && f.pixels == 1 && decide (48 ≤ r) && decide (r ≤ 3887) && decide (32 ≤ c) &&
    decide (c ≤ 5151) && f.listed otp r c

/-- The same-site neighbours that qualify for the static replacement (R418). -/
def PFrame.goodNear (f : PFrame) (otp : List (Nat × Nat × Nat)) (w k y x : Nat) : List Int :=
  let ok := fun (b c : Nat) => decide (b < f.high w) && decide (c < f.wide w) && f.has w k b &&
    !f.listed otp (f.win w 2 + b) (f.win w 0 + c)
  ((if 2 ≤ x then [(y, x - 2)] else []) ++ [(y, x + 2)] ++ (if 2 ≤ y then [(y - 2, x)] else []) ++ [(y + 2, x)]).filterMap
    (fun p => if ok p.1 p.2 then some (f.w1 w k p.1 p.2) else none)

/-- A static replacement takes place. -/
def PFrame.fixed (f : PFrame) (otp : List (Nat × Nat × Nat)) (w k y x : Nat) : Bool :=
  f.bad otp w y x && !(f.goodNear otp w k y x).isEmpty

/-- After static correction. -/
def PFrame.w2s (f : PFrame) (otp : List (Nat × Nat × Nat)) (w k y x : Nat) : Int :=
  if f.fixed otp w k y x then
    let l := f.goodNear otp w k y x
    roundDiv l.sum l.length
  else f.w1 w k y x

/-- The eight neighbours of the dynamic check (R419). -/
def PFrame.ring (f : PFrame) (otp : List (Nat × Nat × Nat)) (w k y x : Nat) : List Int :=
  let d : Int := if f.lum k then 1 else 2
  [(-d, -d), (-d, 0), (-d, d), (0, -d), (0, d), (d, -d), (d, 0), (d, d)].map (fun (p : Int × Int) =>
    f.w2s otp w k (f.rowFor w k y (y + p.1)) (mirror (f.wide w) (x + p.2)))

/-- After stage 2: the value, and whether the dynamic check replaced it. -/
def PFrame.w2 (f : PFrame) (otp : List (Nat × Nat × Nat)) (w k y x : Nat) : Int × Bool :=
  let v := f.w2s otp w k y x
  if f.on 6 && tst (f.pw 6) 14 && !f.fixed otp w k y x then
    let r := f.ring otp w k y x
    let mx := r.foldl max (r.headD 0)
    let mn := r.foldl min (r.headD 0)
    let t : Int := 16 * fld (f.pw 6) 0 12
    if mx + t < v then (mx, true) else if v < mn - t then (mn, true) else (v, false)
  else (v, false)

/-! ## Stage 3 -/

/-- Duration of stratum k in ticks. -/
def PFrame.duration (f : PFrame) (k : Nat) : Nat :=
  (f.cw (0x32 + 0x10 * k)).toNat + 0x10000 * (f.cw (0x33 + 0x10 * k)).toNat

/-- round(256 a / b), at most 65,535 (R421, R422). -/
def ratio256 (a b : Nat) : Nat := min ((2 * 256 * a + b) / (2 * b)) 65535

/-- AMB. -/
def PFrame.amb (f : PFrame) : Nat := fld (f.pw 7) 12 2

/-- Stage 3 is enabled and AMBEN set. -/
def PFrame.ambOn (f : PFrame) : Bool := f.array && f.on 5 && tst (f.pw 7) 15

/-- Stage 3 is enabled and HDREN set. -/
def PFrame.hdrOn (f : PFrame) : Bool := f.array && f.on 5 && tst (f.pw 8) 15

/-- Check 1 of R423 fails. -/
def PFrame.cfg1 (f : PFrame) : Bool := f.ambOn && (decide (f.strata ≤ f.amb) || tst (f.pw 7) f.amb)

/-- Check 2 of R423 fails for stratum k. -/
def PFrame.cfg2 (f : PFrame) (k : Nat) : Bool := f.ambOn && tst (f.pw 7) k && decide (k < f.strata) && f.lum k != f.lum f.amb

/-- Check 3 of R423 fails. -/
def PFrame.cfg3 (f : PFrame) : Bool :=
  let l := fld (f.pw 8) 12 2
  let s := fld (f.pw 8) 10 2
  f.hdrOn && (decide (f.strata ≤ l) || decide (f.strata ≤ s) || l == s || decide (f.duration l ≤ f.duration s))

/-- CFGCODE: the first failing check of R423, 0 where none fails. -/
def PFrame.cfgCode (f : PFrame) : Nat :=
  if f.cfg1 then 1 else if (List.range 4).any f.cfg2 then 2 else if f.cfg3 then 3 else 0

/-- Stratum k has the ambient plane subtracted. -/
def PFrame.subbed (f : PFrame) (k : Nat) : Bool := f.ambOn && !f.cfg1 && tst (f.pw 7) k && !f.cfg2 k

/-- After ambient subtraction (R421). -/
def PFrame.w3a (f : PFrame) (otp : List (Nat × Nat × Nat)) (w k y x : Nat) : Int :=
  let v := (f.w2 otp w k y x).1
  if f.subbed k then
    let s := if tst (f.pw 7) 14 then ratio256 (f.duration k) (f.duration f.amb) else 256
    satW (v - roundDiv ((f.w2 otp w f.amb (f.rowFor w f.amb y y) x).1 * s) 256)
  else v

/-- Stratum k is the long stratum of a valid merge. -/
def PFrame.merged (f : PFrame) (k : Nat) : Bool := f.hdrOn && !f.cfg3 && k == fld (f.pw 8) 12 2

/-- After stage 3 (R421, R422). -/
def PFrame.w3 (f : PFrame) (otp : List (Nat × Nat × Nat)) (w k y x : Nat) : Int :=
  let v := f.w3a otp w k y x
  if f.merged k then
    let s := fld (f.pw 8) 10 2
    let kn : Int := (f.pw 9).toNat
    let rh : Int := ratio256 (f.duration k) (f.duration s)
    let a := clampI 0 kn (8 * v - 7 * kn)
    satW (roundDiv ((kn - a) * v * 256 + a * f.w3a otp w s (f.rowFor w s y y) x * rh) ((f.pw 9).toNat * 256 * 2 ^ fld (f.pw 8) 0 3))
  else v

/-! ## Stages 4 and 5 -/

/-- A node of a flat-field profile. -/
def PFrame.node (f : PFrame) (p i j s : Nat) : Int :=
  (Bank.get f.cal (key spCal (0x4000 + 0x1000 * p + 4 * (33 * j + i) + s))).toNat

/-- The gain of site s at twice the position (row y2, column x2), times 102,400 (R424). -/
def PFrame.gainAt (f : PFrame) (p y2 x2 s : Nat) : Int :=
  let u := min (x2 - 64) 10240
  let v := min (y2 - 96) 7680
  let i := min (u / 320) 31
  let j := min (v / 320) 23
  let a : Int := u - 320 * i
  let b : Int := v - 320 * j
  (320 - a) * (320 - b) * f.node p i j s + a * (320 - b) * f.node p (i + 1) j s + (320 - a) * b * f.node p i (j + 1) s +
    a * b * f.node p (i + 1) (j + 1) s

/-- Twice the mean position of a value along one axis: start, binning, luminance, index (R424). -/
def meanPos2 (start b : Nat) (lum : Bool) (i : Nat) : Nat :=
  if lum then 2 * (start + b * i) + (b - 1) else 2 * (start + 2 * b * (i / 2) + i % 2 + (b - 1))

/-- The flat-field gain of a position times 409,600: the site's, or the mean of the four sites of a luminance-binned
value; unity outside the active area (R424). -/
def PFrame.gain (f : PFrame) (w k y x : Nat) : Int :=
  let y2 := meanPos2 (f.win w 2) f.by_ (f.lum k) y
  let x2 := meanPos2 (f.win w 0) f.bx (f.lum k) x
  let p := fld (f.cw (0x35 + 0x10 * k)) 1 3
  if y2 < 96 ∨ 7774 < y2 ∨ x2 < 64 ∨ 10302 < x2 then 16384 * 409600
  else if f.lum k then ((List.range 4).map (fun s => f.gainAt p y2 x2 s)).sum
  else 4 * f.gainAt p y2 x2 (f.site y x)

/-- After flat-field. -/
def PFrame.w4 (f : PFrame) (otp : List (Nat × Nat × Nat)) (w k y x : Nat) : Int :=
  let v := f.w3 otp w k y x
  if f.array && f.on 4 && tst (f.pw 0) (8 + k) then satW (roundDiv (v * f.gain w k y x) (409600 * 16384)) else v

/-- After white balance (R426). -/
def PFrame.w5 (f : PFrame) (otp : List (Nat × Nat × Nat)) (w k y x : Nat) : Int :=
  let v := f.w4 otp w k y x
  if f.on 3 && !f.lum k then satW (roundDiv (v * ((f.pw (0x10 + 4 * k + f.site y x)).toNat : Int)) 16384) else v

/-! ## Stages 6 and 7 -/

/-- SOUT.FMT of stratum k. -/
def PFrame.fmt (f : PFrame) (k : Nat) : Nat := fld (f.pw (0x30 + k)) 0 3

/-- A colour stratum of the array (R427). -/
def PFrame.colour (f : PFrame) (k : Nat) : Bool := f.array && decide (3 ≤ f.fmt k) && !f.lum k

/-- The value near a position, with mirroring. -/
def PFrame.near (f : PFrame) (otp : List (Nat × Nat × Nat)) (w k y x : Nat) (dy dx : Int) : Int :=
  f.w5 otp w k (f.rowFor w k y (y + dy)) (mirror (f.wide w) (x + dx))

/-- The mean of a list (R429). -/
def meanR (l : List Int) : Int := roundDiv l.sum l.length

/-- Choose the side across the direction (R429): the lists of the two sides by the two differences. -/
def side (dm dp : Int) (a b : List Int) : Int := if dm < dp then meanR a else if dp < dm then meanR b else meanR (a ++ b)

/-- The four components of a pixel of a colour stratum in the order R, G, N, B (R428, R429). -/
def PFrame.demosaic (f : PFrame) (otp : List (Nat × Nat × Nat)) (w k y x : Nat) : List Int :=
  let n := f.near otp w k y x
  let p := n 0 0
  let dH := |n 0 (-2) - n 0 2| + |n 0 (-1) - n 0 1|
  let dV := |n (-2) 0 - n 2 0| + |n (-1) 0 - n 1 0|
  let t : Int := (f.pw 0xA).toNat
  let h := decide (dH + t < dV)
  let v := decide (dV + t < dH)
  let up := |p - n (-2) 0|
  let down := |p - n 2 0|
  let left := |p - n 0 (-2)|
  let right := |p - n 0 2|
  let row := if v then side left right [n 0 (-1)] [n 0 1] else meanR [n 0 (-1), n 0 1]
  let col := if h then side up down [n (-1) 0] [n 1 0] else meanR [n (-1) 0, n 1 0]
  let diag :=
    if h then side up down [n (-1) (-1), n (-1) 1] [n 1 (-1), n 1 1]
    else if v then side left right [n (-1) (-1), n 1 (-1)] [n (-1) 1, n 1 1]
    else meanR [n (-1) (-1), n (-1) 1, n 1 (-1), n 1 1]
  (List.range 4).map (fun s =>
    if s = f.site y x then p
    else if s / 2 = y % 2 then row
    else if s % 2 = x % 2 then col
    else diag)

/-- The colour matrix (R430). -/
def PFrame.matrix (f : PFrame) (c : List Int) : List Int :=
  if f.on 1 then
    (List.range 3).map (fun o => clampI 0 65535 (roundDiv (((List.range 4).map (fun i =>
      sext (f.pw (0x20 + 4 * o + i)).toNat 16 * c.getD i 0)).sum) 4096))
  else [clampI 0 65535 (c.getD 0 0), clampI 0 65535 (c.getD 1 0), clampI 0 65535 (c.getD 3 0)]

/-! ## Stages 8 and 9 -/

/-- The tone stage of stratum k (R431). -/
def PFrame.tone (f : PFrame) (k : Nat) (v : Int) : Nat :=
  let x := (clampI 0 65535 v).toNat
  if f.on 0 then
    let t := fun (i : Nat) => ((Bank.get f.pipe (key spPipe (0x400 + 0x80 * fld (f.pw 0xB) (2 * k) 2 + i))).toNat : Int)
    let i := x / 1024
    (t i + ((t (i + 1) - t i) * (x % 1024 : Nat) + 512).fdiv 1024).toNat
  else x

/-- The tone-stage outputs of a position: three components for a colour stratum or an RGB888 camera frame, else one. -/
def PFrame.out (f : PFrame) (otp : List (Nat × Nat × Nat)) (w k y x : Nat) : List Nat :=
  if f.rgb then
    (List.range 3).map (fun i => f.tone k (256 * ((match f.rowAt k y with
      | some q => nth q.vals (3 * x + i)
      | none => 0 : Nat) : Int)))
  else if f.colour k && f.on 2 then (f.matrix (f.demosaic otp w k y x)).map (f.tone k)
  else [f.tone k (f.w5 otp w k y x)]

/-- One component in the format of the stratum (R433). -/
def PFrame.comp (f : PFrame) (k y : Nat) : Nat :=
  let ped := fld (f.pw 0xC) 0 12
  match f.fmt k with
  | 0 => min ((y + 8) / 16 + ped) 4095
  | 1 => min ((y + 32) / 64 + ped / 4) 1023
  | 2 => min (y + 16 * ped) 65535
  | 3 => min ((y + 128) / 256) 255
  | _ => min ((y + 32) / 64) 1023

/-- RAW12 packing: two pixels in three bytes. -/
def pack12 : List Nat → List Byte
  | [] => []
  | [a] => [BitVec.ofNat 8 a, BitVec.ofNat 8 (a / 256), 0]
  | a :: b :: r => BitVec.ofNat 8 a :: BitVec.ofNat 8 (a / 256 + 16 * b) :: BitVec.ofNat 8 (b / 16) :: pack12 r

/-- RAW10 packing of one group: four pixels in five bytes. -/
def pack10One (a b c d : Nat) : List Byte :=
  [BitVec.ofNat 8 a, BitVec.ofNat 8 b, BitVec.ofNat 8 c, BitVec.ofNat 8 d,
   BitVec.ofNat 8 (a / 256 + 4 * (b / 256) + 16 * (c / 256) + 64 * (d / 256))]

/-- RAW10 packing, padded with zero pixels. -/
def pack10 : List Nat → List Byte
  | [] => []
  | [a] => pack10One a 0 0 0
  | [a, b] => pack10One a b 0 0
  | [a, b, c] => pack10One a b c 0
  | a :: b :: c :: d :: r => pack10One a b c d ++ pack10 r

/-- A component list as three components (R427). -/
def three (l : List Nat) : List Nat :=
  match l with
  | [a] => [a, a, a]
  | _ => l

/-- A line's payload from its pixels' converted components (R433). -/
def packLine (fmt : Nat) (px : List (List Nat)) : List Byte :=
  match fmt with
  | 0 => pack12 (px.map (fun p => p.headD 0))
  | 1 => pack10 (px.map (fun p => p.headD 0))
  | 2 => px.flatMap (fun p => bytesN (p.headD 0) 2)
  | 3 => px.flatMap (fun p => (three p).flatMap (fun c => bytesN c 1))
  | _ => px.flatMap (fun p => bytesN (nth (three p) 0 + 1024 * nth (three p) 1 + 0x100000 * nth (three p) 2) 4)

end Sys2Proof.Machine
end

