-- ==== Sys2Proof/Machine/Stats.lean ====
section
/-! DEFINITION. The statistics of a frame (chapter 14: R441-R447): the words of a set in STAT space order. Means of no
values are free values (log entry 2). -/

namespace Sys2Proof.Machine

/-- The factory defect map of the OTP: row, column and run length of each entry, up to a zero entry (R418). -/
def factoryMap (regs : Bank) : Nat → Nat → List (Nat × Nat × Nat)
  | _, 0 => []
  | w, n + 1 =>
    let a := Bank.get regs (key spOtp w)
    let b := Bank.get regs (key spOtp (w + 1))
    if a = 0 ∧ b = 0 then [] else (fld b 0 12, fld a 0 13, fld a 13 3 + 1) :: factoryMap regs (w + 2) n

/-- The factory map of the chip; empty where the factory area failed its CRC (R578). -/
def Chip.otpMap (m : Chip) : List (Nat × Nat × Nat) := if m.st.factBad then [] else factoryMap m.regs 0x328 107

/-- The columns and rows of the cropped output area of window 0 that have been read in plane k (R441). -/
def PFrame.areaX (f : PFrame) : List Nat :=
  (List.range (f.wide 0 - (f.pw 0x35).toNat)).filter (fun x => decide ((f.pw 0x34).toNat ≤ x))

/-- The rows of that area. -/
def PFrame.areaY (f : PFrame) (k : Nat) : List Nat :=
  (List.range ((if f.array then f.high 0 else f.rows.length) - (f.pw 0x37).toNat)).filter
    (fun y => decide ((f.pw 0x36).toNat ≤ y) && f.has 0 k y)

/-- The positions of that area. -/
def PFrame.area (f : PFrame) (k : Nat) : List (Nat × Nat) := (f.areaY k).flatMap (fun y => f.areaX.map (fun x => (y, x)))

/-- Two words of a 32-bit value at an offset. -/
def words32 (o v : Nat) : List (Nat × Word) := [(o, wd v), (o + 1, wd (v / 0x10000))]

/-- Histogram of plane k (R442). -/
def PFrame.hist (f : PFrame) (otp : List (Nat × Nat × Nat)) (k : Nat) : List (Nat × Word) :=
  let tap := fun (p : Nat × Nat) =>
    if tst (f.pw 0xD) 14 then
      let c := f.out otp 0 k p.1 p.2
      nth c (if c.length = 3 then 1 else 0)
    else (clampI 0 65535 (f.w3 otp 0 k p.1 p.2)).toNat
  let bins := (f.area k).map (fun p => tap p / 256)
  (List.range 256).flatMap (fun b => words32 (0x1000 + 0x1000 * k + 2 * b) (min (bins.count b) 0xFFFFFFFF))

/-- Zone number of index i of n in z zones: zones of floor(n / z) rounded down to even, the last takes the rest. -/
def zoneOf (n z i : Nat) : Nat :=
  let s := n / z / 2 * 2
  if s = 0 then z - 1 else min (i / s) (z - 1)

/-- The zone of a position: 16 zy + zx. -/
def PFrame.zone (f : PFrame) (p : Nat × Nat) : Nat :=
  let l := (f.pw 0x34).toNat
  let t := (f.pw 0x36).toNat
  let nx := f.wide 0 - l - (f.pw 0x35).toNat
  let ny := (if f.array then f.high 0 else f.rows.length) - t - (f.pw 0x37).toNat
  16 * zoneOf ny 12 (p.1 - t) + zoneOf nx 16 (p.2 - l)

/-- A mean clamped to 16 bits, a free value where there is nothing to average. -/
def meanOr (l : List Int) (free : Word) : Word := if l.isEmpty then free else wd (clampI 0 65535 (meanR l)).toNat

/-- Zone means of plane k (R443). -/
def PFrame.zones (f : PFrame) (otp : List (Nat × Nat × Nat)) (k free : Nat) : List (Nat × Word) :=
  let vals := (f.area k).map (fun p => (f.zone p, f.site p.1 p.2, f.w4 otp 0 k p.1 p.2))
  (List.range 192).flatMap (fun z => (List.range 4).map (fun s =>
    let o := 0x1200 + 0x1000 * k + 4 * z + s
    (o, meanOr ((vals.filter (fun v => v.1 == z && (f.lum k || v.2.1 == s || !f.array))).map (fun v => v.2.2))
      (Config.freeWord (free + o)))))

/-- The raw code per pixel reaches GLARETHR (R444). -/
def PFrame.glaring (f : PFrame) (k : Nat) (p : Nat × Nat) : Bool :=
  let v := f.raw 0 k p.1 p.2
  let t := fld (f.pw 0xE) 0 12
  if f.array then decide (t * f.pixels ≤ (if f.ten then 4 * v else v)) else decide (t * 2 ^ f.depth ≤ v * 4096)

/-- Glare counts of plane k. -/
def PFrame.glare (f : PFrame) (k : Nat) : List (Nat × Word) :=
  let zs := ((f.area k).filter (fun p => f.glaring k p)).map f.zone
  (List.range 192).map (fun z => (0x1500 + 0x1000 * k + z, wd (min (zs.count z) 0xFFFF)))

/-- Every output position of plane k over all windows. -/
def PFrame.everywhere (f : PFrame) (k : Nat) : List (Nat × Nat × Nat) :=
  (List.range f.windows).flatMap (fun w => (List.range (if f.array then f.high w else f.rows.length)).flatMap (fun y =>
    if f.has w k y then (List.range (f.wide w)).map (fun x => (w, y, x)) else []))

/-- Scalars of plane k (R445): SHARP, BLEST, replacement counts. -/
def PFrame.scalars (f : PFrame) (otp : List (Nat × Nat × Nat)) (k free : Nat) : List (Nat × Word) :=
  let o := if f.lum k then 1 else 2
  let w := fun y x => f.w4 otp 0 k y x
  let ps := (f.area k).filter (fun p => f.areaX.contains (p.2 + o) && (f.areaY k).contains (p.1 + o))
  let sum := (ps.map (fun p => |w p.1 p.2 - w p.1 (p.2 + o)| + |w p.1 p.2 - w (p.1 + o) p.2|)).sum
  let b := 0x110 + 0x10 * k
  let sharp := if ps.isEmpty then
      (Config.freeWord (free + b)).toNat + 0x10000 * (Config.freeWord (free + b + 1)).toNat
    else min (256 * sum.toNat / ps.length) 0xFFFFFFFF
  let bl := ((f.rows.filter (fun r => r.plane == k)).getLast?.map (·.bl)).getD []
  let all := f.everywhere k
  words32 b sharp ++ (List.range 4).map (fun s => (b + 2 + s, wd (clampI 0 65535 (roundDiv (bl.getD s 0) 16)).toNat)) ++
    words32 (b + 6) (all.filter (fun p => f.fixed otp p.1 k p.2.1 p.2.2)).length ++
    words32 (b + 8) (all.filter (fun p => (f.w2 otp p.1 k p.2.1 p.2.2).2)).length

/-- The MRZ rectangle in output positions of window 0, none where it does not lie inside the window (R446). -/
def PFrame.mrzArea (f : PFrame) : Option (Nat × Nat × Nat × Nat) :=
  let c := (f.pw 0x38).toNat
  let wdt := (f.pw 0x39).toNat
  let r := (f.pw 0x3A).toNat
  let h := (f.pw 0x3B).toNat
  let c0 := if f.array then f.win 0 0 else 0
  let r0 := if f.array then f.win 0 2 else 0
  let nc := if f.array then f.win 0 1 else f.wide 0
  let nr := if f.array then f.win 0 3 else f.rows.length
  if c0 ≤ c ∧ c + wdt ≤ c0 + nc ∧ r0 ≤ r ∧ r + h ≤ r0 + nr then
    some ((c - c0) / f.bx, wdt / f.bx, (r - r0) / f.by_, h / f.by_)
  else none

/-- Mean and mean difference of one stratum over the rectangle (R446). -/
def PFrame.mrzOne (f : PFrame) (otp : List (Nat × Nat × Nat)) (k : Nat) (green : Bool) (a : Nat × Nat × Nat × Nat)
    (free : Nat) : Nat × Nat :=
  let ps := ((List.range a.2.2.2).flatMap (fun y => (List.range a.2.1).map (fun x => (a.2.2.1 + y, a.1 + x)))).filter
    (fun p => f.has 0 k p.1 && (!green || f.lum k || f.site p.1 p.2 == 1))
  let w := fun y x => f.w4 otp 0 k y x
  let qs := ps.filter (fun p => decide (p.2 + 2 < a.1 + a.2.1))
  ((meanOr (ps.map (fun p => w p.1 p.2)) (Config.freeWord free)).toNat,
   (meanOr (qs.map (fun p => |w p.1 p.2 - w p.1 (p.2 + 2)|)) (Config.freeWord (free + 1))).toNat)

/-- QMRZ in 16.16 (R446). -/
def qmrz (muI dI muV dV : Nat) : Nat :=
  if muI = 0 ∨ dV = 0 ∨ muV = 0 then 0xFFFFFFFF
  else min (roundDiv ((dI * muV * 65536 : Nat) : Int) (muI * dV)).toNat 0xFFFFFFFF

/-- The MRZ words and whether MRZOUT is set. -/
def PFrame.mrz (f : PFrame) (otp : List (Nat × Nat × Nat)) (free : Nat) : List (Nat × Word) × Bool :=
  let i := fld (f.pw 0xF) 2 2
  let v := fld (f.pw 0xF) 0 2
  if tst (f.pw 0xD) 10 then
    match f.mrzArea with
    | some a =>
      if i < f.strata ∧ v < f.strata then
        let p := f.mrzOne otp i false a free
        let q := f.mrzOne otp v true a (free + 2)
        ([(0x109, wd p.1), (0x10A, wd p.2), (0x10B, wd q.1), (0x10C, wd q.2)] ++ words32 0x10D (qmrz p.1 p.2 q.1 q.2), false)
      else ([], true)
    | none => ([], true)
  else ([], false)

/-- The strata with statistics. -/
def PFrame.statStrata (f : PFrame) : List Nat := (List.range 4).filter (fun k => decide (k < f.strata) && tst (f.pw 0xD) k)

/-- The words of a frame's set (R447, "STAT space map"), without its set number. A camera frame's carries its route in place of the
context (R459). -/
def PFrame.setWords (f : PFrame) (otp : List (Nat × Nat × Nat)) (free : Nat) : List (Nat × Word) :=
  let c := f.pw 0xD
  let ks := f.statStrata
  let mz := f.mrz otp (free + 0xF00)
  let kinds := b2n (tst c 15) + 2 * b2n (tst c 13) + 4 * b2n (tst c 11) + 8 * b2n (tst c 12) + 16 * b2n (tst c 10)
  let held := (ks.map (fun k => 2 ^ k)).sum
  [(0xF0, wd kinds)] ++ words32 0x100 f.fn.toNat ++
    [(0x102, wd (0x1000 * f.id + 0x400 * f.src + 0x10 * held + f.prof)), (0x103, wd (b2n f.partial_ + 2 * b2n mz.2))] ++
    words32 0x104 f.start.toNat ++ words32 0x106 (f.start.toNat / 0x100000000) ++ mz.1 ++
    (if tst c 15 then ks.flatMap (fun k => f.hist otp k) else []) ++
    (if tst c 13 then ks.flatMap (fun k => f.zones otp k free) else []) ++
    (if tst c 11 then ks.flatMap (fun k => f.glare k) else []) ++
    (if tst c 12 then ks.flatMap (fun k => f.scalars otp k free) else [])

/-- A frame's set completes (R447-R449): it is counted, waits for the front bank or becomes it, STATS_READY is raised, and
its packets go to the statistics stream. -/
def Chip.setComplete (m : Chip) (f : PFrame) : Chip :=
  let n := (m.pipe.sets + 1) % 65536
  let ws := (f.setWords m.otpMap m.free) ++ [(0x108, wd n)]
  let b := Bank.putAll [] (ws.map (fun w => (key spStat w.1, w.2)))
  let m := { m with free := m.free + 0x6000, pipe := { m.pipe with sets := n, waiting := some b } }
  let m := (m.frontUpdate).raise evStatsReady
  match f.stat with
  | some s => (statPackets b none).foldl (fun m r => m.offer s r .policy) m
  | none => m

end Sys2Proof.Machine
end

