-- ==== Sys2Proof/Machine/Pipeline.lean ====
section
/-! DEFINITION. The image pipeline at work (chapter 14): black level tracking (R415, R416), rows and segments
(R435-R439), lines (R434, R522, R609), frames, Drift lines (R417), the in-line source (R23, R440), and the PIPE and STAT
spaces. -/

namespace Sys2Proof.Machine

/-! ## Black level -/

/-- The output columns of the dark blocks wholly within 4-27 or 5,156-5,179 (R415): index and column parity. -/
def darkColumns (b : Nat) (lum : Bool) : List Nat :=
  (List.range (5184 / b)).filter (fun x =>
    let first := if lum then b * x else 2 * b * (x / 2) + x % 2
    let last := if lum then first + b - 1 else first + 2 * (b - 1)
    (decide (4 ≤ first) && decide (last ≤ 27)) || (decide (5156 ≤ first) && decide (last ≤ 5179)))

/-- One update of a level with 8 fractional bits (R415): the first takes the mean, the others move by 1/2^K. `sum` is the
sum of the dark values, `n` the pixels they sum together. -/
def blStep (k : Nat) (old : Option Int) (sum n : Nat) : Int :=
  match old with
  | none => roundDiv (256 * sum) n
  | some b => roundDiv (((2 ^ k : Nat) - 1 : Int) * b * n + 256 * sum) (n * 2 ^ k)

/-- BLFIX of a site with 8 fractional bits at the frame's resolution (R416). -/
def PFrame.blFix (f : PFrame) (s : Nat) : Int := (if f.ten then 64 else 256) * ((f.pw (2 + s)).toNat : Int)

/-- The standing level of a site: tracked, or BLFIX before the first update after power-up (R415). -/
def Chip.blNow (m : Chip) (f : PFrame) (s : Nat) : Int :=
  match m.pipe.black.getD (s + (if f.ten then 4 else 0)) none with
  | some b => b
  | none => f.blFix s

/-- The four levels in use for plane k (R415, R416); a camera frame has the fixed level of site R alone (R413). -/
def Chip.blSnap (m : Chip) (f : PFrame) (k : Nat) : List Int :=
  if !f.array then List.replicate 4 (f.blFix 0)
  else if tst (f.pw 1) 15 then
    if f.lum k then List.replicate 4 (roundDiv ((List.range 4).map f.blFix).sum 4) else (List.range 4).map f.blFix
  else if f.lum k then
    match f.lumBl.getD k none with
    | some b => List.replicate 4 b
    | none => List.replicate 4 (roundDiv ((List.range 4).map (m.blNow f)).sum 4)
  else (List.range 4).map (m.blNow f)

/-- Track the dark values of one row (R415): test rows are never used. -/
def Chip.blTrack (m : Chip) (f : PFrame) (r : PRow) : Chip × PFrame :=
  if tst (f.pw 1) 15 || (decide (40 ≤ r.row) && decide (r.row ≤ 47)) then (m, f)
  else
    let k := fld (f.pw 1) 0 3
    let cols := darkColumns f.bx (f.lum r.plane)
    if f.lum r.plane then
      let sum := (cols.map (fun x => nth r.vals x)).sum
      let b := blStep k (f.lumBl.getD r.plane none) sum (cols.length * f.bx)
      (m, { f with lumBl := upd f.lumBl r.plane (fun _ => some b) })
    else
      (List.range 2).foldl (fun (a : Chip × PFrame) p =>
        let s := 2 * (r.row % 2) + p
        let cs := cols.filter (fun x => x % 2 == p)
        let sum := (cs.map (fun x => nth r.vals x)).sum
        let old := if f.seeded.getD s false then some (a.1.blNow f s) else none
        let b := blStep k old sum (cs.length * f.bx)
        let i := s + (if f.ten then 4 else 0)
        ({ a.1 with pipe := { a.1.pipe with black := upd a.1.pipe.black i (fun _ => some b) } },
         { a.2 with seeded := upd a.2.seeded s (fun _ => true) })) (m, f)

/-! ## Lines -/

/-- The data type of a format (R433). -/
def dtOf (fmt : Nat) : Nat := [0x10, 0x11, 0x12, 0x20, 0x21].getD fmt 0x10

/-- The source code of a pipeline frame in packet headers ("Packet header"). -/
def srcCode (src : Nat) : Nat := if src = 0 then 0 else src + 1

/-- The 16-byte line-start payload (R522). -/
def lineStartBytes (line : Nat) (stamp : Tick) (width flags : Nat) : List Byte :=
  bytesN line 4 ++ bytesN stamp.toNat 8 ++ bytesN width 2 ++ [BitVec.ofNat 8 flags, 0]

/-- The converted components of a pixel; a three-component frame in a one-component format has no stated value: a free
one. -/
def PFrame.linePx (f : PFrame) (otp : List (Nat × Nat × Nat)) (free w k y x : Nat) : List Nat :=
  if f.rgb && decide (f.fmt k < 3) then [f.comp k (Config.freeWord (free + x)).toNat]
  else (f.out otp w k y x).map (f.comp k)

/-- One output line of window w and stratum k leaves (R432-R434, R522). -/
def Chip.emitLine (m : Chip) (f : PFrame) (otp : List (Nat × Nat × Nat)) (w k y : Nat) : Chip :=
  let l := (f.pw 0x34).toNat
  let width := f.wide w - l - (f.pw 0x35).toNat
  let top := (f.pw 0x36).toNat
  match f.img with
  | none => m
  | some s =>
    if tst (f.pw (0x30 + k)) 15 && decide (0 < width) && decide (top ≤ y) && decide (y + (f.pw 0x37).toNat < f.high w) then
      let rows := f.sumRows w k y
      let test := f.testLine w k y
      let first := if test then (rows.filter (fun r => decide (40 ≤ r) && decide (r ≤ 47))).headD 0 else rows.headD 0
      let stamp := (f.rowAt k first).elim 0 (·.stamp)
      let line := if f.array then y - top else (f.rowAt k y).elim 0 (·.row)
      let px := (List.range width).map (fun x => f.linePx otp m.free w k y (l + x))
      let r : Rec :=
        { dt := dtOf (f.fmt k), fn := f.fn, ctx := f.id, src := srcCode f.src, stratum := k, window := w, odt := 0,
          lineStart := lineStartBytes line stamp width (2 * b2n test + 4 * b2n (f.illum.getLsbD k)),
          payload := packLine (f.fmt k) px, framed := true, sent := 0, buf := 0, chan := none }
      let m := if f.rgb && decide (f.fmt k < 3) then { m with free := m.free + f.wide w } else m
      m.offer s r (if f.array then .readout else .policy)
    else m

/-- Output rows that the enabled stages of stratum k need on each side (R609). -/
def PFrame.reach (f : PFrame) (k : Nat) : Nat :=
  (if f.on 6 && tst (f.pw 6) 15 && f.pixels == 1 && f.array then 2 else 0) +
    (if f.on 6 && tst (f.pw 6) 14 then (if f.lum k then 1 else 2) else 0) + (if f.colour k && f.on 2 then 2 else 0)

/-- The planes stratum k needs: itself, the ambient plane, the short stratum and its ambient plane. -/
def PFrame.planes (f : PFrame) (k : Nat) : List Nat :=
  let one := fun j => j :: (if f.subbed j then [f.amb] else [])
  one k ++ (if f.merged k then one (fld (f.pw 8) 10 2) else [])

/-- Output row y can leave: every row its stages need has been read and processed, or the frame has ended (R609). -/
def PFrame.ready (f : PFrame) (w k y : Nat) : Bool :=
  f.has w k y && (f.ended || (f.planes k).all (fun j =>
    (List.range (f.reach k + max (f.reach k) (if f.array then 0 else (f.pw 0x37).toNat) + 1)).all (fun i =>
      let q := y + i
      decide (q < f.reach k) || decide (f.high w ≤ q - f.reach k) || f.has w j (q - f.reach k))))

/-- Lines of (window, stratum) already emitted. -/
def PFrame.sentLines (f : PFrame) (w k : Nat) : Nat := ((f.next.find? (fun p => p.1 == 4 * w + k)).map (·.2)).getD 0

/-- Emit every line of window w and stratum k that can leave. -/
def Chip.pumpOne (m : Chip) (f : PFrame) (otp : List (Nat × Nat × Nat)) (w k : Nat) : Chip × PFrame :=
  let n := f.sentLines w k
  let todo := (f.order w k).drop n
  let go := if f.ended then todo.filter (fun y => f.has w k y) else todo.takeWhile (fun y => f.ready w k y)
  let m := go.foldl (fun m y => m.emitLine f otp w k y) m
  (m, { f with next := (4 * w + k, n + go.length) :: f.next.filter (fun p => p.1 != 4 * w + k) })

/-- Emit every line of the frame that can leave. -/
def Chip.pump (m : Chip) (f : PFrame) : Chip × PFrame :=
  let otp := m.otpMap
  ((List.range 4).flatMap (fun k => (List.range 8).map (fun w => (w, k)))).foldl
    (fun (a : Chip × PFrame) p =>
      if p.1 < f.windows ∧ p.2 < f.strata then a.1.pumpOne a.2 otp p.1 p.2 else a) (m, f)

/-! ## Frames -/

/-- The pipeline frame of a source. -/
def PFrame.is (f : PFrame) (src id : Nat) (fn : Long) : Bool := f.src == src && f.id == id && f.fn == fn

/-- Rows of the frame still wait in a queue or for the pool. -/
def Chip.rowsWait (m : Chip) (f : PFrame) : Bool :=
  let mine := fun (r : PRow) => f.is r.src r.id r.fn
  m.pipe.inline.any mine || m.pipe.memory.any mine || (f.array && m.pipe.lines.any (fun l => l.fn == f.fn)) ||
    m.streams.any (fun t => t.held.any (fun h => h.1.dt == 0 && h.1.src == srcCode f.src && h.1.ctx == f.id && h.1.fn == f.fn))

/-- The stream frame belongs to the pipeline frame. -/
def PFrame.owns (f : PFrame) (g : Frame) : Bool :=
  g.src == (if f.src = 0 ∧ fld (f.cw 0) 0 2 = 3 then 1 else srcCode f.src) && g.ctx == f.id && g.fn == f.fn

/-- Form the frame ends that were asked for and no longer wait for the pipeline (R520, R523). -/
def Chip.formEnds (m : Chip) : Chip :=
  (List.range 8).foldl (fun m s =>
    (m.stream s).frames.foldl (fun m g =>
      if g.endAsked && !g.endQueued && !(m.pipe.frames.any (fun f => f.owns g && f.img == some s)) then m.endFrame s g else m) m) m

/-- The frame of a source completes once it has ended and no row of it waits (R447): its last lines leave, its set
completes, its frame ends follow, and a WHITE run has its measurement (R368). A Drift capture or an RGB888 camera frame has no set. -/
def Chip.finish (m : Chip) (f : PFrame) : Chip :=
  if f.asked && !m.rowsWait f then
    let (m, f') := if f.lost then (m, f) else m.pump { f with ended := true }
    let m := { m with pipe := { m.pipe with
      frames := m.pipe.frames.filter (fun g => g != f), white := if f.white && !f.lost then m.pipe.white ++ [f'] else m.pipe.white } }
    let m := if f.rgb || f.lost || (f.array && fld (f.cw 0) 0 2 == 3) then m else m.setComplete f'
    m.formEnds
  else m

/-- A frame enters the pipeline; its strata operations are checked (R410, R423). -/
def Chip.pipeOpen (m : Chip) (f : PFrame) : Chip :=
  let c := f.cfgCode
  let m := { m with pipe := { m.pipe with frames := m.pipe.frames ++ [f] } }
  if c = 0 then m else m.wr spPipe 0 (merge (m.rd spPipe 0 ||| 0x2000) 0x000F (wd c))

/-- The source has ended its frame, which completes with its last row (R447); aborted frames are partial. -/
def Chip.pipeEnd (m : Chip) (src id : Nat) (fn : Long) (cut : Bool) : Chip :=
  let m := { m with pipe := { m.pipe with frames := m.pipe.frames.map (fun (f : PFrame) =>
    if f.is src id fn then { f with asked := true, partial_ := f.partial_ || cut } else f) } }
  match m.pipe.frames.find? (fun f => f.is src id fn) with
  | some f => m.finish f
  | none => m

/-- A whole row has passed the segments: it joins its frame, its lines leave (R413, R415, R609). -/
def Chip.rowDone (m : Chip) (r : PRow) : Chip :=
  let m := match r.store with
    | some (s, g) => m.freeRec s g
    | none => m
  match m.pipe.frames.find? (fun f => f.is r.src r.id r.fn) with
  | none => m
  | some f =>
    let (m, f1) := if f.array then m.blTrack f r else (m, f)
    let f2 := { f1 with rows := f1.rows ++ [{ r with bl := m.blSnap f1 r.plane }] }
    let (m, f3) := m.pump f2
    let m := { m with pipe := { m.pipe with frames := m.pipe.frames.map (fun g => if g = f then f3 else g) } }
    m.finish f3

/-! ## Drift lines -/

/-- The corrected value of column x of a Drift line (R417). -/
def PFrame.driftOut (f : PFrame) (l : DLine) (x v : Nat) : Nat :=
  if f.on 7 then
    let p := fld (f.cw (0x35 + 0x10 * l.stratum)) 1 3
    let y2 := 2 * (f.cw 0xC2).toNat + 2 ^ fld (f.cw 0xC0) 8 3
    let x2 := meanPos2 (f.win 0 0) f.bx (f.lum l.stratum) x
    let s := x % 2
    let inside := decide (96 ≤ y2) && decide (y2 ≤ 7774) && decide (64 ≤ x2) && decide (x2 ≤ 10302)
    let g := if f.on 4 && tst (f.pw 0) (8 + l.stratum) && inside then
        (if f.lum l.stratum then ((List.range 4).map (fun i => f.gainAt p y2 x2 i)).sum
         else 2 * (f.gainAt p y2 x2 s + f.gainAt p y2 x2 (s + 2)))
      else 16384 * 409600
    let n : Int := l.pixels
    (clampI 0 65535 (roundDiv ((1024 * (v : Int) - n * l.bl) * g) (1024 * 16384 * 409600) + n * fld (f.pw 0xC) 0 12)).toNat
  else v

/-- The ring of R281 has four spare lines for a stratum: a further line that is held drops the oldest one held (R468, log entry
62). -/
def Chip.driftOverflow (m : Chip) (s k : Nat) : Chip :=
  let mine := fun (h : Rec × Tick × Bool × Bool) => h.1.src == 1 && h.1.dt == 0x12 && h.1.stratum == k
  if 4 < ((m.stream s).held.filter mine).length then m.dropHeld s mine else m

/-- A Drift line leaves as RAW16 (R277, R417, R438). -/
def Chip.driftDone (m : Chip) (l : DLine) : Chip :=
  match m.pipe.frames.find? (fun f => f.array && f.fn == l.fn) with
  | none => m
  | some f =>
    match f.img with
    | none => m.finish f
    | some s =>
      let px := (List.range l.vals.length).map (fun x => f.driftOut l x (nth l.vals x))
      let r : Rec :=
        { dt := 0x12, fn := f.fn, ctx := f.id, src := 1, stratum := l.stratum, window := 0, odt := 0,
          lineStart := lineStartBytes l.num l.stamp px.length (b2n l.repeated + 4 * b2n (f.illum.getLsbD l.stratum)),
          payload := px.flatMap (fun v => bytesN v 2), framed := true, sent := 0, buf := 0, chan := none }
      ((m.offer s r .policy).driftOverflow s l.stratum).finish f

/-! ## Segments -/

/-- The pipeline takes one segment of at most 256 values: a Drift line first, then the in-line source, then a memory pass
(R435). -/
def Chip.segment (m : Chip) : Chip :=
  match m.pipe.lines with
  | l :: rest =>
    if l.left ≤ 256 then Chip.driftDone { m with pipe := { m.pipe with lines := rest } } l
    else { m with pipe := { m.pipe with lines := { l with left := l.left - 256 } :: rest } }
  | [] =>
    match m.pipe.inline with
    | r :: rest =>
      if r.left ≤ 256 then Chip.rowDone { m with pipe := { m.pipe with inline := rest } } r
      else { m with pipe := { m.pipe with inline := { r with left := r.left - 256 } :: rest } }
    | [] =>
      match m.pipe.memory with
      | r :: rest =>
        if r.left ≤ 256 then Chip.rowDone { m with pipe := { m.pipe with memory := rest } } r
        else { m with pipe := { m.pipe with memory := { r with left := r.left - 256 } :: rest } }
      | [] => m

/-- A row is stored for a memory pass as an input record of stream s (R439, R465), or kept without a stream. -/
def Chip.storeRow (m : Chip) (img : Option Nat) (r : PRow) (w : Refused) : Chip :=
  match img with
  | none => { m with pipe := { m.pipe with memory := m.pipe.memory ++ [r] } }
  | some s =>
    m.offer s { dt := 0, fn := r.fn, ctx := r.id, src := srcCode r.src, stratum := r.plane, window := 0, odt := 0,
                lineStart := lineStartBytes r.row r.stamp r.left 0, payload := r.vals.flatMap (fun v => bytesN v 2),
                framed := true, sent := 0, buf := 0, chan := none } w

/-! ## The in-line source -/

/-- INSRC.SRC. -/
def Chip.inSrc (m : Chip) : Nat := fld (m.rd spPipe 0x10) 0 2

/-- The present in-line source has a frame open (R23): Drift lines are no frames (R438). -/
def Chip.sourceOpen (m : Chip) : Bool :=
  if m.pipe.act = 0 then m.cc.cap.any (fun c => fld (c.word 0) 0 2 != 3)
  else !((m.cams.getD (m.pipe.act - 1) CamPort.reset).frames.isEmpty)

/-- A pending change of the in-line source takes effect when no frame of the present one is open (R23). -/
def Chip.insrcTake (m : Chip) : Chip := if m.sourceOpen then m else { m with pipe := { m.pipe with act := m.inSrc } }

/-! ## Registers -/

/-- The write sets a field to a value that discards it (R412): HDRSH 5-7, HDRKNEE below 8, FMT 5-7, an odd crop word. -/
def pipeBad (o : Nat) (v : Word) : Bool :=
  (o == 8 && decide (4 < fld v 0 3)) || (o == 9 && decide (v.toNat < 8)) ||
    (decide (0x30 ≤ o) && decide (o < 0x34) && decide (4 < fld v 0 3)) || (decide (0x34 ≤ o) && decide (o < 0x38) && tst v 0)

/-- A write to a PIPE word. -/
def Chip.writePipe (m : Chip) (off : Nat) (v : Word) : Chip :=
  if 0x100 ≤ off ∧ off < 0x300 then (if pipeBad ((off - 0x100) % 0x40) v then m else m.plainWrite spPipe off v)
  else if off = 0x10 then (if fld v 0 2 = 3 then m else (m.plainWrite spPipe off v).insrcTake)
  else m.plainWrite spPipe off v

/-- The read of a PIPE word: INSRC.ACT is live. -/
def Chip.readPipe (m : Chip) (off : Nat) : Word :=
  if off = 0x10 then m.rd spPipe off ||| wd (0x100 * m.pipe.act) else m.rd spPipe off

/-- A write to a STAT word: STATCTL; LOCK = 0 makes a waiting set the front bank (R448). -/
def Chip.writeStat (m : Chip) (off : Nat) (v : Word) : Chip :=
  if off = 0 then (m.plainWrite spStat 0 v).frontUpdate else m

/-- The read of a STAT word. -/
def Chip.readStat (m : Chip) (off : Nat) : Word :=
  match off with
  | 0 => setBit (m.rd spStat 0) 14 m.pipe.waiting.isSome
  | 1 => wd m.pipe.sets
  | 0xF0 => 0
  | _ => m.rd spStat off

/-! ## Commands -/

/-- PIPE_SEGMENT (R435). -/
def execPipeSegment (s : State) : Host.Outcome State Fault Refusal := guarded s s.chip.pw.pipe s.chip.segment

/-- PACE_RESUME: a row has left the full in-line buffer, and paced readout continues (R436). -/
def execPaceResume (s : State) : Host.Outcome State Fault Refusal :=
  guarded s (decide (s.chip.pipe.inline.length < 8)) (s.chip.mapCap (fun c => { c with pausedPace := false }))

/-- INSRC_SWITCH (R23). -/
def execInsrcSwitch (s : State) : Host.Outcome State Fault Refusal := guarded s s.chip.pw.pipe s.chip.insrcTake

end Sys2Proof.Machine
end

