-- ==== Sys2Proof/Machine/Columns.lean ====
section
/-! DEFINITION. The column converter field (chapter 11): roles and conversions (R314-R319), shadow verdicts (R322-R329),
failing and restoring slices (R328-R332, R336-R339), suspect strips (R333), test rows (R335), and the group that Marl
visits (R325). -/

namespace Sys2Proof.Machine

/-! ## Geometry of a capture -/

/-- Replace a field of a word. -/
def setFld (w : Word) (lo n v : Nat) : Word := merge w (wd ((2 ^ n - 1) * 2 ^ lo)) (wd (v % 2 ^ n * 2 ^ lo))

/-- MODE of a capture. -/
def Capture.mode (c : Capture) : Nat := fld (c.word 0) 0 2

/-- NSTRATA of a capture. -/
def Capture.strata (c : Capture) : Nat := fld (c.word 0) 4 3

/-- A 32-bit item of the latched context. -/
def Capture.word32 (c : Capture) (o : Nat) : Nat := (c.word o).toNat + 0x10000 * (c.word (o + 1)).toNat

/-- Horizontal binning. -/
def Capture.bx (c : Capture) : Nat := binOf (fld (c.word 0) 8 2)

/-- The conversions run at 10 bits. -/
def Capture.ten (c : Capture) : Bool := tst (c.word 0) 2

/-- Windows that count: in Drift window 0 alone. -/
def Capture.windows (c : Capture) : Nat := if c.mode = 3 then 1 else fld (c.word 0) 12 3

/-- Row r lies in some window. -/
def Capture.covers (c : Capture) (r : Nat) : Bool :=
  (List.range c.windows).any (fun w =>
    let r0 := (c.word (0x12 + 4 * w)).toNat
    decide (r0 ≤ r) && decide (r < r0 + (c.word (0x13 + 4 * w)).toNat))

/-- The values that the pipeline works through for row r: every window's copy (R435). -/
def Capture.rowWork (c : Capture) (r : Nat) : Nat :=
  ((List.range c.windows).map (fun w =>
    let r0 := (c.word (0x12 + 4 * w)).toNat
    if r0 ≤ r ∧ r < r0 + (c.word (0x13 + 4 * w)).toNat then (c.word (0x11 + 4 * w)).toNat / c.bx else 0)).sum

/-- The rows read for each plane: the test rows first, then every other covered row (R154, R156). -/
def Capture.planeRows (c : Capture) : List Nat :=
  (List.range 8).map (· + 40) ++ (List.range 3912).filter (fun r => (decide (r < 40) || decide (47 < r)) && c.covers r)

/-- Converter group g is powered for the frame (R157). -/
def Capture.powered (c : Capture) (g : Nat) : Bool :=
  g == 0 || g == 161 || (List.range c.windows).any (fun w =>
    let c0 := (c.word (0x10 + 4 * w)).toNat
    let wid := (c.word (0x11 + 4 * w)).toNat
    decide (0 < wid) && decide (c0 < 32 * g + 32) && decide (32 * g < c0 + wid))

/-- Band depth (DCFG.DEPTH). -/
def Capture.depth (c : Capture) : Nat := 2 ^ fld (c.word 0xC0) 8 3

/-! ## Group words -/

/-- GSTAT of group g. -/
def Chip.gstat (m : Chip) (g : Nat) : Word := m.rd spCal (0x100 + g)

/-- Change a field of GSTAT. -/
def Chip.setG (m : Chip) (g lo n v : Nat) : Chip := m.wr spCal (0x100 + g) (setFld (m.gstat g) lo n v)

/-- The physical slice in a role: 0 A, 1 B, 2 S; 3 vacant. -/
def physIn (w : Word) (role : Nat) : Nat := fld w (14 - 2 * role) 2

/-- The role of a physical slice, 3 where it has none. -/
def roleOf (w : Word) (p : Nat) : Nat :=
  if physIn w 0 = p then 0 else if physIn w 1 = p then 1 else if physIn w 2 = p then 2 else 3

/-- STATE of a group: 0 NORMAL, 1 FROZEN, 2 SINGLE, 3 DEAD. -/
def groupState (w : Word) : Nat := fld w 4 2

/-- A group without history. -/
def GroupHist.fresh (g : Nat) : GroupHist :=
  { group := g, lastA := none, lastB := none, deferred := none, spanA := [], spanB := [], force := [], lastRow := none,
    conv := 0, pairs := [], warned := false, stale := false, nextPairs := [], nextWarned := false }

/-- The history of group g. -/
def Chip.hist (m : Chip) (g : Nat) : GroupHist := (m.cal.hist.find? (fun h => h.group == g)).getD (GroupHist.fresh g)

/-- Change the history of group g. -/
def Chip.mapHist (m : Chip) (g : Nat) (f : GroupHist → GroupHist) : Chip :=
  let h := f (m.hist g)
  let rest := m.cal.hist.filter (fun x => x.group != g)
  { m with cal := { m.cal with hist := if h = GroupHist.fresh g then rest else h :: rest } }

/-- The window history of a group is cleared; a NORMAL group begins again with role A, another shadows nothing (R324). -/
def Chip.clearHist (m : Chip) (g : Nat) : Chip :=
  let m := m.mapHist g (fun h =>
    { h with lastA := none, lastB := none, deferred := none, conv := 0, pairs := [], warned := false, stale := false,
             nextPairs := [], nextWarned := false })
  (m.setG g 1 1 0).setG g 2 2 (if groupState (m.gstat g) = 0 then 0 else 2)

/-! ## Marl's visit -/

/-- The dwell's statistics are dropped. -/
def Chip.dwellClear (m : Chip) : Chip :=
  { m with cal := { m.cal with dwell := Dwell.zero, mark := (Dwell.zero, m.cal.mark.2) } }

/-- Marl visits the next powered NORMAL group while MARLEN is 1 and a capture runs (R325, R343); wrapping sets ROTDONE and,
with ROTIE, raises CAL_DONE (R353). -/
def Chip.marlPick (m : Chip) : Chip :=
  match m.cc.cap, m.cal.group with
  | some c, none =>
    if tst (m.rd 0 0x34) 15 then
      let ok := (List.range 162).filter (fun g => c.powered g && groupState (m.gstat g) == 0)
      let m := m.dwellClear
      match ok.find? (fun g => decide (m.cal.from_ ≤ g)) with
      | some g => { m with cal := { m.cal with group := some g } }
      | none =>
        match ok.head? with
        | some g =>
          (({ m with cal := { m.cal with group := some g } }).orBits 0 0x35 0x0400).raiseIf
            (tst (m.rd 0 0x34) 13) evCalDone
        | none => m
    else m
  | _, _ => m

/-- Marl abandons the dwell on group g and moves on (R347). -/
def Chip.marlLeave (m : Chip) (g : Nat) : Chip :=
  if m.cal.group = some g then
    (Chip.dwellClear { m with cal := { m.cal with group := none, from_ := g + 1, stopping := false } }).marlPick
  else m

/-! ## Strips -/

/-- The 16 bytes of a strip ("Strip entry"). -/
def stripBytes (t : Strip) : List Byte :=
  [BitVec.ofNat 8 t.group, BitVec.ofNat 8 (t.role + 4 * t.stratum + 16 * t.cause)] ++ bytesN t.first 2 ++ bytesN t.last 2 ++
    [0, 0] ++ bytesN t.step0 4 ++ bytesN t.step1 4

/-- A strip goes into the fault ring, and into the frame ends of its capture while that runs (R333). -/
def Chip.addStrip (m : Chip) (fn : Long) (t : Strip) : Chip :=
  let m := m.mapCap (fun c => if c.fn = fn then { c with strips := c.strips ++ [t] } else c)
  m.fault 0x07 (stripBytes t)

/-- Report spans of group g. -/
def Chip.addSpans (m : Chip) (g role cause : Nat) (l : List Span) : Chip :=
  l.foldl (fun m x =>
    m.addStrip x.fn
      { group := g, role := role, stratum := x.stratum, cause := cause, first := x.first, last := x.last, step0 := x.step0,
        step1 := x.step1 }) m

/-- The least and greatest of a list of rows, as a strip. -/
def rowsStrip (g role k cause : Nat) : List Nat → Option Strip
  | [] => none
  | r :: l => some { group := g, role := role, stratum := k, cause := cause, first := l.foldl min r, last := l.foldl max r,
                     step0 := 0, step1 := 0 }

/-- The rows of plane k that are still to be read: those the row engine holds, or a whole plane that it has not begun. -/
def Capture.restRows (c : Capture) (k : Nat) : List Nat :=
  if c.read.getLsbD k then (c.todo.filter (fun t => t.plane == k)).map (·.row) else c.planeRows

/-- The steps taken up whose bands are to be read, in order. -/
def Drift.bands (d : Drift) : List DStep := d.reading.toList ++ d.closed ++ d.exposing.toList ++ d.taken

/-- The next step whose band is to be read. -/
def Drift.nextBand (d : Drift) : Nat := (((d.bands ++ d.outstanding).head?).map (·.num)).getD d.count

/-- The first row of the band that is read next. -/
def Capture.bandAt (c : Capture) (d : Drift) : Nat := ((d.bands.head?).map (·.row)).getD (c.word 0xC2).toNat

/-- The strips of the rest of the frame in progress for a group that lost a role (R330, R331). -/
def Chip.restStrips (m : Chip) (g role cause : Nat) : Chip :=
  match m.cc.cap with
  | none => m
  | some c =>
    if c.powered g then
      let l := (List.range c.strata).filterMap (fun k =>
        if c.mode = 3 then
          let s := m.cc.drift.nextBand
          let row := c.bandAt m.cc.drift
          some { group := g, role := role, stratum := k, cause := cause, first := row, last := row + c.depth - 1,
                 step0 := s, step1 := s }
        else rowsStrip g role k cause (c.restRows k))
      l.foldl (fun m t => m.addStrip c.fn t) m
    else m

/-! ## Declaring a slice failed -/

/-- Physical slice p of group g is declared failed, with its cause (0 SHADOW, 1 TEST, 4 FORCED): roles, state, strips,
record, ledger and events (R328-R333, R336, R337). -/
def Chip.failSlice (m : Chip) (g p cause : Nat) : Chip :=
  let w := m.gstat g
  let role := roleOf w p
  if role = 3 ∨ 3 ≤ p then m
  else
    let h := m.hist g
    let st := groupState w
    let inFrame := m.cc.cap.any (fun c => c.vacant.any (fun v => v.1 == g))
    let spans := if role = 0 then h.spanA else h.spanB
    -- the slice's past rows
    let m := if role = 2 ∨ cause = 4 then m
      else m.addSpans g (if st = 2 ∧ !inFrame then 2 else role) cause spans
    let m := (m.setG g (6 + p) 1 1).ledger 2 1
    -- its role
    let m :=
      if role = 2 then ((m.setG g 10 2 3).setG g 4 2 1)
      else if st = 0 then (((m.setG g (14 - 2 * role) 2 (physIn w 2)).setG g 10 2 3).setG g 4 2 1)
      else (m.setG g (14 - 2 * role) 2 3).setG g 4 2 (if st = 1 then 2 else 3)
    let m := m.fault 0x06 [BitVec.ofNat 8 g, BitVec.ofNat 8 p, BitVec.ofNat 8 role, BitVec.ofNat 8 cause,
      BitVec.ofNat 8 (groupState (m.gstat g))]
    -- the rest of the frame in progress
    let m := if st = 0 then m
      else
        let m := m.mapCap (fun c => if st = 1 ∧ c.powered g then { c with vacant := c.vacant ++ [(g, role)] } else c)
        if cause = 4 then m else m.restStrips g (if st = 1 then role else 2) (if st = 1 then 2 else 3)
    let m := m.mapHist g (fun h => if role = 0 then { h with spanA := [] } else if role = 1 then { h with spanB := [] } else h)
    let m := if role = 2 then m.raise evCalFail else m.raise evSliceSwap
    (m.clearHist g).marlLeave g

/-! ## Shadow windows -/

/-- The differences d of a window in LSB of 12 bits: one code is four of them at 10 bits (R319, R322). -/
def windowDiffs (rows : List (Nat × List (Int × Int))) : List Int :=
  rows.flatMap (fun r => r.2.map (fun p => (r.1 : Int) * (p.1 - p.2)))

/-- A window fails (R322): eight or more |d| above 32, or a mean of its 128 d above 6 in magnitude. -/
def windowFails (ds : List Int) : Bool :=
  decide (8 ≤ (ds.filter (fun d => decide (32 < d.natAbs))).length) || decide (6 * 128 < ds.sum.natAbs)

/-- 256 conversions of group g have been made since its window began (R321). -/
def Chip.windowDue (m : Chip) (g : Nat) : Bool :=
  decide (256 ≤ (m.hist g).conv) && groupState (m.gstat g) == 0

/-- The next window follows without a gap (R321): what its first conversions gave is its own. -/
def GroupHist.nextWindow (h : GroupHist) : GroupHist :=
  { h with conv := h.conv - 256, pairs := h.nextPairs, warned := h.nextWarned, stale := h.stale && decide (256 < h.conv),
           nextPairs := [], nextWarned := false }

/-- The verdict of a completed window on the role that GSTAT.SHADOW names (R326); at a boundary just after test row 47 the
test rows govern (R327). The next window shadows the other role. -/
def Chip.verdict (m : Chip) (g : Nat) (failed : Bool) : Chip :=
  let w := m.gstat g
  let role := fld w 2 2
  let h := m.hist g
  let tested := h.lastRow.any (fun r => r.2 == 47)
  let ref := if role = 0 then h.lastB else h.lastA
  let m := m.mapHist g (fun h =>
    let h := if role = 0 then { h with lastA := some failed } else { h with lastB := some failed }
    let h := if failed then h else if role = 0 then { h with spanA := [] } else { h with spanB := [] }
    { h with deferred := none })
  let m := (m.setG g 2 2 (1 - role)).setG g 1 1 0
  let declare := fun (p : Nat) => if tested then m else m.failSlice g p 0
  match h.deferred with
  | some r => if failed then declare (physIn w 2) else declare (physIn w r)
  | none =>
    if failed then
      match ref with
      | some false => declare (physIn w role)
      | some true => declare (physIn w 2)
      | none => (m.mapHist g (fun h => { h with deferred := some role })).setG g 1 1 1
    else m

/-- A skipped window (R323): SKIPCNT counts, the next window shadows the other role. Each trim block of the group has a
SKIPCNT; the model counts in the block of the working slice that the window shadowed (DEDUCED, log entry 52). -/
def Chip.skipWindow (m : Chip) (g : Nat) : Chip :=
  let w := m.gstat g
  let m := m.bump spCal (trimOff g (physIn w (fld w 2 2)) 7) 1
  m.setG g 2 2 (1 - fld w 2 2)

/-! ## Conversions of one row -/

/-- The digital offset of slice p of group g in force, in sixteenths. -/
def Chip.ofsApplied (m : Chip) (g p : Nat) : Int := sext (m.rd spCal (trimOff g p 6)).toNat 12

/-- A delivered code (R319). -/
def trimmed (ten : Bool) (raw : Nat) (ofs : Int) : Nat :=
  if ten then (clampI 0 1023 (roundDiv (64 * (raw : Int) - ofs) 64)).toNat
  else (clampI 0 4095 (roundDiv (16 * (raw : Int) - ofs) 16)).toNat

/-- The code of physical slice p of group g for a sample whose light alone would give the code `raw`: a node that is full
converts to the code for full node charge, a constant of the part near 3,928 (982 at 10 bits) (R150). -/
def Chip.code (m : Chip) (ten : Bool) (g p raw : Nat) : Nat := trimmed ten (min raw (Config.fullCode g p ten)) (m.ofsApplied g p)

/-- The physical slice that performs conversion i of a row in group g, none where it is not performed (R315, R330,
R331). -/
def Chip.convertsIn (m : Chip) (c : Capture) (g i : Nat) : Option Nat :=
  let w := m.gstat g
  let role := i % 2
  if groupState w = 3 then none
  else if physIn w role < 3 then some (physIn w role)
  else if c.vacant.any (fun v => v.1 == g && v.2 == role) then none
  else if physIn w (1 - role) < 3 then some (physIn w (1 - role)) else none

/-- The codes of group g in one row, before the scaling by bx. -/
def Chip.groupCodes (m : Chip) (c : Capture) (r : GroupRow) : List Nat :=
  (List.range (32 / c.bx)).map (fun i =>
    match m.convertsIn c r.group i with
    | some p => m.code c.ten r.group p (nth r.raw i)
    | none => 0)

/-- The values of a whole row: powered groups in order, their codes multiplied by bx (R160); other columns are not
converted. -/
def Chip.rowValues (m : Chip) (c : Capture) (rows : List GroupRow) : List Nat :=
  (List.range 162).flatMap (fun g =>
    match rows.find? (fun r => r.group == g) with
    | some r => if c.powered g then (m.groupCodes c r).map (· * c.bx) else List.replicate (32 / c.bx) 0
    | none => List.replicate (32 / c.bx) 0)

/-! ## Spans and test rows -/

/-- A row joins a role's span of its plane and capture. -/
def growSpan (fn : Long) (k row step : Nat) : List Span → List Span
  | [] => [{ fn := fn, stratum := k, first := row, last := row, step0 := step, step1 := step }]
  | x :: l =>
    if x.fn = fn ∧ x.stratum = k then { x with first := min x.first row, last := max x.last row, step1 := step } :: l
    else x :: growSpan fn k row step l

/-- Role X is shadowed by conversion i of a row: the windows alternate after 256 conversions (R321). -/
def GroupHist.shadows (h : GroupHist) (role i : Nat) : Bool := i % 2 == (if h.conv + i < 256 then role else 1 - role)

/-- The pairs (working code, S code) of the shadowed conversions of a row with their numbers, both after the digital offsets
(R321, R322). -/
def Chip.shadowPairs (m : Chip) (c : Capture) (r : GroupRow) : List (Nat × Int × Int) :=
  let g := r.group
  let w := m.gstat g
  let ids := (List.range (32 / c.bx)).filter ((m.hist g).shadows (fld w 2 2))
  (ids.zip r.shadow).filterMap (fun x =>
    (m.convertsIn c g x.1).map (fun p =>
      (x.1, (m.code c.ten g p (nth r.raw x.1) : Int), (m.code c.ten g (physIn w 2) x.2 : Int))))

/-- The row's conversions join the group's window (R321-R323, R350). -/
def GroupHist.addRow (h : GroupHist) (c : Capture) (warn hold : Bool) (pairs : List (Nat × Int × Int)) : GroupHist :=
  let n := 32 / c.bx
  let row := fun (l : List (Nat × Int × Int)) => if l.isEmpty then [] else [(if c.ten then 4 else 1, l.map (·.2))]
  { h with conv := h.conv + n
           pairs := h.pairs ++ row (pairs.filter (fun x => decide (h.conv + x.1 < 256)))
           warned := h.warned || warn
           stale := h.stale || hold
           nextPairs := h.nextPairs ++ row (pairs.filter (fun x => !decide (h.conv + x.1 < 256)))
           nextWarned := warn && decide (256 < h.conv + n) }

/-- One row of a group has been converted: its roles' spans, its last row, its window, the rows since its trims' last steps
(R321, R333, R354). -/
def Chip.groupRow (m : Chip) (c : Capture) (r : GroupRow) (k row step : Nat) : Chip :=
  let g := r.group
  let w := m.gstat g
  let grow := fun (role : Nat) (l : List Span) => if physIn w role < 3 then growSpan c.fn k row step l else l
  let warn := m.warn
  let hold := decide (0 < m.cal.hold)
  let pairs := m.shadowPairs c r
  let m := { m with cal := { m.cal with walked := m.cal.walked.map (fun (x : Nat × Nat × Nat) => if x.1 / 3 = g then (x.1, x.2.1, x.2.2 + 1) else x) } }
  m.mapHist g (fun h =>
    let h := { h with spanA := grow 0 h.spanA, spanB := grow 1 h.spanB, lastRow := some (k, row) }
    if groupState w = 0 then h.addRow c warn hold pairs else h)

/-- The row of group g among the codes of a row; a group without an entry has no codes. -/
def rowOf (codes : List GroupRow) (g : Nat) : GroupRow :=
  (codes.find? (fun r => r.group == g)).getD { group := g, raw := [], shadow := [] }

/-- One row of every powered group has been converted. -/
def Chip.groupRows (m : Chip) (c : Capture) (codes : List GroupRow) (k row step : Nat) : Chip :=
  ((List.range 162).filter (fun g => c.powered g)).foldl (fun m g => m.groupRow c (rowOf codes g) k row step) m

/-- Sum and count of the codes of a slice in the test row of group g. -/
def Chip.testCodes (m : Chip) (c : Capture) (r : GroupRow) (p : Nat) : Int × Nat :=
  let l := if physIn (m.gstat r.group) 2 = p then r.shadow.map (fun x => m.code c.ten r.group p x)
    else ((List.range (32 / c.bx)).filter (fun i => m.convertsIn c r.group i == some p)).map
      (fun i => m.code c.ten r.group p (nth r.raw i))
  ((l.sum : Nat), l.length)

/-- The sums of test row 40 + i of plane k join the capture's. -/
def Chip.addTests (m : Chip) (c : Capture) (k i : Nat) (r : GroupRow) : Chip :=
  let new := (List.range 3).filterMap (fun p =>
    let t := m.testCodes c r p
    if t.2 = 0 then none else some (k, r.group, p, i, t.1, t.2))
  m.mapCap (fun c => { c with tests := c.tests ++ new })

/-- Sum and count of test row i of plane k on slice p of group g. -/
def Capture.test (c : Capture) (k g p i : Nat) : Option (Int × Nat) :=
  (c.tests.find? (fun t => t.1 == k && t.2.1 == g && t.2.2.1 == p && t.2.2.2.1 == i)).map (fun t => t.2.2.2.2)

/-- The slice converted test rows of plane k. -/
def Capture.tested (c : Capture) (k g p : Nat) : Bool := (List.range 8).any (fun i => (c.test k g p i).isSome)

/-- The slice passes the test-row check of plane k (R335); rows that it did not convert give no comparison. -/
def Capture.testPasses (c : Capture) (k g p : Nat) : Bool :=
  let lim := fun (a b : Int) => if c.ten then b else a
  let t1 := match c.test k g p 0 with
    | some (s, n) => decide (lim 80 20 * n ≤ s) && decide (s ≤ lim 176 44 * n)
    | none => true
  let t2 := match c.test k g p 0, c.test k g p 7 with
    | some (s, n), some (t, q) =>
      let d := t * n - s * q
      decide (lim 435 109 * 7 * n * q ≤ d) && decide (d ≤ lim 589 147 * 7 * n * q)
    | _, _ => true
  let t3 := (List.range 7).all (fun i =>
    match c.test k g p i, c.test k g p (i + 1) with
    | some (s, n), some (t, q) => decide (lim 256 64 * n * q ≤ t * n - s * q)
    | _, _ => true)
  t1 && t2 && t3

/-- The judgement of one group after test row 47 of plane k (R335, R336): slice S as it stood, on the conversions it shadowed
(R329), then the working slices. -/
def Chip.judge (m : Chip) (k g : Nat) : Chip :=
  match m.cc.cap with
  | none => m
  | some c =>
    let w := m.gstat g
    ([2, 0, 1].map (physIn w)).foldl (fun m p =>
      if c.tested k g p then
        if c.testPasses k g p then
          let role := roleOf (m.gstat g) p
          m.mapHist g (fun h => if role = 0 then { h with spanA := [] } else if role = 1 then { h with spanB := [] } else h)
        else (m.failSlice g p 1).setG g 0 1 1
      else m) m

/-! ## FORCE and RESTORE -/

/-- Waiting FORCE writes of group g take effect (R337). -/
def Chip.applyForce (m : Chip) (g : Nat) : Chip :=
  let l := (m.hist g).force
  l.foldl (fun m p => m.failSlice g p 4) (m.mapHist g (fun h => { h with force := [] }))

/-- Every waiting FORCE takes effect. -/
def Chip.applyForces (m : Chip) : Chip := (m.cal.hist.map (·.group)).foldl (fun m g => m.applyForce g) m

/-- The array is busy with a capture or held by a halted Loam (R176, R263). -/
def Chip.capBusy (m : Chip) : Bool := m.cc.cap.isSome || m.loam.halted

/-- RESTORE of slice p (R338, R339). -/
def Chip.restoreSlice (m : Chip) (g p : Nat) : Chip :=
  let w := m.gstat g
  if m.capBusy || !tst w (6 + p) then m
  else
    let m := m.setG g (6 + p) 1 0
    let m := match groupState w with
      | 1 => (m.setG g 10 2 p).setG g 4 2 0
      | 2 => (m.setG g (if physIn w 0 = 3 then 14 else 12) 2 p).setG g 4 2 1
      | 3 => (m.setG g 14 2 p).setG g 4 2 2
      | _ => m
    m.clearHist g

/-- A GCMD write (R337-R339). -/
def Chip.writeGcmd (m : Chip) (g : Nat) (v : Word) : Chip :=
  let p := fld v 0 2
  if p = 3 ∨ (tst v 15 ∧ tst v 14) then m
  else if tst v 15 then m.restoreSlice g p
  else if tst v 14 then
    if tst (m.gstat g) (6 + p) then m
    else
      let m := m.mapHist g (fun h => { h with force := h.force ++ [p] })
      if m.cc.cap.isSome then m else m.applyForce g
  else m

/-! ## Commands -/

end Sys2Proof.Machine
end

