-- ==== Sys2Proof/Machine/Marl.lean ====
section
/-! DEFINITION. Marl at work in the column field (chapter 12): the dwell's statistics and estimates (R344), targets (R345,
R346), COLTRIM, COLREF and the end of a dwell (R345-R348, R351, R353), the end of a shadow window (R322-R326, R343), supply
disturbances (R350), and the walk of the column trims (R320, R354-R356). -/

namespace Sys2Proof.Machine

/-! ## Estimates -/

/-- An estimate in taps: numerator and denominator, none where the statistics leave it undetermined. -/
abbrev Est := Option (Int × Nat)

/-- A fraction with a denominator of either sign. -/
def frac (num den : Int) : Est :=
  if den = 0 then none else if 0 < den then some (num, den.toNat) else some (-num, den.natAbs)

/-- Add one pair of codes, its predecessor in the row included, to a half's statistics (R344). Codes and differences count in
LSB of 12 bits, `u` of them to a code (R319); the parity is the working code's. -/
def HalfStat.add (h : HalfStat) (u : Nat) (p : Int × Int) (prev : Option Int) : HalfStat :=
  let d := u * (p.1 - p.2)
  let x := u * p.2 - 2048
  let odd := decide (p.1 % 2 = 1)
  let h := { h with n := h.n + 1, sd := h.sd + d, sx := h.sx + x, sxx := h.sxx + x * x, sdx := h.sdx + d * x,
                    nOdd := h.nOdd + b2n odd, sOdd := h.sOdd + (if odd then d else 0) }
  match prev with
  | none => h
  | some q =>
    let y := u * (p.2 - q)
    { h with m := h.m + 1, sy := h.sy + y, syy := h.syy + y * y, sdy := h.sdy + d * y, sdm := h.sdm + d }

/-- Add one row of a window. -/
def HalfStat.addRow (h : HalfStat) (u : Nat) (prev : Option Int) : List (Int × Int) → HalfStat
  | [] => h
  | p :: r => (h.add u p prev).addRow u (some p.2) r

/-- Add one window. -/
def HalfStat.addWindow (h : HalfStat) (rows : List (Nat × List (Int × Int))) : HalfStat :=
  let h := rows.foldl (fun h r => h.addRow r.1 none r.2) h
  { h with windows := h.windows + 1 }

/-- The estimates of a half (R344): 0 DLY (the slope k itself), 1 THR, 2 GAIN, 3 OFS. -/
def HalfStat.est (h : HalfStat) (t : Nat) : Est :=
  let n : Int := h.n
  let m : Int := h.m
  let o : Int := h.nOdd
  match t with
  | 0 => frac (m * h.sdy - h.sdm * h.sy) (m * h.syy - h.sy * h.sy)
  | 1 => frac (8 * (h.sOdd * (n - o) - (h.sd - h.sOdd) * o)) (o * (n - o))
  | 2 => frac (5000 * (n * h.sdx - h.sd * h.sx)) (n * h.sxx - h.sx * h.sx)
  | _ => frac (16 * h.sd) n

/-- An undetermined estimate is a free value (log entry 2). -/
def Chip.estOr (m : Chip) (e : Est) : (Int × Nat) × Chip :=
  match e with
  | some x => (x, m)
  | none =>
    let r := m.takeFree
    ((sext r.1.toNat 16, 1), r.2)

/-- Two estimates differ by no more than a tolerance (R345). -/
def near (a b : Int × Nat) (tol : Nat) : Bool :=
  decide ((a.1 * b.2 - b.1 * a.2).natAbs ≤ tol * a.2 * b.2)

/-- The mean of two estimates, rounded to whole taps. -/
def meanTaps (a b : Int × Nat) : Int := roundDiv (a.1 * b.2 + b.1 * a.2) (2 * a.2 * b.2)

/-! ## Targets -/

/-- Word, first bit, width and range of a trim in its block: 0 DLY, 1 THR, 2 GAIN, 3 OFS ("Slice trims"). -/
def trimField (t : Nat) : Nat × Nat × Nat × Int × Int :=
  match t with
  | 0 => (0, 8, 6, 0, 63)
  | 1 => (0, 0, 5, -16, 15)
  | 2 => (1, 0, 6, -32, 31)
  | _ => (2, 0, 12, -2048, 2047)

/-- The value of a trim in word `base` (0 target, 4 applied) of a slice's block. -/
def Chip.trimVal (m : Chip) (g p t base : Nat) : Int :=
  let f := trimField t
  let v := fld (m.rd spCal (trimOff g p (base + f.1))) f.2.1 f.2.2.1
  if t = 0 then v else sext v f.2.2.1

/-- Set a trim. -/
def Chip.setTrim (m : Chip) (g p t base : Nat) (v : Int) : Chip :=
  let f := trimField t
  let o := trimOff g p (base + f.1)
  m.wr spCal o (setFld (m.rd spCal o) f.2.1 f.2.2.1 (enc v f.2.2.1))

/-- A trim is pinned (R357). -/
def Chip.pinned (m : Chip) (g p t : Nat) : Bool := tst (m.rd spCal (0x300 + g)) (4 * p + t)

/-- The sign of the move that reduces a positive estimate (R345): OFS is subtracted from the codes (R319); for the other
trims it is the hardware's. -/
def moveSign (t : Nat) : Int := if t = 3 then 1 else if Config.tapRaises t then -1 else 1

/-- Move a target by taps that would reduce its estimate (R345, R346). -/
def Chip.moveTarget (m : Chip) (g p t : Nat) (taps : Int) : Chip :=
  if m.pinned g p t then m
  else
    let f := trimField t
    let d := moveSign t * taps
    let old := m.trimVal g p t 0
    let beyond := (decide (old = f.2.2.2.1) && decide (d < 0)) || (decide (old = f.2.2.2.2) && decide (0 < d))
    let rise := beyond && !tst (m.rd spCal (0x300 + g)) 15
    let m := m.setTrim g p t 0 (clampI f.2.2.2.1 f.2.2.2.2 (old + d))
    let m := if beyond then m.orBits spCal (0x300 + g) 0x8000 else m
    if rise then m.fault 0x09 [BitVec.ofNat 8 g, BitVec.ofNat 8 p, BitVec.ofNat 8 t, if 0 < d then 1 else 0] else m

/-- MAXWALK. -/
def Chip.maxWalk (m : Chip) : Int := fld (m.rd spCal 1) 0 4

/-- Learn one trim from two estimates: accepted where they agree (R345); the Bool says so. -/
def Chip.learn (m : Chip) (g p t tol : Nat) (e1 e2 : Est) : Chip × Bool :=
  let a := m.estOr e1
  let b := a.2.estOr e2
  let m := b.2
  if t = 0 then
    let both := fun (s : Int) => decide ((a.1.2 : Int) < 512 * (s * a.1.1)) && decide ((b.1.2 : Int) < 512 * (s * b.1.1))
    if both 1 then (m.moveTarget g p 0 1, true) else if both (-1) then (m.moveTarget g p 0 (-1), true) else (m, false)
  else if near a.1 b.1 tol then
    (m.moveTarget g p t (clampI (-m.maxWalk) m.maxWalk (meanTaps a.1 b.1)), true)
  else (m, false)

/-- CALTIME of a class (R351). -/
def Chip.calTime (m : Chip) (c : Nat) (all : Bool) : Chip :=
  let o := 0x10 + 0x10 * c
  if all then
    let m := m.wr32 spCal o (min (m.rd32 spCal o + 1) 0xFFFFFFFF)
    let m := m.wr64 spCal (o + 2) m.now.toNat
    (m.wr32 spCal (o + 6) (m.tb.aon.toNat % 0x100000000)).wr spCal (o + 8) (wd (m.tb.aon.toNat / 0x100000000))
  else m.bump spCal (o + 9) 1

/-- Half h (0 first, 1 last) of the dwell on a role. -/
def Dwell.half (d : Dwell) (role h : Nat) : HalfStat := d.stats.getD (2 * role + h) HalfStat.zero

/-- COLTRIM at the end of a dwell (R344, R345). -/
def Chip.colTrim (m : Chip) (g : Nat) : Chip :=
  let d := m.cal.dwell
  let r := ([0, 1].flatMap (fun role => [0, 1, 2, 3].map (fun t => (role, t)))).foldl
    (fun (a : Chip × Bool) x =>
      let p := physIn (a.1.gstat g) x.1
      let tol := if x.2 = 3 then 4 else 2
      let l := a.1.learn g p x.2 tol ((d.half x.1 0).est x.2) ((d.half x.1 1).est x.2)
      (l.1, a.2 && l.2)) (m, true)
  r.1.calTime 0 r.2

/-- The errors of a plane against REFPED and REFSLOPE (R348). -/
def Chip.refErr (m : Chip) (q : Int × Nat × Int × Nat) (t : Nat) : Est :=
  let ped : Int := fld (m.rd spCal 4) 0 12
  let slope : Int := fld (m.rd spCal 5) 0 12
  let n0 : Int := q.2.1
  let n7 : Int := q.2.2.2
  if t = 3 then frac (16 * (q.1 - ped * n0)) n0
  else frac (5000 * ((q.2.2.1 * n0 - q.1 * n7) - 7 * slope * n0 * n7)) (7 * slope * n0 * n7)

/-- The last two consecutive planes of the dwell whose errors of a trim agree (R348). -/
def agreeing (es : List Est) (tol : Nat) : Option (Est × Est) :=
  (es.zip (es.drop 1)).reverse.find? (fun p =>
    match p.1, p.2 with
    | some a, some b => near a b tol
    | _, _ => false)

/-- COLREF at the end of a dwell (R348). -/
def Chip.colRef (m : Chip) (g : Nat) : Chip :=
  let ps := m.cal.dwell.planes
  if ps.length < 2 then m
  else
    let p := physIn (m.gstat g) 2
    let r := [3, 2].foldl (fun (a : Chip × Bool) t =>
      let tol := if t = 3 then 8 else 3
      match agreeing (ps.map (fun q => m.refErr q t)) tol with
      | some e => ((a.1.learn g p t tol e.1 e.2).1, a.2)
      | none => (a.1, false)) (m, true)
    r.1.calTime 1 r.2

/-- The dwell of Marl is complete: 768 usable windows on each role (R325). -/
def Chip.dwellFull (m : Chip) : Bool := decide (768 ≤ m.cal.dwell.winA) && decide (768 ≤ m.cal.dwell.winB)

/-- The end of a dwell (R345-R348, R351, R353): the updates, then the next group, unless MARLEN has been cleared. -/
def Chip.dwellEnd (m : Chip) (g : Nat) : Chip := ((m.colTrim g).colRef g).marlLeave g

/-- A completed window's pairs join the dwell (R344, R350). -/
def Chip.dwellAdd (m : Chip) (role : Nat) (rows : List (Nat × List (Int × Int))) : Chip :=
  let d := m.cal.dwell
  let n := if role = 0 then d.winA else d.winB
  if 768 ≤ n then m
  else
    let i := 2 * role + (if n < 384 then 0 else 1)
    let d := { d with winA := d.winA + (if role = 0 then 1 else 0), winB := d.winB + (if role = 0 then 0 else 1),
                      stats := upd d.stats i (fun h => h.addWindow rows) }
    { m with cal := { m.cal with dwell := d } }

/-- The shadow window of group g ends (R322, R323, R326, R343, R344, R350): its verdict or its skip, the learning of a window
that counts, and the next window. -/
def Chip.windowEnd (m : Chip) (g : Nat) : Chip :=
  let role := fld (m.gstat g) 2 2
  let h := m.hist g
  let stop := fun (m : Chip) =>
    let m := m.mapHist g GroupHist.nextWindow
    if m.cal.stopping && m.cal.group == some g && !m.dwellFull then m.marlLeave g else m
  if h.warned then stop (m.skipWindow g)
  else
    let m := m.verdict g (windowFails (windowDiffs h.pairs))
    let learn := m.cal.group == some g && groupState (m.gstat g) == 0 && !m.cal.stopping && !h.stale
    stop (if learn then m.dwellAdd role h.pairs else m)

/-- Every window that is complete ends, before the next row of its group (R321). -/
def Chip.windowsEnd (m : Chip) : Chip :=
  ((m.cal.hist.map (·.group)).filter m.windowDue).foldl (fun m g => m.windowEnd g) m

/-- Learning is suspended by a supply warning (R94, R350): what the capture in progress gave is discarded, and so is the next
capture. -/
def Chip.marlWarn (m : Chip) : Chip :=
  let busy := m.cc.cap.isSome
  let prev := (List.range 2).map (fun i =>
    let old := m.cal.mark.2.getD i none
    let new := m.hkc.prev.getD i none
    if busy && old == new then new else none)
  { m with cal := { m.cal with
             dwell := if busy then m.cal.mark.1 else m.cal.dwell
             hold := if busy then 2 else 1
             hist := if busy then m.cal.hist.map (fun h => { h with stale := h.stale || decide (0 < h.conv) }) else m.cal.hist }
           hkc := { m.hkc with prev := prev, windows := m.hkc.windows.map (fun w => (w.1, w.2.1, w.2.2 || (busy && decide (0 < w.2.1)))) } }

/-! ## Walking trims -/

/-- Group g converts rows at present: rows of a readout that is not paused, or of a Drift band. -/
def Chip.groupConverts (m : Chip) (g : Nat) : Bool :=
  m.cc.cap.any (fun c => c.powered g &&
    (if c.mode = 3 then m.cc.drift.reading.isSome else decide (c.todo ≠ []) && !c.pausedPool && !c.pausedPace))

/-- Rows since the previous step of a trim, none where more than any WALKROWS have passed. -/
def Chip.rowsSince (m : Chip) (g p t : Nat) : Option Nat :=
  (m.cal.walked.find? (fun x => x.1 == 3 * g + p && x.2.1 == t)).map (·.2.2)

/-- The trims of the slice stand as they are: in a FROZEN group, and on a slice declared failed (R328, R338), but for a trim
that the host has written (R357). -/
def Chip.trimStands (m : Chip) (g p t : Nat) : Bool :=
  (groupState (m.gstat g) == 1 || tst (m.gstat g) (6 + p)) && !m.pinned g p t

/-- The trim may take its next step (R354). -/
def Chip.mayWalk (m : Chip) (g p t : Nat) : Bool :=
  decide (m.trimVal g p t 4 ≠ m.trimVal g p t 0) && !m.trimStands g p t &&
    (!m.groupConverts g || (m.rowsSince g p t).all (fun n => decide (fld (m.rd spCal 0) 0 8 ≤ n)))

/-- One step of a trim towards its target (R320, R354, R356). -/
def Chip.trimStep (m : Chip) (g p t : Nat) : Chip :=
  let a := m.trimVal g p t 4
  let m := m.setTrim g p t 4 (a + (m.trimVal g p t 0 - a).sign)
  let l := m.cal.walked.filter (fun x => !(x.1 == 3 * g + p && x.2.1 == t) && decide (x.2.2 < 255))
  { m with cal := { m.cal with walked := (3 * g + p, t, 0) :: l } }

/-- At a row boundary inside a band every trim of the powered groups that may take a step takes it (R354). -/
def Chip.walkAll (m : Chip) (c : Capture) : Chip :=
  ((List.range 162).filter (fun g => c.powered g)).foldl (fun m g =>
    (List.range 3).foldl (fun m p =>
      (List.range 4).foldl (fun m t => if m.mayWalk g p t then m.trimStep g p t else m) m) m) m

end Sys2Proof.Machine
end

