-- ==== Sys2Proof/Machine/Capture.lean ====
section
/-! DEFINITION. Capture control (chapter 6): latching (R13, R168), arm checks (R149, R155, R159, R165, R187 and the Drift
items), triggers (R171-R177), the start and the end of a capture (R178, R229, R253), abort (R170), and the rows of its
readout (R151-R160). -/

namespace Sys2Proof.Machine

/-! ## Latching -/

/-- The configuration words of context k, keyed by context offset (R13, R168). -/
def Chip.latchCtx (m : Chip) (k : Nat) : Bank :=
  m.regs.filterMap (fun c =>
    let base := key spCtx (0x100 * k)
    if base ≤ c.1 ∧ c.1 < base + 0xD0 then some (key spCtx (c.1 - base), c.2) else none)

/-- The words of a space as they stand. -/
def Chip.latchSpace (m : Chip) (sp : Nat) : Bank :=
  m.regs.filter (fun c => decide (key sp 0 ≤ c.1) && decide (c.1 < key (sp + 1) 0))

/-- A key of the FLAT and DEFADD words. -/
def calTable (k : Nat) : Bool := decide (key spCal 0x2000 ≤ k) && decide (k < key (spCal + 1) 0)

/-- The FLAT and DEFADD words in force (R371). -/
def Chip.latchCal (m : Chip) : Bank := m.held.filter (fun c => calTable c.1)

/-- The FLAT and DEFADD words as they stand come into force (R371). -/
def Chip.calForce (m : Chip) : Chip :=
  { m with held := Bank.putAll (Bank.keepIf m.held (fun k => !calTable k)) (m.regs.filter (fun c => calTable c.1)) }

/-- A word of a latched context. -/
def lw (b : Bank) (o : Nat) : Word := Bank.get b (key spCtx o)

/-- A 32-bit item of a latched context. -/
def lw32 (b : Bank) (o : Nat) : Nat := (lw b o).toNat + 0x10000 * (lw b (o + 1)).toNat

/-! ## Arm checks -/

/-- OFFSET, DURATION and LEAD of stratum k. -/
def planO (b : Bank) (k : Nat) : Nat := lw32 b (0x30 + 0x10 * k)
def planD (b : Bank) (k : Nat) : Nat := lw32 b (0x32 + 0x10 * k)
def planLead (b : Bank) (k : Nat) : Nat := (lw b (0x36 + 0x10 * k)).toNat

/-- Strata in use. -/
def usedStrata (b : Bank) : List Nat := List.range (fld (lw b 0) 4 3)

/-- Window w meets R155; in Drift only its columns are checked. -/
def windowOk (b : Bank) (drift : Bool) (w : Nat) : Bool :=
  let bx := 2 * binOf (fld (lw b 0) 8 2)
  let by_ := 2 * binOf (fld (lw b 0) 10 2)
  let at_ := fun i => (lw b (0x10 + 4 * w + i)).toNat
  let ok := fun (start size m lim : Nat) =>
    start % m == 0 && size % m == 0 && decide (m ≤ size) && decide (start + size ≤ lim)
  ok (at_ 0) (at_ 1) (if fld (lw b 0) 8 2 = 3 then 2 else bx) 5184 &&
    (drift || ok (at_ 2) (at_ 3) (if fld (lw b 0) 10 2 = 3 then 2 else by_) 3912)

/-- PROG names a valid entry for the mode (R258). -/
def progOk (b : Bank) (prglim : Nat) : Bool :=
  let p := lw b 2
  let mode := fld (lw b 0) 0 2
  if tst p 15 then
    match fld p 0 12 with
    | 0x000 => mode == 0
    | 0x040 => decide (mode ≤ 1)
    | 0x080 => mode == 2
    | 0x100 => mode == 3
    | _ => false
  else decide (fld p 0 12 < prglim)

/-- The buffers of a Drift ring (R281): DEPTH + K + 4 lines per stratum in use. -/
def ringBufs (b : Bank) : Nat :=
  let lines := 2 ^ fld (lw b 0xC0) 8 3 + 2 ^ fld (lw b 0xC0) 4 3 + 4
  let strata := if tst (lw b 0xC0) 15 then 2 else 1
  strata * lines * ((4 * ((lw b 0x11).toNat / binOf (fld (lw b 0) 8 2)) + 64 + 16383) / 16384)

/-- The failing item of arm check 10, 0 for none ("Drift arm check items"). -/
def Chip.achk (m : Chip) (b : Bank) : Nat :=
  let d := lw b 0xC0
  let alt := tst d 15
  let depth := 2 ^ fld d 8 3
  let e2 := if alt then depth else 2 * depth
  let brow := (lw b 0xC2).toNat
  let st := fld d 0 3
  let ph := fld (lw b 0xC1) 8 3
  let ctl := m.rd spTmr (tmOff st 0xA)
  let cap := m.rd spTmr (tmOff ph 0xD)
  let s := lw b 4
  let ends := fld d 12 2
  if 4 < fld d 8 3 ∨ 2 < fld d 4 3 ∨ ends = 3 then 1
  else if alt ∧ depth < 2 then 2
  else if fld (lw b 0) 10 2 ≠ 0 ∨ 32 < e2 * 2 ^ fld d 4 3 * binOf (fld (lw b 0) 8 2) then 3
  else if brow % 2 = 1 ∨ brow < 48 ∨ 3888 < brow + depth then 4
  else if (usedStrata b).any (fun k => decide (65535 < planO b k) || decide (65535 < planD b k) ||
      decide (planO b k < planLead b k)) then 5
  else if tst ctl 15 || m.rd32 spTmr (tmOff st 0) != 0 then 6
  else if tst (lw b 0xC1) 15 && (ph == st || !tst cap 15 || !tst cap 12) then 7
  else if ends ≠ 1 ∧ lw32 b 0xC4 = 0 then 8
  else if !tst s 3 || decide (m.resOf (fld s 0 3) < ringBufs b + 2) then 9
  else 0

/-- The code of the lowest-numbered failing check, 0 for none, and the item of check 10 ("Arm checks"). -/
def Chip.armCheck (m : Chip) (b : Bank) : Nat × Nat :=
  let c0 := lw b 0
  let mode := fld c0 0 2
  let n := fld c0 4 3
  let drift := mode == 3
  let ks := usedStrata b
  let later := ks.filter (fun k => k != 0)
  let bx := fld c0 8 2
  let by_ := fld c0 10 2
  let close := fun (k : Nat) => planO b (k - 1) + planD b (k - 1)
  let sctl := fun (k : Nat) => lw b (0x34 + 0x10 * k)
  if !(match mode with
      | 0 => n == 1
      | 3 => n == (if tst (lw b 0xC0) 15 then 2 else 1)
      | _ => decide (1 ≤ n) && decide (n ≤ 4)) then (1, 0)
  else if ks.any (fun k => decide (planD b k < 200) || decide (100000000 < planD b k)) then (2, 0)
  else if !drift && later.any (fun k => decide (planO b k < close k + 100)) then (3, 0)
  else if !drift && (decide (planO b 0 < planLead b 0) ||
      later.any (fun k => decide (planO b k < close k + planLead b k))) then (4, 0)
  else if fld c0 12 3 = 0 ∨ (List.range (if drift then 1 else fld c0 12 3)).any (fun w => !windowOk b drift w) then (5, 0)
  else if bx = 3 ∨ by_ = 3 ∨ ks.any (fun k => tst (lw b (0x35 + 0x10 * k)) 0 && (bx != by_ || bx == 0)) then (6, 0)
  else if !progOk b (m.rd spLoam 0x3001).toNat then (7, 0)
  else if ks.any (fun k => (List.range 8).any (fun c => tst (sctl k) c && tst (m.rd spIllum (chanOff c 0)) 15)) then (8, 0)
  else if ks.any (fun k => (List.range 8).any (fun c => tst (sctl k) (8 + c) && !tst (sctl k) c)) then (9, 0)
  else if drift && m.achk b != 0 then (10, m.achk b)
  else (0, 0)

/-! ## The end of a user calibration run -/

/-- A run ends with pass or fail (R361); a capture that it started goes on as any other (R362). -/
def Chip.runEnd (m : Chip) (pass : Bool) : Chip :=
  let m := m.mapCap (fun c => { c with white := false })
  let m := { m with pipe := { m.pipe with
    white := [], frames := m.pipe.frames.map (fun (f : PFrame) => { f with white := false }) } }
  ((({ m with cal := { m.cal with run := .none, result := if pass then 1 else 2 } }).raise evCalDone).raiseIf (!pass)
    evCalFail)

/-- A WHITE run on context k fails (R372). -/
def Chip.whiteFail (m : Chip) (k : Nat) : Chip :=
  match m.cal.run with
  | .white c _ _ _ => if c.val = k then m.runEnd false else m
  | _ => m

/-! ## Armed contexts and held triggers -/

/-- CTXSTAT.ARMED. -/
def Chip.armed (m : Chip) (k : Nat) : Bool := tst (m.rd spCtx (0x100 * k + 8)) 15

/-- Set or clear ARMED; a capture of the context that runs while it is disarmed ends with its frame where it is Continuous,
and a suspended one does not resume (R164). -/
def Chip.setArmed (m : Chip) (k : Nat) (b : Bool) : Chip :=
  let m := if b then m else
    { m with cc := { m.cc with
        cap := m.cc.cap.map (fun c => if c.ctx.val = k then { c with stop := true } else c),
        susp := m.cc.susp.filter (fun x => x.cap.ctx.val != k) } }
  m.wr spCtx (0x100 * k + 8) (setBit (m.rd spCtx (0x100 * k + 8)) 15 b)

/-- A trigger of context k is counted as an overrun (R68, R169, R175). -/
def Chip.overrun (m : Chip) (k : Nat) : Chip := (m.bump spCtx (0x100 * k + 9) 1).raise evTrigOverrun

/-- A held trigger of context k is dropped (R169). -/
def Chip.dropTrigger (m : Chip) (k : Nat) : Chip :=
  if m.cc.heldTrig.any (fun x => x.val == k) then
    Chip.overrun { m with cc := { m.cc with heldTrig := m.cc.heldTrig.filter (fun x => x.val != k) } } k
  else m

/-- ARMERR, ERRCTX and the context's ACHK after a check. -/
def Chip.setArmErr (m : Chip) (k code item : Nat) : Chip :=
  let w := m.rd 0 0x2B
  let m := m.wr 0 0x2B (if code = 0 then setFld w 4 4 0 else setFld (setFld w 4 4 code) 0 4 k)
  m.wr spCtx (0x100 * k + 0xD0) (setFld (m.rd spCtx (0x100 * k + 0xD0)) 0 4 item)

/-- The arm check in progress completes (R165, R166). -/
def Chip.checkEnd (m : Chip) : Chip :=
  match m.cc.checking with
  | none => m
  | some k =>
    let r := m.armCheck (m.latchCtx k.val)
    let m := ({ m with cc := { m.cc with checking := none } }).setArmErr k.val r.1 r.2
    if r.1 = 0 then m.setArmed k.val true else ((m.setArmed k.val false).dropTrigger k.val).whiteFail k.val

/-! ## Frames -/

/-- The frames of the capture on the streams. -/
def Capture.owns (c : Capture) (f : Frame) : Bool := decide (f.src ≤ 1) && f.ctx == c.ctx.val && f.fn == c.fn

/-- What the capture carries is marked on its frames (R94, R170, R198, R252, R285, R333, R334). -/
def Chip.markFrames (m : Chip) (c : Capture) : Chip :=
  let bit := fun (b : Bool) (w : Word) => if b then w else 0
  let flags := bit c.supply flSupply ||| bit c.aborted flAborted ||| bit m.cc.drift.stalled flStall |||
    bit (decide (8 < c.strips.length)) flStripovf |||
    bit (c.illum != 0) (0x0004 ||| wd (0x1000 * c.illum.toNat))
  { m with streams := m.streams.map (fun (t : Stream) => { t with frames := t.frames.map (fun (f : Frame) =>
      if c.owns f ∧ !f.endQueued then { f with flags := f.flags ||| flags, user := c.user, strips := c.strips } else f) }) }

/-- Frame ends are asked for on every stream of the capture that satisfies a test; those that wait for the pipeline follow
it (R251, R253). -/
def Chip.askEnds (m : Chip) (c : Capture) (p : Nat → Bool) : Chip :=
  let m := m.markFrames c
  let streams := (List.range 8).map (fun s =>
    let t := m.stream s
    if p s then { t with frames := t.frames.map (fun (f : Frame) => if c.owns f then { f with endAsked := true } else f) }
    else t)
  Chip.formEnds { m with streams := streams }

/-- STREAMS: the stream that EMIT's X selects, while its EN is 1 (R251). -/
def Capture.streamOf (c : Capture) (x : Nat) : Option Nat :=
  if tst (c.word 4) (4 * x + 3) then some (fld (c.word 4) (4 * x) 3) else none

/-- At the start of the next capture of the in-line source a WHITE result or a load that waits, and the host's writes to
FLAT and DEFADD, come into force (R340, R371, R389). -/
def Chip.boundaryNow (m : Chip) : Chip :=
  match m.cal.atBoundary with
  | some b => Chip.calForce { m with regs := Bank.putAll m.regs b, cal := { m.cal with atBoundary := none } }
  | none => m.calForce

/-- A frame boundary of the in-line source: during a staging copy the change is held (R378). -/
def Chip.boundaryTake (m : Chip) : Chip :=
  if m.st.staging then { m with st := { m.st with boundaryHeld := true } } else m.boundaryNow

/-- Groups that the frame does not power lose their history, and Marl leaves them (R324, R347). -/
def Chip.powerGroups (m : Chip) (c : Capture) : Chip :=
  let gone := (m.cal.hist.map (·.group)).filter (fun g => !c.powered g)
  let m := gone.foldl (fun m g => m.clearHist g) m
  match m.cal.group with
  | some g => if c.powered g then m else m.marlLeave g
  | none => m

/-- Some powered group is SINGLE: the frame runs with T_c doubled (R318). -/
def Chip.doubled (m : Chip) (c : Capture) : Bool :=
  (List.range 162).any (fun g => c.powered g && groupState (m.gstat g) == 2)

/-- A frame of the running capture begins (R178, R410, R371): its FRAMENUM, its pipeline frame, FRAME_START, its T_c, the
flags that stand at its start, the ISET levels of stratum 0. An open stratum and the latest close stay (R236, R237). -/
def Chip.frameBegin (m : Chip) : Chip :=
  match m.cc.cap with
  | none => m
  | some c =>
    let m := if m.pipe.act = 0 then m.boundaryTake else m
    let fn := m.cc.frameNum + 1
    let c := { c with fn := fn, pipe := m.latchSpace spPipe, cal := m.latchCal, closed := 0, read := 0,
                      double := m.doubled c, lastRow := none, converted := 0, pausedPool := false, pausedPace := false,
                      illum := 0, supply := m.warn, user := 0, strips := [], vacant := [], tests := [] }
    let m := { m with cc := { m.cc with cap := some c, frameNum := fn, lastFn := fn } }
    let f : PFrame :=
      { src := 0, id := c.ctx.val, fn := fn, prof := fld (c.word 3) 0 3, pipe := c.pipe, words := c.words, depth := 0,
        rgb := false, inline := decide (m.pipe.act = 0), start := m.loam.t0, rows := [], next := [], asked := false, ended := false,
        partial_ := false, lost := false, illum := 0, cal := c.cal, img := c.streamOf 0, stat := c.streamOf 1,
        seeded := List.replicate 4 false, lumBl := List.replicate 4 none, white := c.white }
    let m := ((m.pipeOpen f).raise evFrameStart).ledger 0 1
    let m := if m.warn then m.orBits 0 0x2B 0x2000 else m
    let m := { m with cal := { m.cal with mark := (m.cal.dwell, m.hkc.prev), hold := if m.warn then 2 else m.cal.hold } }
    let m := (m.powerGroups c).marlPick
    (m.illumAtStart).isetApply c 0

/-- The frame of the running capture ends: the pipeline learns it, Marl's hold counts down (R350), waiting FORCE writes
need no row boundary any more. -/
def Chip.frameOver (m : Chip) (c : Capture) : Chip :=
  let m := (m.askEnds c (fun _ => true)).pipeEnd 0 c.ctx.val c.fn c.aborted
  { m with cal := { m.cal with hold := m.cal.hold - 1 } }

/-! ## Start -/

/-- The latest rising capture that the phase timer of a Drift context holds: tick, PERIOD, PVALID (R274). CAPRISE gives the low 32
bits of its tick. -/
def Chip.lastCapture (m : Chip) (b : Bank) : List (Tick × Nat × Bool) :=
  let n := fld (lw b 0xC1) 8 3
  let back := (m.now.toNat + 0x100000000 - m.rd32 spTmr (tmOff n 0x12)) % 0x100000000
  if tst (m.rd spTmr (tmOff n 0xF)) 3 then [(m.now - BitVec.ofNat 64 back, m.rd32 spTmr (tmOff n 0x18), true)] else []

/-- The capture of context k starts, its trigger accepted now (R168, R178, R229); a pending change of the in-line source has
taken effect (R23). -/
def Chip.startCapture (m : Chip) (k : Fin 16) (white : Bool) : Chip :=
  let m := m.insrcTake
  let b := m.latchCtx k.val
  let r := m.armCheck b
  if r.1 ≠ 0 then
    let m := ((m.setArmErr k.val r.1 r.2).setArmed k.val false).dropTrigger k.val
    (m.fault 0x02 [BitVec.ofNat 8 k.val, BitVec.ofNat 8 r.1, BitVec.ofNat 8 r.2]).whiteFail k.val
  else
    let act := BitVec.ofNat 8 ((List.range 8).map (fun c => if (m.chan c).act then 2 ^ c else 0)).sum
    let c : Capture :=
      { ctx := k, fn := 0, words := b, pipe := [], cal := [], regAct := act, opened := none, lastClose := none,
        closed := 0, todo := [], read := 0, converted := 0, pausedPool := false, pausedPace := false,
        illum := 0, supply := false, aborted := false, user := 0, strips := [], dark := false, vacant := [], tests := [],
        double := false, lastRow := none, stop := false, left := false, white := white, inline := decide (m.pipe.act = 0) }
    let l : Loam :=
      { Loam.reset with pc := fld (lw b 2) 0 12, rom := tst (lw b 2) 15, t0 := m.now + 4, running := true,
                        halted := false, hcause := m.loam.hcause }
    let m := { m with loam := l, cc := { m.cc with cap := some c } }
    let m :=
      if c.mode = 3 then
        let m := { m with cc := { m.cc with drift := { Drift.reset with lastStep := m.now, caps := m.lastCapture b } } }
        let m := m.wr spCtx (0x100 * k.val + 0xD0) (m.rd spCtx (0x100 * k.val + 0xD0) &&& 0xBFFF)
        let m := m.wr32 spCtx (0x100 * k.val + 0xD3) 0
        let m := match c.streamOf 0 with
          | some s => (Chip.lowCheck m (m.mapStream s (fun t => { t with ring := ringBufs b }))).peak s
          | none => m
        if tst (c.word 1) 15 then { m with pins := { m.pins with trigOut := true } } else m
      else { m with cc := { m.cc with drift := Drift.reset } }
    m.frameBegin

/-! ## Triggers -/

/-- The array is busy for R17: a capture runs or Loam is halted (R176, R263), it is not in RUN (R67), the PIX PLL relocks
(R91), or capture control is in reset. -/
def Chip.arrayBusy (m : Chip) : Bool :=
  m.capBusy || m.pw.cur != Mode.run || m.pw.sq.isSome || m.pw.pixFb || tst (m.rd 0 0x12) 0

/-- While AUTORUN is 1, a trigger that is held outside RUN, or on the way out of it, requests RUN (R67); the request is made
at the next tick. -/
def Chip.autorun (m : Chip) : Chip :=
  if tst (m.rd 0 2) 6 && (m.pw.cur != Mode.run || m.pw.sq.isSome) then { m with pw := { m.pw with auto := true } } else m

/-- A trigger reaches context k from an enabled source: ignored, started, held or dropped (R174, R175). While triggers are
held a further one comes behind them (R18). The Bool says that it had an effect (R531). -/
def Chip.trigger (m : Chip) (k : Fin 16) : Chip × Bool :=
  let cont := fun (c : Capture) => c.ctx = k && c.mode == 2
  if !m.armed k.val || m.cc.checking = some k || m.cc.cap.any cont || m.cc.susp.any (fun (s : Suspended) => cont s.cap) then
    (m.bump spCtx (0x100 * k.val + 0xA) 1, false)
  else if m.arrayBusy || !m.cc.heldTrig.isEmpty then
    if tst (m.rd spCtx (0x100 * k.val)) 3 || m.cc.heldTrig.any (fun x => x == k) then (m.overrun k.val, true)
    else (Chip.autorun { m with cc := { m.cc with heldTrig := m.cc.heldTrig ++ [k] } }, true)
  else (m.startCapture k false, true)

/-- A trigger from a source bit of TRIGSRC: 0 PIN, 1 TIMER, 2 LINK, 3 SW; it has effect only where the context enables the
source, and one that comes in the cycle of another counts with that one (R173). -/
def Chip.triggerFrom (m : Chip) (src : Nat) (k : Fin 16) : Chip × Bool :=
  if tst (m.rd spCtx (0x100 * k.val + 1)) src then
    if m.cyc.triggered.getLsbD k.val then (m, true)
    else Chip.trigger { m with cyc := { m.cyc with triggered := m.cyc.triggered ||| BitVec.ofNat 16 (2 ^ k.val) } } k
  else (m, false)

/-- A trigger to every context of a mask, in ascending order (R18). -/
def Chip.triggerMask (m : Chip) (src : Nat) (mask : Word) : Chip × Bool :=
  (List.finRange 16).foldl (fun (a : Chip × Bool) k =>
    if tst mask k.val then
      let r := a.1.triggerFrom src k
      (r.1, a.2 || r.2)
    else a) (m, false)

/-- The trigger that was held first is released (R18, R177). -/
def Chip.releaseHeld (m : Chip) : Chip :=
  match m.cc.heldTrig with
  | k :: rest => if m.arrayBusy then m else Chip.startCapture { m with cc := { m.cc with heldTrig := rest } } k false
  | [] => m

/-- A WHITE run waits for its next capture (R367). -/
def Chip.whiteWaits (m : Chip) : Bool :=
  match m.cal.run with
  | .white _ a b _ => decide (a = b) && decide (a < 2)
  | _ => false

/-- The next capture of a WHITE run starts once the array is free and no trigger is held (R367). -/
def Chip.whiteStart (m : Chip) : Chip :=
  match m.cal.run with
  | .white k a b sp =>
    if m.whiteWaits && m.cc.heldTrig.isEmpty && !m.arrayBusy then
      Chip.startCapture { m with cal := { m.cal with run := .white k (a + 1) b sp, tempAt := m.cal.temp0 } } k true
    else m
  | _ => m

/-! ## End and abort -/

/-- The Continuous capture that was displaced last resumes with its next frame, unless RUN is to be left (R19, R66, R164,
R257). -/
def Chip.resumeSuspended (m : Chip) : Chip :=
  match m.cc.susp with
  | [] => m
  | x :: rest =>
    if m.cc.cap.isSome || m.loam.halted then m
    else if m.pw.target == Mode.run then
      let m := m.insrcTake
      Chip.frameBegin { m with
        loam := { x.loam with t0 := m.now + 4, watch := 0 }, cc := { m.cc with cap := some x.cap, susp := rest } }
    else { m with cc := { m.cc with susp := [] } }

/-- No node holds charge. -/
def Chip.nodesClear (m : Chip) : Chip :=
  { m with cc := { m.cc with nodes := 0, charge := List.replicate 4 (List.replicate 8 0) } }

/-- The close of stratum k: its node holds charge, and the test DAC puts i x 1,280 electrons into the node of test row 40 + i;
a node holds 9,500 at most (R150, R153). -/
def Chip.nodeClosed (m : Chip) (k : Nat) : Chip :=
  { m with cc := { m.cc with
      nodes := m.cc.nodes ||| BitVec.ofNat 4 (2 ^ k),
      charge := upd m.cc.charge k (fun l => (List.range 8).map (fun i => min 9500 (nth l i + 1280 * i))) } }

/-- Row r of node k has been read, which clears it (R152). -/
def Chip.rowCleared (m : Chip) (k r : Nat) : Chip :=
  if 40 ≤ r ∧ r < 48 then { m with cc := { m.cc with charge := upd m.cc.charge k (fun l => upd l (r - 40) (fun _ => 0)) } } else m

/-- The running capture ends (R253): frame ends, the array is free, TRIG_OUT and the Drift ring go, a WHITE run advances,
waiting FORCE writes take effect. Loam becomes idle; it stays halted where it is halted. A trigger from now on is one of its
own (R173). -/
def Chip.captureEnd (m : Chip) : Chip :=
  match m.cc.cap with
  | none => m
  | some c =>
    let m := m.frameOver c
    let m := Chip.nodesClear
      { m with cc := { m.cc with cap := none }, pins := { m.pins with trigOut := false },
               cyc := { m.cyc with triggered := 0 }, loam := { m.loam with running := false, wait := none, queue := [] } }
    let m := if c.mode = 3 then
        match c.streamOf 0 with
        | some s => (m.mapStream s (fun t => { t with ring := 0 })).streamIdle s
        | none => m
      else m
    let m := if c.mode = 3 then m.orBits spCtx (0x100 * c.ctx.val + 0xD0) 0x4000 else m
    let m := match m.cal.run with
      | .white k a b sp =>
        if c.left || (c.white && c.aborted) then m.runEnd false
        else if c.white then { m with cal := { m.cal with run := .white k a (b + 1) (sp || c.supply || c.illum != 0) } }
        else m
      | _ => m
    (m.applyForces).resumeSuspended

/-- Open strata end without transfer, the nodes are drained (R170, R250). -/
def Chip.drainNodes (m : Chip) : Chip :=
  Chip.nodesClear (m.mapCap (fun c => { c with opened := none }))

/-- The running capture is aborted (R170): strobes low, nodes drained, queued actions and unread rows gone, ABORTED. -/
def Chip.abortCapture (m : Chip) : Chip :=
  if m.cc.cap.isSome then
    let m := (m.strobesLow.drainNodes).mapCap (fun c => { c with aborted := true, todo := [] })
    (m.orBits 0 0x2B 0x0800).captureEnd
  else m

/-- DISARM of context k (R164, R169, R372): a check in progress ends, the held trigger drops, a suspended Continuous capture
ends. -/
def Chip.disarmCtx (m : Chip) (k : Nat) : Chip :=
  let m := (m.setArmed k false).dropTrigger k
  let m := if m.cc.checking.any (fun x => x.val == k) then { m with cc := { m.cc with checking := none } } else m
  m.whiteFail k

/-- A CAPCTL write (R165, R167, R169, R170). R170 gives an ABORT without a capture no effect: the model still stores VIEW and
CTX of the write (DESIGN CHOICE, log entry 83). -/
def Chip.writeCapctl (m : Chip) (v : Word) : Chip :=
  let n := b2n (tst v 9) + b2n (tst v 10) + b2n (tst v 11)
  if 1 < n then m
  else
    let m := m.plainWrite 0 0x2A v
    if tst v 9 then
      let m := m.checkEnd
      { m with cc := { m.cc with checking := some (Fin.ofNat 16 (fld v 0 4)) } }
    else if tst v 10 then m.disarmCtx (fld v 0 4)
    else if tst v 11 then m.abortCapture
    else m

/-- A CAPSTAT write: its W1C bits clear; the FRAMENUM shadow that it shows under VIEW = 1 is read-only (R6, R180). -/
def Chip.writeCapstat (m : Chip) (v : Word) : Chip := if tst (m.rd 0 0x2A) 15 then m else m.plainWrite 0 0x2B v

/-- CAPCTL: RUNCTX is live. -/
def Chip.readCapctl (m : Chip) : Word :=
  match m.cc.cap with
  | some c => m.rd 0 0x2A ||| wd (16 * c.ctx.val)
  | none => m.rd 0 0x2A

/-- CAPSTAT: the FRAMENUM shadow while VIEW is 1 (R180), else BUSY, HELD and ARMBUSY are live. -/
def Chip.readCapstat (m : Chip) : Word :=
  if tst (m.rd 0 0x2A) 15 then m.cc.shadow
  else setBit (setBit (setBit (m.rd 0 0x2B) 15 m.capBusy) 14 (!m.cc.heldTrig.isEmpty)) 10 m.cc.checking.isSome

/-- A CTX write: EDGE or ENDEDGE 0b11 discards it. -/
def Chip.writeCtx (m : Chip) (off : Nat) (v : Word) : Chip :=
  let o := off % 0x100
  if (o = 1 ∧ fld v 13 2 = 3) ∨ (o = 0xC1 ∧ fld v 5 2 = 3) then m else m.plainWrite spCtx off v

/-- The read of a CTX word: RUNNING and HELD are live. -/
def Chip.readCtx (m : Chip) (off : Nat) : Word :=
  if off < 0x1000 ∧ off % 0x100 = 8 then
    let k := off / 0x100
    let run := m.cc.cap.any (fun c => c.ctx.val == k) || m.cc.susp.any (fun (x : Suspended) => x.cap.ctx.val == k)
    setBit (setBit (m.rd spCtx off) 14 run) 13 (m.cc.heldTrig.any (fun x => x.val == k))
  else m.rd spCtx off

/-! ## Readout -/

/-- The rows of the capture are read interleaved (R420). -/
def Capture.interleaved (c : Capture) : Bool :=
  let p := fun o => Bank.get c.pipe (key spPipe (0x100 + 0x40 * fld (c.word 3) 0 3 + o))
  tst (p 0) 5 && (tst (p 7) 15 || tst (p 8) 15)

/-- READP k takes its rows (R248, R420): nothing where the interleaved read has covered the plane. -/
def Chip.takePlane (m : Chip) (k : Nat) : Chip :=
  m.mapCap (fun c =>
    if c.interleaved then
      if c.read.getLsbD k then c
      else { c with read := 0xF, converted := 0, todo := c.planeRows.flatMap (fun r =>
        (List.range c.strata).map (fun j => ⟨j, r⟩)) }
    else { c with read := c.read ||| BitVec.ofNat 4 (2 ^ k), converted := 0, todo := c.planeRows.map (fun r => ⟨k, r⟩) })

/-- A row boundary that finds the in-line buffer full pauses readout (R436). -/
def Chip.paceCheck (m : Chip) : Chip :=
  match m.cc.cap with
  | some c =>
    if decide (c.todo ≠ []) && decide (m.pipe.act = 0) && decide (8 ≤ m.pipe.inline.length) && !c.pausedPace then
      ((m.mapCap (fun c => { c with pausedPace := true })).bump spPipe 1 1).orBits spPipe 0 0x4000
    else m
  | none => m

/-- The row goes to the in-line buffer, or to the pool for a memory pass; after BLKRST.PIPE it is lost (R437, R439,
R570). -/
def Chip.deliverRow (m : Chip) (c : Capture) (r : PRow) : Chip :=
  match m.pipe.frames.find? (fun f => f.is 0 c.ctx.val c.fn) with
  | none => m
  | some f =>
    if f.lost then m
    else if f.inline then { m with pipe := { m.pipe with inline := m.pipe.inline ++ [r] } }
    else m.storeRow f.img r .readout

/-- t_row in ticks times a denominator, and the denominator (R161, R273, R317, R318): full width, binned, at least 25 ticks,
with the T_c of the frame. -/
def Chip.rowTime (m : Chip) (c : Capture) : Nat × Nat :=
  let full := (if m.pw.pixFb then (if c.ten then 2048 else 2560) else if c.ten then 10240 else 12800) *
    (if c.double then 2 else 1)
  let den := (if m.pw.pixFb then 1 else m.pw.pixN) * c.bx
  (max full (25 * den), den)

/-- The row engine may convert its next row: t_row, in whole ticks, has passed since the row before (R161). -/
def Chip.rowDue (m : Chip) (c : Capture) : Bool :=
  c.lastRow.all (fun t => decide (t.toNat + (m.rowTime c).1 / (m.rowTime c).2 ≤ m.now.toNat))

/-- One row of the readout is converted with these raw codes and delivered (R152, R154, R160, R315, R321, R335). -/
def Chip.readRow (m : Chip) (codes : List GroupRow) : Chip :=
  match m.cc.cap with
  | none => m
  | some c =>
    match c.todo with
    | [] => m
    | t :: rest =>
      let m := m.windowsEnd.applyForces
      let vals := m.rowValues c codes
      let r : PRow :=
        { src := 0, id := c.ctx.val, fn := c.fn, plane := t.plane, row := t.row, stamp := m.now, vals := vals,
          left := c.rowWork t.row, bl := [], store := none }
      let test := decide (40 ≤ t.row) && decide (t.row ≤ 47)
      let m := if test then (codes.filter (fun x => c.powered x.group)).foldl (fun m x => m.addTests c t.plane (t.row - 40) x) m
        else m
      let m := m.groupRows c codes t.plane t.row 0
      let left := (rest.filter (fun x => x.plane == t.plane)).length
      let m := m.mapCap (fun c => { c with todo := rest, converted := c.planeRows.length - left, lastRow := some m.now })
      let m := m.rowCleared t.plane t.row
      let m := if left = 0 then { m with cc := { m.cc with nodes := m.cc.nodes &&& ~~~BitVec.ofNat 4 (2 ^ t.plane) } } else m
      (m.deliverRow c r).paceCheck

/-- COLREF: the means of slice S in a 12-bit plane join the dwell of the visited group (R348). -/
def Chip.colref (m : Chip) (k : Nat) : Chip :=
  match m.cc.cap, m.cal.group with
  | some c, some g =>
    let p := physIn (m.gstat g) 2
    match c.test k g p 0, c.test k g p 7 with
    | some a, some b =>
      if c.ten || decide (0 < m.cal.hold) then m
      else { m with cal := { m.cal with dwell := { m.cal.dwell with
        planes := m.cal.dwell.planes ++ [(a.1, a.2, b.1, b.2)] } } }
    | _, _ => m
  | _, _ => m

/-- After test row 47 of plane k: COLREF, then the judgement of every powered group (R335, R348). -/
def Chip.testsDone (m : Chip) (k : Nat) : Chip :=
  match m.cc.cap with
  | none => m
  | some c =>
    let m := m.colref k
    let m := ((List.range 162).filter (fun g => c.powered g)).foldl (fun m g => m.judge k g) m
    m.mapCap (fun c => { c with tests := c.tests.filter (fun t => t.1 != k) })

/-! ## Commands -/

/-- ARM: a CAPCTL write (R165). -/
def execArm (v : Word) (s : State) : Host.Outcome State Fault Refusal := hostWrite s 0 0x2A (·.writeCapctl v)

/-- ARM_CHECK_COMPLETE (R165). -/
def execArmCheckComplete (s : State) : Host.Outcome State Fault Refusal := guarded s s.chip.pw.core s.chip.checkEnd

/-- DISARM: a CAPCTL write (R169). -/
def execDisarm (v : Word) (s : State) : Host.Outcome State Fault Refusal := hostWrite s 0 0x2A (·.writeCapctl v)

/-- ABORT: a CAPCTL write (R170). -/
def execAbort (v : Word) (s : State) : Host.Outcome State Fault Refusal := hostWrite s 0 0x2A (·.writeCapctl v)

/-- PIN_TRIGGER: an edge on GP pin p that has been stable for two CORE cycles, for every context that names it while the pin
is muxed to TRIG_IN (R171). -/
def execPinTrigger (p : Fin 32) (rising : Bool) (s : State) : Host.Outcome State Fault Refusal :=
  let m := s.chip
  let mask := (List.range 16).foldl (fun w k =>
    let t := m.rd spCtx (0x100 * k + 1)
    let e := fld t 13 2
    if fld t 8 5 = p.val ∧ (e = 2 ∨ (e = 0 ∧ rising) ∨ (e = 1 ∧ !rising)) then setBit w k true else w) 0
  guarded s (m.pw.core && m.fsel p.val == 3) ((m.begin (100 + p.val)).triggerMask 0 mask).1

/-- TRIGSW (R173). -/
def execTrigsw (v : Word) (s : State) : Host.Outcome State Fault Refusal :=
  hostWrite s 0 0x2C (fun m => (m.triggerMask 3 v).1)

/-- HELD_TRIGGER_RELEASE: the array is free and the first held trigger starts (R177). -/
def execHeldTriggerRelease (s : State) : Host.Outcome State Fault Refusal := guarded s s.chip.pw.core s.chip.releaseHeld

end Sys2Proof.Machine
end

