-- ==== Sys2Proof/Machine/Loam.lean ====
section
/-! DEFINITION. The Loam sequencer (chapter 8): fetch and the ROM bank (R231, R258), issue and faults (R238-R240, R255),
halts (R261-R265), waits, the action queue's filling (R232, R233), Continuous frames (R257), and one meaning for each of
the 32 opcodes. -/

namespace Sys2Proof.Machine

/-! ## Fetch -/

/-- A ROM word: the programs of R258; the rest of the bank is not given and is a free constant. -/
def romWord (a : Nat) : Nat :=
  match a with
  | 0x000 => 0x98000000
  | 0x001 => 0xE8000001
  | 0x002 => 0xD0000000
  | 0x003 => 0x88000000
  | 0x004 => 0xE8000002
  | 0x005 => 0x08000000
  | 0x08B => 0x51010005
  | 0x08C => 0x90210000
  | 0x08D => 0x10000080
  | _ =>
    let body := fun (i : Nat) =>
      [0x98000000, 0x98010000, 0x98020000, 0x98030000, 0xE8000001, 0xD0000000, 0xD0010000, 0xD0020000, 0xD0030000,
       0x88000000, 0xE8000002, 0x08000000].getD i 0
    if 0x040 ≤ a ∧ a ≤ 0x04B then body (a - 0x040)
    else if 0x080 ≤ a ∧ a ≤ 0x08A then body (a - 0x080)
    else (Config.romWord a).toNat

/-- The stand-in for the ROM Drift program, of which R258 gives the behaviour and not the words (log entry 11): frame
start; WAITE 2; GET 4; leave when it is 1; READB of the band due; again; frame end; END. -/
def romDrift (a : Nat) : Option Nat :=
  match a with
  | 0x100 => some 0xE8000001
  | 0x101 => some 0x88000002
  | 0x102 => some 0x70000004
  | 0x103 => some 0x20000106
  | 0x104 => some 0xD8000000
  | 0x105 => some 0x10000101
  | 0x106 => some 0xE8000002
  | 0x107 => some 0x08000000
  | _ => none

/-- The instruction word at the program counter. -/
def Chip.fetch (m : Chip) : Nat :=
  if m.loam.rom then (romDrift m.loam.pc).getD (romWord m.loam.pc) else m.rd32 spLoam (2 * m.loam.pc)

/-- The fields of an instruction. -/
def iOp (w : Nat) : Nat := w / 2 ^ 27 % 32
def iA (w : Nat) : Nat := w / 2 ^ 24 % 8
def iB (w : Nat) : Nat := w / 2 ^ 21 % 8
def iC (w : Nat) : Nat := w / 2 ^ 18 % 8
def iX (w : Nat) : Nat := w / 2 ^ 16 % 4
def iImm (w : Nat) : Nat := w % 2 ^ 16

/-- The bits below OP that an opcode uses ("Opcodes"). -/
def usedBits (op : Nat) : Nat :=
  [0x0, 0x0, 0xFFF, 0x7000FFF, 0x7000FFF, 0x7000FFF, 0xFFF, 0x0, 0x700FFFF, 0x700FFFF, 0x70100FF, 0x7FC0007, 0x7E0FFFF,
   0x7E00FFF, 0x700000F, 0x701003F, 0xE0FFFF, 0xF, 0xE10000, 0x30000, 0xE3FFFF, 0xE3FFFF, 0xE100FF, 0xE30000, 0xE00007,
   0xE3001F, 0x30000, 0xE3001F, 0x0, 0xE300FF, 0xF, 0x0].getD op 0

/-- No bit outside the used ones is 1. -/
def wordOk (w : Nat) : Bool := (BitVec.ofNat 27 w &&& ~~~BitVec.ofNat 27 (usedBits (iOp w))) == 0

/-- Register i. -/
def Chip.lreg (m : Chip) (i : Nat) : Long := m.loam.regs.getD i 0

/-- Write register i. -/
def Chip.setL (m : Chip) (i : Nat) (v : Long) : Chip :=
  { m with loam := { m.loam with regs := upd m.loam.regs i (fun _ => v) } }

/-! ## Halts and faults -/

/-- Loam halts with a cause (R261); a running capture is aborted while HMODE is 0 (R262). -/
def Chip.haltNow (m : Chip) (cause : Nat) : Chip :=
  let m := { m with loam := { m.loam with halted := true, hcause := cause, stepping := false, haltPend := 0, wait := none },
                    cyc := { m.cyc with halted := true } }
  let m := m.raise evLoamHalt
  if tst (m.rd 0 0x32) 12 then m else m.abortCapture

/-- An enabled breakpoint stands at the program counter (R265). -/
def Chip.atBreak (m : Chip) : Bool :=
  !m.loam.skipBp && (List.range 4).any (fun i =>
    let b := m.rd spLoam (0x3008 + i)
    tst b 15 && tst b 14 == m.loam.rom && fld b 0 12 == m.loam.pc)

/-- An instruction boundary: a step has ended, or a halt waits; a breakpoint at the next instruction is recorded before
BREAK, JTAG and the bus (R261, R264). -/
def Chip.boundary (m : Chip) : Chip :=
  if m.loam.haltPend ≠ 0 then m.haltNow (if m.atBreak then 3 else m.loam.haltPend)
  else if m.loam.stepping then m.haltNow 6 else m

/-- Loam faults at an address (R255). -/
def Chip.faultAt (m : Chip) (code addr : Nat) : Chip :=
  let m := m.wr spLoam 0x3000 (setFld (m.rd spLoam 0x3000) 0 8 code)
  let m := m.fault 0x05 [BitVec.ofNat 8 code, BitVec.ofNat 8 (b2n m.loam.rom), BitVec.ofNat 8 addr, BitVec.ofNat 8 (addr / 256)]
  let cause := if tst (m.rd 0 0x32) 11 then 5 else if m.loam.haltPend ≠ 0 then m.loam.haltPend
    else if m.loam.stepping then 6 else 0
  let m := { m with loam := { m.loam with wait := none, stepping := false, haltPend := 0 } }
  let m := if cause = 0 then m
    else Chip.raise { m with loam := { m.loam with halted := true, hcause := cause } } evLoamHalt
  m.abortCapture

/-- Loam faults at the present instruction. -/
def Chip.loamFault (m : Chip) (code : Nat) : Chip := m.faultAt code m.loam.pc

/-- Instructions of the bank. -/
def Chip.bankSize (m : Chip) : Nat := if m.loam.rom then 1024 else 4096

/-- The instruction completes and the next one stands at n; a target outside the bank faults at the jump (R240). -/
def Chip.jumpTo (m : Chip) (n : Nat) : Chip :=
  if m.bankSize ≤ n then m.loamFault 0x03
  else Chip.boundary { m with loam := { m.loam with pc := n, wait := none, skipBp := false } }

/-- The instruction completes and execution goes on; past the last address of the bank it faults (R240). -/
def Chip.next (m : Chip) : Chip :=
  let n := m.loam.pc + 1
  if m.bankSize ≤ n then Chip.faultAt { m with loam := { m.loam with pc := n } } 0x03 n
  else m.jumpTo n

/-- Loam may execute the instruction at its program counter. -/
def Chip.mayIssue (m : Chip) : Bool :=
  m.pw.core && m.loam.running && !m.loam.halted && m.loam.wait.isNone && m.cc.cap.isSome && !m.atBreak

/-- The program counter has left its bank: no instruction stands there (R240). -/
def Chip.outside (m : Chip) : Bool := decide (m.bankSize ≤ m.loam.pc)

/-- Execute the instruction at the program counter where it has this opcode; a 1 in an unused bit faults (R238), and so does
any execution outside the bank (R240). -/
def issue (s : State) (op : Nat) (f : Nat → Chip → Chip) : Host.Outcome State Fault Refusal :=
  let m := s.chip
  guarded s (m.mayIssue && (m.outside || iOp m.fetch == op))
    (if m.outside then m.loamFault 0x03 else if wordOk m.fetch then f m.fetch m else m.loamFault 0x04)

/-! ## Control, data and arithmetic -/

/-- A conditional jump. -/
def Chip.jumpIf (m : Chip) (c : Bool) (w : Nat) : Chip := if c then m.jumpTo (w % 4096) else m.next

/-- NOP (R239). -/
def execLoamNop (s : State) : Host.Outcome State Fault Refusal := issue s 0x00 (fun _ m => m.next)

/-- JMP (R240). -/
def execLoamJmp (s : State) : Host.Outcome State Fault Refusal := issue s 0x02 (fun w m => m.jumpIf true w)

/-- JZ (R240). -/
def execLoamJz (s : State) : Host.Outcome State Fault Refusal :=
  issue s 0x03 (fun w m => m.jumpIf (m.lreg (iA w) == 0) w)

/-- JNZ (R240). -/
def execLoamJnz (s : State) : Host.Outcome State Fault Refusal :=
  issue s 0x04 (fun w m => m.jumpIf (m.lreg (iA w) != 0) w)

/-- DJNZ (R240). -/
def execLoamDjnz (s : State) : Host.Outcome State Fault Refusal :=
  issue s 0x05 (fun w m =>
    if m.bankSize ≤ w % 4096 ∧ m.lreg (iA w) - 1 ≠ 0 then m.loamFault 0x03
    else (m.setL (iA w) (m.lreg (iA w) - 1)).jumpIf (m.lreg (iA w) - 1 != 0) w)

/-- JLT (R240). -/
def execLoamJlt (s : State) : Host.Outcome State Fault Refusal :=
  issue s 0x0D (fun w m => m.jumpIf (decide (m.lreg (iA w) < m.lreg (iB w))) w)

/-- CALL (R241). -/
def execLoamCall (s : State) : Host.Outcome State Fault Refusal :=
  issue s 0x06 (fun w m =>
    if 8 ≤ m.loam.stack.length then m.loamFault 0x01
    else if m.bankSize ≤ w % 4096 then m.loamFault 0x03
    else Chip.jumpTo { m with loam := { m.loam with stack := (m.loam.pc + 1) :: m.loam.stack } } (w % 4096))

/-- RET (R241). -/
def execLoamRet (s : State) : Host.Outcome State Fault Refusal :=
  issue s 0x07 (fun _ m =>
    match m.loam.stack with
    | [] => m.loamFault 0x02
    | a :: rest => Chip.jumpTo { m with loam := { m.loam with stack := rest } } a)

/-- LDI (R242). -/
def execLoamLdi (s : State) : Host.Outcome State Fault Refusal :=
  issue s 0x08 (fun w m => (m.setL (iA w) (BitVec.ofNat 32 (iImm w))).next)

/-- LDIH (R242). -/
def execLoamLdih (s : State) : Host.Outcome State Fault Refusal :=
  issue s 0x09 (fun w m =>
    (m.setL (iA w) (BitVec.ofNat 32 (iImm w * 0x10000 + (m.lreg (iA w)).toNat % 0x10000))).next)

/-- A word of the latched context as LDC reads it; there is no word beyond 0xFF. -/
def Capture.ldc (c : Capture) (x o : Nat) : Nat :=
  if x % 2 = 1 ∧ o < 0xFF then c.word32 o else (c.word o).toNat

/-- LDC (R242). -/
def execLoamLdc (s : State) : Host.Outcome State Fault Refusal :=
  issue s 0x0A (fun w m =>
    match m.cc.cap with
    | some c => (m.setL (iA w) (BitVec.ofNat 32 (c.ldc (iX w) (iImm w)))).next
    | none => m)

/-- The ALU functions (R242). -/
def aluFn (f : Nat) (b c : Long) : Long :=
  match f with
  | 0 => b + c
  | 1 => b - c
  | 2 => b &&& c
  | 3 => b ||| c
  | 4 => b ^^^ c
  | 5 => b <<< (c.toNat % 32)
  | 6 => b >>> (c.toNat % 32)
  | _ => b

/-- ALU (R242). -/
def execLoamAlu (s : State) : Host.Outcome State Fault Refusal :=
  issue s 0x0B (fun w m => (m.setL (iA w) (aluFn (w % 8) (m.lreg (iB w)) (m.lreg (iC w)))).next)

/-- IMM sign-extended to n bits. -/
def simm (w n : Nat) : BitVec n := BitVec.ofInt n (sext (iImm w) 16)

/-- ADDI (R242). -/
def execLoamAddi (s : State) : Host.Outcome State Fault Refusal :=
  issue s 0x0C (fun w m => (m.setL (iA w) (m.lreg (iB w) + simm w 32)).next)

/-- The sources of GET (R243). -/
def Chip.getSel (m : Chip) (c : Capture) (sel : Nat) : Long :=
  match sel with
  | 0 => (m.now - m.loam.t0).setWidth 32
  | 1 => BitVec.ofNat 32 c.ctx.val
  | 2 => c.fn
  | 3 => BitVec.ofNat 32 c.strata
  | 4 => if c.mode = 3 ∧ m.cc.drift.ended then 1 else 0
  | 5 => if c.mode = 3 then BitVec.ofNat 32 m.cc.drift.count else 0
  | _ => BitVec.ofNat 32 c.converted

/-- GET (R243). -/
def execLoamGet (s : State) : Host.Outcome State Fault Refusal :=
  issue s 0x0E (fun w m =>
    match m.cc.cap with
    | some c => if 7 ≤ iImm w then m.loamFault 0x04 else (m.setL (iA w) (m.getSel c (iImm w))).next
    | none => m)

/-- MEM: the data memory (R239, "Opcodes"). -/
def execLoamMem (s : State) : Host.Outcome State Fault Refusal :=
  issue s 0x0F (fun w m =>
    let o := 0x3040 + 2 * iImm w
    if iX w = 1 then (m.wr32 spLoam o (m.lreg (iA w)).toNat).next
    else (m.setL (iA w) (BitVec.ofNat 32 (m.rd32 spLoam o))).next)

/-- BREAK (R254). -/
def execLoamBreak (s : State) : Host.Outcome State Fault Refusal :=
  issue s 0x1F (fun _ m => Chip.next { m with loam := { m.loam with haltPend := 4 } })

/-! ## The action queue -/

/-- Place actions in the queue (R233): one whose tick is not later takes effect on the next tick and counts as late. -/
def Chip.enqueueAll (m : Chip) (acts : List Action) : Chip :=
  acts.foldl (fun m a =>
    let late := m.reached a.tick
    let a' := if late then { a with tick := m.now + 1 } else a
    let m := { m with loam := { m.loam with queue := m.loam.queue ++ [a'] } }
    if late then (m.orBits spLoam 0x3000 0x4000).bump spLoam 0x3003 1 else m) m

/-- A timing instruction: it places its actions and completes, or stalls until there is room (R232). -/
def Chip.schedule (m : Chip) (acts : List Action) : Chip :=
  if m.loam.queue.length + acts.length ≤ 32 then (m.enqueueAll acts).next
  else { m with loam := { m.loam with wait := some (.queue acts) } }

/-- An action. -/
def act (tick : Tick) (kind arg : Nat) (mask : BitVec 8) (rise : Bool) (op : Nat) : Action :=
  { tick := tick, kind := kind, arg := arg, mask := mask, rise := rise, op := op }

/-- The tick of a time operand (R230). -/
def Chip.at_ (m : Chip) (v : Long) : Tick := m.loam.t0 + v.setWidth 64

/-- OFFSET, DURATION and LEAD of the capture. -/
def Capture.planO (c : Capture) (k : Nat) : Tick := BitVec.ofNat 64 (c.word32 (0x30 + 0x10 * k))
def Capture.planD (c : Capture) (k : Nat) : Tick := BitVec.ofNat 64 (c.word32 (0x32 + 0x10 * k))
def Capture.planLead (c : Capture) (k : Nat) : Tick := (c.word (0x36 + 0x10 * k)).setWidth 64

/-- The actions of STR k (R245). -/
def Chip.strActions (m : Chip) (c : Capture) (k : Nat) : List Action :=
  let t := m.loam.t0
  let o := c.planO k
  let d := c.planD k
  let mask := c.strbMask k
  (if k = 0 then [] else [act (t + c.planO (k - 1) + c.planD (k - 1)) 3 k 0 false 0]) ++
    [act (t + o - c.planLead k) 2 0 mask true 0, act (t + o) 1 k 0 false 0, act (t + o + d) 0 k 0 false 0,
     act (t + o + d) 2 0 mask false 0]

/-- STR (R245). -/
def execLoamStr (s : State) : Host.Outcome State Fault Refusal :=
  issue s 0x13 (fun w m =>
    match m.cc.cap with
    | some c => if c.strata ≤ iX w then m.next else m.schedule (m.strActions c (iX w))
    | none => m)

/-- OPEN (R246). -/
def execLoamOpen (s : State) : Host.Outcome State Fault Refusal :=
  issue s 0x14 (fun w m => m.schedule [act (m.at_ (m.lreg (iB w)) + simm w 64) 1 (iX w) 0 false 0])

/-- CLOSE (R246). -/
def execLoamClose (s : State) : Host.Outcome State Fault Refusal :=
  issue s 0x15 (fun w m => m.schedule [act (m.at_ (m.lreg (iB w)) + simm w 64) 0 (iX w) 0 false 0])

/-- STRB (R246). -/
def execLoamStrb (s : State) : Host.Outcome State Fault Refusal :=
  issue s 0x16 (fun w m => m.schedule [act (m.at_ (m.lreg (iB w))) 2 0 (BitVec.ofNat 8 (iImm w)) (iX w == 1) 0])

/-- ISETL (R246). -/
def execLoamIsetl (s : State) : Host.Outcome State Fault Refusal :=
  issue s 0x17 (fun w m => m.schedule [act (m.at_ (m.lreg (iB w))) 3 (iX w) 0 false 0])

/-- HKT (R247). -/
def execLoamHkt (s : State) : Host.Outcome State Fault Refusal :=
  issue s 0x18 (fun w m => m.schedule [act (m.at_ (m.lreg (iB w))) 5 (iImm w) 0 false 0])

/-- PIN (R247). -/
def execLoamPin (s : State) : Host.Outcome State Fault Refusal :=
  issue s 0x19 (fun w m =>
    if iX w = 0 then m.loamFault 0x04 else m.schedule [act (m.at_ (m.lreg (iB w))) 4 (iImm w) 0 false (iX w)])

/-! ## Waits -/

/-- Wait for something. -/
def Chip.waitFor (m : Chip) (x : LoamWait) : Chip := { m with loam := { m.loam with wait := some x } }

/-- The row engine is idle: no row of a plane is to be read, and no band of a Drift step is being read. -/
def Chip.rowsIdle (m : Chip) : Bool := m.cc.cap.all (fun c => c.todo.isEmpty) && m.cc.drift.reading.isNone

/-- The condition of WAITE (R244, R282). -/
def Chip.waitCond (m : Chip) (sel : Nat) : Bool :=
  match sel with
  | 0 => m.rowsIdle
  | 1 => m.loam.queue.isEmpty
  | _ => !m.cc.drift.released.isEmpty || m.cc.drift.ended

/-- WAITE completes; event 2 takes the oldest released step (R282). -/
def Chip.waitDone (m : Chip) (sel : Nat) : Chip :=
  let take := fun (d : Drift) => { d with released := d.released.drop 1, asked := d.asked ++ d.released.take 1 }
  Chip.next (if sel = 2 then { m with cc := { m.cc with drift := take m.cc.drift } } else m)

/-- WAITT (R244). -/
def execLoamWaitt (s : State) : Host.Outcome State Fault Refusal :=
  issue s 0x10 (fun w m =>
    let t := m.at_ (m.lreg (iB w)) + simm w 64
    if m.reached t then m.next else m.waitFor (.tick t))

/-- WAITE (R244). -/
def execLoamWaite (s : State) : Host.Outcome State Fault Refusal :=
  issue s 0x11 (fun w m =>
    let sel := iImm w
    if 3 ≤ sel ∨ (sel = 2 ∧ m.cc.cap.any (fun c => c.mode != 3)) then m.loamFault 0x04
    else if m.waitCond sel then m.waitDone sel else m.waitFor (.event sel))

/-- No OPEN or CLOSE remains in the queue, no stratum is open, in Drift no exposure, and the row engine is idle (R248). -/
def Chip.readpReady (m : Chip) : Bool :=
  m.rowsIdle && m.cc.drift.exposing.isNone && m.cc.cap.all (fun c => c.opened.isNone) &&
    !m.loam.queue.any (fun a => decide (a.kind ≤ 1))

/-- Time counts from here for the watchdog (R256). -/
def Chip.progress (m : Chip) : Chip := { m with loam := { m.loam with watch := 0 } }

/-- READP k starts the row engine and completes (R248). -/
def Chip.readp (m : Chip) (k : Nat) : Chip := ((m.takePlane k).paceCheck).progress.next

/-- READP (R248, R420). -/
def execLoamReadp (s : State) : Host.Outcome State Fault Refusal :=
  issue s 0x1A (fun w m =>
    match m.cc.cap with
    | none => m
    | some c =>
      if c.strata ≤ iX w ∨ (c.interleaved ∧ c.read.getLsbD (iX w)) then m.progress.next
      else if m.readpReady then m.readp (iX w) else m.waitFor (.readp (iX w)))

/-- READB is issued: the step engine may take up the step (R249, R271); once the document ends none is taken up any more. -/
def Chip.readb (m : Chip) (x depth row : Nat) : Chip :=
  let issue := fun (d : Drift) =>
    { d with readb := if d.ending then none else some (x, row, depth), asked := d.asked.drop 1 }
  Chip.next { m with cc := { m.cc with drift := issue m.cc.drift } }

/-- The step that the next READB is for: the oldest that WAITE 2 has released without a READB, else the oldest outstanding one
without a READB, else the next to come (R282, R283). -/
def Drift.due (d : Drift) : Nat :=
  match d.asked with
  | s :: _ => s
  | [] => (((d.outstanding.drop (b2n d.readb.isSome)).head?).map (·.num)).getD d.count

/-- READB (R249, R283); in the ROM program it reads the band due. -/
def execLoamReadb (s : State) : Host.Outcome State Fault Refusal :=
  issue s 0x1B (fun w m =>
    match m.cc.cap with
    | none => m
    | some c =>
      let k := if tst (c.word 0xC0) 15 then m.cc.drift.due % 2 else 0
      let x := if m.loam.rom then k else iX w
      let depth := if m.loam.rom then c.depth else iImm w
      let row := if m.loam.rom then (c.word 0xC2).toNat else (m.lreg (iB w)).toNat
      if c.mode ≠ 3 ∨ depth ≠ c.depth ∨ x ≠ k ∨ row % 2 = 1 ∨ row < 48 ∨ 3888 < row + depth then m.loamFault 0x06
      else if m.cc.drift.readb.isNone then m.readb x depth row else m.waitFor (.readb x depth row))

/-- Capture-driven strobes low, nodes drained, every queued action discarded (R235, R250); in Drift the open exposure ends
without transfer, and the exposures to come and the bands to be read of the steps taken up go with it (log entry 45). -/
def Chip.drain (m : Chip) : Chip :=
  let m := m.captureLow.drainNodes
  { m with loam := { m.loam with queue := [] },
           cc := { m.cc with drift := { m.cc.drift with taken := [], exposing := none, closed := [] } } }

/-- DRAIN (R250). -/
def execLoamDrain (s : State) : Host.Outcome State Fault Refusal := issue s 0x1C (fun _ m => m.drain.next)

/-- FLAG (R252). -/
def execLoamFlag (s : State) : Host.Outcome State Fault Refusal :=
  issue s 0x1E (fun w m => (m.mapCap (fun c => { c with user := c.user ||| BitVec.ofNat 4 (iImm w) })).next)

/-! ## Packets -/

/-- SRC of the capture's frames ("Packet header"). -/
def Capture.src (c : Capture) : Nat := if c.mode = 3 then 1 else 0

/-- Strata in use with SOUT.EN (R521). -/
def Capture.sout (c : Capture) : Nat :=
  ((List.range c.strata).map (fun k =>
    if tst (Bank.get c.pipe (key spPipe (0x100 + 0x40 * fld (c.word 3) 0 3 + 0x30 + k))) 15 then 2 ^ k else 0)).sum

/-- The 16 bytes of a frame start (R521). -/
def Chip.startBytes (m : Chip) (c : Capture) : List Byte :=
  let w := c.word 0
  bytesN m.loam.t0.toNat 8 ++
    [BitVec.ofNat 8 (fld w 0 3 + 16 * (fld w 4 3 - 1)), BitVec.ofNat 8 (fld w 8 4 + 16 * (fld w 12 3 - 1)),
     BitVec.ofNat 8 c.sout, BitVec.ofNat 8 (fld (c.word 3) 0 3), 0, 0, 0, 0]

/-- A record of the capture. -/
def Capture.record (c : Capture) (dt src : Nat) (framed : Bool) (payload : List Byte) : Rec :=
  { dt := dt, fn := c.fn, ctx := c.ctx.val, src := src, stratum := 0, window := 0, odt := 0, lineStart := [],
    payload := payload, framed := framed, sent := 0, buf := 0, chan := none }

/-- A frame start on stream s (R251, R519, R520). -/
def Chip.emitStart (m : Chip) (c : Capture) (s : Nat) : Chip :=
  let r := c.record 0x01 c.src true (m.startBytes c)
  if (m.stream s).frames.any (fun f => c.owns f && !f.endAsked) then m.offer s r .forever
  else
    m.openFrame s { src := c.src, ctx := c.ctx.val, fn := c.fn, tstart := m.loam.t0, lines := 0, flags := 0, user := 0,
                    strips := [], endAsked := false, endQueued := false, cut := false, sealKey := none, msg := [] } r

/-- A frame end on stream s: it ends the frame there; without one the record is discarded (R251, R474). On the image
stream, with the row engine idle, the pipeline's frame ends as well. -/
def Chip.emitEnd (m : Chip) (c : Capture) (x s : Nat) : Chip :=
  let m := if x = 0 ∧ m.rowsIdle then m.pipeEnd 0 c.ctx.val c.fn false else m
  if (m.stream s).frames.any (fun f => c.owns f && !f.endAsked) then m.askEnds c (fun t => t == s)
  else m.bump spPool (streamOff s 8) 1

/-- An event record on stream s (R251, R525). -/
def Chip.emitEvent (m : Chip) (c : Capture) (s : Nat) (lb : Long) : Chip :=
  let framed := (m.stream s).frames.any (fun f => c.owns f && !f.endAsked)
  m.offer s (c.record 0x33 10 framed (bytesN m.now.toNat 8 ++ [0, 0, 0, 0] ++ bytesN lb.toNat 4)) .policy

/-- EMIT (R251). -/
def execLoamEmit (s : State) : Host.Outcome State Fault Refusal :=
  issue s 0x1D (fun w m =>
    match m.cc.cap with
    | none => m
    | some c =>
      let dt := iImm w
      if dt ≠ 0x01 ∧ dt ≠ 0x02 ∧ dt ≠ 0x33 then m.loamFault 0x05
      else
        match c.streamOf (iX w) with
        | none => m.progress.next
        | some st =>
          let m := m.progress
          (if dt = 0x01 then m.emitStart c st else if dt = 0x02 then m.emitEnd c (iX w) st
           else m.emitEvent c st (m.lreg (iB w))).next)

/-! ## END and BASE -/

/-- The queue is empty and the row engine idle (R253). -/
def Chip.endReady (m : Chip) : Bool := m.loam.queue.isEmpty && m.rowsIdle

/-- END completes (R253, R264): a step or a waiting halt leaves Loam halted and idle. -/
def Chip.endNow (m : Chip) : Chip :=
  let cause := if m.loam.haltPend ≠ 0 then m.loam.haltPend else if m.loam.stepping then 6 else 0
  let m := { m with loam := { m.loam with wait := none, stepping := false, haltPend := 0 } }
  let m := if cause = 0 then m
    else Chip.raise { m with loam := { m.loam with halted := true, hcause := cause } } evLoamHalt
  m.captureEnd

/-- END (R253). -/
def execLoamEnd (s : State) : Host.Outcome State Fault Refusal :=
  issue s 0x01 (fun _ m => if m.endReady then m.endNow else m.waitFor .atEnd)

/-- The Continuous capture is to end at this boundary: its context has been disarmed, or the device asked to leave RUN, since
it began (R164, R257 step 1). -/
def Chip.baseEnds (m : Chip) (c : Capture) : Bool := c.stop || c.left || m.pw.target != Mode.run

/-- Another capture waits for the array (R257 step 2, R367). -/
def Chip.baseYields (m : Chip) : Bool := !m.cc.heldTrig.isEmpty || m.whiteWaits

/-- The capture is suspended and the waiting one runs (R19, R257 step 2). A step or a waiting halt takes effect at the boundary
after it, on the capture that then runs (R261, R264). -/
def Chip.suspend (m : Chip) (c : Capture) : Chip :=
  let cause := if m.loam.haltPend ≠ 0 then m.loam.haltPend else if m.loam.stepping then 6 else 0
  let halt := fun (m : Chip) => if cause = 0 then m else m.haltNow cause
  let m := Chip.next { m with loam := { m.loam with haltPend := 0, stepping := false } }
  if m.cc.cap.isNone then halt m
  else
    let m := m.frameOver c
    let x : Suspended := { cap := c, loam := m.loam }
    let m := Chip.nodesClear
      { m with cc := { m.cc with cap := none, susp := x :: m.cc.susp }, pins := { m.pins with trigOut := false },
               loam := { m.loam with running := false } }
    let m := if m.cc.heldTrig.isEmpty then m.whiteStart else m.releaseHeld
    halt m.resumeSuspended

/-- The next frame begins (R257 steps 3 and 4); a pending change of the in-line source takes effect between the frames
(R23). -/
def Chip.nextFrame (m : Chip) (c : Capture) (lb : Long) : Chip :=
  let want := m.at_ lb
  let soon := m.now + 4
  let late := decide (want.toNat < soon.toNat)
  let m := (m.frameOver c).nodesClear
  let m := { m with loam := { m.loam with t0 := if late then soon else want, watch := 0 },
                    pipe := { m.pipe with act := if m.pipe.act = 0 then m.inSrc else m.pipe.act } }
  let m := if late && lb != 0 then m.orBits spCtx (ctxOff c.ctx 8) 0x1000 else m
  m.frameBegin.next

/-- BASE with X = 1 (R257): a frame starts only when the readout before it has ended (R163), an end or a yield also waits for
the action queue as END does. -/
def Chip.baseFrame (m : Chip) (lb : Long) : Chip :=
  match m.cc.cap with
  | none => m
  | some c =>
    if !m.rowsIdle then m.waitFor (.base lb)
    else if m.baseEnds c then (if m.endReady then m.endNow else m.waitFor (.base lb))
    else if m.baseYields then (if m.endReady then m.suspend c else m.waitFor (.base lb))
    else m.nextFrame c lb

/-- BASE (R257). -/
def execLoamBase (s : State) : Host.Outcome State Fault Refusal :=
  issue s 0x12 (fun w m =>
    let lb := m.lreg (iB w)
    if iX w = 0 then Chip.next { m with loam := { m.loam with t0 := m.at_ lb } }
    else if m.cc.cap.any (fun c => c.mode != 2) then m.loamFault 0x0A
    else m.baseFrame lb)

/-! ## Waits that end -/

/-- A waiting READP, READB, END or BASE completes as soon as its condition holds (R248, R253, R257). -/
def Chip.advanceLoam (m : Chip) : Chip :=
  match m.loam.wait with
  | some (.readp k) => if m.readpReady then m.readp k else m
  | some (.readb x d r) => if m.cc.drift.readb.isNone then m.readb x d r else m
  | some .atEnd => if m.endReady then m.endNow else m
  | some (.base lb) => m.baseFrame lb
  | _ => m

/-- WAITT_REACHED (R244). -/
def execWaittReached (s : State) : Host.Outcome State Fault Refusal :=
  let m := s.chip
  match m.loam.wait with
  | some (.tick t) => guarded s (m.pw.core && m.reached t) m.next
  | _ => done s m

/-- WAITE_EVENT (R244, R282). -/
def execWaiteEvent (s : State) : Host.Outcome State Fault Refusal :=
  let m := s.chip
  match m.loam.wait with
  | some (.event sel) => guarded s (m.pw.core && m.waitCond sel) (m.waitDone sel)
  | _ => done s m

/-- ACTION_QUEUE_STALL_END (R232). -/
def execActionQueueStallEnd (s : State) : Host.Outcome State Fault Refusal :=
  let m := s.chip
  match m.loam.wait with
  | some (.queue acts) => guarded s (m.pw.core && decide (m.loam.queue.length + acts.length ≤ 32)) (m.schedule acts)
  | _ => done s m

/-- LOAM_WATCHDOG (R256): the count exceeds LOAMTMO milliseconds. -/
def execLoamWatchdog (s : State) : Host.Outcome State Fault Refusal :=
  let m := s.chip
  let tmo := (m.rd spLoam 0x3002).toNat
  guarded s (m.pw.core && m.loam.running && !m.loam.halted && m.cc.cap.isSome && tmo != 0 &&
    decide (100000 * tmo < m.loam.watch)) (m.loamFault 0x07)

/-- ROW_READ: the row engine converts its next row (R151, R161), unless readout is paused (R21, R436). An OPEN of a custom
program that takes effect while rows are still to be read opens the stratum; the spec does not say what the row engine then
does, and the model holds every ROW_READ until the stratum has closed (DESIGN CHOICE, log entry 84). -/
def execRowRead (codes : List GroupRow) (s : State) : Host.Outcome State Fault Refusal :=
  let m := s.chip
  let ready := m.cc.cap.any (fun c =>
    decide (c.todo ≠ []) && !c.pausedPool && !c.pausedPace && c.opened.isNone && m.rowDue c)
  let at47 := (m.cc.cap.bind (fun c => c.todo.head?)).filter (fun t => t.row == 47)
  guarded s (m.pw.array && ready)
    (match at47 with
     | some t => ((m.readRow codes).testsDone t.plane).advanceLoam
     | none => (m.readRow codes).advanceLoam)

end Sys2Proof.Machine
end

