-- ==== Sys2Proof/Machine/Actions.lean ====
section
/-! DEFINITION. The action queue at work (R233-R237), Loam's debug commands (R261-R265), its registers and space
(R259-R266), and the JTAG access LOAMDBG (R268). -/

namespace Sys2Proof.Machine

/-! ## Due actions -/

/-- The earlier of two actions: by tick, then by kind; the one scheduled first on a tie (R234). -/
def earlier (a b : Action) : Action :=
  if b.tick.toNat < a.tick.toNat ∨ (b.tick = a.tick ∧ b.kind < a.kind) then b else a

/-- The action that takes effect next. -/
def Loam.nextAction (l : Loam) : Option Action :=
  match l.queue with
  | [] => none
  | a :: rest => some (rest.foldl earlier a)

/-- The next action, where its tick has come and it is of this kind. -/
def Chip.dueAction (m : Chip) (kind : Nat) : Option Action :=
  match m.loam.nextAction with
  | some a => if m.pw.core ∧ a.kind = kind ∧ m.reached a.tick then some a else none
  | none => none

/-- Take an action out of the queue. -/
def Chip.takeAction (m : Chip) (a : Action) : Chip := { m with loam := { m.loam with queue := m.loam.queue.erase a } }

/-- A guard moves an edge to a later tick (R236). -/
def Chip.guardMove (m : Chip) (a : Action) (tick : Tick) (kind : Nat) : Chip :=
  let m := { m with loam := { m.loam with queue := m.loam.queue ++ [{ a with tick := tick }] } }
  (m.orBits spLoam 0x3000 0x2000).fault 0x04
    ([BitVec.ofNat 8 a.arg, BitVec.ofNat 8 kind, 0, 0] ++ bytesN (tick - a.tick).toNat 4)

/-- Stratum k opens at a tick (R146, R182, R204). -/
def Chip.openStratum (m : Chip) (c : Capture) (k : Nat) (t : Tick) : Chip :=
  let m := m.mapCap (fun c => { c with opened := some (k, t) })
  let m := if k = 0 ∧ tst (c.word 1) 15 then { m with pins := { m.pins with trigOut := true } } else m
  m.sourceEvent 5 k t

/-- Stratum k closes at a tick: its node holds its charge, and STRATUM_DONE is raised outside Drift (R146, R182). -/
def Chip.closeStratum (m : Chip) (c : Capture) (k : Nat) (t : Tick) : Chip :=
  let bit := BitVec.ofNat 4 (2 ^ k)
  let m := m.mapCap (fun c => { c with opened := none, lastClose := some t, closed := c.closed ||| bit })
  let m := m.nodeClosed k
  let m := if k + 1 = c.strata then { m with pins := { m.pins with trigOut := false } } else m
  m.raiseIf (c.mode != 3) evStratumDone

/-- An OPEN takes effect (R236, R237). -/
def Chip.doOpen (m : Chip) (a : Action) : Chip :=
  match m.cc.cap with
  | none => m
  | some c =>
    if c.opened.isSome then m.loamFault 0x08
    else
      match c.lastClose with
      | some t => if a.tick.toNat < t.toNat + 100 then m.guardMove a (t + 100) 0 else m.openStratum c a.arg a.tick
      | none => m.openStratum c a.arg a.tick

/-- A CLOSE takes effect (R236, R237). -/
def Chip.doClose (m : Chip) (a : Action) : Chip :=
  match m.cc.cap with
  | none => m
  | some c =>
    match c.opened with
    | some (k, t) =>
      if k ≠ a.arg then m.loamFault 0x08
      else if a.tick.toNat < t.toNat + 200 then m.guardMove a (t + 200) 1
      else m.closeStratum c k a.tick
    | none => m.loamFault 0x08

/-- A stratum open for 100,000,000 ticks closes; its queued CLOSE is the edge that moved (R236). Without a queued CLOSE the
ticks moved are not stated: a free value. -/
def Chip.maxClose (m : Chip) (c : Capture) (k : Nat) (t : Tick) : Chip :=
  let at_ := t + 100000000
  match m.loam.queue.find? (fun a => a.kind == 0 && a.arg == k) with
  | some a =>
    (((m.takeAction a).closeStratum c k at_).orBits spLoam 0x3000 0x2000).fault 0x04
      ([BitVec.ofNat 8 k, 2, 0, 0] ++ bytesN (a.tick - at_).toNat 4)
  | none =>
    let r := m.takeFreeNat
    ((r.2.closeStratum c k at_).orBits spLoam 0x3000 0x2000).fault 0x04 ([BitVec.ofNat 8 k, 2, 0, 0] ++ bytesN r.1 4)

/-! ## Commands of the queue -/

/-- STRATUM_OPEN (R146, R236). -/
def execStratumOpen (s : State) : Host.Outcome State Fault Refusal :=
  match s.chip.dueAction 1 with
  | some a => done s ((s.chip.takeAction a).doOpen a).advanceLoam
  | none => done s s.chip

/-- STRATUM_CLOSE (R146, R236). -/
def execStratumClose (s : State) : Host.Outcome State Fault Refusal :=
  match s.chip.dueAction 0 with
  | some a => done s ((s.chip.takeAction a).doClose a).advanceLoam
  | none => done s s.chip

/-- STRATUM_MAX_CLOSE (R236): a stratum still open 100,000,000 ticks after its opening, with no CLOSE of it due by then. -/
def execStratumMaxClose (s : State) : Host.Outcome State Fault Refusal :=
  let m := s.chip
  match m.cc.cap with
  | none => done s m
  | some c =>
    match c.opened with
    | none => done s m
    | some (k, t) =>
      let due := m.loam.queue.any (fun a => a.kind == 0 && a.arg == k && decide (a.tick.toNat ≤ t.toNat + 100000000))
      guarded s (m.pw.core && m.reached (t + 100000000) && !due) (m.maxClose c k t).advanceLoam

/-- ISET_APPLY (R185, R246). -/
def execIsetApply (s : State) : Host.Outcome State Fault Refusal :=
  match s.chip.dueAction 3, s.chip.cc.cap with
  | some a, some c => done s ((s.chip.takeAction a).isetApply c a.arg).advanceLoam
  | _, _ => done s s.chip

/-- PIN_ACTION (R233, R247). -/
def execPinAction (s : State) : Host.Outcome State Fault Refusal :=
  match s.chip.dueAction 4 with
  | some a => done s ((s.chip.takeAction a).drivePin 40 a.arg a.op).advanceLoam
  | none => done s s.chip

/-- HKT_ACTION (R247). -/
def execHktAction (s : State) : Host.Outcome State Fault Refusal :=
  match s.chip.dueAction 5 with
  | some a => done s ((s.chip.takeAction a).targetEvent 6 a.arg a.tick).advanceLoam
  | none => done s s.chip

/-! ## Debug -/

/-- The order in which causes of a halt in one cycle are recorded (R261). -/
def haltRank (cause : Nat) : Nat := ([9, 4, 3, 1, 2, 0, 5] : List Nat).getD cause 9

/-- A halt is asked for (R261): at once, unless an instruction that is not halted in its wait is in progress. Of several causes
in one cycle the first in order counts: a breakpoint at the instruction to come, and JTAG before the bus. -/
def Chip.askHalt (m : Chip) (cause : Nat) : Chip :=
  let pend := if m.loam.haltPend = 0 ∨ haltRank cause < haltRank m.loam.haltPend then cause else m.loam.haltPend
  let wait : Chip := { m with loam := { m.loam with haltPend := pend } }
  if m.loam.halted then
    if m.cyc.halted ∧ haltRank cause < haltRank m.loam.hcause then { m with loam := { m.loam with hcause := cause } } else m
  else
    match m.loam.wait with
    | some (.queue _) => wait
    | some .atEnd => wait
    | some (.base _) => wait
    | some _ => m.haltNow cause
    | none => m.haltNow (if m.loam.running && m.cc.cap.isSome && m.atBreak then 3 else cause)

/-- RESUME (R262-R264). -/
def Chip.resumeLoam (m : Chip) : Chip :=
  if m.loam.halted then Chip.resumeSuspended { m with loam := { m.loam with halted := false, skipBp := true } } else m

/-- STEP (R264): one instruction; with no capture Loam halts again at once. -/
def Chip.stepLoam (m : Chip) : Chip :=
  if m.loam.halted then
    if m.cc.cap.isSome then { m with loam := { m.loam with halted := false, skipBp := true, stepping := true } }
    else Chip.raise { m with loam := { m.loam with hcause := 6 } } evLoamHalt
  else m

/-- A LOAMCTL write by the bus (cause 1) or JTAG (cause 2): more than one of HALT, RESUME and STEP discards it. -/
def Chip.writeLoamctl (m : Chip) (v : Word) (cause : Nat) : Chip :=
  if 1 < b2n (tst v 15) + b2n (tst v 14) + b2n (tst v 13) then m
  else
    let m := m.plainWrite 0 0x32 v
    if tst v 15 then m.askHalt cause else if tst v 14 then m.resumeLoam else if tst v 13 then m.stepLoam else m

/-- LOAMCTL: HALTED, HCAUSE, RUNNING and BANK are live. -/
def Chip.readLoamctl (m : Chip) : Word :=
  m.rd 0 0x32 ||| wd (128 * b2n m.loam.halted + 16 * m.loam.hcause + 2 * b2n m.loam.running + b2n m.loam.rom)

/-- LOAMPC. -/
def Chip.readLoampc (m : Chip) : Word := wd (0x8000 * b2n m.loam.rom + m.loam.pc % 4096)

/-- A LOAMPC write is performed only while Loam is halted (R264). -/
def Chip.writeLoampc (m : Chip) (v : Word) : Chip :=
  if m.loam.halted then { m with loam := { m.loam with pc := fld v 0 12, rom := tst v 15 } } else m

/-! ## LOAM space -/

/-- A program RAM write (R259, R260): refused while Loam executes a RAM program and is not halted. -/
def Chip.writeProgram (m : Chip) (off : Nat) (v : Word) : Chip :=
  if m.loam.running && !m.loam.rom && !m.loam.halted then m.orBits spLoam 0x3000 0x8000
  else (m.wr spLoam off v).wr spLoam 0x3001 0

/-- One half of a register. -/
def halfOf (x : Long) (hi : Bool) : Word := if hi then (x >>> 16).setWidth 16 else x.setWidth 16

/-- Replace one half of a register. -/
def putHalf (x : Long) (hi : Bool) (v : Word) : Long :=
  if hi then (v.setWidth 32) <<< 16 ||| (x &&& 0xFFFF) else (x &&& 0xFFFF0000) ||| v.setWidth 32

/-- A write to a LOAM word, from the bus (cause 1) or JTAG (cause 2). -/
def Chip.writeLoam (m : Chip) (off : Nat) (v : Word) (cause : Nat) : Chip :=
  if off < 0x2000 then m.writeProgram off v
  else if 0x3010 ≤ off ∧ off < 0x3020 then
    if m.loam.halted then m.setL ((off - 0x3010) / 2) (putHalf (m.lreg ((off - 0x3010) / 2)) (off % 2 == 1) v) else m
  else if off = 0x3100 then m.writeLoamctl v cause
  else if off = 0x3101 then m.writeLoampc v
  else m.plainWrite spLoam off v

/-- The read of a LOAM word; STACK0 is the oldest return address. -/
def Chip.readLoam (m : Chip) (off : Nat) : Word :=
  if 0x2000 ≤ off ∧ off < 0x2800 then wd (romWord ((off - 0x2000) / 2) / (if off % 2 = 1 then 0x10000 else 1))
  else if off = 0x3000 then setBit (m.rd spLoam off) 12 (!m.cc.susp.isEmpty)
  else if 0x3010 ≤ off ∧ off < 0x3020 then halfOf (m.lreg ((off - 0x3010) / 2)) (off % 2 == 1)
  else if 0x3020 ≤ off ∧ off < 0x3028 then
    match m.loam.stack.reverse[off - 0x3020]? with
    | some a => wd (0x8000 * b2n m.loam.rom + a % 4096)
    | none => 0
  else if off = 0x3028 then wd m.loam.stack.length
  else if 0x3030 ≤ off ∧ off < 0x3034 then wd (m.loam.t0.toNat / 2 ^ (16 * (off - 0x3030)))
  else if off = 0x3100 then m.readLoamctl
  else if off = 0x3101 then m.readLoampc
  else m.rd spLoam off

/-- HALT, RESUME and STEP are LOAMCTL writes (R261-R264). -/
def execHalt (v : Word) (s : State) : Host.Outcome State Fault Refusal := hostWrite s 0 0x32 (·.writeLoamctl v 1)

/-- RESUME (R262). -/
def execResume (v : Word) (s : State) : Host.Outcome State Fault Refusal := hostWrite s 0 0x32 (·.writeLoamctl v 1)

/-- STEP (R264). -/
def execStep (v : Word) (s : State) : Host.Outcome State Fault Refusal := hostWrite s 0 0x32 (·.writeLoamctl v 1)

/-- BREAKPOINT_HIT: Loam halts before the instruction at an enabled breakpoint (R265). -/
def execBreakpointHit (s : State) : Host.Outcome State Fault Refusal :=
  let m := s.chip
  guarded s (m.pw.core && m.loam.running && !m.loam.halted && m.loam.wait.isNone && m.cc.cap.isSome && m.atBreak)
    (m.haltNow 3)

end Sys2Proof.Machine
end

