-- ==== Sys2Proof/Machine/Drift.lean ====
section
/-! DEFINITION. The Drift engine (chapter 9): steps (R269, R270), exposures and band reads (R271-R273), position and
accumulation (R274, R275), output lines (R276-R280), and the end of the document (R284, R285). -/

namespace Sys2Proof.Machine

/-- Change the Drift engine. -/
def Chip.mapDrift (m : Chip) (f : Drift → Drift) : Chip := { m with cc := { m.cc with drift := f m.cc.drift } }

/-- The running Drift capture. -/
def Chip.driftCap (m : Chip) : Option Capture := m.cc.cap.filter (fun c => c.mode == 3)

/-- OFFSET, DURATION and LEAD of a stratum, in ticks. -/
def Capture.offT (c : Capture) (k : Nat) : Nat := c.word32 (0x30 + 0x10 * k)
def Capture.durT (c : Capture) (k : Nat) : Nat := c.word32 (0x32 + 0x10 * k)
def Capture.leadT (c : Capture) (k : Nat) : Nat := (c.word (0x36 + 0x10 * k)).toNat

/-- K of the capture. -/
def Capture.lineK (c : Capture) : Nat := 2 ^ fld (c.word 0xC0) 4 3

/-- E of R277. -/
def Capture.lineE (c : Capture) : Nat := if tst (c.word 0xC0) 15 then c.depth / 2 else c.depth

/-- L0 of R276. -/
def Capture.line0 (c : Capture) : Nat := c.depth + 2

/-- CTX offset of a Drift word of the capture. -/
def Capture.off (c : Capture) (o : Nat) : Nat := 0x100 * c.ctx.val + o

/-! ## Steps -/

/-- The HKC source event, QMAX and the lists of a step that is not dropped (R270, R286). -/
def Chip.stepIn (m : Chip) (c : Capture) (x : DStep) : Chip :=
  let n := m.cc.drift.outstanding.length + m.cc.drift.taken.length + 1
  let m := m.mapDrift (fun d => { d with outstanding := d.outstanding ++ [x], released := d.released ++ [x.num] })
  let m := if (m.rd spCtx (c.off 0xD5)).toNat < n then m.wr spCtx (c.off 0xD5) (wd n) else m
  m.stepEvent x.ts

/-- A dropped step (R270). -/
def Chip.stepDrop (m : Chip) (c : Capture) (x : DStep) : Chip :=
  ((m.mapDrift (fun d => { d with droppedSteps := d.droppedSteps ++ [x] })).bump spCtx (c.off 0xD1) 1).raise
    evDriftOverspeed

/-- A terminal event of timer n is a step of the running document (R269, R270). A step that comes once the document has ended
still counts (R282) and is an event for the HKC (R286); it is neither outstanding nor dropped (DEDUCED, log entry 70). -/
def Chip.driftStep (m : Chip) (n : Nat) : Chip :=
  match m.driftCap with
  | none => m
  | some c =>
    if fld (c.word 0xC0) 0 3 ≠ n then m
    else
      let d := m.cc.drift
      let x : DStep :=
        { num := d.count, ts := m.now, acc := m.rd32 spTmr (tmOff n 8), psc := m.rd32 spTmr (tmOff n 6),
          stratum := if tst (c.word 0xC0) 15 then d.count % 2 else 0, openAt := 0, closeAt := 0, bandFrom := 0, bandTo := 0,
          row := 0, lit := false }
      let full := decide (2 ≤ d.outstanding.length + d.taken.length)
      let m := m.mapDrift (fun d => { d with count := d.count + 1, lastStep := m.now, tail := d.tail.map (· - 1) })
      if d.ending then m.stepEvent x.ts else if full then m.stepDrop c x else m.stepIn c x

/-- An edge of timer n's source reaches the phase measurement (R274). -/
def Chip.driftEdge (m : Chip) (n : Nat) : Chip :=
  match m.driftCap with
  | none => m
  | some c =>
    if fld (c.word 0xC0) 0 3 = n then m.mapDrift (fun d => { d with edges := m.now :: d.edges }) else m

/-- A rising capture of timer n, with its PERIOD and PVALID, reaches the phase measurement (R274). -/
def Chip.driftCapture (m : Chip) (n : Nat) : Chip :=
  match m.driftCap with
  | none => m
  | some c =>
    if fld (c.word 0xC1) 8 3 = n then
      m.mapDrift (fun d =>
        { d with caps := (m.now, m.rd32 spTmr (tmOff n 0x18), tst (m.rd spTmr (tmOff n 0xF)) 3) :: d.caps })
    else m

/-! ## Exposures -/

/-- Duration of a band read, in whole ticks. -/
def Chip.bandTicks (m : Chip) (c : Capture) : Nat :=
  let t := m.rowTime c
  (c.depth * t.1 + t.2 - 1) / t.2

/-- The plan of a step that is taken up now (R271, R273). -/
def Chip.planStep (m : Chip) (c : Capture) (x : DStep) : DStep :=
  let d := m.cc.drift
  let k := x.stratum
  let dur := c.durT k
  let a := max (x.ts.toNat + c.offT k) (m.now.toNat + c.leadT k)
  let b := d.lastClose.elim a (fun t => max a (t.toNat + 100))
  let o := ((d.bandEnd.find? (fun p => p.1 == k)).map (·.2)).elim b (fun t => max b (t.toNat - dur))
  let cl := o + dur
  let from_ := d.lastBand.elim (cl + 20) (fun t => max (cl + 20) (t.toNat + 20))
  let t := fun (n : Nat) => BitVec.ofNat 64 n
  { x with openAt := t o, closeAt := t cl, bandFrom := t from_, bandTo := t (from_ + m.bandTicks c),
           row := d.readb.elim (c.word 0xC2).toNat (·.2.1), lit := false }

/-- The oldest outstanding step is taken up (R271, R272): its times are fixed, its ISET levels applied, Loam's READB is
served. -/
def Chip.takeUp (m : Chip) (c : Capture) : Chip :=
  match m.cc.drift.outstanding with
  | [] => m
  | x :: rest =>
    let y := m.planStep c x
    let m := m.mapDrift (fun d =>
      { d with outstanding := rest, taken := d.taken ++ [y], readb := none, lastClose := some y.closeAt,
               lastBand := some y.bandTo,
               bandEnd := (y.stratum, y.bandTo) :: d.bandEnd.filter (fun p => p.1 != y.stratum) })
    (m.isetApply c y.stratum).advanceLoam

/-- The rise of a step's strobes: LEAD ticks before its opening (R272). -/
def Capture.riseAt (c : Capture) (x : DStep) : Tick := x.openAt - BitVec.ofNat 64 (c.leadT x.stratum)

/-- The step whose strobes are to rise: the oldest taken up whose rise is due. -/
def Chip.nextLit (m : Chip) (c : Capture) : Option DStep :=
  m.cc.drift.taken.find? (fun x => !x.lit && m.reached (c.riseAt x))

/-- The strobes of a step rise (R272). -/
def Chip.lightStep (m : Chip) (c : Capture) (x : DStep) : Chip :=
  if x.lit then m
  else
    (m.captureStrobe (c.strbMask x.stratum) true (c.riseAt x)).mapDrift (fun d =>
      { d with taken := d.taken.map (fun y => if y.num = x.num then { y with lit := true } else y) })

/-- The exposure of the oldest step taken up opens (R271); strobes that have not risen yet rise. -/
def Chip.openStep (m : Chip) (c : Capture) : Chip :=
  match m.cc.drift.taken with
  | [] => m
  | x :: _ =>
    let m := m.lightStep c x
    (m.mapDrift (fun d => { d with taken := d.taken.drop 1, exposing := some { x with lit := true } })).sourceEvent 5 x.stratum
      x.openAt

/-- The channels that a step taken up already holds high. -/
def Chip.litMask (m : Chip) (c : Capture) : BitVec 8 :=
  m.cc.drift.taken.foldl (fun w x => if x.lit then w ||| c.strbMask x.stratum else w) 0

/-- The open exposure closes: the charge is in the step's node, the strobes fall (R271, R272). A channel that the next step has
raised already stays high for it (DEDUCED, log entry 49). -/
def Chip.closeStep (m : Chip) (c : Capture) : Chip :=
  match m.cc.drift.exposing with
  | none => m
  | some x =>
    let m := (m.mapDrift (fun d => { d with exposing := none, closed := d.closed ++ [x] })).nodeClosed x.stratum
    m.captureStrobe (c.strbMask x.stratum &&& ~~~m.litMask c) false x.closeAt

/-! ## Position -/

/-- The midpoint t_m of a step in half ticks (R274). -/
def Capture.mid2 (c : Capture) (x : DStep) (dropped : Bool) : Nat :=
  2 * (if dropped then x.ts.toNat + c.offT x.stratum else x.openAt.toNat) + c.durT x.stratum

/-- The position of a step in sixteenths (R274): the phase from a_s, the edges after the step and the time since the
latest capture. -/
def Chip.posOf (m : Chip) (c : Capture) (x : DStep) (dropped : Bool) : Nat :=
  let tm2 := c.mid2 x dropped
  let plain := 16 * x.num + (32 * x.acc + x.psc) / (2 * x.psc)
  if tst (c.word 0xC1) 15 then
    match m.cc.drift.caps.find? (fun q => decide (2 * q.1.toNat ≤ tm2)) with
    | some (tc, te, true) =>
      let n := (m.cc.drift.edges.filter (fun e => decide (x.ts.toNat < e.toNat) && decide (e.toNat ≤ tc.toNat))).length
      let num := 2 * x.acc * te + 65536 * (2 * n * te + min (tm2 - 2 * tc.toNat) (4 * te))
      let den := 2 * x.psc * te
      if te = 0 then plain else 16 * x.num + (32 * num + den) / (2 * den)
    | _ => plain
  else plain

/-! ## The ring -/

/-- Add a weighted row to accumulator line L (R275). -/
def addLine (l w : Nat) (vals : List Nat) : List AccLine → List AccLine
  | [] => [{ line := l, sums := vals.map (w * ·), weight := w }]
  | a :: r =>
    if a.line = l then { a with sums := (a.sums.zip vals).map (fun p => p.1 + w * p.2), weight := a.weight + w } :: r
    else a :: addLine l w vals r

/-- A band row at position u, in sixteenths, joins the ring of a stratum. -/
def Chip.accumulate (m : Chip) (k u : Nat) (vals : List Nat) : Chip :=
  let f := u % 16
  m.mapDrift (fun d => { d with rings := upd d.rings k (fun r =>
    let r := addLine (u / 16) (16 - f) vals r
    if f = 0 then r else addLine (u / 16 + 1) f vals r) })

/-- The values of the output line of stratum k from accumulator line L on, and their weights (R277): where nothing has
been summed no value is stated, and the line's values are free (log entry 2). -/
def Chip.lineOut (m : Chip) (c : Capture) (k l : Nat) : List Nat × Chip :=
  let ring := m.cc.drift.rings.getD k []
  let use := ring.filter (fun a => decide (l ≤ a.line) && decide (a.line < l + c.lineK))
  let w := (use.map (·.weight)).sum
  let width := (c.word 0x11).toNat / c.bx
  let n := c.lineE * c.lineK
  if w = 0 then
    ((List.range width).map (fun x => (Config.freeWord (m.free + x)).toNat), { m with free := m.free + width })
  else
    ((List.range width).map (fun x =>
      min ((2 * n * (use.map (fun a => nth a.sums x)).sum + w) / (2 * w)) 65535), m)

/-- TSTAMP of output line n (R280): interpolated between the two consecutive midpoints whose positions bracket its
document line; without such a pair it is not stated, and free. -/
def Chip.lineStamp (m : Chip) (l : Nat) : Tick × Chip :=
  let ps := m.cc.drift.mids.map (·.2)
  match (ps.zip (ps.drop 1)).find? (fun p => decide (p.1.1 ≤ 16 * l) && decide (16 * l < p.2.1)) with
  | some (a, b) =>
    let dx := b.1 - a.1
    let dt : Int := b.2.toNat - a.2.toNat
    (BitVec.ofInt 64 (roundDiv (a.2.toNat * dx + dt * ((16 * l - a.1 : Nat) : Int)) (2 * dx)), m)
  | none =>
    let r := m.takeFreeNat
    (BitVec.ofNat 64 r.1, r.2)

/-- A line goes to the pipeline, unless its frame is lost (R277, R417). -/
def Chip.lineSend (m : Chip) (c : Capture) (x : DLine) : Chip :=
  match m.pipe.frames.find? (fun f => f.is 0 c.ctx.val c.fn) with
  | none => m
  | some f => if f.lost then m else { m with pipe := { m.pipe with lines := m.pipe.lines ++ [x] } }

/-- Output line n of stratum k (R277, R279): formed from the ring, or a copy of the previous line, all zeros where there
is none. -/
def Chip.emitDrift (m : Chip) (c : Capture) (k n : Nat) (repeated : Bool) (stamp : Tick) : Chip :=
  let width := (c.word 0x11).toNat / c.bx
  let bl := match m.pipe.frames.find? (fun f => f.is 0 c.ctx.val c.fn) with
    | some f => (m.blSnap f k).sum
    | none => 0
  let last := m.cc.drift.lastLine.getD k ([], 0)
  let line := fun (vals : List Nat) (px : Nat) (bl : Int) =>
    ({ num := n, stratum := k, repeated := repeated, stamp := stamp, fn := c.fn, pixels := px, bl := bl, vals := vals,
       left := vals.length } : DLine)
  let px := c.lineE * c.lineK * c.bx
  if repeated then
    m.lineSend c (if last.1 = [] then line (List.replicate width 0) 0 0 else line last.1 px last.2)
  else
    let r := m.lineOut c k (c.line0 + n * c.lineK)
    let m := r.2.mapDrift (fun d => { d with lastLine := upd d.lastLine k (fun _ => (r.1, bl)) })
    m.lineSend c (line r.1 px bl)

/-- Output line n of every stratum leaves, stratum 0 first (R278); the counters follow (R279). -/
def Chip.emitRow (m : Chip) (c : Capture) (n : Nat) (repeated : Bool) : Chip :=
  let r := m.lineStamp (c.line0 + n * c.lineK)
  let m := (List.range c.strata).foldl (fun m k =>
    let m := m.emitDrift c k n repeated r.1
    if repeated then m.bump spCtx (c.off 0xD2) 1 else m) r.2
  m.wr32 spCtx (c.off 0xD3) (n + 1)

/-- Every line that a step at position X16 completes leaves (R276); emitted accumulator lines leave the ring. -/
def Chip.completeLines (m : Chip) (c : Capture) (x16 : Nat) (repeated : Bool) : Chip :=
  let n := m.cc.drift.nextLine
  let upTo := max n ((x16 / 16 - (c.line0 + 1)) / c.lineK)
  let m := (List.range (upTo - n)).foldl (fun m i => m.emitRow c (n + i) repeated) m
  let low := c.line0 + upTo * c.lineK
  m.mapDrift (fun d =>
    { d with nextLine := upTo, rings := d.rings.map (fun r => r.filter (fun a => decide (low ≤ a.line))),
             mids := if upTo = n then d.mids else d.mids.drop ((d.mids.filter (fun p => decide (p.2.1 ≤ 16 * low))).length - 1) })

/-- A step joins the midpoints in the order of the numbers. -/
def addMid (x : Nat × Nat × Tick) : List (Nat × Nat × Tick) → List (Nat × Nat × Tick)
  | [] => [x]
  | y :: l => if x.1 < y.1 then x :: y :: l else y :: addMid x l

/-- A step's position and midpoint are noted. -/
def Chip.noteMid (m : Chip) (c : Capture) (x : DStep) (dropped : Bool) (x16 : Nat) : Chip :=
  m.mapDrift (fun d => { d with mids := addMid (x.num, x16, BitVec.ofNat 64 (c.mid2 x dropped)) d.mids })

/-- The dropped steps that satisfy a test are accounted for, in order (R276, R279). -/
def Chip.passSteps (m : Chip) (c : Capture) (p : DStep → Bool) : Chip :=
  let l := m.cc.drift.droppedSteps.filter p
  let m := m.mapDrift (fun d => { d with droppedSteps := d.droppedSteps.filter (fun x => !p x) })
  l.foldl (fun m x =>
    let q := m.posOf c x true
    (m.noteMid c x true q).completeLines c q true) m

/-- The number up to which dropped steps are accounted for: they come after the bands before them that Loam has asked for; a
step whose READB has not been issued holds none back (R276; the corner case of a halted Loam). -/
def Drift.passLimit (d : Drift) : Nat :=
  ((((d.bands ++ d.outstanding.take (b2n d.readb.isSome)).head?)).map (·.num)).getD d.count

/-- The dropped steps whose midpoint has passed are accounted for (R274, R276). -/
def Chip.passDropped (m : Chip) (c : Capture) : Chip :=
  let lim := m.cc.drift.passLimit
  m.passSteps c (fun x => decide (x.num < lim) && decide (c.mid2 x true ≤ 2 * m.now.toNat))

/-! ## The end of the document -/

/-- The document has ended (R285): the lines that are complete have left, GET 4 reads 1, DEND is set, WAITE 2 can complete
(R282). -/
def Chip.docFinish (m : Chip) (c : Capture) : Chip :=
  ((m.passDropped c).mapDrift (fun d => { d with ended := true, released := [] })).orBits spCtx (c.off 0xD0) 0x4000

/-- The document ends (R285): no further step is taken up, the outstanding steps go, the band read in progress
completes. Exposures not yet read are given up with their strobes. -/
def Chip.docEnd (m : Chip) (c : Capture) : Chip :=
  if m.cc.drift.ending then m
  else
    let m := m.captureLow.mapDrift (fun d =>
      { d with ending := true, outstanding := [], taken := [], exposing := none, closed := [], readb := none })
    if m.cc.drift.reading.isNone then (m.docFinish c).advanceLoam else m

/-- LINES output lines have been emitted by stratum 0: the document ends (R284). -/
def Chip.lineLimit (m : Chip) (c : Capture) : Chip :=
  if fld (c.word 0xC0) 12 2 ≠ 1 ∧ c.word32 0xC4 ≤ m.cc.drift.nextLine then m.docEnd c else m

/-- What the Drift engine does at a tick: lines that dropped steps complete leave (R276, R284). -/
def Chip.tickDrift (m : Chip) : Chip :=
  match m.driftCap with
  | none => m
  | some c => if m.cc.drift.droppedSteps.isEmpty ∨ m.cc.drift.ending then m else (m.passDropped c).lineLimit c

/-! ## Band reads -/

/-- The part of a row's values that window 0 covers (R277). -/
def Capture.bandPart (c : Capture) (vals : List Nat) : List Nat :=
  (vals.drop ((c.word 0x10).toNat / c.bx)).take ((c.word 0x11).toNat / c.bx)

/-- The black level follows a band row (R417). -/
def Chip.bandBlack (m : Chip) (c : Capture) (k row : Nat) (vals : List Nat) : Chip :=
  match m.pipe.frames.find? (fun f => f.is 0 c.ctx.val c.fn) with
  | none => m
  | some f =>
    let r := m.blTrack f { src := 0, id := c.ctx.val, fn := c.fn, plane := k, row := row, stamp := m.now, vals := vals,
                           left := 0, bl := [], store := none }
    { r.1 with pipe := { r.1.pipe with frames := r.1.pipe.frames.map (fun (g : PFrame) => if g.is 0 c.ctx.val c.fn then r.2 else g) } }

/-- Band row j of a step is converted and summed (R249, R275, R315, R321, R333); at the row boundaries inside the band windows
end and trims walk (R354). -/
def Chip.bandRow (m : Chip) (c : Capture) (x : DStep) (x16 j : Nat) (codes : List GroupRow) : Chip :=
  let row := x.row + j
  let m := m.windowsEnd.applyForces
  let m := if j = 0 then m else m.walkAll c
  let vals := m.rowValues c codes
  let m := (m.groupRows c codes x.stratum row x.num).bandBlack c x.stratum row vals
  let u := x16 + 16 * (if tst (c.word 0xC0) 14 then c.depth - 1 - j else j)
  m.accumulate x.stratum u (c.bandPart vals)

/-- Strips of roles that are no longer converted reach to this step (R330, R331). -/
def Chip.growStrips (m : Chip) (x : DStep) : Chip :=
  m.mapCap (fun c => { c with strips := c.strips.map (fun t =>
    if (t.cause = 2 ∨ t.cause = 3) ∧ t.stratum = x.stratum ∧ t.step0 ≤ x.num then { t with step1 := x.num } else t) })

/-- The band of a step has been read (R152, R275-R279, R284, R285). -/
def Chip.bandEnd (m : Chip) (c : Capture) (x : DStep) (rows : List (List GroupRow)) : Chip :=
  let m := m.passSteps c (fun y => decide (y.num < x.num))
  let p := m.posOf c x false
  let m := (List.range c.depth).foldl (fun m j => m.bandRow c x p j (rows.getD j [])) m
  let m := m.growStrips x
  let m := m.mapDrift (fun d => { d with reading := none })
  let m := { m with cc := { m.cc with nodes := m.cc.nodes &&& ~~~BitVec.ofNat 4 (2 ^ x.stratum) } }
  let m := (m.noteMid c x false p).completeLines c p false
  let m := (m.passDropped c).progress
  let m := if m.cc.drift.ending then m.docFinish c else m.lineLimit c
  m.advanceLoam

/-! ## Commands -/

/-- STEP_TAKE_UP (R271). -/
def execStepTakeUp (s : State) : Host.Outcome State Fault Refusal :=
  let m := s.chip
  match m.driftCap with
  | none => done s m
  | some c =>
    guarded s (m.pw.array && m.cc.drift.readb.isSome && !m.cc.drift.outstanding.isEmpty && !m.cc.drift.ending)
      (m.takeUp c)

/-- STRB_EDGE: a strobe edge of the action queue, or the rise of a Drift step's strobes (R184, R246, R272). -/
def execStrbEdge (s : State) : Host.Outcome State Fault Refusal :=
  match s.chip.dueAction 2 with
  | some a => done s ((s.chip.takeAction a).captureStrobe a.mask a.rise a.tick).advanceLoam
  | none =>
    match s.chip.driftCap with
    | some c =>
      match s.chip.nextLit c with
      | some x => done s (s.chip.lightStep c x)
      | none => done s s.chip
    | none => done s s.chip

/-- DRIFT_EXPOSURE_OPEN (R271). -/
def execDriftExposureOpen (s : State) : Host.Outcome State Fault Refusal :=
  let m := s.chip
  match m.driftCap, m.cc.drift.taken with
  | some c, x :: _ => guarded s (m.pw.array && m.cc.drift.exposing.isNone && m.reached x.openAt) (m.openStep c)
  | _, _ => done s m

/-- DRIFT_EXPOSURE_CLOSE (R271). -/
def execDriftExposureClose (s : State) : Host.Outcome State Fault Refusal :=
  let m := s.chip
  match m.driftCap, m.cc.drift.exposing with
  | some c, some x => guarded s (m.pw.array && m.reached x.closeAt) (m.closeStep c)
  | _, _ => done s m

/-- BAND_READ_START (R273). -/
def execBandReadStart (s : State) : Host.Outcome State Fault Refusal :=
  let m := s.chip
  match m.driftCap, m.cc.drift.closed with
  | some _, x :: rest =>
    guarded s (m.pw.array && m.cc.drift.reading.isNone && m.reached x.bandFrom)
      (m.mapDrift (fun d => { d with closed := rest, reading := some x }))
  | _, _ => done s m

/-- BAND_READ_END, with the raw codes of the band's rows (R273, R275). -/
def execBandReadEnd (rows : List (List GroupRow)) (s : State) : Host.Outcome State Fault Refusal :=
  let m := s.chip
  match m.driftCap, m.cc.drift.reading with
  | some c, some x => guarded s (m.pw.array && m.reached x.bandTo) (m.bandEnd c x rows)
  | _, _ => done s m

/-- DRIFT_END_PIN: an edge on the end pin, stable for two CORE cycles, starts the TAIL count (R284). -/
def execDriftEndPin (rising : Bool) (s : State) : Host.Outcome State Fault Refusal :=
  let m := s.chip
  match m.driftCap with
  | none => done s m
  | some c =>
    let src := fld (c.word 0xC0) 12 2
    let e := fld (c.word 0xC1) 5 2
    guarded s (m.pw.core && decide (src ≠ 0) && (e == 2 || (e == 0 && rising) || (e == 1 && !rising)) &&
        m.cc.drift.tail.isNone && !m.cc.drift.ending)
      (m.mapDrift (fun d => { d with tail := some (c.word 0xC3).toNat }))

/-- DRIFT_TAIL_EXPIRY: the steps after the end pin's edge have all come (R284). -/
def execDriftTailExpiry (s : State) : Host.Outcome State Fault Refusal :=
  let m := s.chip
  match m.driftCap with
  | none => done s m
  | some c => guarded s (m.pw.core && decide (m.cc.drift.tail = some 0) && !m.cc.drift.ending) (m.docEnd c)

/-- DRIFT_STALL: STALLTMO milliseconds have passed without a step (R284). -/
def execDriftStall (s : State) : Host.Outcome State Fault Refusal :=
  let m := s.chip
  match m.driftCap with
  | none => done s m
  | some c =>
    let tmo := (c.word 0xC6).toNat
    guarded s (m.pw.core && decide (tmo ≠ 0) && !m.cc.drift.ending &&
        decide (m.cc.drift.lastStep.toNat + 100000 * tmo ≤ m.now.toNat))
      (((m.orBits spCtx (c.off 0xD0) 0x8000).mapDrift (fun d => { d with stalled := true })).docEnd c)

end Sys2Proof.Machine
end

