-- ==== Sys2Proof/Machine/TimeBase.lean ====
section
/-! DEFINITION. The system time base and the timers (chapter 4): compare channels (R121-R123, R142), actions
(R124-R128), general timers (R129-R137, R143), capture (R139, R140), the alarm (R112, R113), make-up (R107, R138), and
the sync link (R114-R120). -/

namespace Sys2Proof.Machine

/-! ## Actions -/

/-- ACT and TARGET of an action word are in range (R125). -/
def actionOk (v : Word) : Bool :=
  let t := fld v 0 6
  match fld v 8 4 with
  | 0 => true
  | 1 => decide (t < 40)
  | 2 => decide (t < 40)
  | 3 => decide (t < 40)
  | 4 => decide (t < 8)
  | 5 => decide (t < 4)
  | 6 => decide (t < 8)
  | 7 => decide (t < 8)
  | 8 => decide (t < 16)
  | _ => false

/-- A bit of TMn.STAT. -/
def Chip.tmBit (m : Chip) (n i : Nat) : Bool := tst (m.rd spTmr (tmOff n 0xF)) i

/-- Set a bit of TMn.STAT: 0 RUN, 1 DONE, 2 CFGERR, 3 PVALID, 4 WVALID. -/
def Chip.tmSet (m : Chip) (n i : Nat) (b : Bool) : Chip :=
  m.wr spTmr (tmOff n 0xF) (setBit (m.rd spTmr (tmOff n 0xF)) i b)

/-- Start timer n: ignored while it runs, and for a one-shot timer with DONE = 1 (R136); a stop of the same cycle
prevails (R128). -/
def Chip.startTimer (m : Chip) (n : Nat) : Chip :=
  if m.tmBit n 0 || m.tmBit n 1 || m.cyc.stopped.getLsbD n then m else m.tmSet n 0 true

/-- Stop timer n: COUNT and ACC stay (R136). -/
def Chip.stopTimer (m : Chip) (n : Nat) : Chip :=
  Chip.tmSet { m with cyc := { m.cyc with stopped := m.cyc.stopped ||| BitVec.ofNat 8 (2 ^ n) } } n 0 false

/-- Perform an action word (R124, R126), with its rank in the order of R127. -/
def Chip.doAction (m : Chip) (rank : Nat) (w : Word) : Chip :=
  let a := fld w 8 4
  let t := fld w 0 6
  match a with
  | 4 => m.targetEvent 2 t m.now
  | 5 => m.moverRequest t
  | 6 => m.startTimer t
  | 7 => m.stopTimer t
  | 8 => (m.triggerFrom 1 (Fin.ofNat 16 t)).1
  | _ => if 1 ≤ a ∧ a ≤ 3 then (if t < 32 then m.drivePin rank t a else m.timerStrobe rank (t - 32) a) else m

/-! ## Compare channels -/

/-- MATCH of channel n. -/
def Chip.cmpMatch (m : Chip) (n : Nat) : Tick := BitVec.ofNat 64 (m.rd64 spTmr (cmpOff n 0))

/-- CTL.EN of channel n. -/
def Chip.cmpEn (m : Chip) (n : Nat) : Bool := tst (m.rd spTmr (cmpOff n 6)) 15

/-- MATCH moves on by k periods, or EN clears where PERIOD is 0 (R122, R142). The held words 0 to 2 do not follow
(log entry 79). -/
def Chip.cmpNext (m : Chip) (n k : Nat) : Chip :=
  let p := m.rd32 spTmr (cmpOff n 4)
  if p = 0 then m.clrBits spTmr (cmpOff n 6) 0x8000
  else m.wr64 spTmr (cmpOff n 0) ((m.cmpMatch n).toNat + k * p)

/-- SYNCCTL.MODE. -/
def Chip.syncMode (m : Chip) : Nat := fld (m.rd spTmr 0) 0 2

/-- A follower notes the match values that its channels have acted on (R120). -/
def Chip.noteActed (m : Chip) (n : Nat) : Chip :=
  if m.syncMode = 2 then { m with tb := { m.tb with acted := (n, m.cmpMatch n) :: m.tb.acted } } else m

/-- The match value of channel n is one that it acted on before a follower's step (R120). -/
def Chip.cmpBarred (m : Chip) (n : Nat) : Bool := m.tb.barred.any (fun p => p.1 == n && p.2 == m.cmpMatch n)

/-- The action of channel n with its flag and event (R122); a match value acted on before a follower's step is not acted
on again (R120). -/
def Chip.cmpAct (m : Chip) (n : Nat) : Chip :=
  let ctl := m.rd spTmr (cmpOff n 6)
  if m.cmpBarred n then m
  else (((m.noteActed n).doAction (1 + n) ctl).orBits spTmr 0x08 (bitW n)).raiseIf (tst ctl 13) evTmrMatch

/-- Match times passed (R142). -/
def Chip.cmpPassed (m : Chip) (n : Nat) : Nat :=
  let p := m.rd32 spTmr (cmpOff n 4)
  if p = 0 then 1 else (m.now.toNat - (m.cmpMatch n).toNat) / p + 1

/-- Channel n has matched (R122). -/
def Chip.cmpFire (m : Chip) (n : Nat) : Chip := (m.cmpAct n).cmpNext n 1

/-- Channel n has missed its match (R142). -/
def Chip.cmpMiss (m : Chip) (n : Nat) : Chip :=
  let k := m.cmpPassed n
  let m := ((m.bump spTmr (cmpOff n 8) k).orBits spTmr 0x09 (bitW n)).raise evTmrMissed
  let m :=
    if tst (m.rd spTmr (cmpOff n 6)) 14 || m.cmpBarred n then m else (m.cmpAct n).orBits spTmr (cmpOff n 7) 1
  m.cmpNext n k

/-- An enabled channel whose STB has reached MATCH and whose match has not been performed yet performs it: the match
comes before a write of the same cycle (chapter 4, "Corner cases"). -/
def Chip.cmpFirst (m : Chip) (n : Nat) : Chip := if m.cmpEn n && m.reached (m.cmpMatch n) then m.cmpFire n else m

/-- A write of a MATCH word: words 0 to 2 are held, word 3 loads all four in one step; a value that the STB has reached
already is missed (R121, R123). -/
def Chip.writeMatch (m : Chip) (n w : Nat) (v : Word) : Chip :=
  if w < 3 then m.wrHeld spTmr (cmpOff n w) v
  else
    let m := m.cmpFirst n
    let h := fun i => m.rdHeld spTmr (cmpOff n i)
    let m := m.wrList spTmr (cmpOff n 0) [h 0, h 1, h 2, v]
    if m.cmpEn n && m.reached (m.cmpMatch n) then m.cmpMiss n else m

/-- A write of CMPn.CTL (R123, R125): setting EN where the STB has reached MATCH misses the match. -/
def Chip.writeCmpCtl (m : Chip) (n : Nat) (v : Word) : Chip :=
  if actionOk v then
    let m := m.cmpFirst n
    let was := m.cmpEn n
    let m := m.plainWrite spTmr (cmpOff n 6) v
    if tst v 15 && !was && m.reached (m.cmpMatch n) then m.cmpMiss n else m
  else m

/-- Enabled channels whose MATCH the STB has gone past from a tick on have missed it (R120, R142); a MATCH that equals the
STB is reached in its tick and matches. -/
def Chip.missFrom (m : Chip) (old : Tick) : Chip :=
  (List.range 16).foldl (fun m n =>
    if m.cmpEn n && decide (old.toNat < (m.cmpMatch n).toNat) && decide ((m.cmpMatch n).toNat < m.now.toNat) then m.cmpMiss n
    else m) m

/-! ## General timers -/

/-- Perform the match action of timer n (R132). -/
def Chip.timerMatch (m : Chip) (n : Nat) : Chip :=
  let w := m.rd spTmr (tmOff n 0xB)
  let m := { m with tb := { m.tb with matchDue := m.tb.matchDue &&& ~~~BitVec.ofNat 8 (2 ^ n) } }
  ((m.doAction (17 + 2 * n) w).orBits spTmr 0x0A (bitW n)).raiseIf (tst w 15) evTmrMatch

/-- Perform the terminal action of timer n (R132); it is a step of a Drift capture that names the timer and was accepted
before it (R269). -/
def Chip.timerTerminal (m : Chip) (n : Nat) : Chip :=
  let w := m.rd spTmr (tmOff n 0xC)
  let m := { m with tb := { m.tb with termDue := m.tb.termDue &&& ~~~BitVec.ofNat 8 (2 ^ n) } }
  (((m.driftStep n).doAction (18 + 2 * n) w).orBits spTmr 0x0A (bitW n)).raiseIf (tst w 15) evTmrMatch

/-- Actions of timer n's last count that are still due: match before terminal (R127, R133). -/
def Chip.timerFlush (m : Chip) (n : Nat) : Chip :=
  let m := if m.tb.matchDue.getLsbD n then m.timerMatch n else m
  if m.tb.termDue.getLsbD n then m.timerTerminal n else m

/-- One count (R132): COUNT, RUN and DONE; whether it is terminal and whether it matches. -/
def Chip.countOnce (m : Chip) (n : Nat) : Chip × Bool × Bool :=
  let c := m.rd32 spTmr (tmOff n 0)
  let tc := m.rd32 spTmr (tmOff n 2)
  let mt := m.rd32 spTmr (tmOff n 4)
  if c = tc then
    if tst (m.rd spTmr (tmOff n 0xA)) 15 then ((m.tmSet n 0 false).tmSet n 1 true, true, false)
    else (m.wr32 spTmr (tmOff n 0) 0, true, decide (mt = 0))
  else
    let v := (c + 1) % 0x100000000
    (m.wr32 spTmr (tmOff n 0) v, false, decide (v = mt))

/-- Timer n is frozen: Loam is halted from the bus (HCAUSE 1) or JTAG (2) and FREEZE is 1 (R137, R263). -/
def Chip.frozen (m : Chip) (n : Nat) : Bool :=
  m.loam.halted && (m.loam.hcause == 1 || m.loam.hcause == 2) && tst (m.rd spTmr (tmOff n 0xA)) 14

/-- The edge is one of the source that CLKSEL, CLKPIN and CLKEDGE select (R129, R130); a pin whose input buffer is off shows
no edge (R544). -/
def Chip.clocks (m : Chip) (n : Nat) (src : ClkSource) : Bool :=
  let w := m.rd spTmr (tmOff n 0xA)
  match src with
  | .core => fld w 10 3 == 0
  | .stb => fld w 10 3 == 1
  | .refclk => fld w 10 3 == 2
  | .aonclk => fld w 10 3 == 3
  | .pin p rising =>
    fld w 10 3 == 4 && fld w 0 5 == p.val && !m.pins.asleep && !tst (m.rd spPin (pinOff p.val 1)) 15 &&
      (fld w 8 2 == 2 || (fld w 8 2 == 0 && rising) || (fld w 8 2 == 1 && !rising))

/-- A source edge passes the prescaler and counts (R131, R132); the actions it makes due follow. -/
def Chip.sourceEdge (m : Chip) (n : Nat) : Chip :=
  let m := (m.timerFlush n).driftEdge n
  let psc := m.rd32 spTmr (tmOff n 6)
  let a := m.rd32 spTmr (tmOff n 8) + 0x10000
  if psc ≤ a then
    let r := (m.wr32 spTmr (tmOff n 8) (a - psc)).countOnce n
    let bit := fun (b : Bool) => if b then BitVec.ofNat 8 (2 ^ n) else 0
    { r.1 with tb := { r.1.tb with matchDue := r.1.tb.matchDue ||| bit r.2.2, termDue := r.1.tb.termDue ||| bit r.2.1 } }
  else m.wr32 spTmr (tmOff n 8) a

/-- A TSTART write (R136). -/
def Chip.writeTstart (m : Chip) (v : Word) : Chip :=
  (List.range 8).foldl (fun m n => if tst v n then (if tst v 15 then m.stopTimer n else m.startTimer n) else m) m

/-- A TMn.CMD write (R135). -/
def Chip.writeTmCmd (m : Chip) (n : Nat) (v : Word) : Chip :=
  if tst v 0 then (m.wr32 spTmr (tmOff n 0) 0).tmSet n 1 false else m

/-- A TMn.TCAP write: setting CAPEN clears PVALID and WVALID and forgets the earlier rising edge (R140); writing CAPEN = 1
while it is 1 is no setting of it (DESIGN CHOICE, log entry 79). -/
def Chip.writeTcap (m : Chip) (n : Nat) (v : Word) : Chip :=
  let was := tst (m.rd spTmr (tmOff n 0xD)) 12
  let m := m.plainWrite spTmr (tmOff n 0xD) v
  if tst v 12 && !was then
    let m := (m.tmSet n 3 false).tmSet n 4 false
    { m with tb := { m.tb with rose := m.tb.rose &&& ~~~BitVec.ofNat 8 (2 ^ n) } }
  else m

/-- A write of the whole PSC item (R131). -/
def Chip.writePsc (m : Chip) (n v : Nat) : Chip :=
  if v < 0x10000 then m.tmSet n 2 true else m.wr32 spTmr (tmOff n 6) v

/-- A write to a word of timer n (R125, R129-R131, R134). -/
def Chip.writeTm (m : Chip) (n o : Nat) (v : Word) : Chip :=
  match o with
  | 0x0 => if m.tmBit n 0 then m.tmSet n 2 true else m.plainWrite spTmr (tmOff n o) v
  | 0x1 => if m.tmBit n 0 then m.tmSet n 2 true else m.plainWrite spTmr (tmOff n o) v
  | 0x6 => m.writePsc n (v.toNat + 0x10000 * (m.rd spTmr (tmOff n 7)).toNat)
  | 0x7 => m.writePsc n ((m.rd spTmr (tmOff n 6)).toNat + 0x10000 * v.toNat)
  | 0xA => if 4 < fld v 10 3 ∨ fld v 8 2 = 3 then m else m.plainWrite spTmr (tmOff n o) v
  | 0xB => if actionOk v then m.plainWrite spTmr (tmOff n o) v else m
  | 0xC => if actionOk v then m.plainWrite spTmr (tmOff n o) v else m
  | 0xD => m.writeTcap n v
  | 0xE => m.writeTmCmd n v
  | _ => m.plainWrite spTmr (tmOff n o) v

/-! ## Capture -/

/-- A counted edge of timer n's capture input (R140). -/
def Chip.timerCap (m : Chip) (n : Nat) (rising : Bool) : Chip :=
  let tcap := m.rd spTmr (tmOff n 0xD)
  let v := if tst tcap 15 then m.now.toNat % 0x100000000 else m.rd32 spTmr (tmOff n 0)
  let seen := m.tb.rose.getLsbD n
  let rise := m.rd32 spTmr (tmOff n 0x12)
  let d := (v + 0x100000000 - rise) % 0x100000000
  let m :=
    if rising then
      let m := if seen then (m.wr32 spTmr (tmOff n 0x18) d).tmSet n 3 true else m
      let m := m.wr32 spTmr (tmOff n 0x12) v
      { m with tb := { m.tb with rose := m.tb.rose ||| BitVec.ofNat 8 (2 ^ n) } }
    else
      let m := if seen then (m.wr32 spTmr (tmOff n 0x16) d).tmSet n 4 true else m
      m.wr32 spTmr (tmOff n 0x14) v
  let w := m.rd spTmr (tmOff n 0xF)
  let m := (m.wr spTmr (tmOff n 0xF) (setFld w 8 8 (fld w 8 8 + 1))).orBits spTmr 0x0A (bitW (8 + n))
  let m := m.raiseIf (tst tcap (if rising then 14 else 13)) evTmrCapture
  if rising then m.driftCapture n else m

/-! ## The alarm -/

/-- A write of an ALM word: 0 and 1 are held, ALM2 loads all three and arms (R112). The held words are CORE's and read 0
after SLEEP or a system reset (log entry 79). -/
def Chip.writeAlm (m : Chip) (w : Nat) (v : Word) : Chip :=
  if w < 2 then m.wrHeld spTmr (0x10 + w) v
  else
    let m := m.wrList spTmr 0x10 [m.rdHeld spTmr 0x10, m.rdHeld spTmr 0x11, v]
    Chip.orBits { m with pw := { m.pw with alarmAt := m.tb.aon } } spTmr 0x13 0x8000

/-- A write of ALMCTL: DISARM clears ARMED (R112). -/
def Chip.writeAlmctl (m : Chip) (v : Word) : Chip :=
  let m := m.plainWrite spTmr 0x13 v
  if tst v 0 then m.clrBits spTmr 0x13 0x8000 else m

/-- The alarm value. -/
def Chip.alarm (m : Chip) : Nat := m.rd32 spTmr 0x10 + 0x100000000 * (m.rd spTmr 0x12).toNat

/-- The alarm is armed and its value has been reached or passed, at the next AON tick after the load at the earliest
(R113). -/
def Chip.alarmDue (m : Chip) : Bool :=
  tst (m.rd spTmr 0x13) 15 && decide (m.alarm ≤ m.tb.aon.toNat) && m.pw.alarmAt != m.tb.aon

/-- The alarm fires (R113). -/
def Chip.fireAlarm (m : Chip) : Chip := (m.clrBits spTmr 0x13 0x8000).orBits spTmr 0x13 0x4000

/-! ## Make-up -/

/-- Actions passed by c counts of a continuous timer from COUNT, with period p (R143): terminal events and matches. -/
def passedWraps (count tc mt c : Nat) : Nat :=
  let p := tc + 1
  let terms := (count + c) / p
  let matches_ := if tc < mt then 0 else (count + c + p - mt) / p - (count + p - mt) / p
  terms + matches_

/-- Timer n receives E source edges at once (R138, R143): as many counts as R131 gives, at most one per edge. A timer whose
COUNT lies above TC runs up to the top of its 32 bits first; its passed match is counted likewise. A one-shot timer that
reaches TC stops there, its terminal action passed. -/
def Chip.makeUpTimer (m : Chip) (n e : Nat) : Chip :=
  let psc := m.rd32 spTmr (tmOff n 6)
  let total := m.rd32 spTmr (tmOff n 8) + 0x10000 * e
  let c := min e (total / psc)
  let m := m.wr32 spTmr (tmOff n 8) (total - c * psc)
  let count := m.rd32 spTmr (tmOff n 0)
  let tc := m.rd32 spTmr (tmOff n 2)
  let mt := m.rd32 spTmr (tmOff n 4)
  -- counts until COUNT stands at TC, from there on in periods
  let up := (tc + 0x100000000 - count) % 0x100000000
  let within := fun (k : Nat) =>
    -- the match is passed in the first k counts of the run up to TC
    let d := (mt + 0x100000000 - count) % 0x100000000
    b2n (decide (1 ≤ d) && decide (d ≤ k))
  let r : Chip × Nat :=
    if tst (m.rd spTmr (tmOff n 0xA)) 15 && decide (0 < c) && decide (up ≤ c) then
      (((m.wr32 spTmr (tmOff n 0) tc).tmSet n 0 false).tmSet n 1 true, within up + 1)
    else if c ≤ up then (m.wr32 spTmr (tmOff n 0) (count + c), within c)
    else (m.wr32 spTmr (tmOff n 0) ((c - up - 1) % (tc + 1)),
          within up + 1 + b2n (decide (mt = 0)) + passedWraps 0 tc mt (c - up - 1))
  if r.2 = 0 then r.1
  else ((r.1.bump spTmr (tmOff n 0x10) r.2).orBits spTmr 0x0B (bitW n)).raise evTmrMissed

/-- M of R107. -/
def makeUp (n : Nat) (pe pw : Nat) : Nat :=
  ((n * 390625 : Nat) + 128 * ((pw : Int) - (pe : Int)) + 64).toNat / 128

/-- The timers that ran at entry and whose MAKEUP is 1 advance (R138); a frozen timer loses the edges (R137). -/
def Chip.makeUpTimers (m : Chip) (mk n : Nat) : Chip :=
  (List.range 8).foldl (fun m t =>
    let ctl := m.rd spTmr (tmOff t 0xA)
    if m.tmBit t 0 && tst ctl 13 && !m.frozen t then
      match fld ctl 10 3 with
      | 0 => m.makeUpTimer t (2 * mk)
      | 1 => m.makeUpTimer t mk
      | 2 => m.makeUpTimer t (mk / 4)
      | 3 => m.makeUpTimer t n
      | _ => m
    else m) m

/-- p_w, the whole ticks since the most recent AONCLK edge (R106, R107). -/
def Chip.aonPhase (m : Chip) : Nat := m.tb.sub / 128

/-- The STB resumes at a wake from DOZE or SLEEP (R107, R109, R110, R138, R142): made up from the phase record, or at 0
without one. MKSTAT.RC tells of the latest interval: a make-up without the RC clears it (DESIGN CHOICE, log entry 79). A
follower plans the corrections of its rate afresh. -/
def Chip.stbResume (m : Chip) (slept : Bool) : Chip :=
  match m.pw.phase with
  | some (se, ae, pe) =>
    let n := m.tb.aon.toNat - ae.toNat
    let mk := makeUp n pe m.aonPhase
    let m := { m with tb := { m.tb with stb := se + BitVec.ofNat 64 mk, slews := [], epochLeft := 0 }, pw := { m.pw with phase := none } }
    let w := if m.pw.rcUsed then m.rd spTmr 2 ||| 0x0002 else m.rd spTmr 2 &&& ~~~(0x0002 : Word)
    let m := (m.wr64 spTmr 4 mk).wr spTmr 2 (setBit w 0 slept)
    (m.makeUpTimers mk n).missFrom se
  | none => ({ m with tb := { m.tb with stb := 0 } }).orBits spTmr 2 0x0004

/-! ## The sync link -/

/-- A SYNCCTL write: MODE 0b11 discards it; leaving or entering the follower role starts it afresh (R114, R116). -/
def Chip.writeSyncctl (m : Chip) (v : Word) : Chip :=
  if fld v 0 2 = 3 then m
  else
    let old := m.syncMode
    let m := m.plainWrite spTmr 0 v
    if old = fld v 0 2 then m
    else
      let m := if old = 2 then m.clrBits spTmr 1 0x0001 else m
      { m with tb := { m.tb with syncOut := none, marker := none, locked := false, syncFrom := m.now, lost := false,
                                 stepRun := 0, drift := 0, lastErr := 0, applied := 0, slews := [], epochLeft := 0,
                                 acted := [], barred := [] } }

/-- The CRC-8 of R115 over bits in sending order: one step. -/
def crc8Bit (c : BitVec 8) (b : Bool) : BitVec 8 :=
  let top := c.getLsbD 7 != b
  if top then (c <<< 1) ^^^ 0x07 else c <<< 1

/-- The CRC-8 over the 48 bits of V. -/
def crc8Of (bits : List Bool) : BitVec 8 := bits.foldl crc8Bit 0

/-- The bits of V and of its CRC in sending order (R115). -/
def syncBits (v : AonTick) : List Bool :=
  let bits := (List.range 48).map v.getLsbD
  bits ++ (List.range 8).map (crc8Of bits).getLsbD

/-- The high ticks of the 57 cells of a frame (R115). -/
def syncCells (v : AonTick) : List Nat := 32 :: (syncBits v).map (fun b => if b then 48 else 16)

/-- The level of SYNC_OUT (R114, R115): low outside a frame. -/
def Chip.syncLevel (m : Chip) : Bool :=
  match m.tb.syncOut with
  | some (t, cells) =>
    let d := (m.now - t).toNat
    decide (d % 64 < nth cells (d / 64))
  | none => false

/-- A data pulse of a sync frame: 0, 1, or out of both ranges (R116). -/
def pulseBit (p : Nat) : Option Bool :=
  if 12 ≤ p ∧ p ≤ 20 then some false else if 44 ≤ p ∧ p ≤ 52 then some true else none

/-- V and the correctness of a received frame (R115, R116). -/
def syncValue (start : Nat) (pulses : List Nat) : Option AonTick :=
  if 28 ≤ start ∧ start ≤ 36 ∧ pulses.length = 56 then
    let bits := pulses.filterMap pulseBit
    if bits.length = 56 then
      if BitVec.ofBoolListLE (bits.drop 48) = (crc8Of (bits.take 48)).setWidth _ then
        some ((BitVec.ofBoolListLE (bits.take 48)).setWidth 48)
      else none
    else none
  else none

/-- Plan k corrections of one tick each over the next `left` ticks, at points that the spec leaves open (R118): forward
where k is positive, else by holding the STB. -/
def Chip.planSlews (m : Chip) (k : Int) (left : Nat) : Chip :=
  let n := k.natAbs
  let w := left / max 1 n
  let m := { m with tb := { m.tb with slewUp := decide (0 < k), slews := [], epochLeft := left } }
  (List.range n).foldl (fun m i =>
    let g := m.takeFreeNat
    { g.2 with tb := { g.2.tb with slews := (i * w + g.1 % max 1 w) :: g.2.tb.slews } }) m

/-- The follower's STB takes a value at once (R117, R120): a forward step misses the matches it passes, and values acted
on before it stay barred. -/
def Chip.stbStep (m : Chip) (t : Tick) : Chip :=
  let old := m.now
  let m := { m with tb := { m.tb with stb := t, barred := m.tb.acted ++ m.tb.barred, acted := [] } }
  m.missFrom old

/-- Add to a counting field of a word, saturating; a clearing read of the same cycle leaves what was added (R10). -/
def Chip.bumpField (m : Chip) (sp off lo n : Nat) : Chip :=
  let up := fun (w : Word) => setFld w lo n (min (fld w lo n + 1) (2 ^ n - 1))
  Chip.wr { m with cyc := m.cyc.note (key sp off) (m.rd sp off) up } sp off (up (m.rd sp off))

/-- Count a step: STEPS, and RATEERR at the fourth in consecutive epochs (R118). -/
def Chip.countStep (m : Chip) (run : Nat) : Chip :=
  let m := m.bumpField spTmr 1 8 8
  let m := if 4 ≤ run then m.orBits spTmr 1 0x0008 else m
  { m with tb := { m.tb with stepRun := run } }

/-- The estimate of the rate difference in ticks per epoch after a marker with error e, n epochs after the marker before
(R118): the error that has come up since, without the corrections made, within 200 ppm. How the estimate is formed is the
model's choice (log entry 33). -/
def TimeBase.estimate (b : TimeBase) (e : Int) (n : Nat) : Int :=
  clampI (-13) 13 (roundDiv (e - b.lastErr - b.applied) (max 1 n))

/-- SYNCPPM of a rate difference: 1/64 ppm (R118). -/
def ppmWord (d : Int) : Word := wd (enc (roundDiv (d * 15625) 16) 16)

/-- An accepted sync frame (R117-R119). -/
def Chip.syncAccept (m : Chip) (v : AonTick) (elapsed : Nat) : Chip :=
  let base : Tick := (v.setWidth 64) <<< 16
  let mark := m.now - BitVec.ofNat 64 elapsed
  let lock := tst (m.rd spTmr 1) 0
  let stepTo := fun (m : Chip) =>
    let m := m.stbStep (base + BitVec.ofNat 64 elapsed)
    { m with tb := { m.tb with marker := some base, lastErr := 0, applied := 0, syncFrom := m.now, lost := false } }
  let left := 65536 - elapsed
  if !m.tb.locked then
    let m := (stepTo m).orBits spTmr 1 0x0001
    Chip.planSlews { m with tb := { m.tb with locked := true, stepRun := 0 } } (-m.tb.drift) left
  else
    let e := sext mark.toNat 16
    let n := (((mark - m.tb.marker.getD mark).toNat + 32768) / 65536)
    let m := if lock then
        let d := m.tb.estimate e n
        { m.wr spTmr 3 (ppmWord d) with tb := { m.tb with drift := d } }
      else m
    if 2 ≤ e.natAbs ∨ !lock then
      let m := (((stepTo m).countStep (if n ≤ 1 then m.tb.stepRun + 1 else 1))).orBits spTmr 1 0x0001
      m.planSlews (-m.tb.drift) left
    else
      let m := { m with tb := { m.tb with marker := some mark, lastErr := e, applied := 0, stepRun := 0, syncFrom := m.now,
                                          lost := false } }
      m.planSlews (-(e + m.tb.drift)) left

/-- A discarded frame counts in CRCERR (R116). -/
def Chip.crcErr (m : Chip) : Chip := m.bumpField spTmr 1 4 4

/-- A received frame reaches the follower (R116). -/
def Chip.syncReceive (m : Chip) (start : Nat) (pulses : List Nat) (elapsed : Nat) : Chip :=
  let mark := m.now - BitVec.ofNat 64 elapsed
  let spaced := !m.tb.locked || m.tb.marker.all (fun t => decide (t.toNat + 60000 ≤ mark.toNat))
  match syncValue start pulses with
  | some v => if spaced then m.syncAccept v elapsed else m.crcErr
  | none => m.crcErr

/-- Four epochs without an accepted frame (R119): the STB keeps running at the last estimated rate. -/
def Chip.syncLose (m : Chip) : Chip :=
  ((Chip.clrBits { m with tb := { m.tb with lost := true } } spTmr 1 0x0001).orBits spTmr 1 0x0004).fault 0x0F
    (bytes2 (m.rd spTmr 3))

/-! ## The TMR space -/

/-- A write to a TMR word. -/
def Chip.writeTmr (m : Chip) (off : Nat) (v : Word) : Chip :=
  if off = 0 then m.writeSyncctl v
  else if 0x10 ≤ off ∧ off < 0x13 then m.writeAlm (off - 0x10) v
  else if off = 0x13 then m.writeAlmctl v
  else if 0x100 ≤ off ∧ off < 0x200 then
    let n := (off - 0x100) / 16
    if off % 16 < 4 then m.writeMatch n (off % 16) v
    else if off % 16 = 6 then m.writeCmpCtl n v else m.plainWrite spTmr off v
  else if 0x200 ≤ off ∧ off < 0x300 then m.writeTm ((off - 0x200) / 32) (off % 32) v
  else m.plainWrite spTmr off v

/-! ## Commands -/

/-- CMP_MATCH: an enabled channel's match has been reached (R122). -/
def execCmpMatch (n : Fin 16) (s : State) : Host.Outcome State Fault Refusal :=
  let m := s.chip
  guarded s (m.pw.core && m.cmpEn n.val && m.reached (m.cmpMatch n.val)) ((m.begin (1 + n.val)).cmpFire n.val)

/-- SYNC_FRAME_SEND: the master's STB stands at an epoch (R115). -/
def execSyncFrameSend (s : State) : Host.Outcome State Fault Refusal :=
  let m := s.chip
  guarded s (m.pw.core && decide (m.syncMode = 1) && decide (m.now.toNat % 65536 = 0))
    { m with tb := { m.tb with syncOut := some (m.now, syncCells ((m.now >>> 16).setWidth 48)) } }

/-- SYNC_FRAME_RECEIVED: at the end of cell 56, with the measured pulses and the ticks elapsed since the marker
(R116-R119). -/
def execSyncFrameReceived (start : Nat) (pulses : List Nat) (elapsed : Nat) (s : State) :
    Host.Outcome State Fault Refusal :=
  guarded s (s.chip.pw.core && decide (s.chip.syncMode = 2)) (s.chip.syncReceive start pulses elapsed)

/-- SYNC_LOST (R119): four epochs have passed since the last accepted frame, or since MODE was set to follower. -/
def execSyncLost (s : State) : Host.Outcome State Fault Refusal :=
  let m := s.chip
  guarded s (m.pw.core && decide (m.syncMode = 2) && !m.tb.lost && decide (m.tb.syncFrom.toNat + 4 * 65536 ≤ m.now.toNat))
    m.syncLose

/-- TIMER_SOURCE_EDGE: an edge of the selected source reaches a running timer that is not frozen (R129-R131, R137). -/
def execTimerSourceEdge (e : Fin 8 × ClkSource) (s : State) : Host.Outcome State Fault Refusal :=
  let m := s.chip
  let n := e.1
  guarded s (m.pw.core && m.clocks n.val e.2 && m.tmBit n.val 0 && !m.frozen n.val) ((m.begin (40 + n.val)).sourceEdge n.val)

/-- TIMER_MATCH: the last count made COUNT equal MATCH (R132). -/
def execTimerMatch (n : Fin 8) (s : State) : Host.Outcome State Fault Refusal :=
  guarded s (s.chip.pw.core && s.chip.tb.matchDue.getLsbD n.val) ((s.chip.begin (17 + 2 * n.val)).timerMatch n.val)

/-- TIMER_TERMINAL: the last count was terminal; a match of the same count comes first (R132, R133). -/
def execTimerTerminal (n : Fin 8) (s : State) : Host.Outcome State Fault Refusal :=
  guarded s (s.chip.pw.core && s.chip.tb.termDue.getLsbD n.val) ((s.chip.begin (18 + 2 * n.val)).timerFlush n.val)

/-- TSTART_START: a write of TSTART (R136). -/
def execTstartStart (v : Word) (s : State) : Host.Outcome State Fault Refusal := hostWrite s 0 0x1C (·.writeTstart v)

/-- TSTART_STOP: a write of TSTART (R136). -/
def execTstartStop (v : Word) (s : State) : Host.Outcome State Fault Refusal := hostWrite s 0 0x1C (·.writeTstart v)

/-- TIMER_CAPTURE: a counted edge on the capture input of timer n (R139, R140). -/
def execTimerCapture (n : Fin 8) (rising : Bool) (s : State) : Host.Outcome State Fault Refusal :=
  let m := s.chip
  guarded s (m.pw.core && !m.pins.asleep && tst (m.rd spTmr (tmOff n.val 0xD)) 12 && (m.capPin n.val).isSome)
    (m.timerCap n.val rising)

end Sys2Proof.Machine
end

