-- ==== Sys2Proof/Machine/Calib.lean ====
section
/-! DEFINITION. The user runs and the housekeeping slices (chapter 12): the HKC slices (R225, R227, R349), their walking trims
(R355), the user runs (R360-R372), and the CAL space. -/

namespace Sys2Proof.Machine

/-! ## HKC slices -/

/-- One HKC trim moves one tap toward reducing its estimate, unless it is pinned (R349). -/
def Chip.hkcMove (m : Chip) (i : Nat) (dir : Int) : Chip :=
  if tst (m.rd spCal 6) i || dir == 0 then m
  else
    let s : Int := if Config.tapRaises (4 + i % 2) then -dir.sign else dir.sign
    m.wr spHkc (0x300 + i) (wd (enc (clampI (-128) 127 (sext (m.rd spHkc (0x300 + i)).toNat 8 + s)) 8))

/-- The mean of d and its slope against (c_C - 2048) in a window, in taps (R349). -/
def hkcEst (l : List (Nat × Nat)) : Est × Est :=
  let h := l.foldl (fun (h : HalfStat) p => h.add 1 ((p.1 : Int), (p.2 : Int)) none) HalfStat.zero
  let n : Int := h.n
  (frac (8 * h.sd) n, frac (10000 * (n * h.sdx - h.sd * h.sx)) (n * h.sxx - h.sx * h.sx))

/-- The window of slice C on working slice x, 0 A or 1 B, as delivered so far. -/
def Chip.hkcWin (m : Chip) (x : Nat) : List (Nat × Nat) × Nat × Bool := m.hkc.windows.getD x ([], 0, false)

/-- Replace the window of slice x. -/
def Chip.setWin (m : Chip) (x : Nat) (w : List (Nat × Nat) × Nat × Bool) : Chip :=
  { m with hkc := { m.hkc with windows := upd m.hkc.windows x (fun _ => w) } }

/-- The previous estimates of slice x. -/
def Chip.setPrev (m : Chip) (x : Nat) (e : Option (Int × Nat × Int × Nat)) : Chip :=
  { m with hkc := { m.hkc with prev := upd m.hkc.prev x (fun _ => e) } }

/-- The disagreement of a window beyond 4 LSB in its mean: SLFLT, CAL_FAIL and a fault record (R227). -/
def Chip.hkcJudge (m : Chip) (x : Nat) (l : List (Nat × Nat)) : Chip :=
  let sd : Int := (l.map (fun p => (p.1 : Int) - (p.2 : Int))).sum
  if 4 * l.length < sd.natAbs then
    ((m.orBits spHkc 1 (bitW (13 + x))).raise evCalFail).fault 0x08 [BitVec.ofNat 8 x]
  else m

/-- The learning from a window whose estimates are e, with those of the window before it (R349, R351): a trim whose two
estimates agree moves one tap toward reducing the window's; not while SLFLT is set. -/
def Chip.hkcLearn (m : Chip) (x : Nat) (o g : Int × Nat) : Chip :=
  match m.hkc.prev.getD x none with
  | none => m
  | some (po, qo, pg, qg) =>
    if tst (m.rd spHkc 1) (13 + x) then m
    else
      let okO := near (po, qo) o 2
      let okG := near (pg, qg) g 2
      let m := if okO then m.hkcMove (2 * x) o.1 else m
      let m := if okG then m.hkcMove (2 * x + 1) g.1 else m
      m.calTime 2 (okO && okG)

/-- The window of slice C on working slice x ends after 256 conversions: the judgement (R227), the learning of R349 with its
counts (R351). A window without a comparison, or one that R350 discards, gives no learning and is no previous window. -/
def Chip.hkcWindow (m : Chip) (x : Nat) : Chip :=
  let w := m.hkcWin x
  let m := m.setWin x ([], 0, false)
  if w.1.isEmpty then m.setPrev x none
  else
    let m := m.hkcJudge x w.1
    if w.2.2 then m.setPrev x none
    else
      let e := hkcEst w.1
      let o := m.estOr e.1
      let g := o.2.estOr e.2
      (g.2.hkcLearn x o.1 g.1).setPrev x (some (o.1.1, o.1.2, g.1.1, g.1.2))

/-- The codes of a conversion that slice C shadowed on slice x join its window; one that is complete ends before (R225, R227,
R350). -/
def Chip.hkcPair (m : Chip) (x raw spare : Nat) (supply : Bool) : Chip :=
  let m := if 256 ≤ (m.hkcWin x).2.1 then m.hkcWindow x else m
  let w := m.hkcWin x
  m.setWin x (if supply then w.1 else w.1 ++ [(raw, spare)], w.2.1 + 1, w.2.2 || decide (0 < m.cal.hold))

/-- A conversion of the running VREF run (R363, R366): its raw code joins the sum of its 64. -/
def Chip.vrefSample (m : Chip) (raw : Nat) : Chip :=
  match m.cal.run with
  | .vref sp n sums =>
    let sums := if n % 64 = 0 then sums ++ [raw] else upd sums (n / 64) (· + raw)
    { m with cal := { m.cal with run := .vref (sp || m.warn) (n + 1) sums } }
  | _ => m

/-- The VREF run has conversions still to make. -/
def Chip.vrefOpen (m : Chip) : Bool :=
  match m.cal.run with
  | .vref _ n _ => decide (n < 3072)
  | _ => false

/-- The converter is free for a conversion that no slot asked for: it is ready, and no request is due or falls due within 100 ns
(R225, R363). -/
def Chip.hkcFree (m : Chip) : Bool :=
  m.hkc.act && m.hkcReady && m.hkc.reqs.all (fun r => r.all (fun q => decide (m.now.toNat + 10 ≤ q.due.toNat)))

/-- A conversion that no slot asked for: one of the VREF run in progress, else one of channel 14 or 15 that Marl inserts in
BACKGROUND mode (R225, R363). It is never queued, and counts for the slices and the window as any other. -/
def Chip.ownConversion (m : Chip) (raw spare : Nat) : Chip :=
  if m.hkcFree && (m.vrefOpen || m.hkc.background) then
    let x := m.sampleTaken
    let m := if x.2.1 then x.2.2.hkcPair (b2n x.1) raw spare x.2.2.warn else x.2.2
    m.vrefSample raw
  else m

/-- An HKCCTL write; clearing EN fails a VREF run in progress (R221, R366). -/
def Chip.writeHkcEn (m : Chip) (v : Word) : Chip :=
  let was := tst (m.rd spHkc 0) 15
  let m := m.writeHkcctl v
  match m.cal.run with
  | .vref _ _ _ => if was && !tst (m.rd spHkc 0) 15 then m.runEnd false else m
  | _ => m

/-! ## HKC trims and host writes -/

/-- The applied value of an HKC trim. -/
def Chip.hkcApplied (m : Chip) (i : Nat) : BitVec 8 := m.hkc.applied.getD i 0

/-- One step of an HKC slice trim (R355). -/
def Chip.hkcTrimStep (m : Chip) (i : Nat) : Chip :=
  let a := (m.hkcApplied i).toInt
  let t := sext (m.rd spHkc (0x300 + i)).toNat 8
  { m with hkc := { m.hkc with applied := upd m.hkc.applied i (fun _ => BitVec.ofInt 8 (a + (t - a).sign)),
                               sinceStep := upd m.hkc.sinceStep i (fun _ => 0) } }

/-- A host write to a trim target word pins the trims it holds (R357). -/
def Chip.writeTrim (m : Chip) (off : Nat) (v : Word) : Chip :=
  let i := off - 0x1000
  let g := i / 24
  let p := i % 24 / 8
  let m := m.plainWrite spCal off v
  match i % 8 with
  | 0 => m.orBits spCal (0x300 + g) (wd (3 * 2 ^ (4 * p)))
  | 1 => m.orBits spCal (0x300 + g) (wd (4 * 2 ^ (4 * p)))
  | 2 => m.orBits spCal (0x300 + g) (wd (8 * 2 ^ (4 * p)))
  | _ => m

/-- Every trim is unpinned (R359). -/
def Chip.unpinAll (m : Chip) : Chip :=
  ((List.range 162).foldl (fun m g => m.clrBits spCal (0x300 + g) 0x0FFF) m).clrBits spCal 6 0x003F

/-! ## User runs -/

/-- The strata of a context that are used. -/
def ctxStrata (b : Bank) : List Nat := usedStrata b

/-- STRBMASK of stratum k is not 0. -/
def ctxLit (b : Bank) (k : Nat) : Bool := fld (lw b (0x34 + 0x10 * k)) 0 8 != 0

/-- The flat-field profile that stratum k names. -/
def ctxProfile (b : Bank) (k : Nat) : Nat := fld (lw b (0x35 + 0x10 * k)) 1 3

/-- A WHITE run on context k is refused ("Run refusals"). -/
def Chip.whiteRefused (m : Chip) (k : Nat) : Bool :=
  let b := m.latchCtx k
  let c0 := lw b 0
  let lit := (ctxStrata b).filter (ctxLit b)
  let profiles := lit.map (ctxProfile b)
  let at_ := fun i => (lw b (0x10 + i)).toNat
  !m.armed k || decide (1 < fld c0 0 2) || tst c0 2 || fld c0 8 4 != 0 ||
    (ctxStrata b).any (fun j => tst (lw b (0x35 + 0x10 * j)) 0) ||
    decide (32 < at_ 0) || decide (at_ 0 + at_ 1 < 5152) || decide (48 < at_ 2) || decide (at_ 2 + at_ 3 < 3888) ||
    profiles != profiles.eraseDups || lit.isEmpty || m.pw.cur != Mode.run

/-- A run starts, or is refused (R360). -/
def Chip.runStart (m : Chip) (cls k : Nat) : Chip :=
  let refused := { m with cal := { m.cal with result := 3 } }
  if m.cal.run ≠ .none then refused
  else if cls = 1 then
    if m.hkc.act then { m with cal := { m.cal with run := .vref false 0 [], runStart := m.now, result := 0 } } else refused
  else if m.whiteRefused k then refused
  else
    Chip.whiteStart { m with cal := { m.cal with run := .white (Fin.ofNat 16 k) 0 0 false, runStart := m.now, result := 0 } }

/-- A CALCTL write (R343, R359-R362). -/
def Chip.writeCalctl (m : Chip) (v : Word) : Chip :=
  let run := tst v 10
  let cls := fld v 8 2
  if run && (cls == 0 || cls == 3 || tst v 11) then m
  else
    let m := m.plainWrite 0 0x34 v
    let m := { m with cal := { m.cal with stopping := !tst v 15 && m.cal.group.isSome } }
    let m := m.marlPick
    let m := if tst v 12 then m.unpinAll else m
    let m := if tst v 11 && m.cal.run != .none then m.runEnd false else m
    if run then m.runStart cls (fld v 0 4) else m

/-- CALSTAT: everything but ROTDONE is live. -/
def Chip.readCalstat (m : Chip) : Word :=
  let w := m.rd 0 0x35 &&& 0x0400
  let g := match m.cal.group with
    | some g => g
    | none => 0xFF
  w ||| wd (0x8000 * b2n (m.cal.run != .none) + 0x2000 * m.cal.result + 0x1000 * b2n m.cal.group.isSome +
    0x0800 * b2n (decide (0 < m.cal.hold)) + g)

/-- The words of the REFREC block of a passing run (R371): VALID, the TEMP0 code `t`, the AON counter. Where no sample of TEMP0
has been made since CORE was last unclocked the spec gives no code, and it is free. -/
def Chip.refWords (m : Chip) (t : Option Nat) : List Word × Chip :=
  let r : Word × Chip := match t with
    | some c => (wd c, m)
    | none => m.takeFree
  let a := m.tb.aon.toNat
  ([0x8000 ||| (r.1 &&& 0x0FFF), wd a, wd (a / 0x10000), wd (a / 0x100000000)], r.2)

/-- The channels of a VREF run (R363). -/
def vrefChannels : List Nat := [0, 1, 2, 3, 4, 5, 6, 7, 10, 11, 12, 13]

/-- OFS and GAIN of one pass (R364), none where the points do not rise. -/
def vrefPass (low full : Nat) : Option (Int × Int) :=
  if low < full then some (roundDiv (low : Int) 4, roundDiv (3072 * 16384 * 64) (full - low)) else none

/-- OFS and GAIN of a channel whose two passes meet R364: the sums of 64 raw codes of pass 1 and pass 2, the ground point and the
0.75 VREFX point. -/
def vrefResult (zero1 full1 zero2 full2 : Nat) : Option (Int × Int) :=
  match vrefPass zero1 full1, vrefPass zero2 full2 with
  | some a, some b =>
    let ok := fun (q : Int × Int) => decide (0x3CCD ≤ q.2) && decide (q.2 ≤ 0x4333)
    if (a.1 - b.1).natAbs ≤ 8 ∧ (a.2 - b.2).natAbs ≤ 8 ∧ zero1 ≤ 4096 ∧ zero2 ≤ 4096 ∧ ok a ∧ ok b then
      some (roundDiv (a.1 + b.1) 2, roundDiv (a.2 + b.2) 2)
    else none
  | _, _ => none

/-- The results of the i-th channel of a run from its sums of 64 conversions, in the order in which they were made (R363). -/
def vrefOf (sums : List Nat) (i : Nat) : Option (Int × Int) :=
  vrefResult (nth sums (4 * i)) (nth sums (4 * i + 1)) (nth sums (4 * i + 2)) (nth sums (4 * i + 3))

/-- The VREF run's conversions are complete (R364-R366). -/
def Chip.vrefEnd (m : Chip) (sums : List Nat) (spoiled : Bool) : Chip :=
  let res := (List.range 12).map (fun i =>
    (vrefOf sums i).map (fun r => (nth vrefChannels i, r)))
  if spoiled ∨ res.any (·.isNone) then m.runEnd false
  else
    let m := res.foldl (fun m r =>
      match r with
      | some (ch, o, g) => m.wrList spHkc (0x200 + 2 * ch) [wd (enc o 16), wd g.toNat]
      | none => m) m
    let r := m.refWords m.cal.temp0
    (r.2.wrList spCal 0x60 r.1).runEnd true

/-- What one capture of a WHITE run gives for a site in a block (R368): the sum of its values after stage 3, in sixteenths of a DN
(R425), its pixels, and of those the ones whose raw code is 3,900 or more. -/
abbrev Block := Int × Nat × Nat

/-- The active pixels, row and column, of site s in the block of node (i, j) (R368). -/
def blockPixels (i j s : Nat) : List (Nat × Nat) :=
  (List.range 160).flatMap (fun y => (List.range 160).filterMap (fun x =>
    let r := 160 * j + y - 32
    let c := 160 * i + x - 48
    if 80 ≤ 160 * j + y ∧ r < 3888 ∧ 80 ≤ 160 * i + x ∧ c < 5152 ∧ 2 * (r % 2) + c % 2 = s then some (r, c) else none))

/-- The value of the pixel at array row r and column c of stratum k as the run measures it (R425), in sixteenths of a DN. -/
def PFrame.whiteAt (f : PFrame) (otp : List (Nat × Nat × Nat)) (k r c : Nat) : Int :=
  f.w3 otp 0 k (r - f.win 0 2) (c - f.win 0 0)

/-- The measurement of one block and site of stratum k (R368). -/
def PFrame.block (f : PFrame) (otp : List (Nat × Nat × Nat)) (k i j s : Nat) : Block :=
  let px := blockPixels i j s
  ((px.map (fun p => f.whiteAt otp k p.1 p.2)).sum, px.length,
   (px.filter (fun p => decide (3900 ≤ f.raw 0 k (p.1 - f.win 0 2) (p.2 - f.win 0 0)))).length)

/-- The measurements of stratum k, at index 4 (33 j + i) + s. -/
def PFrame.blocks (f : PFrame) (otp : List (Nat × Nat × Nat)) (k : Nat) : List Block :=
  (List.range 3300).map (fun n => f.block otp k (n / 4 % 33) (n / 132) (n % 4))

/-- The two captures' measurements of a site in a block meet R369. -/
def nodeOk (wtgt : Nat) (a b : Block) : Bool :=
  let one := fun (x : Block) =>
    decide (6400 * (x.2.1 : Int) ≤ x.1) && decide (100 * x.2.2 ≤ x.2.1) &&
      decide (x.1 ≤ 64 * (wtgt : Int) * x.2.1) && decide (160000 * (wtgt : Int) * x.2.1 ≤ 39999 * x.1)
  one a && one b &&
    decide (400 * (((a.2.1 : Int) * b.1 - b.2.1 * a.1).natAbs : Int) ≤ (a.2.1 : Int) * b.1 + b.2.1 * a.1)

/-- The node value of R369: 16,384 times the mean of the two gains, rounded. -/
def nodeValue (wtgt : Nat) (a b : Block) : Word :=
  wd (roundDiv (8192 * 16 * (wtgt : Int) * ((a.2.1 : Int) * b.1 + b.2.1 * a.1)) (a.1 * b.1).toNat).toNat

/-- The pixel deviates from the mean of its site in the block of its nearest node by more than d % (R370). -/
def PFrame.deviates (f : PFrame) (otp : List (Nat × Nat × Nat)) (means : List Block) (k d r c : Nat) : Bool :=
  let x := means.getD (4 * (33 * ((r + 32) / 160) + (c + 48) / 160) + (2 * (r % 2) + c % 2)) (0, 0, 0)
  decide ((d : Int) * x.1 < 100 * ((f.whiteAt otp k r c * x.2.1 - x.1).natAbs : Int))

/-- The valid DEFADD entries in force or as written: column and row. -/
def Chip.defEntry (m : Chip) (e : Nat) : Option (Nat × Nat) :=
  let w := m.rd spCal (0x2000 + 2 * e)
  if tst w 15 then some (fld w 0 13, fld (m.rd spCal (0x2001 + 2 * e)) 0 12) else none

/-- DEFCNT: the entries in force. -/
def Chip.defCount (m : Chip) : Nat :=
  (m.held.filter (fun c => decide (key spCal 0x2000 ≤ c.1) && decide (c.1 < key spCal 0x2800) && c.1 % 2 == 0 && tst c.2 15)).length

/-- The defect pixels of the run that are new, and the entries they take (R370). -/
def Chip.newDefects (m : Chip) (l : List (Nat × Nat)) : List (Nat × Nat × Nat) × Bool :=
  let have_ := (List.range 1024).filterMap m.defEntry
  let otp := m.otpMap
  let new := (l.filter (fun d => !have_.contains d && !otp.any (fun o => o.1 == d.2 && decide (o.2.1 ≤ d.1) && decide (d.1 < o.2.1 + o.2.2)))).eraseDups
  let free := (List.range 1024).filter (fun e => (m.defEntry e).isNone)
  ((free.zip new).map (fun x => (x.1, x.2.1, x.2.2)), decide (new.length ≤ free.length))

/-- The pixels, column and row, that deviate in both captures in one lit stratum (R370). -/
def whiteDefects (f g : PFrame) (otp : List (Nat × Nat × Nat)) (lit : List (Nat × List Block × List Block)) (d : Nat) :
    List (Nat × Nat) :=
  (List.range 3840).flatMap (fun y => (List.range 5120).filterMap (fun x =>
    if lit.any (fun l => f.deviates otp l.2.1 l.1 d (48 + y) (32 + x) && g.deviates otp l.2.2 l.1 d (48 + y) (32 + x)) then
      some (32 + x, 48 + y) else none))

/-- The WHITE run's computation over its two captures is complete (R368-R371): a run that passes writes the profiles and the
additions at the next frame boundary. -/
def Chip.whiteEnd (m : Chip) (f g : PFrame) (spoiled : Bool) : Chip :=
  let otp := m.otpMap
  let lit := ((ctxStrata f.words).filter (ctxLit f.words)).map (fun k => (k, f.blocks otp k, g.blocks otp k))
  let wtgt := fld (m.rd spCal 2) 0 12
  let wrun := m.rd spCal 3
  let d := if tst wrun 15 then m.newDefects (whiteDefects f g otp lit (fld wrun 0 7)) else ([], true)
  if spoiled ∨ lit.any (fun l => (l.2.1.zip l.2.2).any (fun x => !nodeOk wtgt x.1 x.2)) ∨ !d.2 then m.runEnd false
  else
    let flat := lit.flatMap (fun l => ((l.2.1.zip l.2.2).map (fun x => nodeValue wtgt x.1 x.2)).zipIdx.map (fun x =>
      (key spCal (0x4000 + 0x1000 * ctxProfile f.words l.1 + x.2), x.1)))
    let add := d.1.flatMap (fun x =>
      [(key spCal (0x2000 + 2 * x.1), wd (0x8000 + x.2.1)), (key spCal (0x2001 + 2 * x.1), wd x.2.2)])
    let r := m.refWords m.cal.tempAt
    let m := r.2
    let refs := lit.flatMap (fun l => r.1.zipIdx.map (fun x => (key spCal (0x40 + 4 * ctxProfile f.words l.1 + x.2), x.1)))
    Chip.runEnd { m with cal := { m.cal with
      atBoundary := some (m.cal.atBoundary.getD [] ++ flat ++ add ++ refs) } } true

/-! ## The CAL space -/

/-- A write to a CAL word: WALKROWS 0 and MAXWALK 0 discard it; a DEFADD entry is marked host-written. -/
def Chip.writeCal (m : Chip) (off : Nat) (v : Word) : Chip :=
  if off = 0 then (if fld v 0 8 = 0 then m else m.plainWrite spCal 0 v)
  else if off = 1 then (if fld v 0 4 = 0 then m else m.plainWrite spCal 1 v)
  else if 0x200 ≤ off ∧ off < 0x2A2 then m.writeGcmd (off - 0x200) v
  else if 0x1000 ≤ off ∧ off < 0x1F30 then m.writeTrim off v
  else if 0x2000 ≤ off ∧ off < 0x2800 then
    (m.plainWrite spCal off v).orBits spCal (0x2001 + 2 * ((off - 0x2000) / 2)) 0x8000
  else m.plainWrite spCal off v

/-- The read of a CAL word: DEFCNT is live. -/
def Chip.readCal (m : Chip) (off : Nat) : Word := if off = 7 then wd m.defCount else m.rd spCal off

/-! ## Commands -/

/-- SHADOW_WINDOW_END: the window of a powered NORMAL group that has made its 256 conversions ends, on the role that the group's
slice S shadows (R321-R326). -/
def execShadowWindowEnd (g : Fin 162) (x : Fin 2) (s : State) : Host.Outcome State Fault Refusal :=
  let m := s.chip
  guarded s (m.pw.array && decide (fld (m.gstat g.val) 2 1 = x.val) && m.windowDue g.val) (m.windowEnd g.val)

/-- MARL_DWELL_END (R345). -/
def execMarlDwellEnd (s : State) : Host.Outcome State Fault Refusal :=
  let m := s.chip
  match m.cal.group with
  | some g => guarded s (m.pw.core && m.dwellFull) (m.dwellEnd g)
  | none => done s m

/-- HKC_RESULT: the oldest conversion is delivered with its raw code and, where slice C shadowed it, slice C's (R202, R225). With
no conversion of a slot in progress it is the result of a conversion of the converter's own (R225, R363; log entry 86). -/
def execHkcResult (codes : Nat × Nat) (s : State) : Host.Outcome State Fault Refusal :=
  let m := s.chip
  let raw := codes.1
  let spare := codes.2
  match m.hkc.conv with
  | [] => guarded s m.pw.core (m.ownConversion raw spare)
  | c :: r =>
    let m := Chip.deliver { m with hkc := { m.hkc with conv := r } } c raw
    guarded s m.pw.core (if c.shadow then m.hkcPair (b2n c.sliceB) raw spare c.supply else m)

/-- HKC_SHADOW_WINDOW_END: a window of 256 conversions on slice A or B is complete (R225, R227, R349). -/
def execHkcShadowWindowEnd (x : Fin 2) (s : State) : Host.Outcome State Fault Refusal :=
  guarded s (s.chip.pw.core && decide (256 ≤ (s.chip.hkcWin x.val).2.1)) (s.chip.hkcWindow x.val)

/-- TRIM_STEP (R354). -/
def execTrimStep (g : Fin 162) (p : Fin 3) (t : Fin 4) (s : State) : Host.Outcome State Fault Refusal :=
  let m := s.chip
  guarded s (m.pw.core && m.mayWalk g.val p.val t.val) (m.trimStep g.val p.val t.val)

/-- HKC_TRIM_STEP (R355). -/
def execHkcTrimStep (i : Fin 6) (s : State) : Host.Outcome State Fault Refusal :=
  let m := s.chip
  guarded s (m.pw.core && decide (256 ≤ nth m.hkc.sinceStep i.val) &&
    decide ((m.hkcApplied i.val).toInt ≠ sext (m.rd spHkc (0x300 + i.val)).toNat 8)) (m.hkcTrimStep i.val)

/-- MARLEN_CLEAR: a CALCTL write (R343). -/
def execMarlenClear (v : Word) (s : State) : Host.Outcome State Fault Refusal := hostWrite s 0 0x34 (·.writeCalctl v)

/-- UNPINALL: a CALCTL write (R359). -/
def execUnpinall (v : Word) (s : State) : Host.Outcome State Fault Refusal := hostWrite s 0 0x34 (·.writeCalctl v)

/-- RUN_VREF: a CALCTL write (R360, R363). -/
def execRunVref (v : Word) (s : State) : Host.Outcome State Fault Refusal := hostWrite s 0 0x34 (·.writeCalctl v)

/-- RUN_WHITE: a CALCTL write (R360, R367). -/
def execRunWhite (v : Word) (s : State) : Host.Outcome State Fault Refusal := hostWrite s 0 0x34 (·.writeCalctl v)

/-- CANCEL: a CALCTL write (R362). -/
def execCancel (v : Word) (s : State) : Host.Outcome State Fault Refusal := hostWrite s 0 0x34 (·.writeCalctl v)

/-- VREF_RUN_COMPLETE: the run has made all its conversions (R364). -/
def execVrefRunComplete (_ : Unit) (s : State) : Host.Outcome State Fault Refusal :=
  match s.chip.cal.run with
  | .vref sp n sums => guarded s (s.chip.pw.core && decide (n = 3072)) (s.chip.vrefEnd sums sp)
  | _ => done s s.chip

/-- VREF_RUN_TIMEOUT: 100 ms (R366). -/
def execVrefRunTimeout (s : State) : Host.Outcome State Fault Refusal :=
  let m := s.chip
  match m.cal.run with
  | .vref _ _ _ => guarded s (m.pw.core && decide (m.cal.runStart.toNat + 10000000 ≤ m.now.toNat)) (m.runEnd false)
  | _ => done s m

/-- WHITE_CAPTURE_START (R367). -/
def execWhiteCaptureStart (s : State) : Host.Outcome State Fault Refusal := guarded s s.chip.pw.core s.chip.whiteStart

/-- WHITE_RUN_COMPLETE: the run's computation over its two captures ends (R368-R372). -/
def execWhiteRunComplete (_ _ : Unit) (s : State) : Host.Outcome State Fault Refusal :=
  match s.chip.cal.run, s.chip.pipe.white with
  | .white _ 2 2 sp, [f, g] => guarded s s.chip.pw.core (s.chip.whiteEnd f g sp)
  | _, _ => done s s.chip

/-- WHITE_RUN_TIMEOUT: 10 s (R372). -/
def execWhiteRunTimeout (s : State) : Host.Outcome State Fault Refusal :=
  let m := s.chip
  match m.cal.run with
  | .white _ _ _ _ => guarded s (m.pw.core && decide (m.cal.runStart.toNat + 1000000000 ≤ m.now.toNat)) (m.runEnd false)
  | _ => done s m

end Sys2Proof.Machine
end

