-- ==== Sys2Proof/Machine/Aes.lean ====
section
/-! DEFINITION. CRCs and AES-128: the CRC-32 of R374, the CRC-16 of R516, the block cipher of FIPS 197 and the CMAC of
NIST SP 800-38B, which R407, R409 and R534 name. -/

namespace Sys2Proof.Machine

/-! ## CRC -/

/-- One bit of the reflected CRC-32. -/
def crc32Bit (c : BitVec 32) : BitVec 32 := if c.getLsbD 0 then (c >>> 1) ^^^ 0xEDB88320 else c >>> 1

/-- One byte of the reflected CRC-32. -/
def crc32Byte (c : BitVec 32) (b : Byte) : BitVec 32 :=
  let c := c ^^^ b.setWidth 32
  crc32Bit (crc32Bit (crc32Bit (crc32Bit (crc32Bit (crc32Bit (crc32Bit (crc32Bit c)))))))

/-- CRC-32 of R374. -/
def crc32 (l : List Byte) : BitVec 32 := l.foldl crc32Byte 0xFFFFFFFF ^^^ 0xFFFFFFFF

/-- One bit of the CRC-16. -/
def crc16Bit (c : BitVec 16) : BitVec 16 := if c.getLsbD 15 then (c <<< 1) ^^^ 0x1021 else c <<< 1

/-- One byte of the CRC-16. -/
def crc16Byte (c : BitVec 16) (b : Byte) : BitVec 16 :=
  let c := c ^^^ ((b.setWidth 16) <<< 8)
  crc16Bit (crc16Bit (crc16Bit (crc16Bit (crc16Bit (crc16Bit (crc16Bit (crc16Bit c)))))))

/-- CRC-16 of R516. -/
def crc16 (l : List Byte) : BitVec 16 := l.foldl crc16Byte 0xFFFF

/-! ## AES-128 -/

/-- Multiplication by x in the field of AES. -/
def xtime (b : Byte) : Byte := if b.getLsbD 7 then (b <<< 1) ^^^ 0x1B else b <<< 1

/-- Multiplication in the field of AES over the lowest n bits of the second factor. -/
def gmul (a b : Byte) : Nat → Byte
  | 0 => 0
  | n + 1 => (if b.getLsbD 0 then a else 0) ^^^ gmul (xtime a) (b >>> 1) n

/-- The product. -/
def gm (a b : Byte) : Byte := gmul a b 8

/-- The inverse in the field, 0 for 0: the 254th power. -/
def ginv (a : Byte) : Byte :=
  let a2 := gm a a
  let a4 := gm a2 a2
  let a8 := gm a4 a4
  let a16 := gm a8 a8
  let a32 := gm a16 a16
  let a64 := gm a32 a32
  let a128 := gm a64 a64
  gm a2 (gm a4 (gm a8 (gm a16 (gm a32 (gm a64 a128)))))

/-- The S-box. -/
def sbox (a : Byte) : Byte :=
  let b := ginv a
  b ^^^ b.rotateLeft 1 ^^^ b.rotateLeft 2 ^^^ b.rotateLeft 3 ^^^ b.rotateLeft 4 ^^^ 0x63

/-- Exclusive or of byte lists. -/
def xorBytes (a b : List Byte) : List Byte := (a.zip b).map (fun p => p.1 ^^^ p.2)

/-- Byte i of a list, 0 beyond its end. -/
def byteAt (l : List Byte) (i : Nat) : Byte := l.getD i 0

/-- The next round key. -/
def nextKey (k : List Byte) (rcon : Byte) : List Byte :=
  let t := [sbox (byteAt k 13) ^^^ rcon, sbox (byteAt k 14), sbox (byteAt k 15), sbox (byteAt k 12)]
  let w0 := xorBytes (k.take 4) t
  let w1 := xorBytes ((k.drop 4).take 4) w0
  let w2 := xorBytes ((k.drop 8).take 4) w1
  w0 ++ w1 ++ w2 ++ xorBytes (k.drop 12) w2

/-- SubBytes and ShiftRows. -/
def subShift (s : List Byte) : List Byte := (List.range 16).map (fun i => sbox (byteAt s ((5 * i) % 16)))

/-- MixColumns. -/
def mixColumns (s : List Byte) : List Byte :=
  (List.range 4).flatMap (fun c =>
    let a := fun i => byteAt s (4 * c + i % 4)
    (List.range 4).map (fun i => xtime (a i) ^^^ (xtime (a (i + 1)) ^^^ a (i + 1)) ^^^ a (i + 2) ^^^ a (i + 3)))

/-- The rounds after the first key addition: n full rounds, then the last one. -/
def aesRounds (s k : List Byte) (rcon : Byte) : Nat → List Byte
  | 0 => xorBytes (subShift s) (nextKey k rcon)
  | n + 1 =>
    let k' := nextKey k rcon
    aesRounds (xorBytes (mixColumns (subShift s)) k') k' (xtime rcon) n

/-- AES-128 of one block. -/
def aes (key block : List Byte) : List Byte := aesRounds (xorBytes block key) key 1 9

/-- A 128-bit block shifted left by one bit, as bytes, most significant byte first. -/
def shlBlock (l : List Byte) : List Byte :=
  (List.range 16).map (fun i => (byteAt l i <<< 1) ||| (byteAt l (i + 1) >>> 7))

/-- Doubling for the subkeys of CMAC. -/
def cmacDouble (l : List Byte) : List Byte :=
  let s := shlBlock l
  if (byteAt l 0).getLsbD 7 then s.take 15 ++ [byteAt s 15 ^^^ 0x87] else s

/-- The chain of CMAC over n whole blocks and a last block that the subkey has been added to. -/
def cmacChain (key last : List Byte) (x msg : List Byte) : Nat → List Byte
  | 0 => aes key (xorBytes x last)
  | n + 1 => cmacChain key last (aes key (xorBytes x (msg.take 16))) (msg.drop 16) n

/-- AES-128-CMAC. -/
def cmac (key msg : List Byte) : List Byte :=
  let k1 := cmacDouble (aes key (List.replicate 16 0))
  let n := (msg.length - 1) / 16
  let tail := msg.drop (16 * n)
  let last := if tail.length = 16 then xorBytes tail k1
    else xorBytes (tail ++ [0x80] ++ List.replicate (15 - tail.length) 0) (cmacDouble k1)
  cmacChain key last (List.replicate 16 0) msg n

end Sys2Proof.Machine
end

