-- ==== Sys2Proof/Machine/Stores.lean ====
section
/-! DEFINITION. The non-volatile stores (chapter 13): NVM slots, staging and commits (R373-R392), the ledger
(R393-R399), the OTP controller, generations and keys (R400-R409, R606), and the NVM, OTP and LEDGER spaces. -/

namespace Sys2Proof.Machine

/-! ## NVM slots -/

/-- Word w of slot s. -/
def Chip.slotWord (m : Chip) (s w : Nat) : Word := m.rd spNvm (0x100000 + 0x8000 * s + w)

/-- Words of a slot as bytes. -/
def Chip.slotBytes (m : Chip) (s n : Nat) : List Byte := (List.range n).flatMap (fun w => bytes2 (m.slotWord s w))

/-- SEQ of a slot. -/
def Chip.slotSeq (m : Chip) (s : Nat) : Nat := (m.slotWord s 2).toNat + 0x10000 * (m.slotWord s 3).toNat

/-- The check word of a slot. -/
def Chip.slotCheck (m : Chip) (s : Nat) : Nat := (m.slotWord s 0x7FFE).toNat + 0x10000 * (m.slotWord s 0x7FFF).toNat

/-- The state of a slot (R373): 0 ERASED, 1 WRITING, 2 SEALED and valid, 3 SEALED with a wrong CRC or dirty. -/
def Chip.slotState (m : Chip) (s : Nat) : Nat :=
  if m.slotWord s 0 = 0xFFFF then 0
  else if m.slotWord s 0 = 0x5A5A then
    if m.slotCheck s = 0xFFFFFFFF then 1
    else if m.slotCheck s = (crc32 (m.slotBytes s 0x7FFE)).toNat then 2 else 3
  else 3

/-- Bit s of the OTP retirement map. -/
def Chip.slotRetired (m : Chip) (s : Nat) : Bool := tst (m.rd spOtp (0xC14 + s / 16)) (s % 16)

/-- SLOTS. -/
def Chip.slotsLeft (m : Chip) : Nat := ((List.range 32).filter (fun s => !m.slotRetired s)).length

/-- Of two slots the one with the higher SEQ. -/
def Chip.newer (m : Chip) (a : Option Nat) (s : Nat) : Option Nat :=
  match a with
  | none => some s
  | some t => if m.slotSeq t < m.slotSeq s then some s else some t

/-- The slot in force (R375, R376). -/
def Chip.slotInForce (m : Chip) : Option Nat :=
  ((List.range 32).filter (fun s => !m.slotRetired s && m.slotState s == 2)).foldl m.newer none

/-- AONCMT of a slot. -/
def Chip.slotAon (m : Chip) (s : Nat) : Nat :=
  (m.slotWord s 8).toNat + 0x10000 * (m.slotWord s 9).toNat + 0x100000000 * (m.slotWord s 10).toNat

/-- An OPT word of the generation in force; 0 where none is (R405). -/
def Chip.opt (m : Chip) (i : Nat) : Word := if m.st.gen < 4 then m.rd spOtp (0x404 + 0x200 * m.st.gen + i) else 0

/-- AON ticks of a minute. -/
abbrev aonMinute : Nat := 1966080

/-- AON ticks of the minimum interval that are left (R384). -/
def Chip.intervalLeft (m : Chip) : Nat :=
  match m.slotInForce with
  | none => 0
  | some s =>
    if m.tb.aon.toNat < m.slotAon s then 0
    else m.slotAon s + (m.rd spNvm 0).toNat * aonMinute - m.tb.aon.toNat

/-- ECNT of the slots at boot (R386). -/
def Chip.bootEcnt (m : Chip) : List Nat :=
  let f := m.slotInForce
  (List.range 32).map (fun s =>
    let old := match f with
      | some i => (m.slotWord i (0x10 + s)).toNat
      | none => 0
    let more := m.slotState s == 1 && f.all (fun i => decide (m.slotSeq i < m.slotSeq s))
    min (old + b2n more) 0xFFFF)

/-- The slot in which the most recent commit started, at boot (R381). -/
def Chip.bootLastSlot (m : Chip) : Nat :=
  (((List.range 32).filter (fun s => m.slotWord s 0 == 0x5A5A)).foldl m.newer none).getD 31

/-! ## The calibration set -/

/-- The words of the set: word of the slot format and key of the working table ("Slot format"). -/
def setMap : List (Nat × Nat) :=
  let run := fun (w sp o n : Nat) => (List.range n).map (fun i => (w + i, key sp (o + i)))
  run 0x30 spCal 0x100 162 ++ run 0xD2 spCal 0x300 162 ++ run 0x174 spHkc 0x200 32 ++ run 0x194 spHkc 0x300 6 ++
    run 0x19A spCal 6 1 ++ run 0x19B spCal 4 2 ++ run 0x19D spCal 0x40 32 ++ run 0x1BD spCal 0x60 4 ++
    (List.range 486).flatMap (fun b => run (0x200 + 3 * b) spCal (0x1000 + 8 * b) 3) ++
    run 0x800 spCal 0x2000 2048 ++ (List.range 8).flatMap (fun p => run (0x1000 + 3300 * p) spCal (0x4000 + 0x1000 * p) 3300)

/-- The bits of a working word that exist. -/
def loadMask (k : Nat) : Word :=
  if key spCal 0x100 ≤ k ∧ k < key spCal 0x1A2 then 0xFDFF
  else if key spCal 0x300 ≤ k ∧ k < key spCal 0x3A2 then 0x8FFF
  else if k = key spCal 6 then 0x003F
  else if key spCal 0x40 ≤ k ∧ k < key spCal 0x64 then (if k % 4 = 0 then 0x8FFF else 0xFFFF)
  else if key spCal 0x2000 ≤ k ∧ k < key spCal 0x2800 ∧ k % 2 = 1 then 0x8FFF
  else
    match regRow (k / 0x1000000) (k % 0x1000000) with
    | some r => r.rw
    | none => 0

/-- The words that a slot loads into the working tables. -/
def Chip.setWordsOf (m : Chip) (s : Nat) : List (Nat × Word) :=
  setMap.map (fun p => (p.2, m.slotWord s p.1 &&& loadMask p.2))

/-- A key of the staging image. -/
def stagingKey (k : Nat) : Bool := decide (key spNvm 0x8000 ≤ k) && decide (k < key spNvm 0x10000)

/-- The word of a working table in use: a defect addition or flat-field word is the one in force, not one that waits for the
frame boundary (R371). -/
def Chip.working (m : Chip) (k : Nat) : Word := if key spCal 0x2000 ≤ k ∧ k < key (spCal + 1) 0 then Bank.get m.held k else Bank.get m.regs k

/-- The staging copy of the working tables (R378). -/
def Chip.copyStaging (m : Chip) : Chip :=
  let ws := setMap.map (fun p => (key spNvm (0x8000 + p.1), m.working p.2))
  { m with regs := Bank.putAll (Bank.keepIf m.regs (fun k => !stagingKey k)) ws, st := { m.st with stgValid := true } }

/-- The staging image is lost (R379, R391). -/
def Chip.loseStaging (m : Chip) : Chip :=
  { m with regs := Bank.keepIf m.regs (fun k => !stagingKey k),
           st := { m.st with stgValid := false, retryPend := false, retryDue := false, staging := false, waiting := none, boundaryHeld := false } }

/-! ## Commit -/

/-- A commit is refused (R380). -/
def Chip.nvmFail (m : Chip) (cause : Nat) : Chip := Chip.raise { m with st := { m.st with cause := cause } } evNvmFail

/-- NVMSTAT.BUSY: a commit runs or waits for its copy or for a flush. -/
def Chip.nvmBusy (m : Chip) : Bool := m.st.commit.isSome || m.st.waiting.isSome

/-- The target of the next commit (R381). -/
def Chip.commitTarget (m : Chip) : Option Nat :=
  ((List.range 32).map (fun i => (m.st.lastSlot + 1 + i) % 32)).find? (fun s => !m.slotRetired s)

/-- SEQ of the next commit (R382). -/
def Chip.nextSeq (m : Chip) : Nat :=
  (((List.range 32).filter (fun s => m.slotWord s 0 == 0x5A5A)).map m.slotSeq).foldl max 0 + 1

/-- Erase slot s. -/
def Chip.eraseSlot (m : Chip) (s : Nat) : Chip :=
  let lo := key spNvm (0x100000 + 0x8000 * s)
  { m with regs := Bank.keepIf m.regs (fun k => decide (k < lo) || decide (lo + 0x8000 ≤ k)) }

/-- A commit starts with the erase of its target, which reads ERASED from now on and counts in its ECNT (R382, R386); under a
supply warning it stops before its first page (R94). -/
def Chip.startCommit (m : Chip) (again : Bool) : Chip :=
  match m.commitTarget with
  | some s =>
    let e := nth m.st.ecnt s
    let c : Commit :=
      { slot := s, seq := m.nextSeq, aon := m.tb.aon, again := again, old := e, ticks := 0, pages := 0, stop := m.warn }
    Chip.eraseSlot { m with st := { m.st with
      commit := some c, lastSlot := s, waiting := none, retryPend := false, retryDue := false
      ecnt := upd m.st.ecnt s (fun _ => min (e + 1) 0xFFFF) } } s
  | none => Chip.nvmFail { m with st := { m.st with waiting := none, retryPend := false, retryDue := false } } 5

/-- A COMMIT is checked, then starts or waits for a flush (R380, R383, R384). -/
def Chip.tryCommit (m : Chip) (force : Bool) : Chip :=
  let m := { m with st := { m.st with waiting := none } }
  if !m.st.stgValid then m.nvmFail 4
  else if m.commitTarget.isNone then m.nvmFail 5
  else if m.intervalLeft != 0 && !(force && !tst (m.opt 0) 2) then m.nvmFail 3
  else if m.st.flush.isSome then { m with st := { m.st with waiting := some force } }
  else m.startCommit false

/-- The words that a commit programs into its slot (R382): the staging image with the fields that the device writes, the
check word apart. -/
def Chip.commitWords (m : Chip) (c : Commit) (ecnt : List Nat) (adj : Byte) : List Word :=
  let a := c.aon.toNat
  let head : List Word :=
    [0x5A5A, 1, wd c.seq, wd (c.seq / 0x10000)] ++ (List.range 4).map (fun i => m.rd spOtp (3 + i)) ++
      [wd a, wd (a / 0x10000), wd (a / 0x100000000), 0xFFFF, 0xFF00 ||| adj.setWidth 16, 0xFFFF, 0xFFFF, 0xFFFF] ++
      (List.range 32).map (fun s => wd (nth ecnt s))
  head ++ (List.range (0x7FFE - 48)).map (fun i => m.rd spNvm (0x8000 + 48 + i))

/-- The whole content with its check word, ADJ 0xFE where the CRC would read as erased (R374). -/
def Chip.commitImage (m : Chip) (c : Commit) (ecnt : List Nat) : List Word :=
  let of := fun (adj : Byte) =>
    let ws := m.commitWords c ecnt adj
    (ws, crc32 (ws.flatMap bytes2))
  let p := of 0xFF
  let q := if p.2 = 0xFFFFFFFF then of 0xFE else p
  q.1 ++ [q.2.setWidth 16, (q.2 >>> 16).setWidth 16]

/-- Page k of the commit is programmed; of page 127 the check word's bytes are left erased (R382). -/
def Chip.programPage (m : Chip) (c : Commit) (k : Nat) : Chip :=
  m.wrList spNvm (0x100000 + 0x8000 * c.slot + 256 * k) ((((m.commitImage c m.st.ecnt).take 0x7FFE).drop (256 * k)).take 256)

/-- The check word is programmed last (R382). -/
def Chip.programCheck (m : Chip) (c : Commit) : Chip :=
  m.wrList spNvm (0x100000 + 0x8000 * c.slot + 0x7FFE) ((m.commitImage c m.st.ecnt).drop 0x7FFE)

/-! ## Ledger flush -/

/-- Bit p of the ledger retirement map. -/
def Chip.pageRetired (m : Chip) (p : Nat) : Bool := tst (m.rd spOtp 0xC16) p

/-- The next ledger page (R394). -/
def Chip.nextPage (m : Chip) : Option Nat :=
  ((List.range 16).map (fun i => (m.st.lpage + 1 + i) % 16)).find? (fun p => !m.pageRetired p)

/-- A flush starts with the erase of its page, or waits for a commit (R383, R394, R398); `again` on the repeat of R398. -/
def Chip.startFlush (m : Chip) (again : Bool) : Chip :=
  if m.nvmBusy then
    { m with st := { m.st with flushDue := true, flushAgain := if m.st.flushDue then m.st.flushAgain else again } }
  else if m.st.flush.isSome then m
  else
    match m.nextPage with
    | some p => { m with st := { m.st with
        flush := some (p, again), flushDue := false, flushAgain := false, pages := m.st.pages.filter (fun x => x.1 != p) } }
    | none => { m with st := { m.st with noPage := true, flushDue := false, flushAgain := false } }

/-- A commit or a flush has ended: what has waited for it starts, a commit first (R383, R391). -/
def Chip.storesNext (m : Chip) : Chip :=
  if m.st.commit.isSome || m.st.flush.isSome || m.st.staging then m
  else if m.st.waiting.isSome then m.startCommit false
  else if m.st.retryDue then m.startCommit true
  else if m.st.flushDue then m.startFlush m.st.flushAgain
  else m

/-- The live total of a ledger counter (R399). -/
def Chip.total (m : Chip) (i : Nat) : Nat := nth m.st.base i + nth m.st.incr i

/-- The content of a page before its CRC ("Ledger page format"). -/
def pageHead (seq : Nat) (totals : List Nat) (aon : AonTick) (adj : Byte) : List Byte :=
  [0x5A, 0xA5, 0x01, 0x00] ++ bytesN seq 4 ++ totals.flatMap (fun v => bytesN v 6) ++ bytesN aon.toNat 6 ++ [adj] ++
    List.replicate 189 0xFF

/-- The 256 bytes of a page: its CRC-32 last, ADJ 0xFE where the CRC would read as erased (R374, R394). -/
def pageBytes (seq : Nat) (totals : List Nat) (aon : AonTick) : List Byte :=
  let h := pageHead seq totals aon 0xFF
  let h := if crc32 h = 0xFFFFFFFF then pageHead seq totals aon 0xFE else h
  h ++ bytesN (crc32 h).toNat 4

/-- A flush completes (R394). -/
def Chip.flushDone (m : Chip) (p : Nat) : Chip :=
  let totals := (List.range 8).map m.total
  let seq := m.st.lseq + 1
  Chip.storesNext { m with st := { m.st with
    flush := none, lseq := seq, lpage := p, lastFlush := m.tb.aon, laon := m.tb.aon, base := totals, incr := List.replicate 8 0
    noPage := false, pages := (p, pageBytes seq totals m.tb.aon) :: m.st.pages.filter (fun x => x.1 != p) } }

/-- A flush fails its verification: its page is retired, and it is repeated once on the next page (R398). -/
def Chip.flushFail (m : Chip) (p : Nat) (again : Bool) : Chip :=
  let m := (m.orBits spOtp 0xC16 (bitW p)).fault 0x0B [BitVec.ofNat 8 p]
  let m := { m with st := { m.st with flush := none } }
  let m := { m with st := { m.st with noPage := m.st.noPage || m.nextPage.isNone } }
  Chip.storesNext (if again then m else { m with st := { m.st with flushDue := true, flushAgain := true } })

/-- A page with its MARK and the right CRC (R397). -/
def pageValid (b : List Byte) : Bool :=
  b.take 2 == [0x5A, 0xA5] && ofBytes ((b.drop 252).take 4) == (crc32 (b.take 252)).toNat

/-- SEQ of a page. -/
def pageSeq (b : List Byte) : Nat := ofBytes ((b.drop 4).take 4)

/-- The flushed base at a power-on reset (R397). -/
def Chip.ledgerBoot (m : Chip) : Chip :=
  let ok := m.st.pages.filter (fun x => !m.pageRetired x.1 && pageValid x.2)
  match ok.foldl (fun (a : Option (Nat × List Byte)) x =>
      match a with
      | none => some x
      | some y => if pageSeq y.2 < pageSeq x.2 then some x else some y) none with
  | some (p, b) => { m with st := { m.st with
      base := (List.range 8).map (fun i => ofBytes ((b.drop (8 + 6 * i)).take 6)), lseq := pageSeq b, lpage := p
      laon := BitVec.ofNat 48 (ofBytes ((b.drop 56).take 6)), noPage := false } }
  | none => { m with st := { m.st with base := List.replicate 8 0, noPage := true, lpage := 15, lseq := 0, laon := 0 } }

/-! ## The end of a commit -/

/-- A slot is retired (R387, R388), with its fault record. -/
def Chip.retireSlot (m : Chip) (s cause page : Nat) : Chip :=
  let e := nth m.st.ecnt s
  (m.orBits spOtp (0xC14 + s / 16) (bitW (s % 16))).fault 0x0A
    ([BitVec.ofNat 8 s, BitVec.ofNat 8 cause] ++ bytesN e 2 ++ [BitVec.ofNat 8 page])

/-- The commit ends without completing: an erase after which page 0 was never programmed is not counted (R386). -/
def Chip.commitOver (m : Chip) (c : Commit) : Chip :=
  { m with st := { m.st with
      commit := none, ecnt := if c.pages = 0 then upd m.st.ecnt c.slot (fun _ => c.old) else m.st.ecnt } }

/-- The commit completes (R382): the check word is in place, NVM_DONE. -/
def Chip.commitDone (m : Chip) (c : Commit) : Chip :=
  let m := m.programCheck c
  let m := { m with st := { m.st with commit := none } }
  ((m.ledger 4 1).raise evNvmDone).storesNext

/-- Free words over a part of a slot, which a failed verification or a cut leaves (R387, R392, log entry 2). -/
def Chip.spoilWords (m : Chip) (s w n : Nat) : Chip :=
  let m' := m.wrList spNvm (0x100000 + 0x8000 * s + w) ((List.range n).map (fun i => Config.freeWord (m.free + i)))
  { m' with free := m.free + n }

/-- The page of a commit that is being programmed holds free words, its erase leaves the whole slot free. -/
def Chip.spoilStep (m : Chip) (c : Commit) : Chip :=
  if c.ticks < 1000000 then m.spoilWords c.slot 0 0x8000
  else if c.pages < 128 then m.spoilWords c.slot (256 * c.pages) (if c.pages = 127 then 254 else 256)
  else m.spoilWords c.slot 0x7FFE 2

/-- The step of the commit that is in progress: 0 the erase, n + 1 page n. -/
def Commit.step (c : Commit) : Nat := if c.ticks < 1000000 then 0 else c.pages + 1

/-- The commit fails its verification (R387) in its present step. -/
def Chip.commitVerify (m : Chip) (c : Commit) : Chip :=
  let m := (m.spoilStep c).commitOver c
  ((m.nvmFail 2).retireSlot c.slot (if c.step = 0 then 1 else 2) (c.step - 1)).storesNext

/-- The commit ends at once; its target is left as it stands (R392). -/
def Chip.commitCut (m : Chip) (c : Commit) : Chip := (m.spoilStep c).commitOver c

/-- A supply warning has stopped the commit: BROWNOUT, and the repeat waits for good supplies (R390, R391). -/
def Chip.commitStop (m : Chip) (c : Commit) : Chip :=
  let m := (m.commitOver c).nvmFail 1
  Chip.storesNext { m with st := { m.st with retryPend := tst (m.rd 0 0x34) 14 && !c.again } }

/-- One tick of a commit (R382): the erase takes 10 ms, each page 0.2 ms, and a commit that is to stop does so where one of
them is complete. -/
def Chip.tickCommit (m : Chip) : Chip :=
  match m.st.commit with
  | none => m
  | some c =>
    let page := decide (c.ticks + 1 = 1020000 + 20000 * c.pages) && decide (c.pages < 128)
    let m := if page then m.programPage c c.pages else m
    let c1 := { c with ticks := c.ticks + 1, pages := c.pages + b2n page }
    let m := { m with st := { m.st with commit := some c1 } }
    if c.stop && (page || decide (c.ticks + 1 = 1000000) || decide (c.pages = 128)) then m.commitStop c1 else m

/-- A supply warning stops a commit (R390, R391), also one that has not begun its erase, a flush (R396), and an OTP program
(R401). -/
def Chip.storesWarn (m : Chip) : Chip :=
  let m := match m.st.commit with
    | some c => { m with st := { m.st with commit := some { c with stop := true } } }
    | none =>
      if m.st.waiting.isSome then
        let m := Chip.nvmFail { m with st := { m.st with waiting := none } } 1
        { m with st := { m.st with retryPend := tst (m.rd 0 0x34) 14 } }
      else m
  let m := if m.st.flush.isSome then { m with st := { m.st with flush := none, flushRetry := true } } else m
  match m.st.otp with
  | some (.prog w v false) =>
    Chip.orBits { m with st := { m.st with otp := some (.prog w v true) } } 0 0x3E 0x0200
  | _ => m

/-- Every supply is good again: the repeat of a commit and a stopped flush start, or wait for what runs (R383, R391, R395). -/
def Chip.storesGood (m : Chip) : Chip :=
  Chip.storesNext { m with st := { m.st with
    retryDue := m.st.retryPend, flushDue := m.st.flushDue || m.st.flushRetry, flushRetry := false } }

/-! ## OTP -/

/-- Generation g is locked. -/
def Chip.genLocked (m : Chip) (g : Nat) : Bool := tst (m.rd spOtp 0xC12) g

/-- The OTP word may not be programmed (R401). -/
def Chip.otpLocked (m : Chip) (w : Nat) : Bool :=
  decide (w < 0x400) || decide (0xC00 ≤ w) || m.genLocked ((w - 0x400) / 0x200)

/-- Words as bytes from an OTP word on. -/
def Chip.otpBytes (m : Chip) (w n : Nat) : List Byte := (List.range n).flatMap (fun i => bytes2 (m.rd spOtp (w + i)))

/-- Generation g is valid (R403). -/
def Chip.genValid (m : Chip) (g : Nat) : Bool :=
  let b := 0x400 + 0x200 * g
  m.rd spOtp b == wd (0xA500 + g) && m.rd32 spOtp (b + 0x1FE) == (crc32 (m.otpBytes b 0x1FE)).toNat

/-- The generation in force after a power-on or system reset (R403). -/
def Chip.bootGen (m : Chip) : Nat := ([3, 2, 1, 0].find? m.genValid).getD 7

/-- DONE of key slot k. -/
def Chip.keyDone (m : Chip) (k : Nat) : Bool := tst (m.rd spOtp 0xC10) (4 + k)

/-- The key of slot k (R407). -/
def Chip.keyBytes (m : Chip) (k : Nat) : List Byte := m.otpBytes (0xC00 + 8 * k) 8

/-- KCVk (R409). -/
def Chip.kcv (m : Chip) (k : Nat) : List Byte := if m.keyDone k then (aes (m.keyBytes k) (List.replicate 16 0)).take 3 else [0, 0, 0]

/-- OR bits into an OTP word (R400). -/
def Chip.burn (m : Chip) (w : Nat) (v : Word) : Chip := m.orBits spOtp w v

/-- OR words into the OTP from a word on. -/
def Chip.burnList (m : Chip) (w : Nat) : List Word → Chip
  | [] => m
  | v :: r => (m.burn w v).burnList (w + 1) r

/-- KEYSTG clears. -/
def Chip.clearKeystg (m : Chip) : Chip := m.wrList spOtp 0x1008 (List.replicate 8 0)

/-- A PROG write that is not refused under R58 (R401). -/
def Chip.otpProg (m : Chip) : Chip :=
  let w := fld (m.rd spOtp 0x1000) 0 12
  let v := m.rd spOtp 0x1001
  if m.warn then m.orBits 0 0x3E 0x0200
  else { m with st := { m.st with otp := some (.prog w v false) } }

/-- A KEYPROG write that is not refused (R407). -/
def Chip.otpKeyprog (m : Chip) (v : Word) : Chip :=
  let ws := (List.range 8).map (fun i => m.rd spOtp (0x1008 + i))
  Chip.clearKeystg { m with st := { m.st with otp := some (.key (fld v 4 1) ws) } }

/-- The PROG or KEYPROG write is refused: the word or the key slot is locked (R401, R407). -/
def Chip.otpRefused (m : Chip) (v : Word) : Bool :=
  let k := fld v 4 1
  (tst v 15 && m.otpLocked (fld (m.rd spOtp 0x1000) 0 12)) ||
    (tst v 14 && (tst (m.rd spOtp 0xC10) k || tst (m.rd spOtp 0xC11) k))

/-- An OTPCTL write (R402): a refused one is discarded whole, with its record (R58, R59). -/
def Chip.writeOtpctl (m : Chip) (v : Word) : Chip :=
  let n := b2n (tst v 15) + b2n (tst v 14) + b2n (tst v 13)
  if 1 < n ∨ (n = 1 ∧ m.st.otp.isSome) then m
  else if m.otpRefused v then
    if tst v 15 then m.lockViolation 7 (fld (m.rd spOtp 0x1000) 0 12) (m.rd spOtp 0x1001) 0 false
    else m.lockViolation 7 (0xC00 + 8 * fld v 4 1) v 0 false
  else
    let m := m.plainWrite 0 0x3E v
    if tst v 15 then m.otpProg
    else if tst v 14 then m.otpKeyprog v
    else if tst v 13 then { m with st := { m.st with otp := some (.glock (fld v 0 2)) } }
    else m

/-- A KEYLOCK write (R408): bits already set have no effect. -/
def Chip.writeKeylock (m : Chip) (v : Word) : Chip :=
  let new := v &&& 0x0003 &&& ~~~m.rd spOtp 0xC11
  if m.st.otp.isSome || new == 0 then m else { m with st := { m.st with otp := some (.keylock new) } }

/-- The OTP operation ends (R401, R404, R407, R408). -/
def Chip.otpDone (m : Chip) (op : OtpOp) : Chip :=
  let m := { m with st := { m.st with otp := none } }
  match op with
  | .prog w v stopped =>
    let old := m.rd spOtp w
    let r := m.takeFree
    let m := if stopped then r.2.burn w (r.1 &&& v) else m.burn w v
    let got := m.rd spOtp w
    if got = (old ||| v) then m
    else (m.orBits 0 0x3E 0x0400).fault 0x0C (bytesN w 2 ++ bytes2 v ++ bytes2 got)
  | .key k ws =>
    let m := (m.burn 0xC10 (bitW k)).burnList (0xC00 + 8 * k) ws
    m.burn 0xC10 (bitW ((if m.keyBytes k = ws.flatMap bytes2 then 4 else 8) + k))
  | .glock g => m.burn 0xC12 (bitW g)
  | .keylock b => m.burn 0xC11 b

/-- The OTP operation ends at once without completing (R606): what it has programmed is free. -/
def Chip.otpCut (m : Chip) : Chip :=
  match m.st.otp with
  | none => m
  | some op =>
    let m := { m with st := { m.st with otp := none } }
    let r := m.takeFree
    match op with
    | .prog w v _ => r.2.burn w (r.1 &&& v)
    | .key k ws =>
      let q := r.2.takeFree
      if tst r.1 0 then
        (q.2.burn 0xC10 (bitW k)).burnList (0xC00 + 8 * k) (ws.map (fun w => w &&& q.1))
      else q.2
    | .glock g => r.2.burn 0xC12 (bitW g &&& r.1)
    | .keylock b => r.2.burn 0xC11 (b &&& r.1)

/-- BLKRST.NVMC (R99, R379, R392): a commit and an OTP operation end at once, the staging image is lost, the status bits
clear; a flush that it ends is due again. -/
def Chip.storesReset (m : Chip) : Chip :=
  let m := match m.st.commit with
    | some c => m.commitCut c
    | none => m
  let m := (m.otpCut).loseStaging
  let m := m.clrBits 0 0x3E 0x0600
  Chip.storesNext { m with st := { m.st with
    commit := none, cause := 0, flush := none, flushDue := m.st.flushDue || m.st.flush.isSome } }

/-! ## Registers -/

/-- An NVMCTL write (R378, R380, R389, R395). -/
def Chip.writeNvmctl (m : Chip) (v : Word) : Chip :=
  let busy := m.nvmBusy
  let m := if tst v 12 then
      match m.slotInForce with
      | some s => { m with cal := { m.cal with atBoundary := some (m.cal.atBoundary.getD [] ++ m.setWordsOf s) } }
      | none => m
    else m
  let m := if tst v 14 && !busy then { m with st := { m.st with staging := true } } else m
  let m := if tst v 15 && !busy then
      let m := { m with st := { m.st with retryPend := false, retryDue := false } }
      if m.st.staging then { m with st := { m.st with waiting := some (tst v 13) } } else m.tryCommit (tst v 13)
    else m
  if tst v 11 then m.startFlush false else m

/-- NVMSTAT. -/
def Chip.readNvmstat (m : Chip) : Word :=
  let wear := (List.range 32).any (fun s => !m.slotRetired s && decide (1000 ≤ nth m.st.ecnt s))
  wd (0x8000 * b2n m.nvmBusy + 0x4000 * b2n m.st.flush.isSome + 0x2000 * b2n m.st.stgValid + 0x1000 * b2n wear +
    0x100 * m.st.cause + 0x80 * b2n m.st.retryPend + 0x40 * b2n m.slotInForce.isNone + m.slotsLeft)

/-- A write to an NVM word (R379, R385, R388). -/
def Chip.writeNvm (m : Chip) (off : Nat) (v : Word) : Chip :=
  if off = 0 then (if v = 0 ∨ v < m.opt 1 then m else m.plainWrite spNvm 0 v)
  else if off = 1 then (if fld v 0 8 = 0 then m else m.plainWrite spNvm 1 v)
  else if off = 2 then
    if tst v 15 && !m.nvmBusy && !m.slotRetired (fld v 0 5) then m.retireSlot (fld v 0 5) 3 0 else m
  else if 0x8000 ≤ off ∧ off < 0x10000 then
    if m.nvmBusy then m else Chip.plainWrite { m with st := { m.st with stgValid := true } } spNvm off v
  else m.plainWrite spNvm off v

/-- The read of an NVM word. -/
def Chip.readNvm (m : Chip) (off : Nat) : Word :=
  if off = 3 then wd (min (m.intervalLeft / aonMinute) 0xFFFF)
  else if 0x10 ≤ off ∧ off < 0x30 then
    let s := off - 0x10
    wd (0x4000 * m.slotState s + 0x2000 * b2n (m.slotRetired s) + 0x1000 * b2n (decide (m.slotInForce = some s)) +
      min (nth m.st.ecnt s) 1023)
  else if 0x40 ≤ off ∧ off < 0x80 then
    let s := (off - 0x40) / 2
    if m.slotState s = 0 then 0xFFFF else wd (m.slotSeq s / (if off % 2 = 1 then 0x10000 else 1))
  else m.rd spNvm off

/-- A write to an OTP word: PADDR, PDATA, KEYSTG; the OTP words are read-only. -/
def Chip.writeOtp (m : Chip) (off : Nat) (v : Word) : Chip := m.plainWrite spOtp off v

/-- The read of an OTP word: keys and KEYSTG read 0 (R406, R407). -/
def Chip.readOtp (m : Chip) (off : Nat) : Word :=
  if (0xC00 ≤ off ∧ off < 0xC10) ∨ (0x1008 ≤ off ∧ off < 0x1010) then 0
  else if off = 0x1010 then
    let bits := fun (f : Nat → Bool) => ((List.range 4).map (fun g => b2n (f g) * 2 ^ g)).sum
    wd (0x1000 * bits m.genValid + 0x100 * bits m.genLocked + m.st.gen)
  else if off = 0x1011 then m.rd spOtp 0xC10 &&& 0x0333
  else if 0x1012 ≤ off ∧ off < 0x1016 then
    wd (ofBytes (m.kcv ((off - 0x1012) / 2)) / (if off % 2 = 1 then 0x10000 else 1))
  else m.rd spOtp off

/-- OTPCTL: BUSY is live. -/
def Chip.readOtpctl (m : Chip) : Word := setBit (m.rd 0 0x3E) 11 m.st.otp.isSome

/-- KEYLOCK. -/
def Chip.readKeylock (m : Chip) : Word := m.rd spOtp 0xC11 &&& 0x0003

/-- The read of a LEDGER word (R399). -/
def Chip.readLedger (m : Chip) (off : Nat) : Word :=
  if off < 0x20 then (if off % 4 < 3 then wd (m.total (off / 4) / 2 ^ (16 * (off % 4))) else 0)
  else
    match off with
    | 0x20 => wd m.st.lseq
    | 0x21 => wd (m.st.lseq / 0x10000)
    | 0x22 => wd m.st.laon.toNat
    | 0x23 => wd (m.st.laon.toNat / 0x10000)
    | 0x24 => wd (m.st.laon.toNat / 0x100000000)
    | 0x25 => wd (0x8000 * b2n m.st.noPage + m.st.lpage)
    | 0x26 => m.rd spOtp 0xC16
    | _ => 0

/-! ## Commands -/

/-- STAGE: an NVMCTL write (R378). -/
def execStage (v : Word) (s : State) : Host.Outcome State Fault Refusal := hostWrite s 0 0x36 (·.writeNvmctl v)

/-- COMMIT: an NVMCTL write (R380). -/
def execCommit (v : Word) (s : State) : Host.Outcome State Fault Refusal := hostWrite s 0 0x36 (·.writeNvmctl v)

/-- LOAD: an NVMCTL write (R389). -/
def execLoad (v : Word) (s : State) : Host.Outcome State Fault Refusal := hostWrite s 0 0x36 (·.writeNvmctl v)

/-- LFLUSH: an NVMCTL write (R395). -/
def execLflush (v : Word) (s : State) : Host.Outcome State Fault Refusal := hostWrite s 0 0x36 (·.writeNvmctl v)

/-- LEDGER_FLUSH_DUE: LFLINT hours of AON time have passed since the last flush (R395); with CORE off it is due at the next
wake. -/
def execLedgerFlushDue (s : State) : Host.Outcome State Fault Refusal :=
  let m := s.chip
  let due := decide (m.st.lastFlush.toNat + 117964800 * fld (m.rd spNvm 1) 0 8 ≤ m.tb.aon.toNat)
  guarded s (due && m.st.flush.isNone)
    (if m.pw.core then m.startFlush false else { m with st := { m.st with flushDue := true } })

/-- LEDGER_HOUR_TICK: 117,964,800 AON ticks have passed (R393, "Ledger counters"). -/
def execLedgerHourTick (s : State) : Host.Outcome State Fault Refusal :=
  let m := s.chip
  guarded s (decide (117964800 ≤ m.st.hourTicks))
    (Chip.ledger { m with st := { m.st with hourTicks := m.st.hourTicks - 117964800 } } 7 1)

/-- PROG: an OTPCTL write (R401). -/
def execProg (v : Word) (s : State) : Host.Outcome State Fault Refusal := hostWrite s 0 0x3E (·.writeOtpctl v)

/-- KEYPROG: an OTPCTL write (R407). -/
def execKeyprog (v : Word) (s : State) : Host.Outcome State Fault Refusal := hostWrite s 0 0x3E (·.writeOtpctl v)

/-- GLOCK: an OTPCTL write (R404). -/
def execGlock (v : Word) (s : State) : Host.Outcome State Fault Refusal := hostWrite s 0 0x3E (·.writeOtpctl v)

/-- KEYLOCK_WRITE (R408). -/
def execKeylockWrite (v : Word) (s : State) : Host.Outcome State Fault Refusal := hostWrite s 0 0x3F (·.writeKeylock v)

/-- OTP_OP_COMPLETE (R401, R404, R407, R408). -/
def execOtpOpComplete (s : State) : Host.Outcome State Fault Refusal :=
  match s.chip.st.otp with
  | some op => guarded s s.chip.pw.core (s.chip.otpDone op)
  | none => done s s.chip

end Sys2Proof.Machine
end

