-- ==== Sys2Proof/Machine/Wave.lean ====
section
/-! DEFINITION. The waveform ports (chapter 10): configuration (R287, R288), decimation (R293-R295), blocks (R296-R302),
frame sync (R303, R304), WP2 playback with gain and mute (R305-R311), and enable (R312, R313). -/

namespace Sys2Proof.Machine

/-- Port p. -/
def Chip.port (m : Chip) (p : Nat) : WavePort := m.wave.ports.getD p WavePort.reset

/-- Change port p. -/
def Chip.mapPort (m : Chip) (p : Nat) (f : WavePort → WavePort) : Chip :=
  { m with wave := { m.wave with ports := upd m.wave.ports p f } }

/-- A register of port p. -/
def Chip.wreg (m : Chip) (p o : Nat) : Word := m.rd spWave (waveOff p o)

/-! ## Configuration -/

/-- Bits of a SLOTW or WORDW code. -/
def widthOf (c : Nat) : Nat := [16, 24, 32, 32].getD c 32

/-- Slots of a frame (R287). -/
def slotsOf (fmt : Word) : Nat := if fld fmt 14 2 = 2 then fld fmt 3 3 + 1 else 2

/-- Bits of a frame. -/
def frameBits (fmt : Word) : Nat := slotsOf fmt * widthOf (fld fmt 8 2)

/-- A port's configuration is valid (R288). -/
def Chip.portValid (m : Chip) (p : Nat) : Bool :=
  let fmt := m.wreg p 0
  let mask := (m.wreg p 1).toNat
  let len := (m.wreg p 5).toNat
  let bdiv := m.rd32 spWave (waveOff p 2)
  let rate := 200000000 * 65536
  let den := bdiv * frameBits fmt
  decide (widthOf (fld fmt 6 2) ≤ widthOf (fld fmt 8 2)) && decide (mask ≠ 0) && decide (mask < 2 ^ slotsOf fmt) &&
    (p == 2 || (decide (32 ≤ len) && decide (len ≤ 1024))) &&
    (!tst fmt 13 || (decide (0x40000 ≤ bdiv) && decide (8000 * den ≤ rate) && decide (rate ≤ 768000 * den)))

/-- Port p takes its clocks from WP0 (R291). -/
def WavePort.shared (w : WavePort) (p : Nat) : Bool := p == 1 && tst w.fmt 2

/-- Port p drives its clocks. -/
def WavePort.master (w : WavePort) (p : Nat) : Bool := tst w.fmt 13 && !w.shared p

/-- R of the port. -/
def WavePort.ratio (w : WavePort) : Nat := 2 ^ fld w.dec 0 2

/-- Settling output frames (R295). -/
def settleOf (r : Nat) : Nat := 31 + (3 * (r - 1) + r - 1) / r

/-- The channels of a mask, in ascending slot order. -/
def maskSlots (mask : Word) : List Nat := (List.range 8).filter (fun i => tst mask i)

/-- The held words of FIRC0-FIRC15 come into force (R294). -/
def Chip.takeTaps (m : Chip) (p : Nat) : Chip :=
  (List.range 16).foldl (fun m i => m.wrHeld spWave (waveOff p (0x10 + i)) (m.wreg p (0x10 + i))) m

/-- A resynchronisation (R294, R295): held configuration comes into force, histories clear, assembly restarts. -/
def Chip.resyncPort (m : Chip) (p : Nat) : Chip :=
  let m := m.takeTaps p
  m.mapPort p (fun w =>
    let w := { w with fmt := m.wreg p 0, chmask := m.wreg p 1, dec := m.wreg p 4, blklen := m.wreg p 5 }
    { w with hist := List.replicate 8 [], phase := 0, settle := settleOf w.ratio, block := [], settled := 0, flags := 0,
             inputs := 0, resync := true })

/-- A channel of WP2 as its registers say. -/
def Chip.freshChan (m : Chip) (c : Nat) : WpChan :=
  let mute := tst (m.rd spWave 0xB8) c
  let g := m.rd spWave (0xB0 + c)
  { gain := g, newGain := none, nextGain := none, gainSince := 0, muteSince := 0, muted := mute, newMute := none
    level := if mute then 0 else 4096 * g.toNat, rate := 0, prev := 0 }

/-! ## Clocks -/

/-- WP1 takes its clocks from WP0, which is active (R291, R304); while WP0 is not, they come from WP0's pins. -/
def Chip.follows (m : Chip) : Bool := (m.port 1).act && (m.port 1).shared 1 && (m.port 0).act

/-- The clocks of port p are driven here: its own, or WP0's for a WP1 that follows it (R290, R291). -/
def Chip.clocksHere (m : Chip) (p : Nat) : Bool :=
  (m.port p).master p || (p == 1 && m.follows && (m.port 0).master 0)

/-- A frame of port p may open in the present tick: at the edge that its own clock or WP0's makes (R290-R292), or whenever clocks
from outside bring one. -/
def Chip.frameOpens (m : Chip) (p : Nat) : Bool := (m.port p).lock && (!m.clocksHere p || (m.port p).edge)

/-- The frame that opens in the present tick has been taken. -/
def Chip.frameTaken (m : Chip) (p : Nat) : Chip := m.mapPort p (fun w => { w with edge := false })

/-- One tick of a port's clock (R290): 2 CORE cycles; a frame of so many BCLK periods of BDIV / 65,536 cycles each opens in the
tick in which its ideal instant falls, the first where the port starts (R292; log entry 88). -/
def Chip.tickPort (m : Chip) (p : Nat) : Chip :=
  let w := m.port p
  if w.act && w.master p then
    let l := m.rd32 spWave (waveOff p 2) * frameBits w.fmt
    let a := w.clock + 131072
    m.mapPort p (fun w => { w with clock := if l ≤ a then a - l else a, edge := decide (l ≤ a) })
  else m

/-- One tick of the ports' clocks; a WP1 on WP0's clocks sees its frames (R291). -/
def Chip.tickWave (m : Chip) : Chip :=
  let m := ((m.tickPort 0).tickPort 1).tickPort 2
  if m.follows && (m.port 0).master 0 then
    let e := (m.port 0).edge
    m.mapPort 1 (fun w => { w with edge := e })
  else m

/-- Port p has frame sync again (R304). -/
def Chip.syncGain (m : Chip) (p : Nat) : Chip := (m.resyncPort p).mapPort p (fun w => { w with lock := true })

/-- WP1 has frame sync together with WP0 (R304). -/
def Chip.syncWith (m : Chip) : Chip := if m.follows && (m.port 0).lock && !(m.port 1).lock then m.syncGain 1 else m

/-- A port starts (R295, R312): a master has frame sync at once, a port on WP0's clocks with WP0. -/
def Chip.startPort (m : Chip) (p : Nat) : Chip :=
  let m := m.resyncPort p
  let m := m.mapPort p (fun w =>
    { w with act := true, pend := false, closing := false, shut := false, lock := w.master p, loss := false, clock := 0
             edge := w.master p })
  let m := m.syncWith
  if p = 2 then
    { m with wave := { m.wave with chans := (List.range 8).map m.freshChan, armed := false, playing := false,
                                   stopAsked := false, frame := 0, loops := 0, out := [] } }
  else m

/-! ## Decimation -/

/-- The impulse response of a fourth-order CIC with ratio r: r ones convolved four times. -/
def boxTimes (r : Nat) (l : List Nat) : List Nat :=
  (List.range (l.length + r - 1)).map (fun i =>
    ((List.range r).map (fun j => if j ≤ i then l.getD (i - j) 0 else 0)).sum)

/-- The CIC's weights (R293). -/
def cicTaps (r : Nat) : List Nat := if r = 1 then [1] else boxTimes r (boxTimes r (boxTimes r (List.replicate r 1)))

/-- Output k back of the CIC, times R^4, from the inputs, newest first. -/
def cicOut (r : Nat) (hist : List Int) (k : Nat) : Int :=
  ((cicTaps r).zip (hist.drop (k * r))).foldl (fun a p => a + (p.1 : Int) * p.2) 0

/-- Tap i of the FIR filter in force (R293). -/
def Chip.tap (m : Chip) (p i : Nat) : Int :=
  sext (m.rdHeld spWave (waveOff p (0x10 + (if i < 16 then i else 31 - i)))).toNat 16

/-- One output sample and whether it saturated (R293). -/
def Chip.sample (m : Chip) (p : Nat) (w : WavePort) (hist : List Int) : Int × Bool :=
  let r := w.ratio
  let sum := ((List.range 32).map (fun i => m.tap p i * cicOut r hist i)).sum
  let wide := tst w.dec 4
  let v := roundDiv sum (r ^ 4 * 32768 * (if wide then 1 else 65536))
  let lim : Int := if wide then 2147483648 else 32768
  let c := clampI (-lim) (lim - 1) v
  (c, decide (c ≠ v))

/-- The received word of a slot, aligned to the top of 32 bits (R287, R293). -/
def wordOf (fmt : Word) (x : BitVec 32) : Int :=
  let n := 32 - widthOf (fld fmt 6 2)
  ((x >>> n) <<< n).toInt

/-! ## Blocks -/

/-- The 32-byte block header ("Block header"). -/
def WavePort.header (w : WavePort) (p seq tfs flags : Nat) : List Byte :=
  bytesN w.stamp.toNat 8 ++ bytesN seq 4 ++ bytesN w.capFn.toNat 4 ++
    [BitVec.ofNat 8 (p + 4 * fld w.dec 0 2 + 16 * fld w.dec 4 1), w.chmask.setWidth 8] ++ bytesN w.block.length 2 ++
    bytesN w.settled 2 ++ bytesN flags 2 ++ bytesN tfs 4 ++ [0, 0, 0, 0]

/-- A held request of port p. -/
def heldOf (p : Nat) (h : Rec × Tick × Bool × Bool) : Bool := h.1.dt == 0x32 && h.1.src == 5 + p

/-- A completed block of port p waits for the pool (R300). -/
def Chip.blockWaits (m : Chip) (p : Nat) : Bool := m.streams.any (fun t => t.held.any (heldOf p))

/-- The block of port p that waits is taken from its stream. -/
def Chip.forgetBlock (m : Chip) (p : Nat) : Chip :=
  Chip.streamsIdle
    { m with streams := m.streams.map (fun (t : Stream) => { t with held := t.held.filter (fun h => !heldOf p h) }) }

/-- A block that still waits for the pool is dropped (R301). -/
def Chip.dropWaiting (m : Chip) (p : Nat) : Chip :=
  if m.blockWaits p then
    let m := m.forgetBlock p
    let m := ((m.bump spWave (waveOff p 0xA) 1).orBits spWave (waveOff p 6) 0x0004).raise evWaveErr
    m.mapPort p (fun w => { w with loss := true })
  else m

/-- The block of port p is complete, or closed short (R298-R301): it takes its number and is offered to its stream; the
next block begins, with new taps (R294). T_fs of a block of one input frame is not stated, and is free. -/
def Chip.blockEnd (m : Chip) (p : Nat) (short : Bool) : Chip :=
  let m := m.dropWaiting p
  let w := m.port p
  let free := m.takeFreeNat
  let tfs := if w.inputs ≤ 1 then free.1
    else (roundDiv (65536 * (w.lastFs.toNat - w.firstFs.toNat) : Nat) (w.inputs - 1)).toNat
  let m := if w.inputs ≤ 1 then free.2 else m
  let seq := m.rd32 spWave (waveOff p 8)
  let flags := w.flags + b2n (decide (0 < w.settled)) + 2 * b2n short + 4 * b2n w.loss + 32 * b2n w.resync
  let width := if tst w.dec 4 then 4 else 2
  let body := w.block.flatMap (fun f => f.flatMap (fun v => bytesN (enc v (8 * width)) width))
  let r : Rec :=
    { dt := 0x32, fn := w.capFn, ctx := 15, src := 5 + p, stratum := 0, window := 0, odt := 0, lineStart := [],
      payload := w.header p seq tfs flags ++ body, framed := false, sent := 0, buf := 0, chan := none }
  let m := m.wr32 spWave (waveOff p 8) ((seq + 1) % 0x100000000)
  let m := m.mapPort p (fun w =>
    { w with block := [], settled := 0, flags := 0, inputs := 0, loss := false, resync := false })
  (m.offer (fld (m.wreg p 4) 8 3) r .policy).takeTaps p

/-- An input frame of port p whose opening FS edge falls in the present tick (R296-R298, R302). -/
def Chip.inputFrame (m : Chip) (p : Nat) (slots : List (BitVec 32)) : Chip :=
  let w := m.port p
  let hist := (List.range 8).map (fun i => (wordOf w.fmt (slots.getD i 0) :: w.hist.getD i []).take 300)
  let flags := w.flags ||| (if m.warn then 8 else 0)
  let w := { w with hist := hist, inputs := w.inputs + 1, firstFs := if w.inputs = 0 then m.now else w.firstFs,
                    lastFs := m.now, flags := flags }
  if w.phase + 1 < w.ratio then m.mapPort p (fun _ => { w with phase := w.phase + 1 })
  else
    let out := (maskSlots w.chmask).map (fun i => m.sample p w (hist.getD i []))
    let clip := out.any (·.2)
    let first := w.block.isEmpty
    let w := { w with
      phase := 0, block := w.block ++ [out.map (·.1)], stamp := if first then m.now else w.stamp,
      capFn := if first then m.cc.lastFn else w.capFn, settled := w.settled + b2n (decide (0 < w.settle)),
      settle := w.settle - 1, flags := w.flags ||| (if clip then 16 else 0) }
    let m := m.mapPort p (fun _ => w)
    if w.closing then (m.blockEnd p (decide (w.block.length < (w.blklen).toNat))).mapPort p (fun w => { w with shut := true })
    else if w.blklen.toNat ≤ w.block.length then m.blockEnd p false else m

/-! ## Frame sync -/

/-- Input port p has lost its clocks (R303). -/
def Chip.syncLoss (m : Chip) (p : Nat) (clockLost : Bool) : Chip :=
  let m := if (m.port p).block.isEmpty then m else m.blockEnd p true
  let m := (m.bump spWave (waveOff p 0xB) 1).orBits spWave (waveOff p 6) (if clockLost then 0x0002 else 0x0001)
  (m.mapPort p (fun w => { w with lock := false, block := [], inputs := 0, flags := 0, shut := w.closing })).raise evWaveErr

/-- WP2 has lost its clocks (R303, R311). -/
def Chip.playLoss (m : Chip) : Chip :=
  let m := (m.bump spWave (waveOff 2 0xB) 1).orBits spWave (waveOff 2 6) 0x0002
  let m := m.mapPort 2 (fun w => { w with lock := false })
  Chip.raise { m with wave := { m.wave with playing := false, armed := false, stopAsked := false, out := [] } } evWaveErr

/-! ## WP2 -/

/-- Channel c of WP2. -/
def Chip.wpChan (m : Chip) (c : Nat) : WpChan := m.wave.chans.getD c WpChan.reset

/-- Change channel c. -/
def Chip.mapWp (m : Chip) (c : Nat) (f : WpChan → WpChan) : Chip :=
  { m with wave := { m.wave with chans := upd m.wave.chans c f } }

/-- The level that the ramp moves to. -/
def WpChan.goal (x : WpChan) : Nat := if x.muted then 0 else 4096 * x.gain.toNat

/-- The ramp moves. -/
def WpChan.ramping (x : WpChan) : Bool := x.level != x.goal

/-- A mute change takes effect with RAMP n (R309, R310): an unmute takes the gain that waits for it; a ramp in progress reverses
from the level it has reached at its rate. -/
def WpChan.takeMute (x : WpChan) (n : Nat) (b : Bool) : WpChan :=
  let g := if b then x.gain else x.nextGain.getD x.gain
  { x with muted := b, newMute := none, gain := g, nextGain := if b then x.nextGain else none
           rate := if x.ramping then x.rate else 4096 * g.toNat / 2 ^ n }

/-- A gain change takes effect (R308). -/
def WpChan.takeGain (x : WpChan) : WpChan :=
  match x.newGain with
  | some g => { x with gain := g, newGain := none, level := if x.muted then x.level else 4096 * g.toNat }
  | none => x

/-- Waiting changes take effect (R308). -/
def WpChan.take (x : WpChan) (n : Nat) : WpChan :=
  let x := x.takeGain
  match x.newMute with
  | some b => x.takeMute n b
  | none => x

/-- A GAIN write (R308, R310): for a channel that is muted, on a ramp, or whose MUTE bit was written in the same tick, it is the
gain of the next unmute. -/
def WpChan.writeGain (x : WpChan) (v : Word) (now : Tick) : WpChan :=
  if x.muted ∨ x.ramping ∨ (x.newMute = some true ∧ x.muteSince = now) then { x with nextGain := some v }
  else { x with newGain := some v, gainSince := now }

/-- A MUTE bit (R308, R310): during a ramp it reverses the ramp; a GAIN of the same tick becomes the gain of the next unmute. -/
def WpChan.writeMute (x : WpChan) (n : Nat) (b : Bool) (now : Tick) : WpChan :=
  if b = x.newMute.getD x.muted then x
  else if x.ramping then x.takeMute n b
  else if b = x.muted then { x with newMute := none }
  else
    let x := { x with newMute := some b, muteSince := now }
    if b && x.newGain.isSome && decide (x.gainSince = now) then { x with nextGain := x.newGain, newGain := none } else x

/-- The ramp's advance in one sample (R309); RAMP 0 reaches its end in one. -/
def WpChan.rampStep (x : WpChan) : WpChan :=
  { x with level := if x.level < x.goal then min x.goal (x.level + x.rate) else max x.goal (x.level - x.rate) }

/-- One sample of a channel: the output word, whether it saturated, the channel after it (R308, R309). A change that the sample's
zero crossing lets through takes effect from the next sample. -/
def WpChan.play (x : WpChan) (v : Int) (n : Nat) : Int × Bool × WpChan :=
  let x := x.rampStep
  let y := roundDiv (v * (x.level : Int)) (16384 * 4096)
  let c := clampI (-32768) 32767 y
  let cross := decide (v = 0) || decide (v < 0) != decide (x.prev < 0)
  let x := if cross then x.take n else x
  (c, decide (c ≠ y), { x with prev := v })

/-- PCTL.RAMP. -/
def Chip.rampCode (m : Chip) : Nat := fld (m.rd spWave 0xA0) 8 4

/-- The channels of WP2 that the mask in force names. -/
def Chip.wp2Slots (m : Chip) : List Nat := maskSlots (m.port 2).chmask

/-- One output frame (R305-R307): the recording's words, or zeros. -/
def Chip.outputFrame (m : Chip) : Chip :=
  let chans := m.wp2Slots
  let base := (m.rd spWave 0xA1).toNat + m.wave.frame * chans.length
  let n := m.rampCode
  let word := fun (i : Nat) => if m.wave.playing then sext (m.rd spWave (0x4000 + (base + i) % 0x4000)).toNat 16 else 0
  let r := (chans.zip (List.range chans.length)).foldl (fun (a : Chip × List (Nat × Int)) p =>
    let q := (a.1.wpChan p.1).play (word p.2) n
    let m := a.1.mapWp p.1 (fun _ => q.2.2)
    (if q.2.1 then m.bump spWave 0xBA 1 else m, a.2 ++ [(p.1, q.1)])) (m, [])
  let out := (List.range (slotsOf (m.port 2).fmt)).map (fun s =>
    match r.2.find? (fun p => p.1 == s) with
    | some p => BitVec.ofInt 32 (p.2 * 65536)
    | none => 0)
  { r.1 with wave := { r.1.wave with out := out } }

/-- Playback ends (R307). -/
def Chip.playEnd (m : Chip) : Chip :=
  let m := { m with wave := { m.wave with playing := false, stopAsked := false, frame := 0, loops := 0 } }
  (m.orBits 0 0x3D 0x0080).raiseIf (tst (m.wreg 2 4) 15) evWaveBlock

/-- Every channel of WP2 is silent. -/
def Chip.allSilent (m : Chip) : Bool := m.wp2Slots.all (fun c => (m.wpChan c).level == 0)

/-- A frame of WP2's clock (R305-R307, R312). -/
def Chip.wp2Frame (m : Chip) : Chip :=
  if m.wave.playing then
    if m.wave.stopAsked || ((m.port 2).closing && m.allSilent) then (m.playEnd).outputFrame
    else
      let m := m.outputFrame
      let f := m.wave.frame + 1
      if f < (m.rd spWave 0xA2).toNat then { m with wave := { m.wave with frame := f } }
      else
        let l := m.wave.loops + 1
        let n := (m.rd spWave 0xA3).toNat
        if n ≠ 0 ∧ n ≤ l then m.playEnd else { m with wave := { m.wave with frame := 0, loops := l } }
  else m.outputFrame

/-- A P2PLAY write (R305, R306): an extent that does not fit discards it with ERRSTAT.CFG, whatever else holds. -/
def Chip.playAsk (m : Chip) : Chip :=
  let w := m.port 2
  let len := (m.rd spWave 0xA2).toNat
  let chans := (maskSlots (if w.act then w.chmask else m.wreg 2 1)).length
  if len = 0 ∨ 16384 < (m.rd spWave 0xA1).toNat + len * chans then m.orBits spWave (waveOff 2 6) 0x0008
  else if !w.act || m.wave.playing then m
  else { m with wave := { m.wave with armed := true, stopAsked := false } }

/-- PSTART. -/
def Chip.pstart (m : Chip) : Nat := m.rd64 spWave 0xA4

/-- Playback starts with the frame that opens now (R305). -/
def Chip.playStart (m : Chip) : Chip :=
  Chip.wr64 { m with wave := { m.wave with armed := false, playing := true, frame := 0, loops := 0 } } spWave 0xA8 m.now.toNat

/-! ## Enable -/

/-- A shut-down of port p begins (R312): an input port closes its block at the next output frame, WP2 mutes every
channel. -/
def Chip.closePort (m : Chip) (p : Nat) : Chip :=
  let m := m.mapPort p (fun w => { w with closing := true })
  if p = 2 then
    let now := m.now
    let n := m.rampCode
    { m with wave := { m.wave with armed := false, chans := m.wave.chans.map (fun x => x.writeMute n true now) } }
  else m

/-- Port p's shut-down is complete (R312): its last block has gone to the pool, or WP2 plays no more; a port without frame sync
has none to close. -/
def Chip.portIdle (m : Chip) (p : Nat) : Bool :=
  let w := m.port p
  w.act && (w.pend || !tst (m.rd 0 0x3C) p) &&
    (if p = 2 then !m.wave.playing else !m.blockWaits p && (w.shut || !w.lock))

/-- ACT of port p clears; PEND restarts it. A WP0 that drove its clocks takes WP1's frame sync with it (R291, R304). -/
def Chip.stopPort (m : Chip) (p : Nat) : Chip :=
  if (m.port p).pend then m.startPort p
  else
    let gone := p == 0 && m.follows && (m.port 0).master 0 && (m.port 1).lock
    let m := m.mapPort p (fun w =>
      { w with act := false, lock := false, closing := false, shut := false, block := [], inputs := 0, edge := false })
    let m := if gone then m.syncLoss 1 true else m
    if p = 2 then { m with wave := { m.wave with out := [], armed := false } } else m

/-- The EN bit of port p in a WPCTL write (R288, R312). -/
def Chip.writePortEn (m : Chip) (p : Nat) (old new : Bool) : Chip :=
  if new && !old && !m.portValid p then
    (m.clrBits 0 0x3C (bitW p)).orBits spWave (waveOff p 6) 0x0008
  else
    let w := m.port p
    let r := enPattern w.act w.pend old new
    let m := m.mapPort p (fun w => { w with pend := r.2.1 })
    let m := if r.1 then m.startPort p else m
    if r.2.2 && !w.closing then m.closePort p else m

/-- A MUTE word write (R308). -/
def Chip.writeMutes (m : Chip) (v : Word) : Chip :=
  let now := m.now
  let n := m.rampCode
  let m := m.plainWrite spWave 0xB8 v
  (List.range 8).foldl (fun m c => m.mapWp c (fun x => x.writeMute n (tst v c) now)) m

/-- A WPCTL write (R295, R305, R306, R308, R312). -/
def Chip.writeWpctl (m : Chip) (v : Word) : Chip :=
  let old := m.rd 0 0x3C
  let m := m.plainWrite 0 0x3C v
  let m := (List.range 3).foldl (fun m p => m.writePortEn p (tst old p) (tst v p)) m
  let m := [0, 1].foldl (fun m p =>
    if tst v (4 + p) && (m.port p).act && (m.port p).lock then m.resyncPort p else m) m
  let m := if tst v 15 then m.writeMutes 0x00FF else m
  let m := if tst v 9 then m.playAsk else m
  if tst v 10 && m.wave.playing then { m with wave := { m.wave with stopAsked := true } }
  else if tst v 10 then { m with wave := { m.wave with armed := false } } else m

/-- WPSTAT: everything but P2DONE is live. -/
def Chip.readWpstat (m : Chip) : Word :=
  let bits := fun (f : WavePort → Bool) => ((List.range 3).map (fun p => b2n (f (m.port p)) * 2 ^ p)).sum
  let err := ((List.range 3).map (fun p => b2n (m.wreg p 6 != 0) * 2 ^ p)).sum
  let lock := ((List.range 2).map (fun p => b2n ((m.port p).act && (m.port p).lock) * 2 ^ p)).sum
  (m.rd 0 0x3D &&& 0x0080) |||
    wd (0x1000 * bits (·.pend) + 0x100 * bits (·.act) + 0x40 * b2n m.wave.playing + 0x10 * lock + err)

/-- The ports at DOZE or SLEEP entry (R313): the block being assembled is discarded into BLKDROP, WP2 stops. -/
def Chip.wavesSleep (m : Chip) : Chip :=
  let m := [0, 1].foldl (fun m p =>
    let w := m.port p
    let m := if w.act && w.inputs != 0 then m.bump spWave (waveOff p 0xA) 1 else m
    m.mapPort p (fun w => { w with act := false, pend := false, lock := false, closing := false, shut := false, block := [], inputs := 0, edge := false })) m
  let m := m.mapPort 2 (fun w => { w with act := false, pend := false, lock := false, closing := false, edge := false })
  { m with wave := { m.wave with armed := false, playing := false, stopAsked := false, out := [] } }

/-- The ports whose EN is 1 restart (R313). -/
def Chip.wavesStart (m : Chip) : Chip :=
  (List.range 3).foldl (fun m p => if tst (m.rd 0 0x3C) p then m.startPort p else m) m

/-! ## The WAVE space -/

/-- A write to a WAVE word. -/
def Chip.writeWave (m : Chip) (off : Nat) (v : Word) : Chip :=
  if off < 0xC0 ∧ off % 0x40 = 0 then
    (if fld v 14 2 = 3 ∨ fld v 8 2 = 3 ∨ fld v 6 2 = 3 then m else (m.plainWrite spWave off v).noteDup (fun g => decide (16 ≤ g) && decide ((g - 16) / 3 = off / 0x40)))
  else if off = 0xA0 then
    let r := fld v 8 4
    (if fld v 0 8 = 0 ∨ (1 ≤ r ∧ r ≤ 3) ∨ 13 ≤ r then m else m.plainWrite spWave off v)
  else if 0xA4 ≤ off ∧ off < 0xA7 then m.wrHeld spWave off v
  else if off = 0xA7 then
    m.wrList spWave 0xA4 [m.rdHeld spWave 0xA4, m.rdHeld spWave 0xA5, m.rdHeld spWave 0xA6, v]
  else if 0xB0 ≤ off ∧ off < 0xB8 then
    let now := m.now
    (m.plainWrite spWave off v).mapWp (off - 0xB0) (fun x => x.writeGain v now)
  else if off = 0xB8 then m.writeMutes v
  else m.plainWrite spWave off v

/-! ## Commands -/

/-- WP_INPUT_FRAME: one input frame, its slots aligned to the top of 32 bits; its opening FS edge falls in the present tick
(R290, R296). -/
def execWpInputFrame (p : Fin 2) (slots : List (BitVec 32)) (s : State) : Host.Outcome State Fault Refusal :=
  let m := s.chip
  guarded s (m.pw.core && (m.port p.val).act && !(m.port p.val).shut && m.frameOpens p.val)
    ((m.frameTaken p.val).inputFrame p.val slots)

/-- WP_SYNC_LOSS (R303, R304, R311): a master loses no sync, and a WP1 on the clocks of an active WP0 loses it with WP0. -/
def execWpSyncLoss (p : Fin 3) (clockLost : Bool) (s : State) : Host.Outcome State Fault Refusal :=
  let m := s.chip
  let w := m.port p.val
  if p.val = 2 then guarded s (m.pw.core && w.act && !w.master 2) m.playLoss
  else
    guarded s (m.pw.core && w.act && w.lock && !w.master p.val && !(p.val == 1 && m.follows))
      (let m1 := m.syncLoss p.val clockLost
       if p.val = 0 ∧ m1.follows ∧ (m1.port 1).lock then m1.syncLoss 1 clockLost else m1)

/-- WP_SYNC_REGAINED (R304): a WP1 on the clocks of an active WP0 regains sync with it. -/
def execWpSyncRegained (p : Fin 3) (s : State) : Host.Outcome State Fault Refusal :=
  let m := s.chip
  let w := m.port p.val
  guarded s (m.pw.core && w.act && !w.lock && !(p.val == 1 && m.follows))
    (let m1 := m.syncGain p.val
     if p.val = 0 then m1.syncWith else m1)

/-- RESYNC: a WPCTL write (R295). -/
def execResync (v : Word) (s : State) : Host.Outcome State Fault Refusal := hostWrite s 0 0x3C (·.writeWpctl v)

/-- WP_EN_WRITE: a WPCTL write (R288, R312). -/
def execWpEnWrite (v : Word) (s : State) : Host.Outcome State Fault Refusal := hostWrite s 0 0x3C (·.writeWpctl v)

/-- WP_SHUTDOWN_DONE (R312). -/
def execWpShutdownDone (p : Fin 3) (s : State) : Host.Outcome State Fault Refusal :=
  guarded s (s.chip.pw.core && s.chip.portIdle p.val) (s.chip.stopPort p.val)

/-- P2PLAY: a WPCTL write (R305, R306). -/
def execP2play (v : Word) (s : State) : Host.Outcome State Fault Refusal := hostWrite s 0 0x3C (·.writeWpctl v)

/-- P2STOP: a WPCTL write (R306). -/
def execP2stop (v : Word) (s : State) : Host.Outcome State Fault Refusal := hostWrite s 0 0x3C (·.writeWpctl v)

/-- MUTEALL: a WPCTL write (R308). -/
def execMuteall (v : Word) (s : State) : Host.Outcome State Fault Refusal := hostWrite s 0 0x3C (·.writeWpctl v)

/-- WP2_PLAY_START: a frame opens with its FS edge at or after PSTART, where that is enabled (R305). -/
def execWp2PlayStart (s : State) : Host.Outcome State Fault Refusal :=
  let m := s.chip
  guarded s (m.pw.core && (m.port 2).act && m.frameOpens 2 && m.wave.armed && (!tst (m.rd spWave 0xA0) 15 || decide (m.pstart ≤ m.now.toNat)))
    m.playStart

/-- WP2_OUTPUT_FRAME (R305-R307). -/
def execWp2OutputFrame (s : State) : Host.Outcome State Fault Refusal :=
  guarded s (s.chip.pw.core && (s.chip.port 2).act && s.chip.frameOpens 2) (s.chip.frameTaken 2).wp2Frame

/-- The GAIN or MUTE change of a channel that waits since a tick has waited ZCTMO milliseconds (R308). -/
def Chip.zcOut (m : Chip) (waits : Bool) (since : Tick) : Bool :=
  waits && decide (since.toNat + 100000 * fld (m.rd spWave 0xA0) 0 8 ≤ m.now.toNat)

/-- WP2_ZERO_CROSS_TIMEOUT: each change that has waited its time takes effect at once and counts (R308). -/
def execWp2ZeroCrossTimeout (c : Fin 8) (s : State) : Host.Outcome State Fault Refusal :=
  let m := s.chip
  let x := m.wpChan c.val
  let g := m.zcOut x.newGain.isSome x.gainSince
  let b := m.zcOut x.newMute.isSome x.muteSince
  let n := m.rampCode
  let y := if g then x.takeGain else x
  let y := if b then y.takeMute n (x.newMute.getD x.muted) else y
  guarded s (m.pw.core && (m.port 2).act && (g || b)) ((m.mapWp c.val (fun _ => y)).bump spWave 0xB9 (b2n g + b2n b))

end Sys2Proof.Machine
end

