-- ==== Sys2Proof/Machine/Camera.lean ====
section
/-! DEFINITION. The camera inputs (chapter 15): CSIA, CSIB and PCAM, their errors (R450-R457), routes (R458-R462) and
enable (R463, R464). -/

namespace Sys2Proof.Machine

/-- Port p. -/
def Chip.cam (m : Chip) (p : Nat) : CamPort := m.cams.getD p CamPort.reset

/-- Change port p. -/
def Chip.mapCam (m : Chip) (p : Nat) (f : CamPort → CamPort) : Chip := { m with cams := upd m.cams p f }

/-- Replace the open frame of virtual channel vc on port p. -/
def Chip.setCamFrame (m : Chip) (p : Nat) (f : CamFrame) : Chip :=
  m.mapCam p (fun c => { c with frames := c.frames.map (fun g => if g.vc = f.vc then f else g) })

/-- The open frame of a virtual channel. -/
def Chip.camFrame (m : Chip) (p vc : Nat) : Option CamFrame := (m.cam p).frames.find? (fun f => f.vc == vc)

/-- EN of port p. -/
def Chip.camEn (m : Chip) (p : Nat) : Bool := tst (m.rd spCsi (portOff p 0)) 15

/-! ## Errors -/

/-- Count an error of R452 in counter i (SOTERR 0 to OVF 7); an Event row sets its ERRSTAT bit and raises CSI_ERR when its
ERRIE bit is 1. -/
def Chip.csiError (m : Chip) (p i : Nat) (bit : Option Nat) : Chip :=
  let m := m.bump spCsi (portOff p (5 + i)) 1
  match bit with
  | none => m
  | some b => (m.orBits spCsi (portOff p 4) (bitW b)).raiseIf (tst (m.rd spCsi (portOff p 3)) b) evCsiErr

/-- Flag the stream frame of a bound camera frame (R452). -/
def Chip.flagCam (m : Chip) (p : Nat) (f : CamFrame) (bits : Word) : Chip :=
  match f.route with
  | some (some r) =>
    { m with streams := m.streams.map (fun (t : Stream) => { t with frames := t.frames.map (fun (g : Frame) =>
        if g.src = p + 2 ∧ g.ctx = r ∧ g.fn = f.fn ∧ !g.endQueued then { g with flags := g.flags ||| bits } else g) }) }
  | _ => m

/-! ## Routes -/

/-- The image data types of R450. -/
def imageType (dt : Nat) : Bool := [0x2A, 0x2B, 0x2C, 0x2D, 0x1E, 0x24].contains dt

/-- Route r takes the frame (R458). -/
def Chip.routeTakes (m : Chip) (p vc dt r : Nat) : Bool :=
  let c := m.rd spCsi (routeOff r 0)
  let d := m.rd spCsi (routeOff r 1)
  tst c 15 && fld c 13 2 == p && (p == 2 || fld c 4 4 == vc) && ((tst d 15 && imageType dt) || fld d 0 6 == dt)

/-- The frame is handled as PASSTHRU (R460, R461): MODE, or YUV422 under PROCESS. -/
def CamFrame.passes (f : CamFrame) (dt : Nat) : Bool := tst f.cfg 12 || dt == 0x1E

/-- The stream of the frame's route. -/
def CamFrame.stream (f : CamFrame) : Nat := fld f.cfg 8 3

/-- The 16 bytes of the frame start (R521). -/
def Chip.camStart (m : Chip) (f : CamFrame) (dt : Nat) : List Byte :=
  let p := fld f.cfg 0 3
  let out := !f.passes dt && tst (m.rd spPipe (0x100 + 0x40 * p + 0x30)) 15
  bytesN f.stamp.toNat 8 ++ [0, 0, BitVec.ofNat 8 (b2n out), BitVec.ofNat 8 p] ++ bytes2 f.csiFn ++ [0, 0]

/-- The frame is bound at its first long packet (R458, R459), and starts on its stream; without a route it is discarded
(R452). -/
def Chip.bindCam (m : Chip) (p : Nat) (f : CamFrame) (dt : Nat) : Chip × CamFrame :=
  match (List.range 16).find? (m.routeTakes p f.vc dt) with
  | none =>
    let f := { f with route := some none }
    ((m.csiError p 6 none).setCamFrame p f, f)
  | some r =>
    let fn := BitVec.ofNat 32 (m.rd32 spCsi (routeOff r 2) + 1)
    let st := m.rd spCsi (routeOff r 4)
    let f := { f with route := some (some r), fn := fn, cfg := m.rd spCsi (routeOff r 0),
                      stat := if tst st 3 then some (fld st 0 3) else none }
    let m := (m.wr32 spCsi (routeOff r 2) fn.toNat).setCamFrame p f
    let rec_ : Rec :=
      { dt := 1, fn := fn, ctx := r, src := p + 2, stratum := 0, window := 0, odt := 0, lineStart := [],
        payload := m.camStart f dt, framed := true, sent := 0, buf := 0, chan := none }
    (m.openFrame f.stream { src := p + 2, ctx := r, fn := fn, tstart := f.stamp, lines := 0, flags := 0, user := 0,
                            strips := [], endAsked := false, endQueued := false, cut := false, sealKey := none, msg := [] }
       rec_, f)

/-! ## Lines -/

/-- Bits of one value of a data type. -/
def csiBits (dt : Nat) : Nat :=
  match dt with
  | 0x2B => 10
  | 0x2C => 12
  | 0x2D => 14
  | _ => 8

/-- Unpack a RAW line of groups of g values in k bytes: a value's high 8 bits stand in its own byte, its low b bits in the
bytes after them, first value lowest (CSI-2 packing, log entry 13). -/
def unpackRaw (g k b : Nat) (l : List Byte) : List Nat :=
  (List.range (l.length / k * g)).map (fun i =>
    let grp := (l.drop (i / g * k)).take k
    (grp.getD (i % g) 0).toNat * 2 ^ b + ofBytes (grp.drop g) / 2 ^ (b * (i % g)) % 2 ^ b)

/-- The values of a payload: RGB888 arrives blue first (log entry 13). -/
def csiValues (dt : Nat) (l : List Byte) : List Nat :=
  match dt with
  | 0x2B => unpackRaw 4 5 2 l
  | 0x2C => unpackRaw 2 3 4 l
  | 0x2D => unpackRaw 4 7 6 l
  | 0x24 => (List.range (l.length / 3 * 3)).map (fun i => (l.getD (i / 3 * 3 + (2 - i % 3)) 0).toNat)
  | _ => l.map (·.toNat)

/-- A payload of n values in CSI-2 packing, cut or padded with zeros (R454). -/
def fitBytes (dt n : Nat) (l : List Byte) : List Byte :=
  let k := (n * csiBits dt + 7) / 8
  (l ++ List.replicate (k - l.length) 0).take k

/-- The held requests of the port's rows (R468). -/
def heldRow (p : Nat) (h : Rec × Tick × Bool × Bool) : Bool := h.1.src == p + 2 && (h.1.dt == 0 || h.1.dt == 0x3E)

/-- Bytes of the port's rows that wait for the pool. -/
def Chip.camWaiting (m : Chip) (p : Nat) : Nat :=
  (m.streams.map (fun t => ((t.held.filter (heldRow p)).map (fun h => h.1.payload.length)).sum)).sum

/-- The 32 KiB receive buffer of port p is full: the oldest row held on stream s is dropped (R452, R468). -/
def Chip.camOverflow (m : Chip) (p s : Nat) : Chip :=
  (m.stream s).held.foldl (fun m _ =>
    if 32768 < m.camWaiting p then
      match splitHeld (heldRow p) (m.stream s).held with
      | none => m
      | some (h, _) => ((m.flagFrame s h.1 flCamerr).dropHeld s (heldRow p)).csiError p 7 (some 5)
    else m) m

/-- A line leaves unchanged as one passthrough packet (R461, R462). -/
def Chip.passLine (m : Chip) (p : Nat) (f : CamFrame) (r dt width : Nat) (payload : List Byte) : Chip :=
  (m.offer f.stream
    { dt := 0x3E, fn := f.fn, ctx := r, src := p + 2, stratum := 0, window := 0, odt := dt,
      lineStart := lineStartBytes f.lines m.now width 0, payload := payload, framed := true, sent := 0, buf := 0,
      chan := none } .policy).camOverflow p f.stream

/-- The frame's rows go in-line (R460): its port is the in-line source, and its route is the lowest PROCESS route of the
port with an open frame; a PCAM frame never, a spilled frame no more (R437). -/
def Chip.camInline (m : Chip) (p : Nat) (f : CamFrame) (r : Nat) : Bool :=
  decide (p < 2) && m.pipe.act == p + 1 && !f.spilled && (m.cam p).frames.all (fun g =>
    match g.route with
    | some (some q) => tst g.cfg 12 || decide (r ≤ q)
    | _ => true)

/-- The pipeline frame of a camera frame, opened at its first row (R410). -/
def Chip.camPipe (m : Chip) (p : Nat) (f : CamFrame) (r dt : Nat) : Chip :=
  if m.pipe.frames.any (fun g => g.is (p + 1) r f.fn) then m
  else
    m.pipeOpen
      { src := p + 1, id := r, fn := f.fn, prof := fld f.cfg 0 3, pipe := m.latchSpace spPipe, words := [],
        depth := csiBits dt, rgb := dt == 0x24, inline := m.camInline p f r, start := f.stamp, rows := [], next := [],
        asked := false, ended := false, partial_ := false, lost := false, illum := 0, cal := [], img := some f.stream,
        stat := f.stat, seeded := List.replicate 4 false, lumBl := List.replicate 4 none, white := false }

/-- A row of a processed frame goes in-line or to the pool (R437, R460); after BLKRST.PIPE it is lost (R570). -/
def Chip.camRow (m : Chip) (p : Nat) (f : CamFrame) (r : Nat) (vals : List Nat) : Chip :=
  let row : PRow :=
    { src := p + 1, id := r, fn := f.fn, plane := 0, row := f.lines, stamp := m.now, vals := vals, left := vals.length,
      bl := [], store := none }
  let inl := m.camInline p f r
  if m.pipe.frames.any (fun g => g.is (p + 1) r f.fn && g.lost) then m
  else if inl && decide (m.pipe.inline.length < 8) then
    { m with pipe := { m.pipe with inline := m.pipe.inline ++ [row] } }
  else
    let m := if inl then (m.orBits spPipe 0 0x8000).bump spPipe 2 1 else m
    let m := m.setCamFrame p { f with spilled := true }
    (m.storeRow (some f.stream) row .policy).camOverflow p f.stream

/-- One line of a bound frame (R454, R460, R461). -/
def Chip.camLine (m : Chip) (p : Nat) (f : CamFrame) (r dt : Nat) (vals : List Nat) (payload : List Byte) : Chip :=
  let n := f.len.getD (min vals.length 8192)
  let m := if vals.length = n then m else m.flagCam p f flCamerr
  let fit := (vals ++ List.replicate (n - vals.length) 0).take n
  let m := if f.passes dt then
      m.passLine p f r dt n (if p = 2 ∧ dt ≠ 0x1E then fit.flatMap (fun v => bytesN v 2) else fitBytes dt n payload)
    else (m.camPipe p f r dt).camRow p f r fit
  match m.camFrame p f.vc with
  | some g => m.setCamFrame p { g with len := some n, lines := f.lines + 1, dt := if f.lines = 0 then dt else f.dt }
  | none => m

/-- A long packet of an open frame (R452, R458, R461, R462). -/
def Chip.camPacket (m : Chip) (p : Nat) (f : CamFrame) (dt : Nat) (vals : List Nat) (payload : List Byte) (ok : Bool) :
    Chip :=
  let b := if f.route = none then m.bindCam p f dt else (m, f)
  let m := if ok then b.1 else (b.1.flagCam p b.2 flCamerr).csiError p 3 (some 2)
  let f := b.2
  match f.route with
  | some (some r) =>
    if imageType dt then m.camLine p f r dt vals payload
    else if tst f.cfg 11 then m.passLine p f r dt payload.length payload
    else m
  | _ => m

/-! ## Frames -/

/-- The port accepts a frame start (R463). -/
def Chip.camAccepts (m : Chip) (p : Nat) : Bool := (m.cam p).act && m.camEn p && !(m.cam p).pend

/-- A camera frame opens; the port that is the in-line source begins a frame (R371, R459). -/
def Chip.openCam (m : Chip) (p vc : Nat) (fn : Word) : Chip :=
  let m := if m.pipe.act = p + 1 then m.boundaryTake else m
  m.mapCam p (fun c => { c with frames := c.frames ++ [{
    vc := vc, csiFn := fn, stamp := m.now, route := none, fn := 0, len := none, lines := 0, dt := 0, cfg := 0, stat := none,
    spilled := false }] })

/-- A camera frame closes, with flags for its frame end (R452, R457, R463); a pending change of the in-line source takes effect
where the port has no further frame open (R23). -/
def Chip.closeCam (m : Chip) (p : Nat) (f : CamFrame) (bits : Word) : Chip :=
  let m := (m.flagCam p f bits).mapCam p (fun c => { c with frames := c.frames.filter (fun g => g.vc != f.vc) })
  match f.route with
  | some (some r) =>
    let m := { m with streams := m.streams.map (fun (t : Stream) => { t with frames := t.frames.map (fun (g : Frame) =>
      if g.src = p + 2 ∧ g.ctx = r ∧ g.fn = f.fn then { g with endAsked := true } else g) }) }
    ((m.pipeEnd (p + 1) r f.fn false).formEnds).insrcTake
  | _ => m.insrcTake

/-- Every open frame of port p is closed and flagged SHORT (R463, R464). -/
def Chip.closeCams (m : Chip) (p : Nat) : Chip := (m.cam p).frames.foldl (fun m f => m.closeCam p f flShort) m

/-! ## Enable -/

/-- LANEMAP names one physical lane twice among the lanes in use (R451). -/
def Chip.laneTwice (m : Chip) (p : Nat) : Bool :=
  let map := m.rd spCsi (portOff p 1)
  let n := fld (m.rd spCsi (portOff p 0)) 0 2 + 1
  (List.range n).any (fun i => (List.range i).any (fun j => fld map (2 * i) 2 == fld map (2 * j) 2))

/-- Port p starts with its held configuration (R451, R463). -/
def Chip.startCam (m : Chip) (p : Nat) : Chip :=
  if p < 2 ∧ m.laneTwice p then
    (m.mapCam p (fun c => { c with act := false, pend := false })).orBits spCsi (portOff p 4) 0x8000
  else
    let m := (List.range 3).foldl (fun m i => m.wrHeld spCsi (portOff p i) (m.rd spCsi (portOff p i))) m
    m.mapCam p (fun c => { c with act := true, pend := false })

/-- A PCTL write (R463). -/
def Chip.writePctl (m : Chip) (p : Nat) (v : Word) : Chip :=
  let c := m.cam p
  let r := enPattern c.act c.pend (m.camEn p) (tst v 15)
  let m := m.plainWrite spCsi (portOff p 0) v
  let now := m.now
  let m := m.mapCam p (fun c => { c with pend := r.2.1, stopAt := if r.2.2 && !c.pend then now else c.stopAt })
  if r.1 then m.startCam p else m

/-- The shut-down of port p can end: every frame has ended and its last row is handed over, or 20 ms have passed (R463). -/
def Chip.camIdle (m : Chip) (p : Nat) : Bool :=
  let c := m.cam p
  c.act && (c.pend || !m.camEn p) &&
    ((c.frames.isEmpty && !m.streams.any (fun t => t.held.any (heldRow p))) || decide (c.stopAt.toNat + 2000000 ≤ m.now.toNat))

/-- The shut-down ends: a frame still open closes SHORT; PEND restarts the port. -/
def Chip.stopCam (m : Chip) (p : Nat) : Chip :=
  let m := m.closeCams p
  if (m.cam p).pend then m.startCam p else m.mapCam p (fun c => { c with act := false })

/-- DOZE or SLEEP entry: open frames close SHORT, the ports stop (R464). -/
def Chip.camsSleep (m : Chip) : Chip :=
  (List.range 3).foldl (fun m p => (m.closeCams p).mapCam p (fun c => { c with act := false, pend := false })) m

/-- The ports whose EN is 1 restart (R464). -/
def Chip.camsStart (m : Chip) : Chip := (List.range 3).foldl (fun m p => if m.camEn p then m.startCam p else m) m

/-- A write to a CSI word: PORT 0b11 discards an RCFG write. -/
def Chip.writeCsi (m : Chip) (off : Nat) (v : Word) : Chip :=
  if off < 0xC0 ∧ off % 0x40 = 0 then m.writePctl (off / 0x40) v
  else if 0x100 ≤ off ∧ off < 0x180 ∧ off % 8 = 0 ∧ fld v 13 2 = 3 then m
  else m.plainWrite spCsi off v

/-- The read of a CSI word: ACT and PEND are live. -/
def Chip.readCsi (m : Chip) (off : Nat) : Word :=
  if off < 0xC0 ∧ off % 0x40 = 0 then
    let c := m.cam (off / 0x40)
    setBit (setBit (m.rd spCsi off) 14 c.act) 13 c.pend
  else m.rd spCsi off

/-! ## Commands -/

/-- CSI_FRAME_START (R452, R453, R463). -/
def execCsiFrameStart (p : Fin 2) (vc : Fin 16) (fn : Word) (s : State) : Host.Outcome State Fault Refusal :=
  let m := s.chip
  let m1 := match m.camFrame p.val vc.val with
    | some f => (m.closeCam p.val f flShort).csiError p.val 4 (some 3)
    | none => m
  guarded s (m.pw.pipe && m.camAccepts p.val) (m1.openCam p.val vc.val fn)

/-- CSI_LONG_PACKET (R452, R454, R458-R462). -/
def execCsiLongPacket (p : Fin 2) (vc : Fin 16) (dt : Nat) (payload : List Byte) (crcOk : Bool) (s : State) :
    Host.Outcome State Fault Refusal :=
  let m := s.chip
  let m1 := if !imageType dt && dt != 0x12 then m.csiError p.val 5 none
    else match m.camFrame p.val vc.val with
      | some f => m.camPacket p.val f dt (csiValues dt payload) payload crcOk
      | none => m.csiError p.val 4 (some 4)
  guarded s (m.pw.pipe && (m.cam p.val).act) m1

/-- CSI_FRAME_END (R452, R453). -/
def execCsiFrameEnd (p : Fin 2) (vc : Fin 16) (s : State) : Host.Outcome State Fault Refusal :=
  let m := s.chip
  let m1 := match m.camFrame p.val vc.val with
    | some f => m.closeCam p.val f 0
    | none => m.csiError p.val 4 (some 4)
  guarded s (m.pw.pipe && (m.cam p.val).act) m1

/-- CSI_PACKET_ERROR (R452): the packet is discarded, or corrected and then follows as a command of its own. -/
def execCsiPacketError (p : Fin 2) (kind : CsiError) (s : State) : Host.Outcome State Fault Refusal :=
  let m := s.chip
  guarded s (m.pw.pipe && (m.cam p.val).act)
    (match kind with
     | .sot => m.csiError p.val 0 (some 0)
     | .eccCorrected => m.csiError p.val 1 none
     | .eccDouble => m.csiError p.val 2 (some 1)
     | .unsupported => m.csiError p.val 5 none)

/-- The data type of the PFMT in force (R451, R455, R458). -/
def Chip.pcamType (m : Chip) : Nat := [0x2A, 0x2B, 0x2C, 0x1E].getD (fld (m.rdHeld spCsi 0x81) 0 2) 0x2A

/-- PCAM receives: its clock and sync pins carry the PCAM function (R455). -/
def Chip.pcamOn (m : Chip) : Bool :=
  m.pw.pipe && (m.cam 2).act && decide (m.fsel 28 = 7) && decide (m.fsel 29 = 7) && decide (m.fsel 30 = 7)

/-- PCAM_VSYNC_OPEN (R456). -/
def execPcamVsyncOpen (s : State) : Host.Outcome State Fault Refusal :=
  let m := s.chip
  guarded s (m.pcamOn && m.camAccepts 2 && (m.cam 2).frames.isEmpty) (m.openCam 2 0 0)

/-- PCAM_LINE: the values of one HSYNC interval (R454-R456). -/
def execPcamLine (vals : List Word) (s : State) : Host.Outcome State Fault Refusal :=
  let m := s.chip
  let dt := m.pcamType
  let l := vals.map (fun v => v.toNat % 2 ^ csiBits dt)
  match m.camFrame 2 0 with
  | some f => guarded s m.pcamOn (m.camPacket 2 f dt l (l.map (BitVec.ofNat 8 ·)) true)
  | none => done s m

/-- FRMERR of PCAM counts, PCAM_ERR is raised (R457). -/
def Chip.pcamError (m : Chip) : Chip := (m.bump spCsi (portOff 2 9) 1).raise evPcamErr

/-- PCAM_VSYNC_CLOSE: in an active HSYNC the line in progress was cut (R457). -/
def execPcamVsyncClose (midLine : Bool) (s : State) : Host.Outcome State Fault Refusal :=
  let m := s.chip
  match m.camFrame 2 0 with
  | some f => guarded s m.pcamOn (if midLine then (m.closeCam 2 f flCamerr).pcamError else m.closeCam 2 f 0)
  | none => done s m

/-- PCAM_PCLK_TIMEOUT: no PCLK edge for 20 us in an open frame (R457). -/
def execPcamPclkTimeout (s : State) : Host.Outcome State Fault Refusal :=
  let m := s.chip
  match m.camFrame 2 0 with
  | some f => guarded s (m.pw.pipe && (m.cam 2).act) (m.closeCam 2 f (flShort ||| flCamerr)).pcamError
  | none => done s m

/-- CAMERA_PORT_SHUTDOWN_DONE (R463). -/
def execCameraPortShutdownDone (p : Fin 3) (s : State) : Host.Outcome State Fault Refusal :=
  guarded s (s.chip.pw.pipe && s.chip.camIdle p.val) (s.chip.stopCam p.val)

end Sys2Proof.Machine
end

