-- ==== Sys2Proof/Machine/Lanes.lean ====
section
/-! DEFINITION. The lanes of the Speura link (chapter 16): blocks, columns and scrambling (R481-R485), training and the
session (R495-R502), equalisation (R504-R506), lane faults and retirement (R507-R514), and RXL (R491-R494). -/

namespace Sys2Proof.Machine

/-- Change the link. -/
def Chip.mapLink (m : Chip) (f : Link → Link) : Chip := { m with link := f m.link }

/-- Lane n. -/
def Chip.lane (m : Chip) (n : Nat) : Lane := m.link.lanes.getD n Lane.reset

/-- Lanes in a state, as a mask. -/
def Chip.lanesIn (m : Chip) (st : LaneState) : Nat :=
  ((List.range 4).map (fun n => if (m.lane n).st = st then 2 ^ n else 0)).sum

/-- Change lane n. -/
def Chip.mapLane (m : Chip) (n : Nat) (f : Lane → Lane) : Chip := m.mapLink (fun l => { l with lanes := upd l.lanes n f })

/-- LINKCTL.EN. -/
def Chip.linkEn (m : Chip) : Bool := tst (m.rd 0 0x38) 15

/-- A session runs (R499). -/
def Chip.inSession (m : Chip) : Bool := m.link.st == 2

/-! ## Columns -/

/-- Scramble 64 payload bits, bit 0 first (R482): the payload and the state after it. -/
def scramble (st : BitVec 58) (d : BitVec 64) : BitVec 64 × BitVec 58 :=
  (List.range 64).foldl (fun (a : BitVec 64 × BitVec 58) i =>
    let b := (d.getLsbD i ^^ a.2.getLsbD 38) ^^ a.2.getLsbD 57
    (a.1 ||| (if b then BitVec.ofNat 64 (2 ^ i) else 0), (a.2 <<< 1) ||| (if b then 1 else 0))) (0, st)

/-- A 66-bit block, bit 0 sent first (R481): the sync header, then the scrambled payload. -/
def blockOf (control : Bool) (payload : BitVec 64) : BitVec 66 :=
  (payload.setWidth 66) <<< 2 ||| (if control then 2 else 1)

/-- Lanes that send columns, in ascending order: logical lanes 0 to N - 1 (R484). -/
def Chip.senders (m : Chip) : List Nat :=
  (List.range 4).filter (fun n => (m.lane n).st == .active || (m.lane n).st == .train)

/-- The polarity of lane n is inverted ("Board equalisation table"). -/
def Chip.inverted (m : Chip) (n : Nat) : Bool :=
  decide (m.st.gen < 4) && tst (m.rd spOtp (0x420 + 0x200 * m.st.gen)) n

/-- One column: each sending lane sends the block that its logical and physical number give. -/
def Chip.sendColumn (m : Chip) (f : Nat → Nat → Bool × List Byte) : Chip :=
  let r := (m.senders.zip (List.range 4)).foldl (fun (a : Chip × List (BitVec 66)) p =>
    let b := f p.2 p.1
    let s := scramble (a.1.lane p.1).scr (BitVec.ofNat 64 (ofBytes b.2))
    let blk := blockOf b.1 s.1
    (a.1.mapLane p.1 (fun l => { l with scr := s.2 }), a.2 ++ [if a.1.inverted p.1 then ~~~blk else blk])) (m, [])
  r.1.mapLink (fun l => { l with column := r.2, sinceAlign := l.sinceAlign + 1, sinceIdle := l.sinceIdle + 1 })

/-- The ALIGN block of a lane ("ALIGN block"). -/
def Chip.alignBytes (m : Chip) (reconf : Bool) (logical phys : Nat) : List Byte :=
  let b : List Byte :=
    [0x4B, BitVec.ofNat 8 (phys + 16 * logical)] ++ bytesN m.link.mcount.toNat 3 ++
      [BitVec.ofNat 8 (m.lanesIn .active + 16 * fld (m.rd spLink 0x1E) 0 4),
       BitVec.ofNat 8 (m.link.rate + (if reconf then 128 else 0))]
  b ++ [b.foldl (· ^^^ ·) 0]

/-- An ALIGN column (R485). -/
def Chip.alignCol (m : Chip) (reconf : Bool) : Chip := m.sendColumn (fun l p => (true, m.alignBytes reconf l p))

/-- The next column is a marker column: every 16,384th column carries ALIGN (R485). -/
def Chip.alignDue (m : Chip) : Bool := decide (16383 ≤ m.link.sinceAlign)

/-- A marker column; MCOUNT advances (R485). -/
def Chip.markerCol (m : Chip) : Chip :=
  ((m.mapLink (fun l => { l with mcount := l.mcount + 1 })).alignCol false).mapLink (fun l => { l with sinceAlign := 0 })

/-- IDLEINT asks for an IDLE column; a marker column and two reconfiguration columns may come before it (R488). -/
def Chip.idleDue (m : Chip) : Bool := decide ((m.rd spLink 0x13).toNat ≤ m.link.sinceIdle + 4)

/-- An IDLE column (R483). -/
def Chip.idleCol (m : Chip) : Chip :=
  (m.sendColumn (fun _ _ => (true, [0x1E, 0, 0, 0, 0, 0, 0, 0]))).mapLink (fun l => { l with sinceIdle := 0 })

/-- A column of a packet, after the marker and IDLE columns that are due before it (R484, R485, R488). -/
def Chip.packetColumn (m : Chip) (f : Nat → Nat → Bool × List Byte) : Chip :=
  let m := if m.alignDue then m.markerCol else m
  let m := if m.idleDue then m.idleCol else m
  m.sendColumn f

/-! ## Sessions and training -/

/-- The session ends (R499): an unmetered channel becomes metered (R527). -/
def Chip.sessionEnd (m : Chip) : Chip :=
  Chip.mapLink { m with streams := m.streams.map (fun (t : Stream) => { t with credits := 0, inf := false }) }
    (fun l => { l with retireEdge := false, retireNow := false })

/-- The equalisation entry of lane n at a rate, while a generation is in force (R504). -/
def Chip.eqEntry (m : Chip) (rate n : Nat) : Option Word :=
  if m.st.gen < 4 then some (m.rd spOtp (0x428 + 0x200 * m.st.gen + 4 * rate + n)) else none

/-- Taps as EQ shows them. -/
def eqWord (pre post : Nat) : Word := wd (256 * pre + post)

/-- A lane takes its taps (R504, R505): EQOVR, the clamped table entry, or none. -/
def Chip.taps (m : Chip) (rate n : Nat) : Word × Bool :=
  let o := m.rd spLink (0x0C + n)
  if tst o 15 then (o &&& 0x1F1F, false)
  else
    match m.eqEntry rate n with
    | some e => (eqWord (min (fld e 8 5) 16) (min (fld e 0 5) 22), decide (16 < fld e 8 5) || decide (22 < fld e 0 5))
    | none => (0, false)

/-- A lane at the start of training (R497, R504-R506). -/
def Chip.trainLane (m : Chip) (rate n : Nat) : Chip :=
  if (m.lane n).st = .retired then m
  else
    let t := m.taps rate n
    let dis := (m.eqEntry rate n).any (fun e => tst e 15)
    let on := !dis && tst (m.rd 0 0x38) n
    let m := m.mapLane n (fun l =>
      { l with st := if on then .train else .unused, eq := t.1, cause := if dis then 4 else l.cause })
    if t.2 then m.orBits 0 0x39 0x0400 else m

/-- Training starts, with LINKCTL as it stands (R480, R496, R497): only while EN is 1 and LINK is clocked. -/
def Chip.train (m : Chip) : Chip :=
  let m := m.mapLink (fun l => { l with trainAfter := false })
  if m.link.act && m.linkEn && m.pw.link then
    let rate := fld (m.rd 0 0x38) 8 2
    let now := m.now
    let m := (m.sessionEnd).mapLink (fun l => { l with st := 1, rate := rate, trainFrom := some now })
    [0, 1, 2, 3].foldl (fun m n => m.trainLane rate n) m
  else m

/-- A training begins once the packet in flight is complete (R500). -/
def Chip.requestTrain (m : Chip) : Chip :=
  if m.link.flight.isSome then m.mapLink (fun l => { l with trainAfter := true }) else m.train

/-- Every lane that is not RETIRED enters OFF (R502, R503). -/
def Chip.lanesOff (m : Chip) : Chip :=
  (m.sessionEnd).mapLink (fun l =>
    { l with st := 0, offAfter := false, trainAfter := false, trainFrom := none,
             lanes := l.lanes.map (fun x => if x.st = .retired then x else { x with st := .off }), column := [] })

/-- The shut-down of R502 ends: ACT clears, or PEND trains the link again. -/
def Chip.linkOff (m : Chip) : Chip :=
  let again := m.link.pend
  let m := (m.lanesOff).mapLink (fun l => { l with act := again, pend := false })
  if again then m.train else m

/-- What waits for the packet in flight happens (R500, R502). -/
def Chip.linkBoundary (m : Chip) : Chip :=
  if m.link.flight.isSome then m
  else if m.link.offAfter then m.linkOff
  else if m.link.trainAfter then m.train
  else m

/-! ## Ending a packet early -/

/-- The records of a frame but its frame end are discarded, those held included; their buffers go (R508). -/
def Chip.discardFrame (m : Chip) (s : Nat) (f : Frame) : Chip :=
  let mine := fun (r : Rec) => r.ofFrame f && r.dt != 2
  let gone := (m.stream s).recs.filter mine
  let m := m.mapStream s (fun t =>
    { t with recs := t.recs.filter (fun r => !mine r), held := t.held.filter (fun h => !mine h.1) })
  gone.foldl (fun m r => m.freeRec s r.buf) m

/-- A frame on stream s is ended at once: flagged, its remaining records gone (R508). -/
def Chip.cutFrame (m : Chip) (s : Nat) (f : Frame) (bits : Word) : Chip :=
  (m.discardFrame s f).mapFrames s (fun g => g.src == f.src && g.ctx == f.ctx && g.fn == f.fn)
    (fun g => { g with flags := g.flags ||| bits, cut := true })

/-- The frame of the packet in flight. -/
def Chip.flightFrame (m : Chip) (x : Flight) : Option Frame :=
  if x.framed then (m.stream x.stream).frames.find? (fun f => f.src == x.src && f.ctx == x.ctx && f.fn == x.fn) else none

/-- The packet in flight is ended at the current column (R508): its frame is cut; a frame end is sent again; a packet of no
frame is lost with its record. -/
def Chip.endFlight (m : Chip) (bits : Word) : Chip :=
  match m.link.flight with
  | none => m
  | some x =>
    let m := m.mapLink (fun l => { l with flight := none })
    match m.flightFrame x with
    | some f => m.cutFrame x.stream f bits
    | none =>
      (m.mapStream x.stream (fun t => { t with recs := t.recs.drop 1 })).freeRec x.stream x.buf

/-! ## Lane faults and retirement -/

/-- Lane n is retired (R512). -/
def Chip.retireLane (m : Chip) (n cause : Nat) : Chip :=
  (m.mapLane n (fun l => { l with st := .retired, cause := cause })).ledger 3 1

/-- A lane fault (R507-R509, R512): cause 1 driver monitor, 2 LANEFAULT. No effect on a lane that is not ACTIVE. -/
def Chip.laneFault (m : Chip) (n cause : Nat) : Chip × Bool :=
  if (m.lane n).st = .active then
    let x := m.link.flight
    let m := if x.isSome then (m.endFlight flLane).bump spLink 0x1D 1 else m
    let m := m.retireLane n cause
    let rest := m.lanesIn .active
    let detail := [BitVec.ofNat 8 n, BitVec.ofNat 8 cause, BitVec.ofNat 8 (x.elim 0xFF (·.stream)), BitVec.ofNat 8 rest]
    let fn := match x with
      | some y => if y.framed then y.fn.toNat else m.runFn
      | none => m.runFn
    let m := (m.writeRecordFn 0x0D detail false fn).raise evLaneFault
    let m := if rest = 0 then (m.sessionEnd).mapLink (fun l => { l with st := 3, retire := 0, column := [] })
      else m.alignCol true
    ((m.raise evLinkState).linkBoundary, true)
  else (m, false)

/-- A retirement request (R510, R511): discarded with RETERR where it would leave no ACTIVE lane. -/
def Chip.retireRequest (m : Chip) (mask : BitVec 4) : Chip × Bool :=
  let act := BitVec.ofNat 4 (m.lanesIn .active)
  let new := mask &&& act
  if new = 0 then (m, false)
  else if (m.link.retire ||| new) &&& act = act then (m.orBits 0 0x39 0x0100, false)
  else
    let now := m.now
    (m.mapLink (fun l => { l with retire := l.retire ||| new, retireAt := if l.retire = 0 then now else l.retireAt }), true)

/-- The retirement takes effect (R510-R512). -/
def Chip.applyRetire (m : Chip) : Chip :=
  let act := BitVec.ofNat 4 (m.lanesIn .active)
  let go := m.link.retire &&& act
  let m := m.mapLink (fun l => { l with retire := 0, retireNow := false, retireEdge := false })
  if go = 0 then m
  else if go = act then m.orBits 0 0x39 0x0100
  else (((([0, 1, 2, 3].filter (fun n => go.getLsbD n)).foldl (fun m n => m.retireLane n 3) m).alignCol true).raise evLinkState)

/-! ## LINKCTL -/

/-- RETRAIN clears RETIRED of the lanes in SEL (R513). -/
def Chip.restoreLanes (m : Chip) (sel : Nat) : Chip :=
  m.mapLink (fun l => { l with
    retire := 0, retireNow := false, retireEdge := false,
    lanes := (l.lanes.zip [0, 1, 2, 3]).map (fun p =>
      if sel / 2 ^ p.2 % 2 = 1 ∧ p.1.st = .retired then { p.1 with st := .off } else p.1) })

/-- A LINKCTL write (R480, R502, R510, R513, R514). -/
def Chip.writeLinkctl (m : Chip) (v : Word) : Chip :=
  if tst v 14 ∧ tst v 13 then m
  else
    let r := enPattern m.link.act m.link.pend m.linkEn (tst v 15)
    let m := m.plainWrite 0 0x38 v
    let m := m.mapLink (fun l => { l with act := l.act || r.1, pend := r.2.1 })
    let m := if tst v 14 then m.restoreLanes (fld v 4 4) else m
    let m := if r.2.2 then
        (if m.link.flight.isSome then m.mapLink (fun l => { l with offAfter := true }) else m.linkOff)
      else if (r.1 || tst v 14) && !m.link.offAfter then m.requestTrain
      else m
    if tst v 13 then (m.retireRequest (BitVec.ofNat 4 (fld v 4 4))).1 else m

/-- LINKCTL: ACT and PEND are live. -/
def Chip.readLinkctl (m : Chip) : Word := setBit (setBit (m.rd 0 0x38) 12 m.link.act) 11 m.link.pend

/-- LINKSTAT: STATE, RXSYNC, RETIRED and LACT are live. -/
def Chip.readLinkstat (m : Chip) : Word :=
  (m.rd 0 0x39 &&& 0x0F00) |||
    wd (0x2000 * m.link.st + 0x1000 * b2n m.link.rxSync + 16 * m.lanesIn .retired + m.lanesIn .active)

/-! ## The LINK space -/

/-- A write to a LINK word: values outside their range discard it (R505). -/
def Chip.writeLink (m : Chip) (off : Nat) (v : Word) : Chip :=
  if 0x0C ≤ off ∧ off < 0x10 ∧ (16 < fld v 8 5 ∨ 22 < fld v 0 5) then m
  else if off = 0x11 ∧ fld v 0 8 = 0 then m
  else if off = 0x12 ∧ v = 0 then m
  else if off = 0x13 ∧ (v.toNat < 64 ∨ 4096 < v.toNat) then m
  else m.plainWrite spLink off v

/-- LSTATE codes. -/
def LaneState.code : LaneState → Nat
  | .off => 0
  | .train => 1
  | .active => 2
  | .unused => 3
  | .retired => 4

/-- The read of a LINK word. -/
def Chip.readLink (m : Chip) (off : Nat) : Word :=
  if off < 4 then wd ((m.lane off).st.code + 16 * (m.lane off).cause)
  else if 8 ≤ off ∧ off < 0x0C then (m.lane (off - 8)).eq
  else
    match off with
    | 0x14 => wd m.link.mcount.toNat
    | 0x15 => wd (m.link.mcount.toNat / 0x10000)
    | 0x20 => wd (256 * m.link.rate + (m.senders.filter (fun n => (m.lane n).st == .active)).length)
    | _ => m.rd spLink off

/-! ## Power and resets -/

/-- The LINK PLL locks at a wake (R496): the link trains where EN is 1. -/
def Chip.linkWake (m : Chip) : Chip :=
  if m.linkEn then (m.mapLink (fun l => { l with act := true, pend := false })).train else m

/-- The LINK clocks stop (R503): the lanes stand OFF, RXL is out of sync. -/
def Chip.linkSleep (m : Chip) : Chip :=
  let stop := m.link.offAfter
  let m := (m.lanesOff).mapLink (fun l => { l with rxSync := false, retire := 0, flight := none })
  if stop then m.mapLink (fun l => { l with act := l.pend, pend := false }) else m

/-- BLKRST.LNKPHY (R99, R496, R570): counters and status return to their reset values, the packet in flight is ended with LANE and
counted, the link retrains, RETIRED stays (log entry 67). -/
def Chip.resetLnkphy (m : Chip) : Chip :=
  let m := (m.wrList spLink 0x18 (List.replicate 7 0)).clrBits 0 0x39 0x0F00
  let m := if m.link.flight.isSome then (m.endFlight flLane).bump spLink 0x1D 1 else m
  let stop := m.link.offAfter
  let m := (m.lanesOff).mapLink (fun l => { l with retire := 0, rxSync := false, mcount := 0, sinceAlign := 0, sinceIdle := 0 })
  if stop then m.mapLink (fun l => { l with act := l.pend, pend := false }) |>.train else m.train

/-! ## Commands -/

/-- LINK_EN_WRITE: a LINKCTL write (R502). -/
def execLinkEnWrite (v : Word) (s : State) : Host.Outcome State Fault Refusal := hostWrite s 0 0x38 (·.writeLinkctl v)

/-- RETRAIN: a LINKCTL write (R513, R514). -/
def execRetrain (v : Word) (s : State) : Host.Outcome State Fault Refusal := hostWrite s 0 0x38 (·.writeLinkctl v)

/-- RETIRE: a LINKCTL write (R510, R511, R514). -/
def execRetire (v : Word) (s : State) : Host.Outcome State Fault Refusal := hostWrite s 0 0x38 (·.writeLinkctl v)

/-- So many milliseconds of the STB have passed since a tick. -/
def Chip.msSince (m : Chip) (t : Tick) (ms : Nat) : Bool := decide (t.toNat + 100000 * ms ≤ m.now.toNat)

/-- TRAIN_TIMEOUT: TRAINTMO milliseconds have passed in TRAIN (R498). -/
def execTrainTimeout (s : State) : Host.Outcome State Fault Refusal :=
  let m := s.chip
  let ms := (m.rd spLink 0x10).toNat
  guarded s (m.pw.link && m.link.st == 1 && ms != 0 && m.link.trainFrom.any (fun t => m.msSince t ms))
    (((m.mapLink (fun l => { l with trainFrom := none })).orBits 0 0x39 0x0800).raise evLinkState)

/-- RXL_SYNC (R491). -/
def execRxlSync (s : State) : Host.Outcome State Fault Refusal :=
  guarded s s.chip.pw.link (s.chip.mapLink (fun l => { l with rxSync := true }))

/-- RXL_SYNC_LOSS (R491). -/
def execRxlSyncLoss (s : State) : Host.Outcome State Fault Refusal :=
  let now := s.chip.now
  guarded s (s.chip.pw.link && s.chip.link.rxSync)
    ((s.chip.mapLink (fun l => { l with rxSync := false, lostAt := now })).bump spLink 0x1C 1)

/-- RXLOSS_EXPIRY: RXL has been out of sync for RXLOSS milliseconds in a session: the link trains (R496, R501). -/
def execRxlossExpiry (s : State) : Host.Outcome State Fault Refusal :=
  let m := s.chip
  guarded s (m.pw.link && m.inSession && !m.link.rxSync && m.msSince m.link.lostAt (fld (m.rd spLink 0x11) 0 8)) m.requestTrain

/-- RXL_SKIP: a /K28.0/ arrives at a fill of the elastic buffer (R493). -/
def execRxlSkip (fill : Nat) (s : State) : Host.Outcome State Fault Refusal :=
  guarded s s.chip.pw.link
    (if 20 < fill then s.chip.bump spLink 0x1A 1 else if fill < 12 then s.chip.bump spLink 0x19 1 else s.chip)

/-- ELASTIC_BUFFER_ERROR (R494). -/
def execElasticBufferError (s : State) : Host.Outcome State Fault Refusal :=
  guarded s s.chip.pw.link ((s.chip.bump spLink 0x1B 1).orBits 0 0x39 0x0200)

/-- INVALID_CODE_GROUP (R491). -/
def execInvalidCodeGroup (s : State) : Host.Outcome State Fault Refusal :=
  guarded s s.chip.pw.link (s.chip.bump spLink 0x18 1)

/-- LANE_DRIVER_FAULT (R507, R508). -/
def execLaneDriverFault (n : Fin 4) (s : State) : Host.Outcome State Fault Refusal :=
  guarded s s.chip.pw.link (s.chip.laneFault n.val 1).1

/-- The pending retirement may take effect at this packet boundary (R510). -/
def Chip.retireDue (m : Chip) : Bool := m.link.retire != 0 && (m.link.retireEdge || m.link.retireNow)

/-- RETIREMENT_APPLY: the packet boundary after a frame end, or after RETMAX (R510). -/
def execRetirementApply (s : State) : Host.Outcome State Fault Refusal :=
  let m := s.chip
  guarded s (m.pw.link && m.inSession && m.link.flight.isNone && m.retireDue) m.applyRetire

/-- RETMAX_EXPIRY: RETMAX milliseconds after the request the retirement no longer waits for a frame end (R510). -/
def execRetmaxExpiry (s : State) : Host.Outcome State Fault Refusal :=
  let m := s.chip
  guarded s (m.link.retire != 0 && m.msSince m.link.retireAt (m.rd spLink 0x12).toNat) (m.mapLink (fun l => { l with retireNow := true }))

/-- ALIGN_COLUMN: the marker column that is due; MCOUNT advances (R485). -/
def execAlignColumn (s : State) : Host.Outcome State Fault Refusal :=
  guarded s (s.chip.pw.link && !s.chip.senders.isEmpty && s.chip.alignDue) s.chip.markerCol

/-- IDLE_COLUMN (R483, R488), where no marker column is due. -/
def execIdleColumn (s : State) : Host.Outcome State Fault Refusal :=
  guarded s (s.chip.pw.link && !s.chip.senders.isEmpty && !s.chip.alignDue) s.chip.idleCol

end Sys2Proof.Machine
end

