-- ==== Sys2Proof/Machine/Packets.lean ====
section
/-! DEFINITION. The packet layer of the Speura link (chapter 17): packets and frames (R515-R525), credits and link sharing
(R526-R528), return-lane messages (R529-R532), the frame seal (R533-R538) and the SEAL space. -/

namespace Sys2Proof.Machine

/-! ## Packets -/

/-- The record's next packet is its line start (R519). -/
def Rec.atLineStart (r : Rec) : Bool := !r.lineStart.isEmpty && r.sent == 0

/-- The frame of a record on stream s. -/
def Chip.frameOf (m : Chip) (s : Nat) (r : Rec) : Option Frame := (m.stream s).frames.find? (fun f => r.ofFrame f)

/-- The payload of a frame end without the tag (R523): TEND was taken as the record was formed. -/
def Frame.endPayload (f : Frame) (tend : List Byte) : List Byte :=
  let n := min f.strips.length 8
  let strip := fun (s : Strip) =>
    [BitVec.ofNat 8 s.group, BitVec.ofNat 8 (s.role + 4 * s.stratum + 16 * s.cause)] ++ bytesN s.first 2 ++ bytesN s.last 2 ++
      [0, 0] ++ bytesN s.step0 4 ++ bytesN s.step1 4
  tend.take 8 ++ bytesN f.lines 4 ++ bytes2 f.flags ++ [BitVec.ofNat 8 (f.user.toNat + 16 * n), 0] ++
    (f.strips.take 8).flatMap strip

/-- LEN of a record's next packet. -/
def Chip.packetLen (m : Chip) (s : Nat) (r : Rec) : Nat :=
  if r.atLineStart then 16
  else if r.dt = 2 then
    match m.frameOf s r with
    | some f => 16 + 16 * min f.strips.length 8 + (if f.sealKey.isSome then 16 else 0)
    | none => r.payload.length
  else r.payload.length

/-- Credits a packet of a payload length needs (R526). -/
def creditsFor (len : Nat) : Nat := (20 + len + 255) / 256

/-- The stream has a record ready and enough credits (R528). -/
def Chip.canSend (m : Chip) (s : Nat) : Bool :=
  let t := m.stream s
  match t.recs with
  | [] => false
  | r :: _ => t.inf || decide (creditsFor (m.packetLen s r) ≤ t.credits)

/-- SCFG.PRIO. -/
def Chip.prioOf (m : Chip) (s : Nat) : Nat := fld (m.rd spPool (streamOff s 0)) 8 3

/-- The stream whose packet starts next (R528): the highest PRIO, then the lowest number. -/
def Chip.nextStream (m : Chip) : Option Nat :=
  (List.range 8).foldl (fun (a : Option Nat) s =>
    if m.canSend s then
      match a with
      | none => some s
      | some q => if m.prioOf q < m.prioOf s then some s else a
    else a) none

/-- The 16 header bytes ("Packet header"): 14 bytes and their CRC (R516). -/
def headerBytes (dt s len : Nat) (seal_ : Bool) (fn : Long) (pseq : Word) (ctx src stratum window odt : Nat) : List Byte :=
  let b : List Byte :=
    [BitVec.ofNat 8 dt, BitVec.ofNat 8 (s + 8 * b2n seal_)] ++ bytesN len 2 ++ bytesN fn.toNat 4 ++ bytes2 pseq ++
      [BitVec.ofNat 8 (ctx + 16 * src), BitVec.ofNat 8 (stratum + 4 * window), BitVec.ofNat 8 odt, 0]
  b ++ bytes2 (crc16 b)

/-- The payload CRC (R516). -/
def payloadCrc (p : List Byte) : List Byte := if p.isEmpty then [0, 0, 0, 0] else bytesN (crc32 p).toNat 4

/-- The 24-byte sealed header (R534). -/
def Chip.sealHeader (m : Chip) (s key : Nat) (f : Frame) : List Byte :=
  m.otpBytes 3 4 ++ bytesN f.fn.toNat 4 ++ bytesN f.tstart.toNat 8 ++ [BitVec.ofNat 8 s, BitVec.ofNat 8 key, 0, 0]

/-- SEALCFG is latched as the frame start is sent (R533): sealed where the key is there, else SEALERR. -/
def Chip.latchSeal (m : Chip) (s : Nat) (f : Frame) : Chip :=
  let c := m.rd spSeal (0x10 + s)
  let k := fld c 0 1
  if !tst c 15 then m
  else if m.keyDone k then
    let h := m.sealHeader s k f
    m.mapFrames s (fun g => g == f) (fun g => { g with sealKey := some k, msg := h })
  else
    ((m.mapFrames s (fun g => g == f) (fun g => { g with flags := g.flags ||| flSealerr })).bump spSeal (sealOff s 7) 1).fault
      0x0E [BitVec.ofNat 8 s, BitVec.ofNat 8 k]

/-- The bytes of a record's next packet: header, payload, payload CRC; a sealed frame end ends with the CMAC (R515, R534). -/
def Chip.packetBytes (m : Chip) (s : Nat) (r : Rec) : List Byte :=
  let f := m.frameOf s r
  let key := f.bind (·.sealKey)
  let pseq := (m.stream s).pseq
  let dt := if r.atLineStart then 3 else r.dt
  let len := m.packetLen s r
  let hdr := headerBytes dt s len key.isSome r.fn pseq r.ctx r.src r.stratum r.window r.odt
  let body := if r.atLineStart then r.lineStart
    else
      match r.dt, f with
      | 2, some f =>
        let p := f.endPayload r.payload
        (match key with
         | some k => p ++ cmac (m.keyBytes k) (f.msg ++ hdr ++ p)
         | none => p)
      | _, _ => r.payload
  hdr ++ body ++ payloadCrc body

/-- The bytes of one column of a packet: the start column opens with START and 7 packet bytes (R484). -/
def columnBytes (start : Bool) (bytes : List Byte) (l : Nat) : Bool × List Byte :=
  let cut := fun (k n : Nat) => let b := (bytes.drop k).take n; b ++ List.replicate (n - b.length) 0
  if start then (if l = 0 then (true, (0x78 : Byte) :: cut 0 7) else (false, cut (8 * l - 1) 8))
  else (false, cut (8 * l) 8)

/-- The data columns of the rest of a packet, with the ALIGN and IDLE columns that fall into it (R484), fuel: one column each. -/
def Chip.sendRest (m : Chip) (bytes : List Byte) : Nat → Chip
  | 0 => m
  | k + 1 =>
    let n := 8 * m.senders.length
    if bytes.isEmpty ∨ n = 0 then m else (m.packetColumn (fun l _ => columnBytes false bytes l)).sendRest (bytes.drop n) k

/-- A packet of the chosen stream starts (R526, R528): a frame start latches SEALCFG, credits are deducted, PSEQ counts, the
start column is sent. -/
def Chip.startPacket (m : Chip) (s : Nat) : Chip :=
  match (m.stream s).recs with
  | [] => m
  | r :: _ =>
    let m := match r.dt, m.frameOf s r with
      | 1, some f => m.latchSeal s f
      | _, _ => m
    let bytes := m.packetBytes s r
    let need := creditsFor (m.packetLen s r)
    let f := m.frameOf s r
    let x : Flight :=
      { stream := s, bytes := bytes, dt := r.dt, buf := r.buf, final := !r.atLineStart,
        src := f.elim r.src (·.src), ctx := f.elim r.ctx (·.ctx), fn := r.fn, framed := r.framed && f.isSome, chan := r.chan }
    let m := m.mapStream s (fun t =>
      { t with pseq := t.pseq + 1, credits := if t.inf then t.credits else t.credits - need })
    (m.packetColumn (fun l _ => columnBytes true bytes l)).mapLink (fun l => { l with flight := some x })

/-! ## Completion -/

/-- A frame end has been sent: the frame is gone, SEALED counts (R519, R533). -/
def Chip.frameSent (m : Chip) (s : Nat) (f : Frame) : Chip :=
  let m := m.mapStream s (fun t => { t with frames := t.frames.filter (fun g => !(g.src == f.src && g.ctx == f.ctx && g.fn == f.fn)) })
  let o := sealOff s 2
  let m := if f.sealKey.isSome then m.wr32 spSeal o (min (m.rd32 spSeal o + 1) 0xFFFFFFFF) else m
  if m.link.retire = 0 then m else m.mapLink (fun l => { l with retireEdge := true })

/-- The packet in flight has been sent whole: the CMAC takes it in (R534), LINES counts, its record goes with its last
packet (R470), a copy's packet counts in MOVCNT. -/
def Chip.packetSent (m : Chip) (x : Flight) : Chip :=
  let s := x.stream
  let m := (m.sendRest (x.bytes.drop (8 * m.senders.length - 1)) x.bytes.length).mapLink (fun l => { l with flight := none })
  let sent := x.bytes.take (x.bytes.length - 4)
  let line := x.final && x.framed && x.dt != 1 && x.dt != 2 && x.dt != 0x33
  let m := match m.flightFrame x with
    | some f => m.mapFrames s (fun g => g == f) (fun g =>
        { g with lines := g.lines + b2n line, msg := if g.sealKey.isSome && x.dt != 2 then g.msg ++ sent else g.msg })
    | none => m
  let m := if x.final then
      let m := (m.mapStream s (fun t => { t with recs := t.recs.drop 1 })).freeRec s x.buf
      match x.dt, m.flightFrame x with
      | 2, some f => m.frameSent s f
      | _, _ => m
    else m.mapStream s (fun t => { t with recs := match t.recs with
      | r :: rest => { r with sent := 1 } :: rest
      | [] => [] })
  let m := match x.chan with
    | some c => m.bump spPool (moverOff c 5) 1
    | none => m
  (m.streamIdle s).linkBoundary

/-- The link may start a packet: a session runs, nothing is in flight, no training, shut-down or due retirement comes
first (R499, R500, R502, R510). -/
def Chip.packetBoundary (m : Chip) : Bool :=
  m.pw.link && m.pw.pipe && m.inSession && m.link.flight.isNone && !m.link.offAfter && !m.retireDue &&
    m.pw.sq != some Seq.idleDoze

/-! ## Messages -/

/-- RXL delivers a message only in sync (R491). -/
def Chip.rxOn (m : Chip) : Bool := m.pw.link && m.pw.pipe && m.link.rxSync

/-- The acknowledgement of a message (R525, R530). -/
def Chip.ackRecord (m : Chip) (type : Nat) (mseq : Byte) (acted : Bool) : Rec :=
  { dt := 0x33, fn := m.cc.lastFn, ctx := 15, src := 11, stratum := 0, window := 0, odt := 0, lineStart := [],
    payload := bytesN m.now.toNat 8 ++ [1, mseq, if acted then 0 else 1, 0, BitVec.ofNat 8 (128 + type), 0, 0, 0],
    framed := false, sent := 0, buf := 0, chan := none }

/-- A message has been acted on (R529, R530): MSGCNT, and the acknowledgement where it is asked for and enabled. -/
def Chip.messageDone (r : Chip × Bool) (type : Nat) (mseq : Byte) (ackReq count : Bool) : Chip :=
  let m := if count then r.1.bump spSeal 3 1 else r.1
  let a := m.rd spSeal 1
  if ackReq && tst a 3 then m.offer (fld a 0 3) (m.ackRecord type mseq r.2) .policy else m

/-- A LINKUP (R497, R498): lanes named in TRAIN become ACTIVE, the others of TRAIN UNUSED; the session begins with no
credits (R499, R526) and an ALIGN column with RECONF. -/
def Chip.linkup (m : Chip) (mask : BitVec 4) : Chip × Bool :=
  let go := mask &&& BitVec.ofNat 4 (m.lanesIn .train)
  if m.link.st ≠ 1 ∨ go = 0 then (m, false)
  else
    let m := m.mapLink (fun l => { l with
      st := 2, trainFrom := none, lanes := (l.lanes.zip [0, 1, 2, 3]).map (fun p =>
        if p.1.st = .train then { p.1 with st := if go.getLsbD p.2 then .active else .unused } else p.1) })
    let m := { m with streams := m.streams.map (fun (t : Stream) => { t with credits := 0, inf := false }) }
    let m := m.wr spLink 0x1E (m.rd spLink 0x1E + 1)
    ((m.alignCol true).raise evLinkState, true)

/-- A CREDIT in a session (R527). -/
def Chip.giveCredit (m : Chip) (s : Nat) (inf : Bool) (n : Nat) : Chip :=
  m.mapStream s (fun t =>
    if inf then { t with inf := true }
    else if t.inf then { t with inf := false, credits := n }
    else { t with credits := min (t.credits + n) 0xFFFFFF })

/-! ## The SEAL space -/

/-- SEALLOCK: the new bits copy SEALCFG into AON (R537, R538). -/
def Chip.writeSeallock (m : Chip) (v : Word) : Chip :=
  let new := v &&& 0x00FF &&& ~~~m.pins.sealLock
  let cfg := (List.range 8).map (fun s => if tst new s then m.rd spSeal (0x10 + s) else m.pins.sealCfg.getD s 0)
  { m with pins := { m.pins with sealLock := m.pins.sealLock ||| new, sealCfg := cfg } }

/-- A write to a SEAL word: a locked SEALCFG refuses it (R58, R59, R537). -/
def Chip.writeSeal (m : Chip) (off : Nat) (v : Word) : Chip :=
  if off = 0 then m.writeSeallock v
  else if 0x10 ≤ off ∧ off < 0x18 ∧ tst m.pins.sealLock (off - 0x10) then m.lockViolation spSeal off v 0 false
  else m.plainWrite spSeal off v

/-- The read of a SEAL word: SEALLOCK and the credits are live. -/
def Chip.readSeal (m : Chip) (off : Nat) : Word :=
  if off = 0 then m.pins.sealLock
  else if 0x20 ≤ off ∧ off < 0x60 then
    let t := m.stream ((off - 0x20) / 8)
    match off % 8 with
    | 0 => wd t.credits
    | 1 => setBit (wd (t.credits / 0x10000)) 15 t.inf
    | _ => m.rd spSeal off
  else m.rd spSeal off

/-- PIPE powers up: the locked SEALCFG words come from AON (R538). -/
def Chip.sealRestore (m : Chip) : Chip :=
  (List.range 8).foldl (fun m s =>
    if tst m.pins.sealLock s then m.wr spSeal (0x10 + s) (m.pins.sealCfg.getD s 0) else m) m

/-- BLKRST.LNKPKT (R99, R570): the packet in flight ends, the frames being sent are cut with LOSS, credits are as after
training, counters and PSEQ return to 0. -/
def Chip.resetLnkpkt (m : Chip) : Chip :=
  let m := m.endFlight flLoss
  let m := (List.range 8).foldl (fun m s =>
    let begun := fun (f : Frame) => !(m.stream s).recs.any (fun r => r.ofFrame f && r.dt == 1) &&
      !(m.stream s).held.any (fun h => h.1.ofFrame f && h.1.dt == 1)
    ((m.stream s).frames.filter begun).foldl (fun m f => m.cutFrame s f flLoss) m) m
  let m := { m with streams := m.streams.map (fun (t : Stream) => { t with credits := 0, inf := false, pseq := 0 }) }
  let m := { m with regs := Bank.keepIf m.regs (fun k =>
    !(k == key spSeal 2 || k == key spSeal 3 || (decide (key spSeal 0x20 ≤ k) && decide (k < key spSeal 0x60)))) }
  m.linkBoundary

/-! ## Commands -/

/-- PACKET_START (R528). -/
def execPacketStart (s : State) : Host.Outcome State Fault Refusal :=
  let m := s.chip
  match m.nextStream with
  | some n => guarded s m.packetBoundary (m.startPacket n)
  | none => done s m

/-- PACKET_COMPLETE (R470). -/
def execPacketComplete (s : State) : Host.Outcome State Fault Refusal :=
  let m := s.chip
  match m.link.flight with
  | some x => guarded s m.pw.link (m.packetSent x)
  | none => done s m

/-- LINKUP (R497). -/
def execLinkup (lanes : BitVec 4) (mseq : Byte) (ackReq : Bool) (s : State) : Host.Outcome State Fault Refusal :=
  guarded s s.chip.rxOn (Chip.messageDone (s.chip.linkup lanes) 1 mseq ackReq true)

/-- CREDIT (R527): outside a session it is discarded. -/
def execCredit (vc : Fin 8) (inf : Bool) (count : BitVec 24) (mseq : Byte) (ackReq : Bool) (s : State) :
    Host.Outcome State Fault Refusal :=
  let m := s.chip
  guarded s m.rxOn (Chip.messageDone (if m.inSession then (m.giveCredit vc.val inf count.toNat, true) else (m, false)) 2 mseq
    ackReq m.inSession)

/-- TRIG (R531). -/
def execTrig (mask : Word) (mseq : Byte) (ackReq : Bool) (s : State) : Host.Outcome State Fault Refusal :=
  guarded s s.chip.rxOn (Chip.messageDone ((s.chip.begin 60).triggerMask 2 mask) 3 mseq ackReq true)

/-- LANEMAP (R510). -/
def execLanemap (lanes : BitVec 4) (mseq : Byte) (ackReq : Bool) (s : State) : Host.Outcome State Fault Refusal :=
  guarded s s.chip.rxOn (Chip.messageDone (s.chip.retireRequest lanes) 4 mseq ackReq true)

/-- LANEFAULT (R507). -/
def execLanefault (lane : Fin 4) (mseq : Byte) (ackReq : Bool) (s : State) : Host.Outcome State Fault Refusal :=
  guarded s s.chip.rxOn (Chip.messageDone (s.chip.laneFault lane.val 2) 5 mseq ackReq true)

/-- The registers an ACK writes (R532). -/
def Chip.ackWrite (m : Chip) (s : Nat) (nak : Bool) (fn : Long) : Chip :=
  let m := m.wr32 spSeal (sealOff s 4) fn.toNat
  if nak then m.bump spSeal (sealOff s 6) 1 else m

/-- ACK (R532). -/
def execAck (vc : Fin 8) (nak : Bool) (fn : Long) (mseq : Byte) (ackReq : Bool) (s : State) :
    Host.Outcome State Fault Refusal :=
  guarded s s.chip.rxOn (Chip.messageDone (s.chip.ackWrite vc.val nak fn, true) 6 mseq ackReq true)

/-- MESSAGE_DISCARDED (R529). -/
def execMessageDiscarded (s : State) : Host.Outcome State Fault Refusal := guarded s s.chip.rxOn (s.chip.bump spSeal 2 1)

end Sys2Proof.Machine
end

