-- ==== Sys2Proof/Machine/Reset.lean ====
section
/-! DEFINITION. What the resets and a loss of CORE power clear and keep (R97, R98), the keep store (R81-R85), the pin
image (R555), the loads of the working tables (R341, R578, R581), the boot reader (R576) and the restore of a wake from
SLEEP (R580). -/

namespace Sys2Proof.Machine

/-- Write a field of BOOTSTAT. -/
def Chip.bootField (m : Chip) (lo n v : Nat) : Chip := m.wr 0 0x0D (setFld (m.rd 0 0x0D) lo n v)

/-! ## What AON and the non-volatile stores hold -/

/-- A word of the OTP or of an NVM slot. -/
def nvKey (k : Nat) : Bool :=
  (decide (key spOtp 0 ≤ k) && decide (k < key spOtp 0x1000)) || (decide (key spNvm 0x100000 ≤ k) && decide (k < key spOtp 0))

/-- A word that AON or a non-volatile store holds while CORE is off: the direct registers below 0x10, the phrase elements,
the alarm, the OTP and the NVM slots. -/
def aonKey (k : Nat) : Bool :=
  decide (k < 0x10) || (decide (0x40 ≤ k) && decide (k < 0x50)) ||
    (decide (key spTmr 0x10 ≤ k) && decide (k ≤ key spTmr 0x13)) || nvKey k

/-- CORE, ARRAY, PIPE and LINK lose power: everything they hold returns to its reset value, the held words of ALM0, ALM1 and
of the MATCH items among it (log entry 79). -/
def Chip.coreLoss (m : Chip) : Chip :=
  { Chip.reset with
    regs := Bank.keepIf m.regs aonKey, free := m.free, hd := m.hd, keep := m.keep, phrase := m.phrase
    pw := { m.pw with core := false, array := false, pipe := false, link := false, isetOn := false, pixFb := false,
                      pixPend := false, drained := false, goodHeld := false, auto := false }
    tb := { TimeBase.reset with aon := m.tb.aon, sub := m.tb.sub, aonLatch := m.tb.aonLatch }
    cc := { CaptureCtl.reset with frameNum := m.cc.frameNum, lastFn := m.cc.lastFn }
    st := { m.st with commit := none, waiting := none, staging := false, boundaryHeld := false, stgValid := false,
                      cause := 0, retryPend := false, retryDue := false, flush := none, otp := none }
    pins := { Pins.reset with level := m.pins.level, paper := m.pins.paper, asleep := true, heldDrive := m.pins.heldDrive, heldLevel := m.pins.heldLevel,
                              slp := m.pins.slp, sealLock := m.pins.sealLock, sealCfg := m.pins.sealCfg } }

/-- The pins take their sleep states, unless they stand in them already (R551). -/
def Chip.pinsDown (m : Chip) : Chip := if m.pins.asleep then m else m.pinsSleep

/-- An operation of the stores in progress ends where power is lost (R390, R396, R606). -/
def Chip.storesCut (m : Chip) : Chip :=
  let m := m.otpCut
  let m := { m with st := { m.st with flush := none, flushDue := m.st.flushDue || m.st.flush.isSome } }
  match m.st.commit with
  | some c => m.commitCut c
  | none => m

/-- The reset values of MININT and LFLINT come from the strap options (R385, "Strap options"). -/
def Chip.strapOptions (m : Chip) : Chip :=
  let m := if m.opt 1 = 0 then m else m.wr spNvm 0 (m.opt 1)
  if fld (m.opt 2) 0 8 = 0 then m else m.wr spNvm 1 (m.opt 2 &&& 0x00FF)

/-- A system reset with its bit of RSTCAUSE and SUPWHICH (R98, R582). The boot reader runs again, and until it is done the
bus does not answer, AON's registers included (DEDUCED, log entry 18). -/
def Chip.sysReset (m : Chip) (cause which : Nat) : Chip :=
  let m := (m.strobesLow.pinsDown).storesCut
  let failed := m.rd 0 0x03 &&& 0x0400
  let sticky := m.rd 0 0x06 &&& 0x00F0
  let m := m.coreLoss
  let m := ((((m.wr 0 0x02 0x0A03).wr 0 0x03 failed).wr 0 0x04 0xF000).wr 0 0x06 sticky).wr 0 0x0D 0x1700
  let m := m.wr 0 0x0E (wd (2 ^ cause + 256 * which))
  { m with pw := { Power.reset with
      vddaon := m.pw.vddaon, rc := m.pw.rc, rcUsed := m.pw.rcUsed, xtalTry := m.pw.xtalTry, xtalFirst := m.pw.xtalFirst,
      below := m.pw.below, low := m.pw.low, good := m.pw.good, alarmAt := m.pw.alarmAt, deferred := m.pw.deferred,
      refused := m.pw.refused } }

/-- Everything but the non-volatile stores, the levels outside and the free-value counter returns to its reset value
(R97, R577). -/
def Chip.allLost (m : Chip) : Chip :=
  let m := m.storesCut
  { Chip.reset with
    regs := Bank.keepIf m.regs nvKey, free := m.free, hd := m.hd
    phrase := { isOpen := m.phrase.isOpen, since := 0, index := 0 }
    st := { Stores.reset with pages := m.st.pages }
    pins := { Pins.reset with level := m.pins.level, paper := m.pins.level } }

/-! ## The pin image -/

/-- Word i of the pin image of the generation in force, 0 where none is (R555, "OTP pin image"). -/
def Chip.imageWord (m : Chip) (i : Nat) : Word := if m.st.gen < 4 then m.rd spOtp (0x4A0 + 0x200 * m.st.gen + i) else 0

/-- A host write of word i of pin n with this value would not be discarded. -/
def imageOk (n i : Nat) (v : Word) : Bool :=
  match i with
  | 0 => fselOk n (fld v 0 3)
  | 1 => fld v 12 2 != 3
  | _ => decide (fld v 0 3 < 6)

/-- The bits of words 0 PCFG, 1 PAD and 2 SLP that exist. -/
def pinMask (i : Nat) : Word :=
  match i with
  | 0 => 0x8077
  | 1 => 0xFEF0
  | _ => 0x0037

/-- The value that the image gives word i of pin n: 0 where a host write of it would be discarded (R555). -/
def Chip.imagePin (m : Chip) (n i : Nat) : Word :=
  let v := m.imageWord (4 * n + i)
  if imageOk n i v then v &&& pinMask i else 0

/-- Some word of the image is one that a host write would discard. -/
def Chip.imageBad (m : Chip) : Bool :=
  (List.range 32).any (fun n => (List.range 3).any (fun i => !imageOk n i (m.imageWord (4 * n + i))))

/-- The AON copy of SLP takes the image (R552, R555). -/
def Chip.imageSlp (m : Chip) : Chip :=
  { m with pins := { m.pins with slp := (List.range 32).map (fun n => m.imagePin n 2) } }

/-- PCFG, PAD, SLP, their AON copy and OUT take the image; PINERR.CFG tells of a bad word (R552, R555). -/
def Chip.loadImage (m : Chip) : Chip :=
  let m := (List.range 32).foldl (fun m n =>
    (List.range 3).foldl (fun m i => m.wr spPin (pinOff n i) (m.imagePin n i)) m) m
  let m := if m.imageBad then m.orBits spPin 0x8A 0x0001 else m
  let o := (m.imageWord 0x80).setWidth 32 ||| (m.imageWord 0x81).setWidth 32 <<< 16
  (Chip.imageSlp { m with pins := { m.pins with out := o } }).noteDup (fun _ => true)

/-! ## The working tables -/

/-- A trim target of the column field. -/
def targetKey (k : Nat) : Bool :=
  decide (key spCal 0x1000 ≤ k) && decide (k < key spCal 0x1F30) && decide (k % 8 < 3)

/-- Every applied trim stands at its target, those of the HKC slices at their words (R82). -/
def Chip.applyTargets (m : Chip) : Chip :=
  let ts := (m.regs.filter (fun c => targetKey c.1)).map (fun c => (c.1 + 4, c.2))
  let m := { m with regs := Bank.putAll m.regs ts }
  { m with hkc := { m.hkc with applied := (List.range 6).map (fun i => (m.rd spHkc (0x300 + i)).setWidth 8) } }

/-- Byte b of the OTP. -/
def Chip.otpByte (m : Chip) (b : Nat) : Nat := (m.rd spOtp (b / 2)).toNat / 256 ^ (b % 2) % 256

/-- The four trims of slice p of group g from their 24 bits of the factory area ("OTP map"). -/
def Chip.factorySlice (m : Chip) (g p : Nat) : Chip :=
  let b := 0x10 + 3 * (3 * g + p)
  let v := m.otpByte b + 0x100 * m.otpByte (b + 1) + 0x10000 * m.otpByte (b + 2)
  if v = 0 then m
  else
    (((m.setTrim g p 0 0 (v % 64 : Nat)).setTrim g p 1 0 (sext (v / 64) 5)).setTrim g p 2 0 (sext (v / 2048) 6)).setTrim g p 3 0
      (16 * sext (v / 0x20000) 7)

/-- The factory values go to the working tables (R341); where the factory area failed its CRC the reset words are the
nominal values of R578. -/
def Chip.factoryLoad (m : Chip) : Chip :=
  if m.st.factBad then m
  else
    let m := (List.range 162).foldl (fun m g => (List.range 3).foldl (fun m p => m.factorySlice g p) m) m
    let m := m.wrList spHkc 0x200 ((List.range 32).map (fun i => m.rd spOtp (0x300 + i)))
    let m := m.wrList spHkc 0x300 ((List.range 6).map (fun i => wd (m.otpByte (0x640 + i))))
    m.wrList spCal 4 [m.rd spOtp 0x324 &&& 0x0FFF, m.rd spOtp 0x325 &&& 0x0FFF]

/-- A word that every wake from SLEEP reloads: REFREC, the defect additions and the flat-field profiles. -/
def reloadKey (k : Nat) : Bool :=
  (decide (key spCal 0x40 ≤ k) && decide (k < key spCal 0x64)) || (decide (key spCal 0x2000 ≤ k) && decide (k < key (spCal + 1) 0))

/-- Step 7 of "Wake from SLEEP" and R341: the slot in force gives the whole set, or after a restore only what the keep
store does not hold; BOOTSTAT.CAL names the source (R581). -/
def Chip.tablesLoad (m : Chip) (whole : Bool) : Chip :=
  let m := if whole then m.factoryLoad else m
  let m := match m.slotInForce with
    | some s =>
      Chip.bootField { m with regs := Bank.putAll m.regs ((m.setWordsOf s).filter (fun w => whole || reloadKey w.1)) } 4 2 1
    | none => m.bootField 4 2 2
  m.applyTargets.calForce

/-! ## The keep store -/

/-- A word that the keep store holds ("Keep store contents"). -/
def keepKey (k : Nat) : Bool :=
  let o := k % 0x1000000
  let within := fun (lo hi : Nat) => decide (lo ≤ o) && decide (o < hi)
  match k / 0x1000000 with
  | 0x00 => o == 0x15 || o == 0x16 || o == 0x38 || o == 0x3B || o == 0x3C
  | 0x01 => within 0 0x1000
  | 0x03 => within 8 0xC || within 0x100 0x300
  | 0x04 => o == 0 || (within 0x100 0x180 && o % 16 != 6) || within 0x200 0x220 || within 0x300 0x306
  | 0x05 => within 0 7 || within 0x100 0x1A2 || within 0x300 0x3A2 || (within 0x1000 0x1F30 && decide (o % 8 < 3))
  | 0x08 => o == 0x10 || within 0x100 0x300 || within 0x400 0x600
  | 0x0A => o == 0 || (within 0x100 0x180 && decide (o % 16 < 4)) || (within 0x200 0x240 && o % 16 == 0)
  | 0x0B => within 0x0C 0x14
  | 0x0C => (within 0 0xC0 && decide (o % 0x40 < 4)) || within 0x100 0x180
  | 0x0D => (within 0 0xC0 && (decide (o % 0x40 < 6) || (decide (0x10 ≤ o % 0x40) && decide (o % 0x40 < 0x20)))) || within 0xA0 0xA8 || within 0xB0 0xB9
  | 0x0E => within 0 0x80 || o == 0x8A || o == 0x8B
  | 0x0F => o == 0 || (within 0x100 0x200 && decide (o % 32 < 10))
  | 0x12 => o == 1 || within 0x10 0x18
  | _ => false

/-- The saved state that is not in the word store: OUT, the first-capture marks of the timers, Marl's rotation place, the regulated and the present ISET code of each channel, the retired lanes with their causes, the held MATCH
words. -/
def Chip.keepSmall (m : Chip) : List Nat :=
  [m.pins.out.toNat, 0, m.tb.rose.toNat, m.cal.from_] ++ (List.range 8).map (fun c => (m.chan c).reg.toNat) ++
    (List.range 8).map (fun c => (m.chan c).dac.toNat) ++
    (List.range 4).map (fun n => 8 * b2n ((m.lane n).st == .retired) + (m.lane n).cause) ++
    (List.range 48).map (fun i => (m.rdHeld spTmr (cmpOff (i / 3) (i % 3))).toNat)

/-- The save of SLEEP entry (R81). -/
def Chip.keepSave (m : Chip) : Chip := { m with keep := .saved (Bank.keepIf m.regs keepKey) m.keepSmall }

/-- A context that is bound to program RAM is disarmed (R84). -/
def Chip.disarmRam (m : Chip) : Chip :=
  (List.range 16).foldl (fun m k => if tst (m.rd spCtx (0x100 * k + 2)) 15 then m else m.setArmed k false) m

/-- The restore of a valid keep store (R81, R82, R84). -/
def Chip.keepRestore (m : Chip) (words : Bank) (small : List Nat) : Chip :=
  let m := { m with regs := Bank.putAll m.regs words }
  let at_ := nth small
  let m := { m with
    pins := { m.pins with out := BitVec.ofNat 32 (at_ 0) }
    tb := { m.tb with rose := BitVec.ofNat 8 (at_ 2) }
    cal := { m.cal with from_ := at_ 3 }
    chans := (List.range 8).map (fun c =>
      { Channel.reset with reg := BitVec.ofNat 10 (at_ (4 + c)), dac := BitVec.ofNat 10 (at_ (12 + c)),
                           act := tst (m.rd spIllum (chanOff c 4)) 15 })
    link := { m.link with lanes := (List.range 4).map (fun n =>
      { Lane.reset with st := if at_ (20 + n) / 8 = 1 then .retired else .off, cause := at_ (20 + n) % 8 }) } }
  ((List.range 48).foldl (fun m i => m.wrHeld spTmr (cmpOff (i / 3) (i % 3)) (wd (at_ (24 + i)))) m).disarmRam

/-! ## The boot reader -/

/-- The factory area fails its CRC (R578). -/
def Chip.factoryBad (m : Chip) : Bool := m.rd32 spOtp 0x3FE != (crc32 (m.otpBytes 0 0x3FE)).toNat

/-- The boot reader has finished (R403, R405, R555, R576, R582): the generation in force with its strap options, FACTCRC, after a
power-on reset the AON copy of SLP. -/
def Chip.bootDone (m : Chip) : Chip :=
  let m := { m with st := { m.st with gen := m.bootGen, factBad := m.factoryBad }, pw := { m.pw with ready := true } }
  let m := ((m.bootField 8 3 m.st.gen).bootField 11 1 (b2n m.st.factBad)).strapOptions
  if m.keep = .empty then m.imageSlp else m

/-! ## What AON held -/

/-- Insert a fault record after those of an equal or lower code (R564). -/
def insertCode (x : Nat × List Byte) : List (Nat × List Byte) → List (Nat × List Byte)
  | [] => [x]
  | y :: r => if x.1 < y.1 then x :: y :: r else y :: insertCode x r

/-- The event causes, fault records and the refused write that AON held are raised and written (R59, R103, R561, R567). -/
def Chip.deferredOut (m : Chip) : Chip :=
  let d := m.pw.deferred
  let r := m.pw.refused
  let m := { m with pw := { m.pw with deferred := ⟨0, []⟩, refused := none } }
  let m := (m.orBits 0 0x13 (half d.events false)).orBits 0 0x14 (half d.events true)
  let locked := match r with
    | some (a, v) => [(0x01, [0] ++ bytesN a 3 ++ bytes2 v ++ [0, 0, 0])]
    | none => []
  let m := ((d.faults ++ locked).foldl (fun l x => insertCode x l) []).foldl (fun m x => m.writeRecord x.1 x.2 true) m
  m.raiseIf r.isSome evLockViolation

/-! ## A wake from SLEEP -/

/-- The units whose enable bits were kept are active again: the HKC, the streams, the mover channels. -/
def Chip.unitsStart (m : Chip) : Chip :=
  let h := m.rd spHkc 0
  { m with
    hkc := { m.hkc with act := tst h 15, background := tst h 8, spareFrom := m.now }
    streams := (List.range 8).map (fun s => { m.stream s with act := m.streamEn s })
    movers := (List.range 4).map (fun c => { m.mover c with act := tst (m.rd spPool (moverOff c 0)) 15 }) }

/-- The stores start: after a reset the erase counts and the last slot, after a power-on reset the ledger's base (R381,
R386, R397). -/
def Chip.storesStart (m : Chip) (reset por : Bool) : Chip :=
  let m := if reset then { m with st := { m.st with ecnt := m.bootEcnt, lastSlot := m.bootLastSlot } } else m
  if por then m.ledgerBoot else m

/-- The keep-store step of a wake (R81, R83, R580): a valid save is restored, else KSFAIL is set and the pins take the
image. The Bool says that a save was restored. -/
def Chip.keepStep (m : Chip) : Chip × Bool :=
  match m.keep with
  | .saved w l => ((m.keepRestore w l).bootField 6 2 1, true)
  | k =>
    let m := { m with keep := .corrupt, pw := { m.pw with phase := none } }
    (((m.loadImage).orBits 0 0x03 0x0800).bootField 6 2 (if k = .empty then 2 else 3), false)

/-- What a wake from SLEEP does up to the start of its target domains ("Wake from SLEEP", R104, R580, R581). -/
def Chip.wakeCore (m : Chip) : Chip :=
  let first := m.pw.noMakeup
  let por := decide (m.keep = .empty)
  let m := { m with pw := { m.pw with core := true, pipe := true, link := true, noMakeup := false } }
  let k := m.keepStep
  let m := (k.1.strapOptions).tablesLoad (!k.2)
  let m := ((m.unitsStart).sealRestore).storesStart first por
  let m := m.stbResume true
  let m := { m with pins := { m.pins with asleep := false } }
  let m := (m.deferredOut).bootField 12 4 3
  let m := m.storesNext
  m.linkWake

end Sys2Proof.Machine
end

