-- ==== Sys2Proof/Machine/Power.lean ====
section
/-! DEFINITION. Power modes and their sequences (R62-R75), the wake phrase (R76-R80), the AON clock and the PLLs
(R86-R92), supply supervision (R93-R96), the resets (R97, R98, R576, R577), and the registers that show them. -/

namespace Sys2Proof.Machine

/-! ## Registers -/

/-- The code of a mode in PWRCTL and PWRSTAT. -/
def Mode.code : Mode → Nat
  | .run => 0
  | .idle => 1
  | .doze => 2
  | .sleep => 3

/-- The mode of a code below 4. -/
def modeOf (n : Nat) : Mode := if n = 0 then .run else if n = 1 then .idle else if n = 2 then .doze else .sleep

/-- PWRSTAT: DOMON, RCCLK, BUSY and CUR are live. A domain shows in DOMON up to the first step of its power-down (R37). -/
def Chip.readPwrstat (m : Chip) : Word :=
  let on := fun (b : Bool) => b2n (b && !m.entering)
  (m.rd 0 0x03 &&& 0x0D10) ||| wd (0x1000 * on m.pw.core + 0x2000 * b2n m.pw.array + 0x4000 * on m.pw.pipe +
    0x8000 * on m.pw.link + 0x0200 * b2n m.pw.rc + 8 * b2n (m.pw.sq.isSome || m.pw.target != m.pw.cur) + m.pw.cur.code)

/-- SYSSTAT: everything but PIXFMON is live. -/
def Chip.readSysstat (m : Chip) : Word :=
  (m.rd 0 0x11 &&& 0x0020) ||| wd (0x10 * b2n m.pw.link + 8 * b2n m.pw.pixPend + 4 * b2n m.pw.pixFb +
    2 * b2n (m.pw.array && !m.pw.pixFb) + 1)

/-! ## Supplies -/

/-- A domain fed by supply r is powered (R93): 0 VDDD feeds CORE, ARRAY and PIPE, 1 VDDA feeds CORE and ARRAY, 2 VDDPIX
feeds ARRAY, 3 VDDLNK feeds LINK. In DOZE the domains keep their power; a wake powers them from its start, and ARRAY's
switch is closed from the start of IDLE to RUN on. -/
def Chip.fed (m : Chip) (r : Nat) : Bool :=
  if r = 2 then m.pw.array || m.pw.sq == some .idleRun || (m.waking && m.pw.bound == .run)
  else m.pw.core || m.pw.cur == .doze || m.waking

/-- The supplies of the domains that a move to a mode powers, as a mask in SUPSTAT order. -/
def Chip.needs (m : Chip) (bound : Mode) : BitVec 4 :=
  (if bound = .run then 0b0111 else 0) ||| (if m.pw.cur = .sleep then 0b1011 else 0)

/-- WARN bits of supplies without a monitor that is active read 0. -/
def Chip.warnTrim (m : Chip) : Chip :=
  (List.range 4).foldl (fun m r => if m.fed r then m else m.clrBits 0 0x06 (bitW r)) m

/-! ## Wake sources -/

/-- Rank of a source within one AON tick (R74): HOST, PHRASE, ALARM, GP0 to GP7. -/
def sourceRank (n : Nat) : Nat := if n = 10 then 0 else if n = 8 then 1 else if n = 9 then 2 else 3 + n

/-- The device is in DOZE or SLEEP, or enters one, or wakes and has not reached its target mode: the sources count (R73,
R74). -/
def Chip.sourcesCount (m : Chip) : Bool := m.pw.cur == .doze || m.pw.cur == .sleep || m.entering || m.pw.wake

/-- A wake sequence runs, its last part to RUN included. -/
def Chip.inWake (m : Chip) : Bool := m.waking || (m.pw.sq == some .idleRun && m.pw.wake)

/-- PWRCTL.WAKEMODE. -/
def Chip.wakeTarget (m : Chip) : Mode := if tst (m.rd 0 0x02) 4 then .idle else .run

/-- Source n fires: codes 0-7 GPn, 8 PHRASE, 9 ALARM, 10 HOST (R73, R74). -/
def Chip.wakeFire (m : Chip) (n : Nat) : Chip :=
  if m.sourcesCount then
    let first := !m.pw.wake || (m.pw.firstAt == m.tb.aon && decide (sourceRank n < sourceRank (fld (m.rd 0 0x04) 12 4)))
    let m := m.orBits 0 0x04 (bitW n)
    let m := if first then m.wr 0 0x04 (setFld (m.rd 0 0x04) 12 4 n) else m
    let at_ := if m.pw.wake then m.pw.firstAt else m.tb.aon
    { m with pw := { m.pw with wake := true, firstAt := at_, target := if m.inWake then m.pw.target else m.wakeTarget } }
  else m

/-- The level that the wake detector sees at GPn: the driven level of a pin that its sleep state drives (R554). -/
def Chip.wakeLevel (m : Chip) (n : Nat) : Bool :=
  if m.pins.asleep then (m.sleepDrive n).getD (m.pins.level.getLsbD n) else m.drives n

/-- Enabled level-sensitive pins that are active as an entry ends fire at once (R75). -/
def Chip.levelWakes (m : Chip) : Chip :=
  (List.range 8).foldl (fun m n =>
    let mode := fld (m.pins.slp.getD n 0) 4 2
    if tst (m.rd 0 0x05) n && ((mode == 2 && m.wakeLevel n) || (mode == 3 && !m.wakeLevel n)) then m.wakeFire n else m) m

/-! ## Sequences -/

/-- Enter a sequence. -/
def Chip.setSeq (m : Chip) (q : Option Seq) : Chip := { m with pw := { m.pw with sq := q } }

/-- The stores have an operation in progress that an entry waits for (R70, R383). -/
def Chip.storesBusy (m : Chip) : Bool := m.nvmBusy || m.st.flush.isSome

/-- The PIX PLL starts: it takes PIXN (R90). -/
def Chip.pixStart (m : Chip) : Chip :=
  { m with pw := { m.pw with pixN := fld (m.rd 0 0x10) 0 8, pixPend := false, pixFb := false } }

/-- RUN to IDLE begins once no capture runs (R66, "RUN to IDLE"): strobes low, ISET outputs at 0 V, nodes drained, column
groups and Marl's visit off; a WHITE run fails (R372). ARRAY's switch opens at the end of the sequence. -/
def Chip.runIdleNow (m : Chip) : Chip :=
  let m := (m.strobesLow).drainNodes
  let m := match m.cal.group with
    | some g => m.marlLeave g
    | none => m
  let m := (m.cal.hist.map (·.group)).foldl (fun m g => m.clearHist g) m
  let m := match m.cal.run with
    | .white _ _ _ _ => m.runEnd false
    | _ => m
  { m with pw := { m.pw with sq := some .runIdle, isetOn := false } }

/-- RUN to IDLE ends: the PIX PLL is off and ARRAY's switch open. -/
def Chip.runIdleEnd (m : Chip) : Chip :=
  Chip.bootField (Chip.warnTrim
    { m with pw := { m.pw with cur := .idle, sq := none, array := false, pixFb := false, pixPend := false } }) 12 4 4

/-- The device is to leave RUN: a halted capture is aborted (R266), a running one is waited for (R66). -/
def Chip.leaveRun (m : Chip) : Chip :=
  let m := if m.loam.halted then m.abortCapture else m
  if m.cc.cap.isSome then m.setSeq (some .runIdleWait) else m.runIdleNow

/-- IDLE to DOZE begins: staged masks, camera frames and the ports' blocks go (R313, R464, R548, R610). -/
def Chip.dozeEntry (m : Chip) : Chip :=
  let m := if m.anyStaged then (m.dropStaged).orBits spPin 0x8A 0x0004 else m
  ((m.camsSleep).wavesSleep).setSeq (some .idleDoze)

/-- The clocks of CORE, PIPE and LINK are restored with the STB made up (R107). -/
def Chip.clocksBack (m : Chip) : Chip :=
  let m := { m with pw := { m.pw with core := true, pipe := true, link := true } }
  let m := m.stbResume false
  let m := { m with
    hkc := { m.hkc with spareOn := false, shadowB := false, spareFrom := m.now, turn := 0, windows := Hkc.reset.windows } }
  m.linkWake

/-- The pool holds no record and no packet is in flight. -/
def Chip.poolEmpty (m : Chip) : Bool :=
  m.streams.all (fun t => t.recs.isEmpty && t.held.isEmpty) && m.link.flight.isNone

/-- What the SLEEP entry has not sent is discarded (R69). -/
def Chip.drainGiveUp (m : Chip) : Chip :=
  let m := { m with pw := { m.pw with drained := true } }
  if m.poolEmpty then m
  else
    Chip.orBits { m with
      streams := m.streams.map (fun (t : Stream) => { t with recs := [], bufs := [], held := [], frames := [] })
      link := { m.link with flight := none } } 0 0x03 0x0100

/-- Held triggers are dropped at SLEEP entry, each counted; TRIG_OVERRUN waits for the next wake (R68). -/
def Chip.dropHeldTriggers (m : Chip) : Chip :=
  if m.cc.heldTrig.isEmpty then m
  else
    let m := m.cc.heldTrig.foldl (fun m k => m.bump spCtx (0x100 * k.val + 9) 1) m
    let d := m.pw.deferred
    { m with cc := { m.cc with heldTrig := [] }
             pw := { m.pw with deferred := { d with events := d.events ||| BitVec.ofNat 32 (2 ^ evTrigOverrun) } } }

/-- DOZE to SLEEP begins: clocks restored; with DRAINTMO 0 the pool is not waited for (R68, R69). -/
def Chip.sleepEntry (m : Chip) : Chip :=
  let m := ((m.clocksBack).dropHeldTriggers).setSeq (some .dozeSleep)
  let m := { m with pw := { m.pw with drained := false, drainFrom := m.now } }
  if fld (m.rd 0 0x02) 8 8 = 0 then m.drainGiveUp else m

/-- A wake begins, bound for RUN or IDLE; a supply of a domain to be powered that is below its reset level resets the
device (R575). The domains do their part at the end of the sequence (R37). -/
def Chip.wakeStart (m : Chip) (bound : Mode) : Chip :=
  let low := m.pw.below &&& m.needs bound
  if low ≠ 0 then m.sysReset 1 low.toNat
  else
    Chip.bootField { m with pw := { m.pw with
      bound := bound, sq := if m.pw.cur = .sleep then some .wakeSleep else some .wakeDoze } } 12 4 2

/-- IDLE to RUN begins: ARRAY's switch closes and the PIX PLL starts ("Wake from DOZE, and IDLE to RUN", step 3). -/
def Chip.runStartSeq (m : Chip) : Chip :=
  let low := m.pw.below &&& m.needs .run
  if low ≠ 0 then m.sysReset 1 low.toNat else (m.pixStart).setSeq (some .idleRun)

/-- Between sequences the device moves to the newest requested mode, or wakes (R62, R64). DOZE entry waits for an operation
of the stores (R70, R383) and for a held window write (R38); nothing wakes before the boot reader is done. -/
def Chip.modeGo (m : Chip) : Chip :=
  if m.pw.sq.isSome || !m.pw.ready then m
  else
    match m.pw.cur with
    | .run => if m.pw.target = .run then m else m.leaveRun
    | .idle =>
      if m.pw.target = .run then m.runStartSeq
      else if m.pw.target = .idle || m.storesBusy || m.win.heldWrite.isSome then m
      else m.dozeEntry
    | .doze =>
      if m.pw.target = .run || m.pw.target = .idle then m.wakeStart m.pw.target
      else if m.pw.wake then m.wakeStart m.wakeTarget
      else if m.pw.target = .sleep then m.sleepEntry
      else m
    | .sleep =>
      if m.pw.target = .run || m.pw.target = .idle then m.wakeStart m.pw.target
      else if m.pw.wake then m.wakeStart m.wakeTarget
      else if m.pw.target = .doze then m.wakeStart .idle
      else m

/-- The conditions that the end of the present sequence waits for. -/
def Chip.seqReady (m : Chip) : Bool :=
  match m.pw.sq with
  | none => false
  | some .runIdleWait => false
  | some .idleDoze => m.hkc.conv.isEmpty && m.st.otp.isNone && m.link.flight.isNone && !m.storesBusy
  | some .dozeSleep => m.hkc.conv.isEmpty && m.st.otp.isNone && !m.storesBusy && (m.poolEmpty || m.pw.drained)
  | some _ => true

/-- The record step of an entry (R106, R109). -/
def Chip.phaseRecord (m : Chip) : Chip :=
  { m with pw := { m.pw with phase := some (m.now, m.tb.aon, m.aonPhase), rcUsed := m.pw.rc } }

/-- DOZE is reached: held conversions are cancelled, the lanes are off, the clocks stop and SYNC_OUT is low (R222, R503, "IDLE
to DOZE"). -/
def Chip.dozeReached (m : Chip) : Chip :=
  let m := ((m.cancelRequests).phaseRecord).linkSleep
  let m := { m with pw := { m.pw with core := false, pipe := false, link := false, cur := .doze, sq := none },
                    tb := { m.tb with syncOut := none } }
  (m.bootField 12 4 6).levelWakes

/-- SLEEP is reached: keep store saved, pins in their sleep states, phase recorded, power off; the STB holds S_e ("DOZE to
SLEEP", R81, R106, R551). -/
def Chip.sleepReached (m : Chip) : Chip :=
  let m := (((m.dropHeldTriggers).keepSave).pinsDown).phaseRecord
  let held := m.now
  let m := ((m.ledger 6 1).coreLoss).strapOptions
  let m := { m with pw := { m.pw with cur := .sleep, sq := none }, tb := { m.tb with stb := held } }
  ((m.bootField 12 4 6).warnTrim).levelWakes

/-- The clocked domains of a wake answer: from SLEEP with the keep store restored, from DOZE with the clocks restored; what AON
held is raised, the stores learn of supplies that became good, the camera and waveform ports restart (R37, R95, R313, R464,
R561). -/
def Chip.domainsUp (m : Chip) : Chip :=
  let m := if m.pw.sq = some .wakeSleep then m.wakeCore
    else
      let m := (m.clocksBack).deferredOut
      m.storesNext
  let m := if m.pw.goodHeld then Chip.storesGood { m with pw := { m.pw with goodHeld := false } } else m
  (m.camsStart).wavesStart

/-- The first part of a wake ends: IDLE is reached, or the way to RUN goes on with ARRAY, from DOZE through IDLE (R62, R71,
R575). -/
def Chip.wakeEnd (m : Chip) : Chip :=
  let m := m.domainsUp
  if m.pw.bound = .run then
    let cur : Mode := if m.pw.cur = .sleep then .sleep else .idle
    Chip.bootField (Chip.pixStart { m with pw := { m.pw with sq := some .idleRun, cur := cur } }) 12 4
      (if m.pw.cur = .sleep then 3 else 4)
  else Chip.bootField { m with pw := { m.pw with cur := .idle, sq := none, wake := false } } 12 4 4

/-- RUN is reached: ARRAY runs and the ISET outputs carry their codes again (R196). -/
def Chip.upReached (m : Chip) : Chip :=
  Chip.bootField { m with pw := { m.pw with cur := .run, sq := none, wake := false, array := true, isetOn := true } } 12 4 5

/-- A sequence ends (R64). -/
def Chip.seqEnd (m : Chip) : Chip :=
  match m.pw.sq with
  | none => m
  | some .runIdleWait => m
  | some .runIdle => m.runIdleEnd
  | some .idleDoze => m.dozeReached
  | some .dozeSleep => m.sleepReached
  | some .idleRun => m.upReached
  | some _ => m.wakeEnd

/-! ## Requests -/

/-- A request for a mode, as a PWRCTL write makes it (R62, R65). One that leaves RUN aborts a capture that is halted, also
where an earlier request already waits for it (R266). -/
def Chip.requestMode (m : Chip) (goal : Mode) : Chip :=
  let m := if goal = .run || goal = .idle then m.wakeFire 10 else m
  let m := if goal ≠ .run then m.mapCap (fun c => { c with left := true }) else m
  let m := if goal ≠ .run && m.pw.sq == some .runIdleWait && m.loam.halted then m.abortCapture else m
  Chip.modeGo { m with pw := { m.pw with target := goal } }

/-- A PWRCTL write (R62, R63, R65, R67, R98): AUTORUN that is set while a trigger is held asks for RUN. -/
def Chip.writePwrctl (m : Chip) (v : Word) : Chip :=
  if 4 ≤ fld v 0 3 then m
  else if tst v 7 then m.sysReset 2 0
  else
    let was := tst (m.rd 0 0x02) 6
    let m := (m.plainWrite 0 0x02 v).requestMode (modeOf (fld v 0 3))
    if !was && tst v 6 && !m.cc.heldTrig.isEmpty then m.autorun else m

/-- The request that AUTORUN has made is carried out as a write of PWRCTL.MODE with RUN (R67). -/
def Chip.autoGo (m : Chip) : Chip :=
  if m.pw.auto then Chip.requestMode { m with pw := { m.pw with auto := false } } .run else m

/-- A refused write of an AON register: recorded now, or held in AON while CORE is off (R59, R102, R103). -/
def Chip.refuseAon (m : Chip) (a : Nat) (v : Word) : Chip :=
  if m.pw.core && !m.entering then m.lockViolation 0 a v 0 false
  else if m.pw.refused.isSome then m
  else { m with pw := { m.pw with refused := some (a, v) } }

/-- A WAKEEN write (R102). -/
def Chip.writeWakeen (m : Chip) (v : Word) : Chip :=
  if tst (m.rd 0 0x0F) 1 then m.refuseAon 0x05 v else m.plainWrite 0 0x05 v

/-! ## The wake phrase -/

/-- OTP word i of the phrase of the generation in force ("Generation layout"), 0 where none is. -/
def Chip.otpPhrase (m : Chip) (i : Nat) : Word := if m.st.gen < 4 then m.rd spOtp (0x40C + 0x200 * m.st.gen + i) else 0

/-- WPHRASE as it reads: TOL and COUNT of the phrase in force (R76, "WPHRASE"). -/
def Chip.phraseWord (m : Chip) : Word :=
  let w := m.rd 0 0x0C
  if tst w 14 then w else (m.otpPhrase 0 &&& 0x0F1F) ||| 0x8000

/-- DUR of element k of the phrase in force. -/
def Chip.phraseDur (m : Chip) (k : Nat) : Nat :=
  fld (if tst (m.rd 0 0x0C) 14 then m.rd 0 (0x40 + k) else m.otpPhrase (1 + k)) 0 8

/-- A WPHRASE write (R76, R79, R102). A write that is refused or discarded changes nothing and does not restart the matcher
(DEDUCED, log entry 31). -/
def Chip.writeWphrase (m : Chip) (v : Word) : Chip :=
  if tst (m.rd 0 0x0F) 0 then m.refuseAon 0x0C v
  else if tst v 15 then
    let n := fld v 0 5
    if n = 1 ∨ 16 < n then m
    else Chip.wr { m with phrase := { m.phrase with index := 0 } } 0 0x0C ((v &&& 0x4F1F) ||| 0x8000)
  else Chip.wr { m with phrase := { m.phrase with index := 0 } } 0 (0x40 + fld v 8 4) (v &&& 0x00FF)

/-- The interval of length L fits element k (R77). -/
def Chip.phraseFits (m : Chip) (k len : Nat) : Bool :=
  let tol := fld m.phraseWord 8 4
  decide (m.phraseDur k ≤ len + tol) && decide (len ≤ m.phraseDur k + tol)

/-- The phrase completes (R73, R78, R80). -/
def Chip.phraseDone (m : Chip) : Chip :=
  let m := { m with phrase := { m.phrase with index := 0 } }
  if m.sourcesCount && !m.inWake then (if tst (m.rd 0 0x05) 8 then (m.wakeFire 8).modeGo else m)
  else m.orBits 0 0x04 0x0800

/-- An interval has ended: it is judged against the next element (R77-R79). -/
def Chip.phraseJudge (m : Chip) (burst : Bool) (len : Nat) : Chip :=
  let count := fld m.phraseWord 0 5
  let k := m.phrase.index
  let setK := fun (i : Nat) => { m with phrase := { m.phrase with index := i } }
  if count = 0 then setK 0
  else if burst then
    if k % 2 = 0 ∧ m.phraseFits k len = true then (if k + 1 = count then m.phraseDone else setK (k + 1))
    else setK (b2n (m.phraseFits 0 len))
  else if k % 2 = 0 then m
  else if k + 1 = count then
    (if m.phraseDur k ≤ len + fld m.phraseWord 8 4 then m.phraseDone else setK 0)
  else setK (if m.phraseFits k len then k + 1 else 0)

/-- The squelch opens or closes (R77). -/
def Chip.squelch (m : Chip) (isOpen : Bool) : Chip :=
  let len := (m.tb.aon - m.phrase.since).toNat
  let was := m.phrase.isOpen
  let m := { m with phrase := { m.phrase with isOpen := isOpen, since := m.tb.aon } }
  m.phraseJudge was len

/-- A final quiet has lasted DUR - TOL ticks (R78). -/
def Chip.quietDue (m : Chip) : Bool :=
  let k := m.phrase.index
  !m.phrase.isOpen && k % 2 == 1 && k + 1 == fld m.phraseWord 0 5 &&
    decide (m.phraseDur k ≤ (m.tb.aon - m.phrase.since).toNat + fld m.phraseWord 8 4)

/-! ## Clocks -/

/-- A new PIXN: it waits for the capture, relocks the PIX PLL, or is taken when the PLL starts (R90, R91). A Continuous capture
is waited for to its end, not to the end of its present frame (DESIGN CHOICE, log entry 81). -/
def Chip.pixChange (m : Chip) : Chip :=
  let n := fld (m.rd 0 0x10) 0 8
  if n = m.pw.pixN ∨ (!m.pw.array && m.pw.sq != some .idleRun) then { m with pw := { m.pw with pixPend := false } }
  else if m.cc.cap.isSome then { m with pw := { m.pw with pixPend := true } }
  else { m with pw := { m.pw with pixN := n, pixPend := false, pixFb := true } }

/-- A SYSCTL write (R87, R89, R90); a retry written during the trial that follows a power-on reset leaves that trial as it is
(R86). -/
def Chip.writeSysctl (m : Chip) (v : Word) : Chip :=
  if fld v 0 8 < 40 ∨ 128 < fld v 0 8 then m
  else
    let m := m.plainWrite 0 0x10 v
    let m := if tst v 8 && m.pw.rc then { m with pw := { m.pw with xtalTry := true, xtalFirst := m.pw.xtalFirst && m.pw.xtalTry } } else m
    m.pixChange

/-- RCCLK rises (R86, R87, R569): XTALFAIL and an XTAL record with its cause. -/
def Chip.xtalFail (m : Chip) (cause : Nat) : Chip :=
  let m := { m with pw := { m.pw with rc := true, rcUsed := true, xtalTry := false, xtalFirst := false } }
  (m.orBits 0 0x03 0x0400).fault 0x11 [BitVec.ofNat 8 cause]

/-- The frequency monitor forces the fallback (R92). -/
def Chip.pixTrip (m : Chip) (kHz : Nat) : Chip :=
  let m := { m with pw := { m.pw with pixFb := true } }
  (m.orBits 0 0x11 0x0020).fault 0x10 ([BitVec.ofNat 8 m.pw.pixN, 0] ++ bytesN kHz 4)

/-! ## Supply warnings -/

/-- Supply r falls below its warning level (R93, R94). -/
def Chip.supplyWarn (m : Chip) (r : Nat) : Chip :=
  let m := { m with pw := { m.pw with low := m.pw.low ||| BitVec.ofNat 4 (2 ^ r), good := upd m.pw.good r (fun _ => 0) } }
  let m := ((m.orBits 0 0x06 (bitW r ||| bitW (4 + r))).raise evSupplyWarn).ledger 5 1
  if m.pw.core then
    let m := if m.cc.cap.isSome then (m.mapCap (fun c => { c with supply := true })).orBits 0 0x2B 0x2000 else m
    let m := { m with streams := m.streams.map (fun (t : Stream) =>
      { t with frames := t.frames.map (fun (f : Frame) => { f with flags := f.flags ||| flSupply }) }) }
    (m.storesWarn.marlWarn).modeGo
  else m

/-- Supply r falls below its reset level (R96); without an active monitor it only stands low (R575). -/
def Chip.supplyReset (m : Chip) (r : Nat) : Chip :=
  let on := m.fed r
  let m := { m with pw := { m.pw with below := m.pw.below ||| BitVec.ofNat 4 (2 ^ r) } }
  if on then m.sysReset 1 (2 ^ r) else m

/-! ## Commands: modes -/

/-- MODE_REQUEST: a PWRCTL write (R62-R66). -/
def execModeRequest (v : Word) (s : State) : Host.Outcome State Fault Refusal := hostWrite s 0 0x02 (·.writePwrctl v)

/-- RUN_TO_IDLE_ENTRY: the capture that RUN waited for has ended (R66); a RUN request in the meantime stays in RUN. -/
def execRunToIdleEntry (s : State) : Host.Outcome State Fault Refusal :=
  let m := s.chip
  guarded s (m.pw.sq == some .runIdleWait && m.cc.cap.isNone)
    (if m.pw.target = .run then m.setSeq none else m.runIdleNow)

/-- MODE_SEQUENCE_END (R64). -/
def execModeSequenceEnd (s : State) : Host.Outcome State Fault Refusal := guarded s s.chip.seqReady s.chip.seqEnd.modeGo

/-- The drain of the SLEEP entry has lasted DRAINTMO milliseconds (R69). -/
def Chip.drainLate (m : Chip) : Bool :=
  decide (m.pw.drainFrom.toNat + 100000 * fld (m.rd 0 0x02) 8 8 ≤ m.now.toNat)

/-- DRAIN_TIMEOUT (R69). -/
def execDrainTimeout (s : State) : Host.Outcome State Fault Refusal :=
  let m := s.chip
  guarded s (m.pw.sq == some .dozeSleep && !m.pw.drained && !m.poolEmpty && m.drainLate) m.drainGiveUp

/-- WAKE_PIN: the wake event of GPn (R73, R74, R554). -/
def execWakePin (n : Fin 8) (s : State) : Host.Outcome State Fault Refusal :=
  let m := s.chip
  guarded s (m.pw.vddaon && tst (m.rd 0 0x05) n.val) (m.wakeFire n.val).modeGo

/-- ALARM_FIRE (R113). -/
def execAlarmFire (s : State) : Host.Outcome State Fault Refusal :=
  let m := s.chip
  guarded s (m.pw.vddaon && m.alarmDue)
    (let m := m.fireAlarm
     if tst (m.rd 0 0x05) 9 then (m.wakeFire 9).modeGo else m)

/-- SQUELCH_CHANGE (R77-R80). While the boot reader runs no phrase is matched. -/
def execSquelchChange (isOpen : Bool) (s : State) : Host.Outcome State Fault Refusal :=
  let m := s.chip
  guarded s (m.phrase.isOpen != isOpen)
    (if m.pw.ready then m.squelch isOpen
     else { m with phrase := { isOpen := isOpen, since := m.tb.aon, index := 0 } })

/-- PHRASE_QUIET_EXPIRY (R78). -/
def execPhraseQuietExpiry (s : State) : Host.Outcome State Fault Refusal :=
  guarded s (s.chip.pw.ready && s.chip.quietDue) s.chip.phraseDone

/-- WPHRASE_WRITE (R76, R79, R102). -/
def execWphraseWrite (v : Word) (s : State) : Host.Outcome State Fault Refusal := hostWrite s 0 0x0C (·.writeWphrase v)

/-- COMMIT_COMPLETE (R382, R387): success, or a failed verification of the erase (0) or of page n - 1 (n). A DOZE entry that
waited goes on (R383). -/
def execCommitComplete (verifyFail : Option Nat) (s : State) : Host.Outcome State Fault Refusal :=
  let m := s.chip
  match m.st.commit with
  | none => done s m
  | some c =>
    guarded s m.pw.core
      (match verifyFail with
        | none => if c.pages = 128 ∧ !c.stop then m.commitDone c else m
        | some n => if n = c.step then m.commitVerify c else m).modeGo

/-- LEDGER_FLUSH_COMPLETE (R394, R398); a DOZE entry that waited goes on (R383). -/
def execLedgerFlushComplete (verifyFail : Bool) (s : State) : Host.Outcome State Fault Refusal :=
  let m := s.chip
  match m.st.flush with
  | none => done s m
  | some (p, again) => guarded s m.pw.core (if verifyFail then m.flushFail p again else m.flushDone p).modeGo

/-- STAGE_COMPLETE (R378, R380): the copy is made, a change held since the copy began takes effect, a waiting commit is
checked; a DOZE entry that waited for a commit that is refused goes on. -/
def execStageComplete (s : State) : Host.Outcome State Fault Refusal :=
  let m := s.chip
  let copied := m.copyStaging
  let m1 := { copied with st := { copied.st with staging := false, boundaryHeld := false } }
  let m1 := if m.st.boundaryHeld then m1.boundaryNow else m1
  guarded s (m.pw.core && m.st.staging)
    (match m1.st.waiting with
      | some f => m1.tryCommit f
      | none => m1).modeGo

/-! ## Commands: clocks -/

/-- SYS_PLL_LOCK_TIMEOUT (R72): CORE has never been clocked, so what AON holds stays held (R98). -/
def execSysPllLockTimeout (s : State) : Host.Outcome State Fault Refusal :=
  let m := s.chip
  guarded s m.waking (m.sysReset 4 0)

/-- CLOCK_FAILURE (R88). -/
def execClockFailure (s : State) : Host.Outcome State Fault Refusal :=
  guarded s (s.chip.pw.core || s.chip.pw.cur == .doze) (s.chip.sysReset 4 0)

/-- AON_CRYSTAL_ADOPTED (R86, R87). -/
def execAonCrystalAdopted (s : State) : Host.Outcome State Fault Refusal :=
  let m := s.chip
  guarded s (m.pw.vddaon && m.pw.xtalTry && m.pw.rc)
    { m with pw := { m.pw with rc := false, xtalTry := false, xtalFirst := false } }

/-- AON_CRYSTAL_START_TIMEOUT (R86): a failed retry only ends (R87). -/
def execAonCrystalStartTimeout (s : State) : Host.Outcome State Fault Refusal :=
  let m := s.chip
  guarded s (m.pw.vddaon && m.pw.xtalTry && m.pw.rc)
    (if m.pw.xtalFirst then m.xtalFail 0 else { m with pw := { m.pw with xtalTry := false } })

/-- AON_CRYSTAL_STOP (R87). -/
def execAonCrystalStop (s : State) : Host.Outcome State Fault Refusal :=
  guarded s (s.chip.pw.vddaon && !s.chip.pw.rc) (s.chip.xtalFail 1)

/-- XTALRETRY: a SYSCTL write (R87, R89). -/
def execXtalretry (v : Word) (s : State) : Host.Outcome State Fault Refusal := hostWrite s 0 0x10 (·.writeSysctl v)

/-- PIXN_WRITE: a SYSCTL write (R89, R90). -/
def execPixnWrite (v : Word) (s : State) : Host.Outcome State Fault Refusal := hostWrite s 0 0x10 (·.writeSysctl v)

/-- PIXN_PENDING_APPLY (R90, R91). -/
def execPixnPendingApply (s : State) : Host.Outcome State Fault Refusal :=
  guarded s (s.chip.pw.pixPend && s.chip.cc.cap.isNone) s.chip.pixChange

/-- PIX_RELOCK_DONE (R91). -/
def execPixRelockDone (s : State) : Host.Outcome State Fault Refusal :=
  guarded s s.chip.pw.pixFb { s.chip with pw := { s.chip.pw with pixFb := false } }

/-- PIX_FREQ_MONITOR_TRIP: the output, measured in kHz, exceeds the programmed 5 MHz x PIXN by more than 2 % (R92). -/
def execPixFreqMonitorTrip (kHz : Nat) (s : State) : Host.Outcome State Fault Refusal :=
  let m := s.chip
  guarded s (m.pw.array && !m.pw.pixFb && decide (5100 * m.pw.pixN < kHz)) (m.pixTrip kHz)

/-! ## Commands: supplies and resets -/

/-- SUPPLY_WARN (R93, R94): a rise of WARN of a supply whose monitor is active. -/
def execSupplyWarn (r : Fin 4) (s : State) : Host.Outcome State Fault Refusal :=
  let m := s.chip
  guarded s (m.fed r.val && !tst (m.rd 0 0x06) r.val) (m.supplyWarn r.val)

/-- SUPPLY_WARN_CLEAR: supply r is above its warning level plus hysteresis again (R94); its 10 ms begin (R95). -/
def execSupplyWarnClear (r : Fin 4) (s : State) : Host.Outcome State Fault Refusal :=
  let m := s.chip
  let bit := BitVec.ofNat 4 (2 ^ r.val)
  done s (Chip.clrBits { m with pw := { m.pw with
    below := m.pw.below &&& ~~~bit, low := m.pw.low &&& ~~~bit
    good := if m.pw.low.getLsbD r.val then upd m.pw.good r.val (fun _ => 0) else m.pw.good } } 0 0x06 (bitW r.val))

/-- Every supply of a powered domain has been good for 10 ms (R95). -/
def Chip.suppliesGood (m : Chip) : Bool :=
  (List.range 4).all (fun r => !m.fed r || (!m.pw.low.getLsbD r && decide (1000000 ≤ nth m.pw.good r)))

/-- SUPPLY_GOOD: every supply of a powered domain has been good for 10 ms (R95, R391, R395). In DOZE the stores learn of it at
the wake. -/
def execSupplyGood (s : State) : Host.Outcome State Fault Refusal :=
  let m := s.chip
  guarded s (m.fed 0 && m.suppliesGood)
    (if m.pw.core then m.storesGood else { m with pw := { m.pw with goodHeld := true } })

/-- SUPPLY_RESET (R96). -/
def execSupplyReset (r : Fin 4) (s : State) : Host.Outcome State Fault Refusal := done s (s.chip.supplyReset r.val)

/-- SYSRST: a PWRCTL write (R98). -/
def execSysrst (v : Word) (s : State) : Host.Outcome State Fault Refusal := hostWrite s 0 0x02 (·.writePwrctl v)

/-- POWER_ON_RESET: VDDAON rises through its power-on level (R97). -/
def execPowerOnReset (s : State) : Host.Outcome State Fault Refusal := done s s.chip.allLost

/-- VDDAON_LOSS (R577): everything is lost until VDDAON rises. -/
def execVddaonLoss (s : State) : Host.Outcome State Fault Refusal :=
  let m := s.chip.allLost
  done s { m with pw := { m.pw with vddaon := false } }

/-- BOOT_READY (R576, R582). -/
def execBootReady (s : State) : Host.Outcome State Fault Refusal :=
  guarded s (s.chip.pw.vddaon && !s.chip.pw.ready) s.chip.bootDone.modeGo

end Sys2Proof.Machine
end

