-- ==== Sys2Proof/Machine/Service.lean ====
section
/-! DEFINITION. Block resets (R99-R101, R570, R392, R347), the AON locks (R102), JTAG (R267, R268, R602) and the levels at
the pins (R545). -/

namespace Sys2Proof.Machine

/-! ## Blocks of CORE -/

/-- CAPT (R101): a running capture is aborted, the status of capture control returns to its reset value but for ABORTED; held
triggers are dropped and counted with one TRIG_OVERRUN, Loam is idle and not halted. With no capture only those two are
affected. -/
def Chip.resetCapt (m : Chip) : Chip :=
  let held := m.cc.heldTrig
  let m := held.foldl (fun m k => m.bump spCtx (0x100 * k.val + 9) 1) { m with cc := { m.cc with heldTrig := [] } }
  let m := if m.cc.cap.isSome || !m.cc.susp.isEmpty then
      let m := { m with cc := { m.cc with susp := [], checking := none } }.wr 0 0x2B 0
      if m.cc.cap.isSome then m.abortCapture else m.orBits 0 0x2B 0x0800
    else m
  let m := m.raiseIf (!held.isEmpty) evTrigOverrun
  ({ m with loam := Loam.reset }.wr spLoam 0x3000 0).wr spLoam 0x3003 0

/-- HKC (R570): requests and conversions are discarded, those of regulators counted in MISSCNT; queue, status and counters
return to their reset values; ACT follows EN. -/
def Chip.resetHkc (m : Chip) : Chip :=
  let lost := (List.range 8).filter (fun s => (m.slotReq s).isSome) ++ m.hkc.conv.map (·.slot)
  let h := m.rd spHkc 0
  let m := { m with hkc := { Hkc.reset with act := tst h 15, background := tst h 8, spareFrom := m.now,
                                            applied := m.hkc.applied, sinceStep := m.hkc.sinceStep } }
  let m := lost.foldl (fun m s => m.missSlot s) m
  let m := (List.range 8).foldl (fun m s => m.wr spHkc (slotOff s 6) 0) m
  (((m.wr spHkc 1 0).wr spHkc 2 0).wr spHkc 4 0).regsIdle

/-- ILLUM (R570, "Block reset effects"): strobes low, the running capture dark, status cleared, active regulators from
REGLO. -/
def Chip.resetIllum (m : Chip) : Chip :=
  let m := m.strobesLow
  let m := match m.cc.cap with
    | some c => (m.flagIllum c.unlit).mapCap (fun x => { x with dark := true })
    | none => m
  let m := m.wr spIllum 0 0
  (List.range 8).foldl (fun m c =>
    let m := m.wrList spIllum (chanOff c 0xA) [0, 0, 0]
    let m := m.clrBits spIllum (chanOff c 4) 0x0800
    if tst (m.rd spIllum (chanOff c 4)) 15 then (if (m.chan c).act then m.regStart c else m)
    else m.mapChan c (fun x => { x with act := false, pend := false })) m

/-- WAVE (R99): every running port resynchronises with its lock, blocks in assembly and waiting for the pool and the playback are
dropped, block numbers, counters and status return to their reset values; a port in shut-down stops. -/
def Chip.resetWave (m : Chip) : Chip :=
  let m := (List.range 3).foldl (fun m p =>
    let m := (m.forgetBlock p).wr spWave (waveOff p 6) 0
    let m := if p < 2 then m.wrList spWave (waveOff p 8) [0, 0, 0, 0] else m.wr spWave 0x8B 0
    if !(m.port p).act then m
    else if tst (m.rd 0 0x3C) p then
      (m.resyncPort p).mapPort p (fun w =>
        { w with loss := false, closing := false, shut := false, pend := false, clock := 0, edge := w.master p })
    else m.mapPort p (fun w =>
      { w with act := false, lock := false, closing := false, shut := false, block := [], inputs := 0, pend := false })) m
  let m := { m with wave := { m.wave with chans := (List.range 8).map m.freshChan, armed := false, playing := false,
                                          stopAsked := false, frame := 0, loops := 0, out := [] } }
  (m.wrList spWave 0xB9 [0, 0]).wr 0 0x3D 0

/-- MARL (R347): the dwell is dropped and the rotation restarts at group 0; trims and pins stay. -/
def Chip.resetMarl (m : Chip) : Chip :=
  let m := Chip.dwellClear { m with cal := { m.cal with group := none, from_ := 0, stopping := false, hold := 0 } }
  let gone := fun (k : Nat) => decide (key spCal 0x10 ≤ k) && decide (k < key spCal 0x40)
  (Chip.clrBits { m with regs := Bank.keepIf m.regs (fun k => !gone k) } 0 0x35 0x0400).marlPick

/-! ## Blocks of PIPE and LINK -/

/-- PIPE (R415, R570): rows that wait are lost, their frames carry LOSS and make no statistics set; black levels return to
BLFIX. -/
def Chip.resetPipe (m : Chip) : Chip :=
  let stored := m.pipe.memory.filterMap (·.store)
  let frames := m.pipe.frames
  let m := { m with
    streams := m.streams.map (fun (t : Stream) => { t with
      held := t.held.filter (fun (h : Rec × Tick × Bool × Bool) => h.1.dt != 0)
      frames := t.frames.map (fun (g : Frame) =>
        if frames.any (fun f => f.owns g) then { g with flags := g.flags ||| flLoss } else g) })
    pipe := { Pipe.reset with act := m.pipe.act, frames := frames.map (fun (f : PFrame) => { f with lost := true, rows := [] }) }
    regs := Bank.keepIf m.regs (fun k =>
      !((decide (key spPipe 0 ≤ k) && decide (k < key spPipe 3)) || (decide (key spStat 1 ≤ k) && decide (k < key spPool 0)))) }
  let m := stored.foldl (fun m p => m.freeRec p.1 p.2) m
  (m.pipe.frames.foldl (fun m f => m.finish f) m).streamsIdle

/-- A camera frame being received is discarded with its unsent records; no frame end follows. -/
def Chip.dropCam (m : Chip) (p : Nat) (f : CamFrame) : Chip :=
  match f.route with
  | some (some r) =>
    let mine := fun (x : Rec) => x.src == p + 2 && x.ctx == r && x.fn == f.fn
    let row := fun (x : PRow) => x.src == p + 1 && x.id == r && x.fn == f.fn
    let gone := (List.range 8).flatMap (fun s => ((m.stream s).recs.filter mine).map (fun x => (s, x.buf)))
    let stored := (m.pipe.memory.filter row).filterMap (·.store)
    let m := { m with
      streams := m.streams.map (fun (t : Stream) => { t with
        recs := t.recs.filter (fun x => !mine x)
        held := t.held.filter (fun (h : Rec × Tick × Bool × Bool) => !mine h.1)
        frames := t.frames.filter (fun (g : Frame) => !(g.src == p + 2 && g.ctx == r && g.fn == f.fn)) })
      pipe := { m.pipe with
        inline := m.pipe.inline.filter (fun x => !row x), memory := m.pipe.memory.filter (fun x => !row x)
        frames := m.pipe.frames.filter (fun g => !g.is (p + 1) r f.fn) } }
    ((gone ++ stored).foldl (fun m x => m.freeRec x.1 x.2) m).streamsIdle
  | _ => m

/-- CSI (R99): frames being received are discarded, status and counters return to their reset values, each port's ACT
follows its EN. -/
def Chip.resetCsi (m : Chip) : Chip :=
  let m := (List.range 3).foldl (fun m p => (m.cam p).frames.foldl (fun m f => m.dropCam p f) m) m
  let m := { m with cams := List.replicate 3 CamPort.reset }
  let m := (List.range 3).foldl (fun m p => m.wrList spCsi (portOff p 4) (List.replicate 9 0)) m
  let m := (List.range 16).foldl (fun m r => m.wr32 spCsi (routeOff r 2) 0) m
  m.camsStart.insrcTake

/-- POOL (R99, "Block reset effects"): every record, buffer, held request and frame is gone; ACT follows EN in streams and
mover channels. -/
def Chip.resetPool (m : Chip) : Chip :=
  let m := { m with
    streams := (List.range 8).map (fun s =>
      { Stream.reset with act := m.streamEn s, ring := (m.stream s).ring, pseq := (m.stream s).pseq,
                          credits := (m.stream s).credits, inf := (m.stream s).inf })
    movers := (List.range 4).map (fun c => { Mover.reset with act := tst (m.rd spPool (moverOff c 0)) 15, from_ := (m.mover c).from_ })
    pipe := { m.pipe with memory := m.pipe.memory.filter (fun x => x.store.isNone) }
    link := { m.link with flight := none } }
  let m := (List.range 8).foldl (fun m s => m.wrList spPool (streamOff s 5) [0, 0, 0, 0]) m
  let m := (List.range 4).foldl (fun m c => m.wrList spPool (moverOff c 3) [0, 0, 0]) m
  (((m.wr spPool 3 0).wr 0 0x3A 0).frontUpdate).linkBoundary

/-! ## BLKRST -/

/-- The domain of BLKRST bit b is powered and clocked (R100). -/
def Chip.blockOn (m : Chip) (b : Nat) : Bool := if b = 8 then m.pw.link else if 4 ≤ b ∧ b ≤ 7 then m.pw.pipe else m.pw.core

/-- The reset of block b ("Block reset effects"). -/
def Chip.blockReset (m : Chip) (b : Nat) : Chip :=
  match b with
  | 0 => m.resetCapt
  | 1 => m.resetHkc
  | 2 => m.resetIllum
  | 3 => m.resetWave
  | 4 => m.resetPipe
  | 5 => m.resetCsi
  | 6 => m.resetPool
  | 7 => m.resetLnkpkt
  | 8 => m.resetLnkphy
  | 9 => m.storesReset.modeGo
  | _ => m.resetMarl

/-- A BLKRST write (R99, R100): a bit that is set already does not start its reset again. -/
def Chip.writeBlkrst (m : Chip) (v : Word) : Chip :=
  (List.range 11).foldl (fun m b =>
    if !tst v b then m
    else if !m.blockOn b then m.busErr
    else if tst (m.rd 0 0x12) b then m
    else (m.blockReset b).orBits 0 0x12 (bitW b)) m

/-! ## Commands -/

/-- BLKRST_CAPT: a BLKRST write of bit 0 (R101). -/
def execBlkrstCapt (s : State) : Host.Outcome State Fault Refusal := hostWrite s 0 0x12 (·.writeBlkrst 0x0001)

/-- BLKRST_HKC: bit 1 (R570). -/
def execBlkrstHkc (s : State) : Host.Outcome State Fault Refusal := hostWrite s 0 0x12 (·.writeBlkrst 0x0002)

/-- BLKRST_ILLUM: bit 2 (R570). -/
def execBlkrstIllum (s : State) : Host.Outcome State Fault Refusal := hostWrite s 0 0x12 (·.writeBlkrst 0x0004)

/-- BLKRST_WAVE: bit 3 (R99). -/
def execBlkrstWave (s : State) : Host.Outcome State Fault Refusal := hostWrite s 0 0x12 (·.writeBlkrst 0x0008)

/-- BLKRST_PIPE: bit 4 (R570). -/
def execBlkrstPipe (s : State) : Host.Outcome State Fault Refusal := hostWrite s 0 0x12 (·.writeBlkrst 0x0010)

/-- BLKRST_CSI: bit 5 (R99). -/
def execBlkrstCsi (s : State) : Host.Outcome State Fault Refusal := hostWrite s 0 0x12 (·.writeBlkrst 0x0020)

/-- BLKRST_POOL: bit 6 (R99, R570). -/
def execBlkrstPool (s : State) : Host.Outcome State Fault Refusal := hostWrite s 0 0x12 (·.writeBlkrst 0x0040)

/-- BLKRST_LNKPKT: bit 7 (R570). -/
def execBlkrstLnkpkt (s : State) : Host.Outcome State Fault Refusal := hostWrite s 0 0x12 (·.writeBlkrst 0x0080)

/-- BLKRST_LNKPHY: bit 8 (R570). -/
def execBlkrstLnkphy (s : State) : Host.Outcome State Fault Refusal := hostWrite s 0 0x12 (·.writeBlkrst 0x0100)

/-- BLKRST_NVMC: bit 9 (R379, R392). -/
def execBlkrstNvmc (s : State) : Host.Outcome State Fault Refusal := hostWrite s 0 0x12 (·.writeBlkrst 0x0200)

/-- BLKRST_MARL: bit 10 (R347). -/
def execBlkrstMarl (s : State) : Host.Outcome State Fault Refusal := hostWrite s 0 0x12 (·.writeBlkrst 0x0400)

/-- BLKRST_DONE: block b runs again and its bit clears (R99). -/
def execBlkrstDone (b : Fin 11) (s : State) : Host.Outcome State Fault Refusal :=
  guarded s (tst (s.chip.rd 0 0x12) b.val) (s.chip.clrBits 0 0x12 (bitW b.val))

/-- AONLOCK_WRITE: a written 1 sets a lock, which only a power-on reset clears (R102). -/
def execAonlockWrite (v : Word) (s : State) : Host.Outcome State Fault Refusal :=
  hostWrite s 0 0x0F (fun m => m.orBits 0 0x0F (v &&& 0x0003))

/-- The TAP runs: in SLEEP it is held in reset (R556). -/
def Chip.tapOn (m : Chip) : Bool := m.pw.vddaon && !m.pins.asleep

/-- SYSRESET (R98, R267): with the strap option JTAGDBG it acts as BYPASS. -/
def execSysreset (s : State) : Host.Outcome State Fault Refusal :=
  guarded s (s.chip.tapOn && !tst (s.chip.opt 0) 1) (s.chip.sysReset 3 0)

/-- LOAMDBG: one access to the LOAM space at Update-DR (R268); while CORE is off a read returns 0xFFFF, a write is
discarded, and OFF is set; with the strap option JTAGDBG it acts as BYPASS. -/
def execLoamdbg (dr : BitVec 40) (s : State) : Host.Outcome State Fault Refusal :=
  let m := s.chip.begin 90
  let off := dr.toNat / 0x10000 % 0x10000
  let data := wd dr.toNat
  let dbg := fun (m : Chip) (d : Word × Bool × Bool) => { m with pins := { m.pins with dbg := d } }
  guarded s (m.tapOn && !tst (m.opt 0) 1)
    (if !m.pw.core || m.entering then dbg m (if dr.getLsbD 32 then m.pins.dbg.1 else 0xFFFF, true, true)
     else if dr.getLsbD 32 then dbg (m.writeLoam off data 2) (m.pins.dbg.1, true, false)
     else
       dbg (m.clearRc spLoam off) (m.rcValue spLoam off (m.readLoam off), true, false))

/-- EXTEST_UPDATE: the update cells drive their lands (R602). -/
def execExtestUpdate (cells : BitVec 178) (s : State) : Host.Outcome State Fault Refusal :=
  guarded s s.chip.tapOn { s.chip with pins := { s.chip.pins with extest := some cells } }

/-- PIN_INPUT_CHANGE: the level at GPn changes, for a PAPER pin after its debouncing (R545); an edge on the pin is an HKC
source while CORE is clocked (R204). -/
def execPinInputChange (n : Fin 32) (level : Bool) (s : State) : Host.Outcome State Fault Refusal :=
  let m := s.chip.begin (100 + n.val)
  let b := BitVec.ofNat 32 (2 ^ n.val)
  let put := fun (l : BitVec 32) => if level then l ||| b else l &&& ~~~b
  let was := m.pinIn n.val
  let m1 := { m with pins := { m.pins with level := put m.pins.level, paper := put m.pins.paper } }
  let now := m1.pinIn n.val
  done s (if m.pw.core && was != now then
      (List.range 8).foldl (fun m k =>
        let w := m.rd spHkc (slotOff k 1)
        let e := fld w 8 2
        if fld w 12 4 == 8 && fld w 0 5 == n.val && (e == 2 || (e == 0 && now) || (e == 1 && !now)) then m.slotEvent k m.now else m) m1
    else m1)

end Sys2Proof.Machine
end

