-- ==== Sys2Proof/Machine/HostBus.lean ====
section
/-! DEFINITION. The host control bus (chapter 2): direct registers (R41), the indirect window with its staging, time-outs and
held writes (R35, R36, R43-R49), and the latched groups (R52, R53). -/

namespace Sys2Proof.Machine

/-! ## The spaces -/

/-- A write to a word of a space. -/
def Chip.writeSpace (m : Chip) (sp off : Nat) (v : Word) : Chip :=
  match sp with
  | 0x01 => m.writeCtx off v
  | 0x02 => m.writeLoam off v 1
  | 0x03 => m.writeTmr off v
  | 0x04 => if off = 0 then m.writeHkcEn v else m.writeHkc off v
  | 0x05 => m.writeCal off v
  | 0x06 => m.writeNvm off v
  | 0x07 => m.writeOtp off v
  | 0x08 => m.writePipe off v
  | 0x09 => m.writeStat off v
  | 0x0A => m.writePool off v
  | 0x0B => m.writeLink off v
  | 0x0C => m.writeCsi off v
  | 0x0D => m.writeWave off v
  | 0x0E => m.writePin off v
  | 0x0F => m.writeIllum off v
  | 0x11 => if off = 1 then m.writeFack v else m.plainWrite spFault off v
  | 0x12 => m.writeSeal off v
  | _ => m

/-- A write of a whole 32-bit item (R47): both words at once. -/
def Chip.writeItem (m : Chip) (sp off : Nat) (lo hi : Word) : Chip :=
  if sp = spTmr ∧ 0x200 ≤ off ∧ off < 0x300 ∧ off % 32 = 6 then
    m.writePsc ((off - 0x200) / 32) (lo.toNat + 0x10000 * hi.toNat)
  else (m.writeSpace sp off lo).writeSpace sp (off + 1) hi

/-- The value of a word of a space as the host reads it. -/
def Chip.peekSpace (m : Chip) (sp off : Nat) : Word :=
  match sp with
  | 0x01 => m.readCtx off
  | 0x02 => m.readLoam off
  | 0x04 => m.readHkc off
  | 0x05 => m.readCal off
  | 0x06 => m.readNvm off
  | 0x07 => m.readOtp off
  | 0x08 => m.readPipe off
  | 0x09 => m.readStat off
  | 0x0A => m.readPool off
  | 0x0B => m.readLink off
  | 0x0C => m.readCsi off
  | 0x0E => m.readPin off
  | 0x0F => m.readIllum off
  | 0x10 => m.readLedger off
  | 0x11 => m.readFault off
  | 0x12 => m.readSeal off
  | _ => m.rd sp off

/-- A host read puts a word on HD. -/
def Chip.drive (m : Chip) (v : Word) : Chip := { m with hd := v }

/-! ## The direct registers -/

/-- A write to a window register: a held write completes and a staged word takes effect first (R36, R48); the caller has
seen to both. -/
def Chip.writeDirect (m : Chip) (a : Nat) (v : Word) : Chip :=
  match a with
  | 0x02 => m.writePwrctl v
  | 0x05 => m.writeWakeen v
  | 0x0C => m.writeWphrase v
  | 0x0F => m.orBits 0 0x0F (v &&& 0x0003)
  | 0x10 => m.writeSysctl v
  | 0x12 => m.writeBlkrst v
  | 0x17 => m.writeEvvec v
  | 0x1C => m.writeTstart v
  | 0x24 => m.gpioSet false v
  | 0x25 => m.gpioSet true v
  | 0x26 => m.gpioClr false v
  | 0x27 => m.gpioClr true v
  | 0x28 => m.gpioTgl false v
  | 0x29 => m.gpioTgl true v
  | 0x2A => m.writeCapctl v
  | 0x2B => m.writeCapstat v
  | 0x2C => (m.triggerMask 3 v).1
  | 0x32 => m.writeLoamctl v 1
  | 0x33 => m.writeLoampc v
  | 0x34 => m.writeCalctl v
  | 0x36 => m.writeNvmctl v
  | 0x38 => m.writeLinkctl v
  | 0x3B => m.writeStreamen v
  | 0x3C => m.writeWpctl v
  | 0x3E => m.writeOtpctl v
  | 0x3F => m.writeKeylock v
  | _ => m.plainWrite 0 a v

/-- The value of a direct register as the host reads it, without the effects of the read. -/
def Chip.peekDirect (m : Chip) (a : Nat) : Word :=
  match a with
  | 0x03 => m.readPwrstat
  | 0x07 => wd m.tb.aon.toNat
  | 0x08 => wd m.tb.aonLatch.toNat
  | 0x09 => wd (m.tb.aonLatch.toNat / 0x10000)
  | 0x0C => m.phraseWord
  | 0x11 => m.readSysstat
  | 0x17 => m.evvec
  | 0x18 => wd m.tb.stb.toNat
  | 0x19 => wd m.tb.stbLatch.toNat
  | 0x1A => wd (m.tb.stbLatch.toNat / 0x10000)
  | 0x1B => wd (m.tb.stbLatch.toNat / 0x100000000)
  | 0x21 => setBit (m.rd 0 0x21) 10 m.win.staged.isSome
  | 0x22 => wd ((List.range 16).map (fun n => b2n (m.gpioIn n) * 2 ^ n)).sum
  | 0x23 => wd ((List.range 16).map (fun n => b2n (m.gpioIn (16 + n)) * 2 ^ n)).sum
  | 0x24 => half m.pins.out false
  | 0x25 => half m.pins.out true
  | 0x26 => half m.pins.out false
  | 0x27 => half m.pins.out true
  | 0x28 => half m.pins.out false
  | 0x29 => half m.pins.out true
  | 0x2A => m.readCapctl
  | 0x2B => m.readCapstat
  | 0x2D => wd m.cc.lastFn.toNat
  | 0x2F => m.hkc.popped.1
  | 0x30 => m.hkc.popped.2
  | 0x31 => m.readHkqstat
  | 0x32 => m.readLoamctl
  | 0x33 => m.readLoampc
  | 0x35 => m.readCalstat
  | 0x37 => m.readNvmstat
  | 0x38 => m.readLinkctl
  | 0x39 => m.readLinkstat
  | 0x3A => m.readPoolstat
  | 0x3B => m.readStreamen
  | 0x3D => m.readWpstat
  | 0x3E => m.readOtpctl
  | 0x3F => m.readKeylock
  | _ => m.rd 0 a

/-! ## The window -/

/-- A staged low word takes effect alone (R48), in its domain. -/
def Chip.stagedAlone (m : Chip) : Chip :=
  match m.win.staged with
  | some (sp, off, v) =>
    let m := { m with win := { m.win with staged := none } }
    if m.owned sp off then m.writeSpace sp off v else m.busErr
  | none => m

/-- A WINDATA write (R43-R48): the high word of a staged item goes in with it, a low word is staged, any other word is
written; the pointer advances where the target performed the access. -/
def Chip.windowWrite (m : Chip) (v : Word) : Chip :=
  let sp := m.ptrSpace
  let off := m.ptrOff
  let pair := match m.win.staged with
    | some (s, o, _) => decide (s = sp) && decide (o + 1 = off) && m.owned sp off
    | none => false
  match m.win.staged, pair with
  | some (s, o, lo), true => (Chip.writeItem { m with win := { m.win with staged := none } } s o lo v).advance
  | _, _ =>
    let m := m.stagedAlone
    if !spaceKnown sp then m.orBits 0 0x21 0x0200
    else if !m.owned sp off then m.busErr
    else if itemLow sp off then Chip.advance { m with win := { m.win with staged := some (sp, off, v) } }
    else (m.writeSpace sp off v).advance

/-- A held write is written (R36); a DOZE entry that waited for it begins (R38). -/
def Chip.heldDone (m : Chip) : Chip :=
  match m.win.heldWrite with
  | some v => (Chip.windowWrite { m with win := { m.win with heldWrite := none } } v).modeGo
  | none => m

/-- What comes before an access to a window register: a held write completes (R36), a staged word takes effect alone
(R48). -/
def Chip.windowFirst (m : Chip) : Chip := (m.heldDone).stagedAlone

/-- A WINDATA read (R43-R48). -/
def Chip.windowRead (m : Chip) : Chip :=
  let m := m.windowFirst
  let sp := m.ptrSpace
  let off := m.ptrOff
  if !spaceKnown sp then (m.orBits 0 0x21 0x0200).drive 0
  else if !m.owned sp off then m.busErr.drive 0xFFFF
  else (((m.clearRc sp off).drive (m.rcValue sp off (m.peekSpace sp off)))).advance

/-- A WINDATA write that the target performs at once, or that is held while it is stretched (R36). -/
def Chip.windowAccess (m : Chip) (v : Word) (held : Bool) : Chip :=
  let m := m.heldDone
  if held && spaceKnown m.ptrSpace && m.owned m.ptrSpace m.ptrOff then { m with win := { m.win with heldWrite := some v } }
  else m.windowWrite v

/-- The target has not completed an access within 2.0 µs (R35, R36): a read returns 0xFFFF, a write is discarded with any
held value; TMO is set and the pointer stays. -/
def Chip.windowTimeout (m : Chip) (read : Bool) : Chip :=
  let m := m.stagedAlone
  let m := match m.win.heldWrite with
    | some _ => Chip.modeGo { m with win := { m.win with heldWrite := none } }
    | none => m
  let m := m.orBits 0 0x21 0x0100
  if read then m.drive 0xFFFF else m

/-! ## Commands -/

/-- A host write of a word of an indirect space by its address: the host has set the pointer to it, so a held write
completes and a staged word takes effect first (R36, R48); the word goes to its owner, or BUSERR is set while that is off
(R15). -/
def hostWindow (s : State) (sp off : Nat) (v : Word) : Host.Outcome State Fault Refusal :=
  let m := s.chip.begin 0
  done s
    (if m.busOn then
      let m := if m.coreOn then m.windowFirst else m
      if m.owned sp off then m.writeSpace sp off v else m.busErr
    else s.chip)

/-- REGISTER_WRITE: a host write to a direct register (space 0) or to a word of a space (R6-R9, R15, R36, R44, R48). -/
def execRegisterWrite (sp off : Nat) (v : Word) (s : State) : Host.Outcome State Fault Refusal :=
  if sp = 0 then
    (if off = 0x20 then hostWrite s 0 off (·.windowAccess v false)
     else if off = 0x1E ∨ off = 0x1F ∨ off = 0x21 then hostWrite s 0 off (·.windowFirst.plainWrite 0 off v)
     else if off < 0x40 then hostWrite s 0 off (·.writeDirect off v)
     else done s s.chip)
  else if spaceKnown sp then hostWindow s sp off v
  else hostWrite s 0 0x21 (·.windowFirst.orBits 0 0x21 0x0200)

/-- WINDATA_READ (R43). -/
def execWindataRead (s : State) : Host.Outcome State Fault Refusal := hostRead s 0 0x20 (·.windowRead)

/-- WINDATA_WRITE: `held` where the host has raised WE_N on a stretched write (R36, R47). -/
def execWindataWrite (v : Word) (held : Bool) (s : State) : Host.Outcome State Fault Refusal :=
  hostWrite s 0 0x20 (·.windowAccess v held)

/-- WINDOW_TIMEOUT (R35). -/
def execWindowTimeout (read : Bool) (s : State) : Host.Outcome State Fault Refusal :=
  hostWrite s 0 0x20 (·.windowTimeout read)

/-- HELD_WINDOW_WRITE_DONE (R36, R38). -/
def execHeldWindowWriteDone (s : State) : Host.Outcome State Fault Refusal :=
  hostWrite s 0 0x20 (·.heldDone)

/-- STB0_READ (R52, R53). -/
def execStb0Read (s : State) : Host.Outcome State Fault Refusal :=
  hostRead s 0 0x18 (fun m =>
    Chip.drive ({ m with tb := { m.tb with stbLatch := (m.tb.stb >>> 16).setWidth 48 } }.wr 0 0x1D (m.rd 0 0x1D + 1))
      (wd m.tb.stb.toNat))

/-- AONCNT0_READ (R52). -/
def execAoncnt0Read (s : State) : Host.Outcome State Fault Refusal :=
  hostRead s 0 0x07 (fun m =>
    Chip.drive { m with tb := { m.tb with aonLatch := (m.tb.aon >>> 16).setWidth 32 } } (wd m.tb.aon.toNat))

/-- FRAMENUM_READ (R52, R180). -/
def execFramenumRead (s : State) : Host.Outcome State Fault Refusal :=
  hostRead s 0 0x2D (fun m =>
    Chip.drive { m with cc := { m.cc with shadow := (m.cc.lastFn >>> 16).setWidth 16 } } (wd m.cc.lastFn.toNat))

/-- HKQ0_READ (R52, R214). -/
def execHkq0Read (s : State) : Host.Outcome State Fault Refusal := hostRead s 0 0x2E (fun m => m.popHkq.2.drive m.popHkq.1)

/-- A read of direct register a without effects of its own: a window register completes a held write and lets a staged
word take effect first (R36, R48). -/
def Chip.readPlain (m : Chip) (a : Nat) : Chip :=
  let m := if a = 0x1E ∨ a = 0x1F ∨ a = 0x21 then m.windowFirst else m
  m.drive (m.peekDirect a)

/-- DOMAIN_OFF_READ: a read of a direct register (R15): 0xFFFF and BUSERR while its owner is off. While the owner is on
it is the plain read of that register, which the table gives no row of its own (log entry 82); the registers whose read has
an effect are the rows STB0_READ, AONCNT0_READ, FRAMENUM_READ, HKQ0_READ and WINDATA_READ. -/
def execDomainOffRead (a : Nat) (s : State) : Host.Outcome State Fault Refusal :=
  if 0x40 ≤ a then done s s.chip
  else
    match a with
    | 0x07 => execAoncnt0Read s
    | 0x18 => execStb0Read s
    | 0x20 => execWindataRead s
    | 0x2D => execFramenumRead s
    | 0x2E => execHkq0Read s
    | _ => hostRead s 0 a (·.readPlain a)

end Sys2Proof.Machine
end

