-- ==== Sys2Proof/Machine/Window.lean ====
section
/-! DEFINITION. The commands that are host writes of one word of an indirect space: each goes through the window, so a held
write completes and a staged word takes effect before it (R36, R48). -/

namespace Sys2Proof.Machine

/-- PROGRAM_RAM_WRITE: a write at LOAM 0x0000-0x1FFF (R259, R260). -/
def execProgramRamWrite (off : Nat) (v : Word) (s : State) : Host.Outcome State Fault Refusal :=
  if off < 0x2000 then hostWindow s spLoam off v else done s s.chip

/-- TRIM_TARGET_WRITE: a host write to word 0, 1 or 2 of a slice's block in the CAL space, or to one of the HKC slice trims
0x0300-0x0305 (R357). -/
def execTrimTargetWrite (off : Nat) (v : Word) (s : State) : Host.Outcome State Fault Refusal :=
  if 0x300 ≤ off ∧ off < 0x306 then hostWindow s spHkc off v
  else if 0x1000 ≤ off ∧ off < 0x1F30 ∧ off % 8 < 3 then hostWindow s spCal off v
  else done s s.chip

/-- CAMERA_PORT_EN_WRITE (R463). -/
def execCameraPortEnWrite (p : Fin 3) (v : Word) (s : State) : Host.Outcome State Fault Refusal :=
  hostWindow s spCsi (portOff p.val 0) v

/-- FORCE (R337). -/
def execForce (g : Fin 162) (v : Word) (s : State) : Host.Outcome State Fault Refusal := hostWindow s spCal (0x200 + g.val) v

/-- RESTORE (R338). -/
def execRestore (g : Fin 162) (v : Word) (s : State) : Host.Outcome State Fault Refusal := hostWindow s spCal (0x200 + g.val) v

/-- FACK_WRITE (R566). -/
def execFackWrite (v : Word) (s : State) : Host.Outcome State Fault Refusal := hostWindow s spFault 1 v

/-- HKCTRIG (R204). -/
def execHkctrig (v : Word) (s : State) : Host.Outcome State Fault Refusal := hostWindow s spHkc 3 v

/-- HKCCTL_EN_WRITE (R221). -/
def execHkcctlEnWrite (v : Word) (s : State) : Host.Outcome State Fault Refusal := hostWindow s spHkc 0 v

/-- CALMODE_WRITE: an HKCCTL write (R226). -/
def execCalmodeWrite (v : Word) (s : State) : Host.Outcome State Fault Refusal := hostWindow s spHkc 0 v

/-- SEALLOCK_WRITE (R537, R538). -/
def execSeallockWrite (v : Word) (s : State) : Host.Outcome State Fault Refusal := hostWindow s spSeal 0 v

/-- COMMIT_STAGED_PINS: a GPSTG write with COMMIT = 1 (R547); another value is no commit. -/
def execCommitStagedPins (v : Word) (s : State) : Host.Outcome State Fault Refusal :=
  if tst v 14 then hostWindow s spPin 0x80 v else done s s.chip

/-- STAGE_DISCARD: a GPSTG write with STAGE = 0 and COMMIT = 0 (R548). -/
def execStageDiscard (v : Word) (s : State) : Host.Outcome State Fault Refusal :=
  if tst v 14 || tst v 15 then done s s.chip else hostWindow s spPin 0x80 v

/-- PCFG_WRITE (R539, R541). -/
def execPcfgWrite (n : Fin 32) (v : Word) (s : State) : Host.Outcome State Fault Refusal := hostWindow s spPin (pinOff n.val 0) v

/-- PAD_WRITE (R549). -/
def execPadWrite (n : Fin 32) (v : Word) (s : State) : Host.Outcome State Fault Refusal := hostWindow s spPin (pinOff n.val 1) v

/-- SLP_WRITE (R551, R552). -/
def execSlpWrite (n : Fin 32) (v : Word) (s : State) : Host.Outcome State Fault Refusal := hostWindow s spPin (pinOff n.val 2) v

/-- STATCTL_UNLOCK: a write of STATCTL (R448). -/
def execStatctlUnlock (v : Word) (s : State) : Host.Outcome State Fault Refusal := hostWindow s spStat 0 v

/-- RETCMD: a write of NVM + 0x0002 (R388). -/
def execRetcmd (v : Word) (s : State) : Host.Outcome State Fault Refusal := hostWindow s spNvm 2 v

/-- CMP_MATCH_LOAD: a write of a channel's MATCH word 3 (R121, R123). -/
def execCmpMatchLoad (n : Fin 16) (v : Word) (s : State) : Host.Outcome State Fault Refusal :=
  hostWindow s spTmr (cmpOff n.val 3) v

/-- ALARM_LOAD: a write of ALM2 (R112). -/
def execAlarmLoad (v : Word) (s : State) : Host.Outcome State Fault Refusal := hostWindow s spTmr 0x12 v

/-- ALARM_DISARM: a write of ALMCTL (R112). -/
def execAlarmDisarm (v : Word) (s : State) : Host.Outcome State Fault Refusal := hostWindow s spTmr 0x13 v

/-- REARM: a write of TMn.CMD (R135). -/
def execRearm (n : Fin 8) (v : Word) (s : State) : Host.Outcome State Fault Refusal := hostWindow s spTmr (tmOff n.val 0xE) v

/-- WP2_GAIN_WRITE (R308, R310). -/
def execWp2GainWrite (c : Fin 8) (v : Word) (s : State) : Host.Outcome State Fault Refusal :=
  hostWindow s spWave (0xB0 + c.val) v

/-- WP2_MUTE_WRITE (R308, R310). -/
def execWp2MuteWrite (v : Word) (s : State) : Host.Outcome State Fault Refusal := hostWindow s spWave 0xB8 v

/-- REGCTL_EN_WRITE (R194). -/
def execRegctlEnWrite (c : Fin 8) (v : Word) (s : State) : Host.Outcome State Fault Refusal :=
  hostWindow s spIllum (chanOff c.val 4) v

/-- ISETVAL_WRITE (R195). -/
def execIsetvalWrite (c : Fin 8) (v : Word) (s : State) : Host.Outcome State Fault Refusal :=
  hostWindow s spIllum (chanOff c.val 3) v

/-- REG_BOUND_WRITE (R192). -/
def execRegBoundWrite (c : Fin 8) (hi : Bool) (v : Word) (s : State) : Host.Outcome State Fault Refusal :=
  hostWindow s spIllum (chanOff c.val (if hi then 7 else 6)) v

end Sys2Proof.Machine
end

