-- ==== Sys2Proof/Machine/Dispatch.lean ====
section
/-! DEFINITION. One arm per command: the meaning of each row of spec/opcode_table.json. -/

namespace Sys2Proof.Machine

/-- The effect of a command on everything but the queue. -/
def exec (i : Instr) (s : State) : Host.Outcome State Fault Refusal :=
  match i with
  | .registerWrite sp off v => Sys2Proof.Machine.execRegisterWrite sp off v s
  | .windataRead => Sys2Proof.Machine.execWindataRead s
  | .windataWrite v held => Sys2Proof.Machine.execWindataWrite v held s
  | .windowTimeout read => Sys2Proof.Machine.execWindowTimeout read s
  | .heldWindowWriteDone => Sys2Proof.Machine.execHeldWindowWriteDone s
  | .stb0Read => Sys2Proof.Machine.execStb0Read s
  | .aoncnt0Read => Sys2Proof.Machine.execAoncnt0Read s
  | .framenumRead => Sys2Proof.Machine.execFramenumRead s
  | .hkq0Read => Sys2Proof.Machine.execHkq0Read s
  | .modeRequest v => Sys2Proof.Machine.execModeRequest v s
  | .runToIdleEntry => Sys2Proof.Machine.execRunToIdleEntry s
  | .modeSequenceEnd => Sys2Proof.Machine.execModeSequenceEnd s
  | .drainTimeout => Sys2Proof.Machine.execDrainTimeout s
  | .wakePin n => Sys2Proof.Machine.execWakePin n s
  | .squelchChange isOpen => Sys2Proof.Machine.execSquelchChange isOpen s
  | .phraseQuietExpiry => Sys2Proof.Machine.execPhraseQuietExpiry s
  | .wphraseWrite v => Sys2Proof.Machine.execWphraseWrite v s
  | .sysPllLockTimeout => Sys2Proof.Machine.execSysPllLockTimeout s
  | .clockFailure => Sys2Proof.Machine.execClockFailure s
  | .aonCrystalAdopted => Sys2Proof.Machine.execAonCrystalAdopted s
  | .aonCrystalStartTimeout => Sys2Proof.Machine.execAonCrystalStartTimeout s
  | .aonCrystalStop => Sys2Proof.Machine.execAonCrystalStop s
  | .xtalretry v => Sys2Proof.Machine.execXtalretry v s
  | .pixnWrite v => Sys2Proof.Machine.execPixnWrite v s
  | .pixnPendingApply => Sys2Proof.Machine.execPixnPendingApply s
  | .pixRelockDone => Sys2Proof.Machine.execPixRelockDone s
  | .pixFreqMonitorTrip kHz => Sys2Proof.Machine.execPixFreqMonitorTrip kHz s
  | .supplyWarn r => Sys2Proof.Machine.execSupplyWarn r s
  | .supplyGood => Sys2Proof.Machine.execSupplyGood s
  | .supplyReset r => Sys2Proof.Machine.execSupplyReset r s
  | .sysrst v => Sys2Proof.Machine.execSysrst v s
  | .powerOnReset => Sys2Proof.Machine.execPowerOnReset s
  | .bootReady => Sys2Proof.Machine.execBootReady s
  | .blkrstCapt => Sys2Proof.Machine.execBlkrstCapt s
  | .blkrstHkc => Sys2Proof.Machine.execBlkrstHkc s
  | .blkrstIllum => Sys2Proof.Machine.execBlkrstIllum s
  | .blkrstWave => Sys2Proof.Machine.execBlkrstWave s
  | .blkrstPipe => Sys2Proof.Machine.execBlkrstPipe s
  | .blkrstCsi => Sys2Proof.Machine.execBlkrstCsi s
  | .blkrstPool => Sys2Proof.Machine.execBlkrstPool s
  | .blkrstLnkpkt => Sys2Proof.Machine.execBlkrstLnkpkt s
  | .blkrstLnkphy => Sys2Proof.Machine.execBlkrstLnkphy s
  | .blkrstNvmc => Sys2Proof.Machine.execBlkrstNvmc s
  | .blkrstMarl => Sys2Proof.Machine.execBlkrstMarl s
  | .blkrstDone b => Sys2Proof.Machine.execBlkrstDone b s
  | .aonlockWrite v => Sys2Proof.Machine.execAonlockWrite v s
  | .cmpMatchLoad n v => Sys2Proof.Machine.execCmpMatchLoad n v s
  | .cmpMatch n => Sys2Proof.Machine.execCmpMatch n s
  | .alarmLoad v => Sys2Proof.Machine.execAlarmLoad v s
  | .alarmDisarm v => Sys2Proof.Machine.execAlarmDisarm v s
  | .alarmFire => Sys2Proof.Machine.execAlarmFire s
  | .syncFrameSend => Sys2Proof.Machine.execSyncFrameSend s
  | .syncFrameReceived start pulses elapsed => Sys2Proof.Machine.execSyncFrameReceived start pulses elapsed s
  | .syncLost => Sys2Proof.Machine.execSyncLost s
  | .timerSourceEdge e => Sys2Proof.Machine.execTimerSourceEdge e s
  | .timerMatch n => Sys2Proof.Machine.execTimerMatch n s
  | .timerTerminal n => Sys2Proof.Machine.execTimerTerminal n s
  | .tstartStart v => Sys2Proof.Machine.execTstartStart v s
  | .tstartStop v => Sys2Proof.Machine.execTstartStop v s
  | .rearm n v => Sys2Proof.Machine.execRearm n v s
  | .timerCapture n rising => Sys2Proof.Machine.execTimerCapture n rising s
  | .arm v => Sys2Proof.Machine.execArm v s
  | .armCheckComplete => Sys2Proof.Machine.execArmCheckComplete s
  | .disarm v => Sys2Proof.Machine.execDisarm v s
  | .abort v => Sys2Proof.Machine.execAbort v s
  | .pinTrigger p rising => Sys2Proof.Machine.execPinTrigger p rising s
  | .trigsw v => Sys2Proof.Machine.execTrigsw v s
  | .heldTriggerRelease => Sys2Proof.Machine.execHeldTriggerRelease s
  | .strbmaxExpiry c => Sys2Proof.Machine.execStrbmaxExpiry c s
  | .regctlEnWrite c v => Sys2Proof.Machine.execRegctlEnWrite c v s
  | .isetvalWrite c v => Sys2Proof.Machine.execIsetvalWrite c v s
  | .regBoundWrite c hi v => Sys2Proof.Machine.execRegBoundWrite c hi v s
  | .hkctrig v => Sys2Proof.Machine.execHkctrig v s
  | .hkcRequestDue sl => Sys2Proof.Machine.execHkcRequestDue sl s
  | .hkcWaitExpiry sl => Sys2Proof.Machine.execHkcWaitExpiry sl s
  | .hkcResult codes => Sys2Proof.Machine.execHkcResult codes s
  | .hkcctlEnWrite v => Sys2Proof.Machine.execHkcctlEnWrite v s
  | .hkcShutdownDone => Sys2Proof.Machine.execHkcShutdownDone s
  | .calmodeWrite v => Sys2Proof.Machine.execCalmodeWrite v s
  | .hkcSpareSettled => Sys2Proof.Machine.execHkcSpareSettled s
  | .hkcShadowWindowEnd x => Sys2Proof.Machine.execHkcShadowWindowEnd x s
  | .loamNop => Sys2Proof.Machine.execLoamNop s
  | .loamEnd => Sys2Proof.Machine.execLoamEnd s
  | .loamJmp => Sys2Proof.Machine.execLoamJmp s
  | .loamJz => Sys2Proof.Machine.execLoamJz s
  | .loamJnz => Sys2Proof.Machine.execLoamJnz s
  | .loamDjnz => Sys2Proof.Machine.execLoamDjnz s
  | .loamCall => Sys2Proof.Machine.execLoamCall s
  | .loamRet => Sys2Proof.Machine.execLoamRet s
  | .loamLdi => Sys2Proof.Machine.execLoamLdi s
  | .loamLdih => Sys2Proof.Machine.execLoamLdih s
  | .loamLdc => Sys2Proof.Machine.execLoamLdc s
  | .loamAlu => Sys2Proof.Machine.execLoamAlu s
  | .loamAddi => Sys2Proof.Machine.execLoamAddi s
  | .loamJlt => Sys2Proof.Machine.execLoamJlt s
  | .loamGet => Sys2Proof.Machine.execLoamGet s
  | .loamMem => Sys2Proof.Machine.execLoamMem s
  | .loamWaitt => Sys2Proof.Machine.execLoamWaitt s
  | .waittReached => Sys2Proof.Machine.execWaittReached s
  | .loamWaite => Sys2Proof.Machine.execLoamWaite s
  | .waiteEvent => Sys2Proof.Machine.execWaiteEvent s
  | .loamBase => Sys2Proof.Machine.execLoamBase s
  | .loamStr => Sys2Proof.Machine.execLoamStr s
  | .loamOpen => Sys2Proof.Machine.execLoamOpen s
  | .loamClose => Sys2Proof.Machine.execLoamClose s
  | .loamStrb => Sys2Proof.Machine.execLoamStrb s
  | .loamIsetl => Sys2Proof.Machine.execLoamIsetl s
  | .loamHkt => Sys2Proof.Machine.execLoamHkt s
  | .loamPin => Sys2Proof.Machine.execLoamPin s
  | .loamReadp => Sys2Proof.Machine.execLoamReadp s
  | .loamReadb => Sys2Proof.Machine.execLoamReadb s
  | .loamDrain => Sys2Proof.Machine.execLoamDrain s
  | .loamEmit => Sys2Proof.Machine.execLoamEmit s
  | .loamFlag => Sys2Proof.Machine.execLoamFlag s
  | .loamBreak => Sys2Proof.Machine.execLoamBreak s
  | .actionQueueStallEnd => Sys2Proof.Machine.execActionQueueStallEnd s
  | .stratumOpen => Sys2Proof.Machine.execStratumOpen s
  | .stratumClose => Sys2Proof.Machine.execStratumClose s
  | .stratumMaxClose => Sys2Proof.Machine.execStratumMaxClose s
  | .strbEdge => Sys2Proof.Machine.execStrbEdge s
  | .isetApply => Sys2Proof.Machine.execIsetApply s
  | .pinAction => Sys2Proof.Machine.execPinAction s
  | .hktAction => Sys2Proof.Machine.execHktAction s
  | .rowRead codes => Sys2Proof.Machine.execRowRead codes s
  | .readoutResume => Sys2Proof.Machine.execReadoutResume s
  | .paceResume => Sys2Proof.Machine.execPaceResume s
  | .loamWatchdog => Sys2Proof.Machine.execLoamWatchdog s
  | .halt v => Sys2Proof.Machine.execHalt v s
  | .resume v => Sys2Proof.Machine.execResume v s
  | .step v => Sys2Proof.Machine.execStep v s
  | .breakpointHit => Sys2Proof.Machine.execBreakpointHit s
  | .programRamWrite off v => Sys2Proof.Machine.execProgramRamWrite off v s
  | .sysreset => Sys2Proof.Machine.execSysreset s
  | .loamdbg dr => Sys2Proof.Machine.execLoamdbg dr s
  | .stepTakeUp => Sys2Proof.Machine.execStepTakeUp s
  | .driftExposureOpen => Sys2Proof.Machine.execDriftExposureOpen s
  | .driftExposureClose => Sys2Proof.Machine.execDriftExposureClose s
  | .bandReadStart => Sys2Proof.Machine.execBandReadStart s
  | .bandReadEnd rows => Sys2Proof.Machine.execBandReadEnd rows s
  | .driftEndPin rising => Sys2Proof.Machine.execDriftEndPin rising s
  | .driftTailExpiry => Sys2Proof.Machine.execDriftTailExpiry s
  | .driftStall => Sys2Proof.Machine.execDriftStall s
  | .wpInputFrame p slots => Sys2Proof.Machine.execWpInputFrame p slots s
  | .wpSyncLoss p clockLost => Sys2Proof.Machine.execWpSyncLoss p clockLost s
  | .wpSyncRegained p => Sys2Proof.Machine.execWpSyncRegained p s
  | .resync v => Sys2Proof.Machine.execResync v s
  | .wpEnWrite v => Sys2Proof.Machine.execWpEnWrite v s
  | .wpShutdownDone p => Sys2Proof.Machine.execWpShutdownDone p s
  | .p2play v => Sys2Proof.Machine.execP2play v s
  | .p2stop v => Sys2Proof.Machine.execP2stop v s
  | .muteall v => Sys2Proof.Machine.execMuteall v s
  | .wp2PlayStart => Sys2Proof.Machine.execWp2PlayStart s
  | .wp2OutputFrame => Sys2Proof.Machine.execWp2OutputFrame s
  | .wp2GainWrite c v => Sys2Proof.Machine.execWp2GainWrite c v s
  | .wp2MuteWrite v => Sys2Proof.Machine.execWp2MuteWrite v s
  | .wp2ZeroCrossTimeout c => Sys2Proof.Machine.execWp2ZeroCrossTimeout c s
  | .shadowWindowEnd g x => Sys2Proof.Machine.execShadowWindowEnd g x s
  | .force g v => Sys2Proof.Machine.execForce g v s
  | .restore g v => Sys2Proof.Machine.execRestore g v s
  | .marlDwellEnd => Sys2Proof.Machine.execMarlDwellEnd s
  | .trimStep g p t => Sys2Proof.Machine.execTrimStep g p t s
  | .hkcTrimStep j => Sys2Proof.Machine.execHkcTrimStep j s
  | .trimTargetWrite off v => Sys2Proof.Machine.execTrimTargetWrite off v s
  | .marlenClear v => Sys2Proof.Machine.execMarlenClear v s
  | .unpinall v => Sys2Proof.Machine.execUnpinall v s
  | .runVref v => Sys2Proof.Machine.execRunVref v s
  | .runWhite v => Sys2Proof.Machine.execRunWhite v s
  | .cancel v => Sys2Proof.Machine.execCancel v s
  | .vrefRunComplete u => Sys2Proof.Machine.execVrefRunComplete u s
  | .vrefRunTimeout => Sys2Proof.Machine.execVrefRunTimeout s
  | .whiteCaptureStart => Sys2Proof.Machine.execWhiteCaptureStart s
  | .whiteRunComplete u v => Sys2Proof.Machine.execWhiteRunComplete u v s
  | .whiteRunTimeout => Sys2Proof.Machine.execWhiteRunTimeout s
  | .stage v => Sys2Proof.Machine.execStage v s
  | .stageComplete => Sys2Proof.Machine.execStageComplete s
  | .commit v => Sys2Proof.Machine.execCommit v s
  | .commitComplete verifyFail => Sys2Proof.Machine.execCommitComplete verifyFail s
  | .load v => Sys2Proof.Machine.execLoad v s
  | .retcmd v => Sys2Proof.Machine.execRetcmd v s
  | .lflush v => Sys2Proof.Machine.execLflush v s
  | .ledgerFlushDue => Sys2Proof.Machine.execLedgerFlushDue s
  | .ledgerFlushComplete verifyFail => Sys2Proof.Machine.execLedgerFlushComplete verifyFail s
  | .ledgerHourTick => Sys2Proof.Machine.execLedgerHourTick s
  | .prog v => Sys2Proof.Machine.execProg v s
  | .keyprog v => Sys2Proof.Machine.execKeyprog v s
  | .glock v => Sys2Proof.Machine.execGlock v s
  | .keylockWrite v => Sys2Proof.Machine.execKeylockWrite v s
  | .otpOpComplete => Sys2Proof.Machine.execOtpOpComplete s
  | .pipeSegment => Sys2Proof.Machine.execPipeSegment s
  | .statctlUnlock v => Sys2Proof.Machine.execStatctlUnlock v s
  | .insrcSwitch => Sys2Proof.Machine.execInsrcSwitch s
  | .csiFrameStart p vc fn => Sys2Proof.Machine.execCsiFrameStart p vc fn s
  | .csiLongPacket p vc dt payload crcOk => Sys2Proof.Machine.execCsiLongPacket p vc dt payload crcOk s
  | .csiFrameEnd p vc => Sys2Proof.Machine.execCsiFrameEnd p vc s
  | .csiPacketError p kind => Sys2Proof.Machine.execCsiPacketError p kind s
  | .pcamVsyncOpen => Sys2Proof.Machine.execPcamVsyncOpen s
  | .pcamLine vals => Sys2Proof.Machine.execPcamLine vals s
  | .pcamVsyncClose midLine => Sys2Proof.Machine.execPcamVsyncClose midLine s
  | .pcamPclkTimeout => Sys2Proof.Machine.execPcamPclkTimeout s
  | .cameraPortEnWrite p v => Sys2Proof.Machine.execCameraPortEnWrite p v s
  | .cameraPortShutdownDone p => Sys2Proof.Machine.execCameraPortShutdownDone p s
  | .poolHoldGrant st => Sys2Proof.Machine.execPoolHoldGrant st s
  | .holdlimExpiry st => Sys2Proof.Machine.execHoldlimExpiry st s
  | .streamEnWrite v => Sys2Proof.Machine.execStreamEnWrite v s
  | .moverRequest m => Sys2Proof.Machine.execMoverRequest m s
  | .moverCopyComplete m => Sys2Proof.Machine.execMoverCopyComplete m s
  | .linkEnWrite v => Sys2Proof.Machine.execLinkEnWrite v s
  | .retrain v => Sys2Proof.Machine.execRetrain v s
  | .retire v => Sys2Proof.Machine.execRetire v s
  | .linkup lanes mseq ackReq => Sys2Proof.Machine.execLinkup lanes mseq ackReq s
  | .trainTimeout => Sys2Proof.Machine.execTrainTimeout s
  | .rxlSync => Sys2Proof.Machine.execRxlSync s
  | .rxlSyncLoss => Sys2Proof.Machine.execRxlSyncLoss s
  | .rxlossExpiry => Sys2Proof.Machine.execRxlossExpiry s
  | .rxlSkip fill => Sys2Proof.Machine.execRxlSkip fill s
  | .elasticBufferError => Sys2Proof.Machine.execElasticBufferError s
  | .laneDriverFault n => Sys2Proof.Machine.execLaneDriverFault n s
  | .retirementApply => Sys2Proof.Machine.execRetirementApply s
  | .retmaxExpiry => Sys2Proof.Machine.execRetmaxExpiry s
  | .packetStart => Sys2Proof.Machine.execPacketStart s
  | .packetComplete => Sys2Proof.Machine.execPacketComplete s
  | .alignColumn => Sys2Proof.Machine.execAlignColumn s
  | .idleColumn => Sys2Proof.Machine.execIdleColumn s
  | .credit vc inf count mseq ackReq => Sys2Proof.Machine.execCredit vc inf count mseq ackReq s
  | .trig mask mseq ackReq => Sys2Proof.Machine.execTrig mask mseq ackReq s
  | .ack vc nak fn mseq ackReq => Sys2Proof.Machine.execAck vc nak fn mseq ackReq s
  | .lanemap lanes mseq ackReq => Sys2Proof.Machine.execLanemap lanes mseq ackReq s
  | .lanefault lane mseq ackReq => Sys2Proof.Machine.execLanefault lane mseq ackReq s
  | .messageDiscarded => Sys2Proof.Machine.execMessageDiscarded s
  | .seallockWrite v => Sys2Proof.Machine.execSeallockWrite v s
  | .gpioset hi v => Sys2Proof.Machine.execGpioset hi v s
  | .gpioclr hi v => Sys2Proof.Machine.execGpioclr hi v s
  | .gpiotgl hi v => Sys2Proof.Machine.execGpiotgl hi v s
  | .commitStagedPins v => Sys2Proof.Machine.execCommitStagedPins v s
  | .stageDiscard v => Sys2Proof.Machine.execStageDiscard v s
  | .pcfgWrite n v => Sys2Proof.Machine.execPcfgWrite n v s
  | .padWrite n v => Sys2Proof.Machine.execPadWrite n v s
  | .slpWrite n v => Sys2Proof.Machine.execSlpWrite n v s
  | .pinInputChange n level => Sys2Proof.Machine.execPinInputChange n level s
  | .encAEdge bHigh => Sys2Proof.Machine.execEncAEdge bHigh s
  | .evstatClear hi v => Sys2Proof.Machine.execEvstatClear hi v s
  | .evenWrite hi v => Sys2Proof.Machine.execEvenWrite hi v s
  | .evvecWrite v => Sys2Proof.Machine.execEvvecWrite v s
  | .thermalSample t0 t1 => Sys2Proof.Machine.execThermalSample t0 t1 s
  | .fackWrite v => Sys2Proof.Machine.execFackWrite v s
  | .supplyWarnClear r => Sys2Proof.Machine.execSupplyWarnClear r s
  | .vddaonLoss => Sys2Proof.Machine.execVddaonLoss s
  | .invalidCodeGroup => Sys2Proof.Machine.execInvalidCodeGroup s
  | .domainOffRead a => Sys2Proof.Machine.execDomainOffRead a s
  | .extestUpdate cells => Sys2Proof.Machine.execExtestUpdate cells s

end Sys2Proof.Machine
end

