-- ==== Sys2Proof/Machine/Tick.lean ====
section
/-! DEFINITION. One tick of 10 ns, what the block does on an empty queue: the AON counter, the STB with the follower's
corrections, the times that the watchdog, the supplies and the strobes count, the end of a sync frame, the progress of a
commit, the Drift lines that dropped steps complete, CALMODE's ready cycle, AUTORUN's request, and a new CORE cycle. Whatever else happens at a time is a command of its own. -/

namespace Sys2Proof.Machine

/-- The AON clock: 390,625/128 ticks to an AON tick (chapter 4); the hour of the ledger counts with it. -/
def Chip.tickAon (m : Chip) : Chip :=
  let sub := m.tb.sub + 128
  if sub < 390625 then { m with tb := { m.tb with sub := sub } }
  else { m with tb := { m.tb with sub := sub - 390625, aon := m.tb.aon + 1 },
                st := { m.st with hourTicks := m.st.hourTicks + 1 } }

/-- The ticks for which each supply has been above its warning level, up to 10 ms (R95). -/
def Chip.tickSupplies (m : Chip) : Chip :=
  { m with pw := { m.pw with good := (List.range 4).map (fun r =>
      if m.pw.low.getLsbD r then 0 else min 1000000 (nth m.pw.good r + 1)) } }

/-- A follower plans the next epoch where the last one has run out without a marker (R118, R119). -/
def Chip.nextEpoch (m : Chip) : Chip :=
  if m.tb.locked && m.tb.epochLeft == 0 then m.planSlews (-m.tb.drift) 65536 else m

/-- The STB advances by 1, or by 0 or 2 at a follower's correction (R104, R118). -/
def Chip.tickStb (m : Chip) : Chip :=
  let m := m.nextEpoch
  let p := m.tb.epochLeft - 1
  let fix : Int := if m.tb.locked && m.tb.slews.contains p then (if m.tb.slewUp then 1 else -1) else 0
  { m with tb := { m.tb with stb := m.tb.stb + 1 + BitVec.ofInt 64 fix, epochLeft := p, applied := m.tb.applied + fix } }

/-- A sync frame ends with its cell 56 (R115). -/
def Chip.tickSync (m : Chip) : Chip :=
  match m.tb.syncOut with
  | some (t, _) => if 57 * 64 ≤ (m.now - t).toNat then { m with tb := { m.tb with syncOut := none } } else m
  | none => m

/-- Strobe on-time: each high strobe adds a tick, and a millisecond of them adds 1 to its ledger counter (R393). -/
def Chip.tickStrobes (m : Chip) : Chip :=
  let t := m.st.onTicks + (m.chans.filter (·.level)).length
  if t < 100000 then { m with st := { m.st with onTicks := t } }
  else Chip.ledger { m with st := { m.st with onTicks := t - 100000 } } 1 1

/-- The commit in progress goes on; a DOZE entry that waited for one that stops goes on too (R383). -/
def Chip.tickStores (m : Chip) : Chip :=
  let n := m.tickCommit
  if m.st.commit.isSome && n.st.commit.isNone then n.modeGo else n

/-- The watchdog counts while Loam runs, except in the three cases of R256. -/
def Chip.watchCounts (m : Chip) : Bool :=
  m.loam.running && !m.loam.halted && !(m.cc.cap.any (·.pausedPool)) && m.loam.wait != some (.event 2)

/-- The time that each refused request has been held (R468). -/
def Chip.tickHeld (m : Chip) : Chip :=
  { m with streams := m.streams.map (fun (t : Stream) => { t with held := t.held.map (fun h => (h.1, h.2.1 + 1, h.2.2)) }) }

/-- What CORE does in a tick while it is clocked. -/
def Chip.tickCore (m : Chip) : Chip :=
  let m := (((m.tickStb).tickSync).tickStrobes).tickWave
  let m := if m.pw.pipe then m.tickHeld else m
  let m := if m.watchCounts then { m with loam := { m.loam with watch := m.loam.watch + 1 } } else m
  ((m.tickDrift).calmodeTake).tickStores

/-- One tick; without VDDAON nothing runs. -/
def Chip.tick (m : Chip) : Chip :=
  if !m.pw.vddaon then m
  else
    let m := (Chip.tickSupplies { m with cyc := Cycle.fresh }).tickAon
    (if m.pw.core then m.tickCore else m).autoGo

end Sys2Proof.Machine
end

