-- ==== Sys2Proof/Safety.lean ====
section
/-! DEFINITION. What counts as a safe run, and the words in which statements speak of a command: that it answers, which
words and which parts of the chip it leaves alone. -/

namespace Sys2Proof.Machine

/-! ## Safe steps -/

/-- IRQ_N stands as R558 has it: driven where some enabled event is pending, CORE is clocked and no entry is in progress. -/
def State.irqTrue (s : State) : Prop := s.chip.pins.irq = s.chip.irqLevel

/-- A step is safe when it answers a next state: neither a fault nor a refusal. -/
def State.safe (s : State) : Prop := ∃ t, step s = .next t

/-! ## What a command does -/

/-- The command answers a next state, the queue kept, whose chip satisfies `P`. -/
def Answers (c : Instr) (s : State) (P : Chip → Prop) : Prop :=
  ∃ t, exec c s = .next t ∧ t.pending = s.pending ∧ P t.chip

/-- The command answers the next state with this chip, IRQ_N evaluated, and the queue kept. -/
def Completes (c : Instr) (s : State) (m : Chip) : Prop := exec c s = .next { s with chip := m.settle }

/-- Every stored word but those listed reads as before. -/
def WordsKept (m t : Chip) (ws : List (Nat × Nat)) : Prop :=
  ∀ k, (∀ w ∈ ws, k ≠ key w.1 w.2) → Bank.get t.regs k = Bank.get m.regs k

/-- Nothing but stored words changed, and what every command may change: IRQ_N, which is evaluated after it, and the record
of the present cycle. -/
def OnlyWords (m t : Chip) : Prop :=
  t = { m with regs := t.regs, cyc := t.cyc, pins := { m.pins with irq := t.pins.irq } }

/-- Only the listed words changed, IRQ_N and the record of the cycle. -/
def OnlyThese (m t : Chip) (ws : List (Nat × Nat)) : Prop := OnlyWords m t ∧ WordsKept m t ws

/-- Nothing changed but IRQ_N and the record of the cycle. -/
def Unchanged (m t : Chip) : Prop := t = { m with cyc := t.cyc, pins := { m.pins with irq := t.pins.irq } }

/-- All stored words are as before. -/
def AllWordsKept (m t : Chip) : Prop := t.regs = m.regs

/-- The host bus is ready and the owner of the word answers. -/
def State.reaches (s : State) (sp off : Nat) : Prop := s.chip.busOn = true ∧ s.chip.owned sp off = true

/-- The chip as the host's access finds it: the host is a source of the present cycle. -/
def State.host (s : State) : Chip := s.chip.begin 0

/-- The chip as an access to a word of a space through the window finds it: a held write has completed and a staged word
has taken effect (R36, R48). -/
def State.window (s : State) : Chip := if s.host.coreOn then s.host.windowFirst else s.host

/-- A word of a space can be reached through the window, where nothing is held or staged. -/
def State.opens (s : State) (sp off : Nat) : Prop :=
  s.reaches sp off ∧ s.chip.win.staged = none ∧ s.chip.win.heldWrite = none

/-- The bits of a word that the present cycle had set before the host's access; a clear leaves them (R10). -/
def State.fresh (s : State) (sp off : Nat) : Word := s.host.fresh sp off

/-- The commands that are the host's write of a word of a space through the window: its space, offset and value. -/
def windowWord : Instr → Option (Nat × Nat × Word)
  | .registerWrite sp off v => if spaceKnown sp then some (sp, off, v) else none
  | .programRamWrite off v => if off < 0x2000 then some (spLoam, off, v) else none
  | .trimTargetWrite off v =>
    if 0x300 ≤ off ∧ off < 0x306 then some (spHkc, off, v)
    else if 0x1000 ≤ off ∧ off < 0x1F30 ∧ off % 8 < 3 then some (spCal, off, v) else none
  | .cameraPortEnWrite p v => some (spCsi, portOff p.val 0, v)
  | .force g v => some (spCal, 0x200 + g.val, v)
  | .restore g v => some (spCal, 0x200 + g.val, v)
  | .fackWrite v => some (spFault, 1, v)
  | .hkctrig v => some (spHkc, 3, v)
  | .hkcctlEnWrite v => some (spHkc, 0, v)
  | .calmodeWrite v => some (spHkc, 0, v)
  | .seallockWrite v => some (spSeal, 0, v)
  | .commitStagedPins v => if tst v 14 then some (spPin, 0x80, v) else none
  | .stageDiscard v => if tst v 14 || tst v 15 then none else some (spPin, 0x80, v)
  | .pcfgWrite n v => some (spPin, pinOff n.val 0, v)
  | .padWrite n v => some (spPin, pinOff n.val 1, v)
  | .slpWrite n v => some (spPin, pinOff n.val 2, v)
  | .statctlUnlock v => some (spStat, 0, v)
  | .retcmd v => some (spNvm, 2, v)
  | .cmpMatchLoad n v => some (spTmr, cmpOff n.val 3, v)
  | .alarmLoad v => some (spTmr, 0x12, v)
  | .alarmDisarm v => some (spTmr, 0x13, v)
  | .rearm n v => some (spTmr, tmOff n.val 0xE, v)
  | .wp2GainWrite c v => some (spWave, 0xB0 + c.val, v)
  | .wp2MuteWrite v => some (spWave, 0xB8, v)
  | .regctlEnWrite c v => some (spIllum, chanOff c.val 4, v)
  | .isetvalWrite c v => some (spIllum, chanOff c.val 3, v)
  | .regBoundWrite c hi v => some (spIllum, chanOff c.val (if hi then 7 else 6), v)
  | _ => none

/-- The commands that are the host's write of a direct register: its address and value. -/
def directWord : Instr → Option (Nat × Word)
  | .registerWrite sp a v => if sp = 0 ∧ a < 0x40 ∧ a ∉ [0x1E, 0x1F, 0x20, 0x21] then some (a, v) else none
  | .modeRequest v | .sysrst v => some (0x02, v)
  | .wphraseWrite v => some (0x0C, v)
  | .aonlockWrite v => some (0x0F, v)
  | .xtalretry v | .pixnWrite v => some (0x10, v)
  | .blkrstCapt => some (0x12, 0x0001)
  | .blkrstHkc => some (0x12, 0x0002)
  | .blkrstIllum => some (0x12, 0x0004)
  | .blkrstWave => some (0x12, 0x0008)
  | .blkrstPipe => some (0x12, 0x0010)
  | .blkrstCsi => some (0x12, 0x0020)
  | .blkrstPool => some (0x12, 0x0040)
  | .blkrstLnkpkt => some (0x12, 0x0080)
  | .blkrstLnkphy => some (0x12, 0x0100)
  | .blkrstNvmc => some (0x12, 0x0200)
  | .blkrstMarl => some (0x12, 0x0400)
  | .evvecWrite v => some (0x17, v)
  | .tstartStart v | .tstartStop v => some (0x1C, v)
  | .gpioset hi v => some (if hi then 0x25 else 0x24, v)
  | .gpioclr hi v => some (if hi then 0x27 else 0x26, v)
  | .gpiotgl hi v => some (if hi then 0x29 else 0x28, v)
  | .arm v | .disarm v | .abort v => some (0x2A, v)
  | .trigsw v => some (0x2C, v)
  | .halt v | .resume v | .step v => some (0x32, v)
  | .marlenClear v | .unpinall v | .runVref v | .runWhite v | .cancel v => some (0x34, v)
  | .stage v | .commit v | .load v | .lflush v => some (0x36, v)
  | .linkEnWrite v | .retrain v | .retire v => some (0x38, v)
  | .streamEnWrite v => some (0x3B, v)
  | .resync v | .wpEnWrite v | .p2play v | .p2stop v | .muteall v => some (0x3C, v)
  | .prog v | .keyprog v | .glock v => some (0x3E, v)
  | .keylockWrite v => some (0x3F, v)
  | _ => none

/-! ## Shapes and situations -/

/-- The state holds as many channels, streams, lanes, ports and other units as the chip has. -/
def Chip.shaped (m : Chip) : Prop :=
  m.chans.length = 8 ∧ m.hkc.reqs.length = 8 ∧ m.loam.regs.length = 8 ∧
  (∀ x ∈ m.cc.susp, x.loam.regs.length = 8) ∧ m.streams.length = 8 ∧ m.movers.length = 4 ∧ m.cams.length = 3 ∧
  m.link.lanes.length = 4 ∧ m.wave.ports.length = 3 ∧ m.wave.chans.length = 8 ∧ m.pins.slp.length = 32 ∧
  m.hkc.applied.length = 6

/-- No mover channel is active, so a new fault record or queue threshold requests no copy (R475). -/
def Chip.moversOff (m : Chip) : Prop := ∀ c, c < 4 → (m.mover c).act = false

/-- Loam executes the instruction at its program counter, in its bank, a well-formed word with this opcode, and no halt or step
waits. -/
def State.issues (s : State) (op : Nat) : Prop :=
  s.chip.mayIssue = true ∧ s.chip.outside = false ∧ iOp s.chip.fetch = op ∧ wordOk s.chip.fetch = true ∧
  s.chip.loam.haltPend = 0 ∧ s.chip.loam.stepping = false

/-- Loam goes on at an address. -/
def Loam.goesTo (l : Loam) (n : Nat) : Loam := { l with pc := n, wait := none, skipBp := false }

/-- The address after the program counter lies in the bank. -/
def Chip.inBank (m : Chip) : Prop := m.loam.pc + 1 < m.bankSize

/-- Only the sequencer changed, to this, IRQ_N and the record of the cycle. -/
def OnlyLoam (m t : Chip) (l : Loam) : Prop :=
  t = { m with loam := l, cyc := t.cyc, pins := { m.pins with irq := t.pins.irq } }

/-- What a system reset leaves (R98): SLEEP with CORE, ARRAY, PIPE and LINK off and the bus not ready, PWRCTL at its reset
value, RSTCAUSE with the one cause, FRAMENUM, the AON counter and the keep store kept. -/
def resetLeaves (m t : Chip) (cause : Word) : Prop :=
  t.pw.cur = .sleep ∧ t.pw.core = false ∧ t.pw.array = false ∧ t.pw.pipe = false ∧ t.pw.link = false ∧
  t.pw.ready = false ∧ t.rd 0 0x02 = 0x0A03 ∧ t.rd 0 0x0E = cause ∧ t.cc.frameNum = m.cc.frameNum ∧
  t.tb.aon = m.tb.aon ∧ t.keep = m.keep ∧ t.cc.cap = none ∧ t.loam = Loam.reset ∧ t.tb.stb = 0

/-- The instructions of Loam with their opcodes. -/
def loamTable : List (Instr × Nat) :=
  [(.loamNop, 0x00), (.loamEnd, 0x01), (.loamJmp, 0x02), (.loamJz, 0x03), (.loamJnz, 0x04), (.loamDjnz, 0x05),
   (.loamCall, 0x06), (.loamRet, 0x07), (.loamLdi, 0x08), (.loamLdih, 0x09), (.loamLdc, 0x0A), (.loamAlu, 0x0B),
   (.loamAddi, 0x0C), (.loamJlt, 0x0D), (.loamGet, 0x0E), (.loamMem, 0x0F), (.loamWaitt, 0x10), (.loamWaite, 0x11),
   (.loamBase, 0x12), (.loamStr, 0x13), (.loamOpen, 0x14), (.loamClose, 0x15), (.loamStrb, 0x16), (.loamIsetl, 0x17),
   (.loamHkt, 0x18), (.loamPin, 0x19), (.loamReadp, 0x1A), (.loamReadb, 0x1B), (.loamDrain, 0x1C), (.loamEmit, 0x1D),
   (.loamFlag, 0x1E), (.loamBreak, 0x1F)]

/-- What a data instruction leaves: the register A with a value, the next address, nothing else. -/
def putsReg (s : State) (t : Chip) (v : Long) : Prop :=
  OnlyLoam s.chip t (Loam.goesTo { s.chip.loam with regs := upd s.chip.loam.regs (iA s.chip.fetch) (fun _ => v) }
    (s.chip.loam.pc + 1))

/-- A timing instruction places one action in the queue (R232, R233, R245 to R247): this one, at its tick, and goes on. -/
def queues (s : State) (c : Instr) (a : Action) : Prop :=
  (s.chip.loam.queue.length < 32 → s.chip.reached a.tick = false →
    Answers c s (fun t => OnlyLoam s.chip t
      (Loam.goesTo { s.chip.loam with queue := s.chip.loam.queue ++ [a] } (s.chip.loam.pc + 1)))) ∧
  (s.chip.loam.queue.length < 32 → s.chip.reached a.tick = true →
    Answers c s (fun t => t.loam =
        Loam.goesTo { s.chip.loam with queue := s.chip.loam.queue ++ [{ a with tick := s.chip.tb.stb + 1 }] } (s.chip.loam.pc + 1) ∧
      tst (t.rd spLoam 0x3000) 14 = true ∧ t.rd spLoam 0x3003 = satAdd (s.chip.rd spLoam 0x3003) 1 ∧
      OnlyThese { s.chip with loam := t.loam } t [(spLoam, 0x3000), (spLoam, 0x3003)])) ∧
  (32 ≤ s.chip.loam.queue.length →
    Answers c s (fun t => OnlyLoam s.chip t { s.chip.loam with wait := some (.queue [a]) }))

/-- The action of this kind whose tick has come is next, and Loam waits for nothing. -/
def State.acts (s : State) (kind : Nat) (a : Action) : Prop := s.chip.dueAction kind = some a ∧ s.chip.loam.wait = none

/-- The queue has given up an action. -/
def Chip.without (m : Chip) (a : Action) : Loam := { m.loam with queue := m.loam.queue.erase a }

/-- Only the pipeline changed, to this, IRQ_N and the record of the cycle. -/
def OnlyPipe (m t : Chip) (p : Pipe) : Prop :=
  t = { m with pipe := p, cyc := t.cyc, pins := { m.pins with irq := t.pins.irq } }

/-- The device stands in RUN with no sequence in progress. -/
def State.steady (s : State) : Prop := s.chip.pw.cur = .run ∧ s.chip.pw.target = .run ∧ s.chip.pw.sq = none

/-- Only the link changed, IRQ_N and the record of the cycle. -/
def OnlyLink (m t : Chip) : Prop :=
  t = { m with link := t.link, cyc := t.cyc, pins := { m.pins with irq := t.pins.irq } }

/-- The state of a lane that trains, without a board table (R497): the lanes that LANES names train. -/
def trains (v : Word) (n : Nat) : LaneState := if tst v n then .train else .unused

/-- A message whose acknowledgement is not asked for, or not enabled. -/
def State.quiet (s : State) (ackReq : Bool) : Prop := s.chip.rxOn = true ∧ (ackReq = true → tst (s.chip.rd spSeal 1) 3 = false)

/-- MSGCNT has counted one message (R529). -/
def counted (m t : Chip) : Prop := t.rd spSeal 3 = satAdd (m.rd spSeal 3) 1

end Sys2Proof.Machine
end

