-- ==== Sys2Proof/Certificates/Slice0/Obligations.lean ====
section
/-! DEFINITION. The statements about the model, for the provers. Their words are those of Safety.lean; a rule R<n> is one of
the specification, a log entry one of notes/assumptions. -/

open Sys2Proof Sys2Proof.Machine

/-- A STEP RUNS THE FRONT COMMAND: with a command at the front of the queue a step is that command on the queue's rest. -/
def Obligations.StepRunsFrontCommand : Prop :=
  ∀ (c : Instr) (rest : List Instr) (s : State), s.pending = c :: rest → step s = exec c { s with pending := rest }

/-- On an empty queue one tick of 10 ns passes (log entry 10). Without VDDAON nothing runs. While VDDAON is there the AON
clock's phase advances, and at its edge the AON counter counts; while CORE is clocked the STB counts the tick, by 1, or by
0 or 2 at a correction that a follower spreads (R104, R118), and it stands while CORE is not clocked. A commit that ends in
the tick and a request that AUTORUN has waiting may change the mode besides, so the clauses on the counters name neither. -/
def Obligations.EmptyQueueTicks : Prop :=
  ∀ s : State, s.pending = [] →
    step s = .next { s with chip := s.chip.tick.settle } ∧
    (s.chip.pw.vddaon = false → s.chip.tick = s.chip) ∧
    (s.chip.pw.vddaon = true → s.chip.pw.auto = false → s.chip.st.commit = none →
      (s.chip.pw.core = true → s.chip.tb.locked = false → s.chip.tick.tb.stb = s.chip.tb.stb + 1) ∧
      (s.chip.pw.core = true → s.chip.tb.locked = true → s.chip.tb.epochLeft ≠ 0 →
        s.chip.tick.tb.stb = s.chip.tb.stb +
          (if s.chip.tb.slews.contains (s.chip.tb.epochLeft - 1) then (if s.chip.tb.slewUp then 2 else 0) else 1)) ∧
      (s.chip.pw.core = false → s.chip.tick.tb.stb = s.chip.tb.stb) ∧
      (s.chip.tb.sub + 128 < 390625 →
        s.chip.tick.tb.sub = s.chip.tb.sub + 128 ∧ s.chip.tick.tb.aon = s.chip.tb.aon) ∧
      (390625 ≤ s.chip.tb.sub + 128 →
        s.chip.tick.tb.sub = s.chip.tb.sub + 128 - 390625 ∧ s.chip.tick.tb.aon = s.chip.tb.aon + 1))

/-- Every command answers a next state and leaves the rest of the queue: the block never stops. No step ever stops,
whatever waits, and the queue shrinks by the command that ran. -/
def Obligations.EveryCommandAnswers : Prop :=
  (∀ (c : Instr) (s : State), ∃ t, exec c s = .next t ∧ t.pending = s.pending) ∧
  (∀ s : State, s.safe ∧ ∀ t, step s = .next t → t.pending = s.pending.tail)

/-- IRQ_N is evaluated after every step, from every state (R558). -/
def Obligations.IrqFollowsEveryStep : Prop :=
  ∀ s t : State, step s = .next t → t.irqTrue

/-- Every step keeps every unit of the chip. -/
def Obligations.ShapeKept : Prop :=
  ∀ s t : State, s.chip.shaped → step s = .next t → t.chip.shaped

/-- Reset: SLEEP with CORE, ARRAY, PIPE and LINK off, the bus not ready, no command waiting, FRAMENUM, STB and AON
counter 0, RSTCAUSE.POR, no event pending, canonical stores. The invariant of IRQ_N holds at reset. At reset every
unit of the chip is there. -/
def Obligations.ResetState : Prop :=
  (State.reset.pending = [] ∧ State.reset.chip.pw.cur = .sleep ∧ State.reset.chip.pw.core = false ∧
   State.reset.chip.pw.array = false ∧ State.reset.chip.pw.pipe = false ∧ State.reset.chip.pw.link = false ∧
   State.reset.chip.pw.ready = false ∧ State.reset.chip.cc.frameNum = 0 ∧ State.reset.chip.tb.stb = 0 ∧
   State.reset.chip.tb.aon = 0 ∧ State.reset.chip.rd 0 0x00 = 0x5120 ∧ State.reset.chip.rd 0 0x0E = 0x0001 ∧
   State.reset.chip.rd 0 0x13 = 0 ∧ State.reset.chip.rd 0 0x14 = 0 ∧ State.reset.chip.loam.halted = false ∧
   State.reset.chip.hkc.queue = [] ∧ State.reset.chip.regs.wf = true ∧ State.reset.chip.held.wf = true) ∧
  (State.reset.irqTrue) ∧
  (State.reset.chip.shaped)

/-- SCRATCH0 and SCRATCH1 hold a written value in every mode; nothing else changes (R42). -/
def Obligations.ScratchHoldsWrite : Prop :=
  ∀ (s : State) (a : Nat) (v : Word), a = 0x0A ∨ a = 0x0B → s.chip.busOn = true →
    Answers (.registerWrite 0 a v) s (fun t => t.rd 0 a = v ∧ OnlyThese s.chip t [(0, a)])

/-- A host write to a domain that is off is discarded and sets PWRSTAT.BUSERR; so do a window write and a read of a
direct register, whose data read 0xFFFF (R15, R39). A write of a word of a space first lets what the window holds
complete, where the window itself answers. -/
def Obligations.DomainOffAccess : Prop :=
  (∀ (s : State) (sp off : Nat) (v : Word), s.chip.busOn = true → s.chip.owned sp off = false →
    (sp = 0 ∧ off < 0x40) ∨
      (spaceKnown sp = true ∧ (s.chip.coreOn = false ∨ (s.chip.win.staged = none ∧ s.chip.win.heldWrite = none))) →
    Answers (.registerWrite sp off v) s (fun t => t.rd 0 0x03 = s.chip.rd 0 0x03 ||| 0x0010 ∧ OnlyThese s.chip t [(0, 0x03)])) ∧
  (∀ (s : State) (v : Word) (h : Bool), s.chip.busOn = true → s.chip.coreOn = false →
    Answers (.windataWrite v h) s (fun t => t.rd 0 0x03 = s.chip.rd 0 0x03 ||| 0x0010 ∧ OnlyThese s.chip t [(0, 0x03)])) ∧
  (∀ (s : State) (a : Nat), s.chip.busOn = true → a < 0x40 → s.chip.owned 0 a = false →
    Answers (.domainOffRead a) s (fun t => t.hd = 0xFFFF ∧ t.rd 0 0x03 = s.chip.rd 0 0x03 ||| 0x0010 ∧
      OnlyThese { s.chip with hd := t.hd } t [(0, 0x03)]))

/-- Where the window pointer names no space a WINDATA read returns 0x0000, a WINDATA write is discarded, and SPERR is set:
no other word, no event, no pointer changes (R44). -/
def Obligations.UnknownSpace : Prop :=
  (∀ (s : State), s.reaches 0 0x20 → s.chip.win.staged = none → s.chip.win.heldWrite = none →
    spaceKnown s.chip.ptrSpace = false →
    Answers .windataRead s (fun t => t.hd = 0 ∧ t.rd 0 0x21 = s.chip.rd 0 0x21 ||| 0x0200 ∧
      OnlyThese { s.chip with hd := t.hd } t [(0, 0x21)]) ∧
    ∀ (v : Word) (h : Bool), Answers (.windataWrite v h) s (fun t => t.rd 0 0x21 = s.chip.rd 0 0x21 ||| 0x0200 ∧
      OnlyThese s.chip t [(0, 0x21)]))

/-- The window reads and writes the word that the pointer names (R43), once what it holds has completed (R36) or, for a
staged word, taken effect (R48): a read puts the word on HD, a write of an ordinary word writes it, a write of the low
word of a 32-bit item is staged, that of its high word goes in with it in one step (R47), a write that is stretched is
held (R36); the pointer advances where AINC is 1 (R45, R46). A window access that times out leaves the pointer and sets
TMO, its held value is gone and a read returns 0xFFFF (R35, R36); a held write that completes is written. A
REGISTER_WRITE that itself names a word of no space is discarded with SPERR, as the model reads the command (log entry
14). -/
def Obligations.WindowAccess : Prop :=
  ((∀ (s : State) (m : Chip), s.chip.busOn = true → s.chip.coreOn = true → m = s.host.windowFirst →
     spaceKnown m.ptrSpace = true → m.owned m.ptrSpace m.ptrOff = true →
     Answers .windataRead s (fun t => t.hd = m.rcValue m.ptrSpace m.ptrOff (m.peekSpace m.ptrSpace m.ptrOff) ∧
       t.ptrSpace = m.ptrSpace ∧
       t.ptrOff = (if tst (m.rd 0 0x21) 0 then nextOff (fld (m.rd 0 0x21) 4 4) m.ptrOff else m.ptrOff) ∧ t.win = m.win ∧
       OnlyThese { m with hd := t.hd } t [(m.ptrSpace, m.ptrOff), (0, 0x1E), (0, 0x1F)])) ∧
   (∀ (s : State) (m n : Chip) (v : Word), s.chip.busOn = true → s.chip.coreOn = true → m = s.host.heldDone →
     spaceKnown m.ptrSpace = true →
     (m.owned m.ptrSpace m.ptrOff = true →
       Answers (.windataWrite v true) s (fun t => t.win.heldWrite = some v ∧ t.win.staged = m.win.staged ∧
         t.regs = m.regs ∧ t.tb = m.tb ∧ t.cc = m.cc ∧ t.loam = m.loam)) ∧
     ((∀ x, m.win.staged = some x → x.1 ≠ m.ptrSpace ∨ x.2.1 + 1 ≠ m.ptrOff) → n = m.stagedAlone →
       n.owned m.ptrSpace m.ptrOff = true →
       (itemLow m.ptrSpace m.ptrOff = false →
         Completes (.windataWrite v false) s (n.writeSpace m.ptrSpace m.ptrOff v).advance) ∧
       (itemLow m.ptrSpace m.ptrOff = true →
         Answers (.windataWrite v false) s (fun t => t.win.staged = some (m.ptrSpace, m.ptrOff, v) ∧
           WordsKept n t [(0, 0x1E), (0, 0x1F)] ∧ t.tb = n.tb ∧ t.cc = n.cc ∧ t.loam = n.loam))) ∧
     (∀ lo o, m.win.staged = some (m.ptrSpace, o, lo) → o + 1 = m.ptrOff → m.owned m.ptrSpace m.ptrOff = true →
       Completes (.windataWrite v false) s
         (Chip.writeItem { m with win := { m.win with staged := none } } m.ptrSpace o lo v).advance)) ∧
   (∀ (s : State) (v : Word), s.reaches 0 0x20 → s.chip.win.staged = none → s.chip.win.heldWrite = none →
     s.chip.ptrSpace = spLoam → s.chip.ptrOff = 0x3002 → tst (s.chip.rd 0 0x21) 0 = false →
     Answers (.windataWrite v false) s (fun t => t.rd spLoam 0x3002 = v ∧ OnlyThese s.chip t [(spLoam, 0x3002)])) ∧
   (∀ (s : State) (v lo : Word) (o : Nat), s.reaches 0 0x20 → s.chip.win.heldWrite = none →
     s.chip.win.staged = some (spLoam, o, lo) → s.chip.ptrSpace = spLoam → s.chip.ptrOff = o + 1 → 0x3040 ≤ o → o < 0x30BF →
     tst (s.chip.rd 0 0x21) 0 = false →
     Answers (.windataWrite v false) s (fun t => t.rd spLoam o = lo ∧ t.rd spLoam (o + 1) = v ∧ t.win.staged = none ∧
       WordsKept s.chip t [(spLoam, o), (spLoam, o + 1)])) ∧
   (∀ (m : Chip), tst (m.rd 0 0x21) 0 = true → fld (m.rd 0 0x21) 4 4 = 0 → m.ptrOff < 0xFFFFFF →
     m.advance.ptrOff = m.ptrOff + 1 ∧ m.advance.ptrSpace = m.ptrSpace)) ∧
  ((∀ (s : State) (read : Bool), s.chip.busOn = true → s.chip.coreOn = true →
     Completes (.windowTimeout read) s (s.host.windowTimeout read) ∧
     (s.chip.win.staged = none → s.chip.win.heldWrite = none ∨ s.steady →
       Answers (.windowTimeout read) s (fun t => t.win = { staged := none, heldWrite := none } ∧
         t.rd 0 0x21 = s.chip.rd 0 0x21 ||| 0x0100 ∧ t.hd = (if read then 0xFFFF else s.chip.hd) ∧
         OnlyThese { s.chip with hd := t.hd, win := t.win } t [(0, 0x21)]))) ∧
   (∀ s : State, s.chip.busOn = true → s.chip.coreOn = true →
     (s.chip.win.heldWrite = none → Answers .heldWindowWriteDone s (Unchanged s.chip)) ∧
     (∀ v, s.chip.win.heldWrite = some v → Completes .heldWindowWriteDone s
       (Chip.windowWrite { s.host with win := { s.host.win with heldWrite := none } } v).modeGo)) ∧
   (∀ (s : State) (v : Word), s.reaches 0 0x20 → s.steady → s.chip.win.staged = none → s.chip.win.heldWrite = some v →
     s.chip.ptrSpace = 0x13 → Answers .heldWindowWriteDone s (fun t => t.win = { staged := none, heldWrite := none } ∧
       t.rd 0 0x21 = s.chip.rd 0 0x21 ||| 0x0200 ∧ WordsKept s.chip t [(0, 0x21)])) ∧
   (∀ (s : State) (v : Word), s.reaches 0 0x20 → s.steady → s.chip.win.staged = none → s.chip.win.heldWrite = some v →
     s.chip.ptrSpace = spLoam → s.chip.ptrOff = 0x3002 → tst (s.chip.rd 0 0x21) 0 = false →
     Answers .heldWindowWriteDone s (fun t => t.win = { staged := none, heldWrite := none } ∧ t.rd spLoam 0x3002 = v ∧
       WordsKept s.chip t [(spLoam, 0x3002)]))) ∧
  (∀ (s : State) (sp off : Nat) (v : Word), s.chip.busOn = true → s.chip.coreOn = true → sp ≠ 0 → spaceKnown sp = false →
    Completes (.registerWrite sp off v) s (s.host.windowFirst.orBits 0 0x21 0x0200) ∧
    (s.chip.win.staged = none → s.chip.win.heldWrite = none →
      Answers (.registerWrite sp off v) s (fun t => t.rd 0 0x21 = s.chip.rd 0 0x21 ||| 0x0200 ∧
        OnlyThese s.chip t [(0, 0x21)])))

/-- Host accesses. A direct read of STB0 latches the rest of the time and counts in STBSEQ; so the reads of AONCNT0 and
FRAMENUM latch theirs (R52, R53, R180); the read of any other direct register but WINDATA and HKQ0 puts its word on HD and
changes no word (the model's reading of DOMAIN_OFF_READ, log entry 82). Every command that is a write of a direct register or
of a word of a space completes where the owner of the word answers, with the effect that the register's own rule gives its
address (R15, R41); a window register or a word of a space lets what the window holds complete first (R36, R48). Before the
bus is ready a host access has no effect (R576). -/
def Obligations.HostReads : Prop :=
  (∀ s : State, s.chip.busOn = true →
     (s.chip.coreOn = true →
       Answers .stb0Read s (fun t => t.hd = wd s.chip.tb.stb.toNat ∧ t.tb.stbLatch = (s.chip.tb.stb >>> 16).setWidth 48 ∧
         t.rd 0 0x1D = s.chip.rd 0 0x1D + 1 ∧ WordsKept s.chip t [(0, 0x1D)] ∧ t.tb.stb = s.chip.tb.stb) ∧
       Answers .framenumRead s (fun t => t.hd = wd s.chip.cc.lastFn.toNat ∧
         t.cc = { s.chip.cc with shadow := (s.chip.cc.lastFn >>> 16).setWidth 16 } ∧ AllWordsKept s.chip t)) ∧
     Answers .aoncnt0Read s (fun t => t.hd = wd s.chip.tb.aon.toNat ∧
       t.tb = { s.chip.tb with aonLatch := (s.chip.tb.aon >>> 16).setWidth 32 } ∧ AllWordsKept s.chip t) ∧
     (∀ a, a < 0x40 → a ∉ [0x07, 0x18, 0x1E, 0x1F, 0x20, 0x21, 0x2D, 0x2E] → s.chip.owned 0 a = true →
       Answers (.domainOffRead a) s (fun t => t.hd = s.chip.peekDirect a ∧ Unchanged { s.chip with hd := t.hd } t)) ∧
     (∀ a, a ∈ [0x1E, 0x1F, 0x21] → s.chip.coreOn = true →
       Completes (.domainOffRead a) s (s.host.windowFirst.drive (s.host.windowFirst.peekDirect a)))) ∧
  ((∀ (s : State) (c : Instr) (a : Nat) (v : Word), directWord c = some (a, v) → s.reaches 0 a →
      Completes c s (s.host.writeDirect a v)) ∧
   (∀ (s : State) (c : Instr) (sp off : Nat) (v : Word), windowWord c = some (sp, off, v) → s.chip.busOn = true →
      s.window.owned sp off = true → Completes c s (s.window.writeSpace sp off v)) ∧
   (∀ (s : State) (a : Nat) (v : Word), s.chip.busOn = true → a ∈ [0x1E, 0x1F, 0x21] → s.chip.coreOn = true →
      Completes (.registerWrite 0 a v) s (s.host.windowFirst.plainWrite 0 a v))) ∧
  (∀ (s : State), s.chip.busOn = false →
     (∀ (sp off : Nat) (v : Word), Answers (.registerWrite sp off v) s (Unchanged s.chip)) ∧
     (∀ (v : Word) (h : Bool), Answers (.windataWrite v h) s (Unchanged s.chip)) ∧
     Answers .windataRead s (Unchanged s.chip) ∧ Answers .stb0Read s (Unchanged s.chip) ∧
     Answers .aoncnt0Read s (Unchanged s.chip) ∧ (∀ v, Answers (.modeRequest v) s (Unchanged s.chip)))

/-- PWRCTL: a request with a mode code of 4 to 7 is discarded whole (R63); one for IDLE in RUN starts RUN to IDLE at once
where no capture runs, and waits for a running capture (R66); from SLEEP a request for RUN or IDLE starts the wake, bound
for it (R65, R71), IDLE to DOZE, DOZE to SLEEP and IDLE to RUN start at their requests (R62, R64). The ends of the mode
sequences (R64, R66): the capture that RUN waited for has ended, RUN to IDLE ends in IDLE with ARRAY off, IDLE to DOZE ends
with the clocks stopped and the phase of the AON clock recorded (R106), DOZE to SLEEP with the keep store saved and the STB
at its recorded value (R81, R106), IDLE to RUN in RUN. SLEEP entry gives up the pool after DRAINTMO milliseconds: every
record is discarded and PWRSTAT.DRAINLOST set (R69). -/
def Obligations.PowerModes : Prop :=
  (∀ (s : State) (v : Word), s.chip.busOn = true →
     Completes (.modeRequest v) s (s.host.writePwrctl v) ∧
     (4 ≤ fld v 0 3 → Answers (.modeRequest v) s (Unchanged s.chip)) ∧
     (fld v 0 3 = 1 → tst v 7 = false → s.chip.pw.cur = .run → s.chip.pw.sq = none → s.chip.pw.wake = false →
       s.chip.loam.halted = false →
       (s.chip.cc.cap = none →
         Answers (.modeRequest v) s (fun t => t.pw.sq = some .runIdle ∧ t.pw.isetOn = false ∧ t.pw.target = .idle ∧
           t.cc.nodes = 0)) ∧
       (s.chip.cc.cap.isSome = true →
         Answers (.modeRequest v) s (fun t => t.pw.sq = some .runIdleWait ∧ t.pw.target = .idle ∧
           t.cc = { s.chip.cc with cap := s.chip.cc.cap.map (fun c => { c with left := true }) } ∧
           WordsKept s.chip t [(0, 0x02)]))) ∧
     (fld v 0 3 < 2 → tst v 7 = false → s.chip.pw.cur = .sleep → s.chip.pw.sq = none → s.chip.pw.below = 0 →
       Answers (.modeRequest v) s (fun t => t.pw.sq = some .wakeSleep ∧ t.pw.bound = modeOf (fld v 0 3) ∧
         tst (t.rd 0 0x04) 10 = true ∧ t.keep = s.chip.keep ∧ t.tb = s.chip.tb)) ∧
     (fld v 0 3 = 2 → tst v 7 = false → s.chip.pw.cur = .idle → s.chip.pw.sq = none → s.chip.storesBusy = false →
       s.chip.win.heldWrite = none → Answers (.modeRequest v) s (fun t => t.pw.sq = some .idleDoze ∧ t.pw.cur = .idle)) ∧
     (fld v 0 3 = 3 → tst v 7 = false → s.chip.pw.cur = .doze → s.chip.pw.sq = none → s.chip.pw.wake = false →
       Answers (.modeRequest v) s (fun t => t.pw.sq = some .dozeSleep ∧ t.pw.core = true)) ∧
     (fld v 0 3 = 0 → tst v 7 = false → s.chip.pw.cur = .idle → s.chip.pw.sq = none → s.chip.pw.wake = false →
       s.chip.pw.below = 0 → Answers (.modeRequest v) s (fun t => t.pw.sq = some .idleRun ∧ t.pw.pixFb = false))) ∧
  ((∀ s : State, s.chip.pw.sq = some .runIdleWait → s.chip.cc.cap = none →
     (s.chip.pw.target ≠ .run → Answers .runToIdleEntry s (fun t => t.pw.sq = some .runIdle ∧ t.pw.isetOn = false)) ∧
     (s.chip.pw.target = .run → Answers .runToIdleEntry s (fun t => t.pw = { s.chip.pw with sq := none } ∧
       t = { s.chip with pw := t.pw, pins := { s.chip.pins with irq := t.pins.irq } }))) ∧
   (∀ s : State, s.chip.seqReady = true → Completes .modeSequenceEnd s s.chip.seqEnd.modeGo) ∧
   (∀ s : State, s.chip.pw.sq = some .runIdle → s.chip.pw.target = .idle →
     Answers .modeSequenceEnd s (fun t => t.pw = { s.chip.pw with
         cur := .idle, sq := none, array := false, pixFb := false, pixPend := false } ∧
       fld (t.rd 0 0x0D) 12 4 = 4 ∧ WordsKept s.chip t [(0, 0x0D), (0, 0x06)] ∧ t.cc = s.chip.cc ∧ t.tb = s.chip.tb)) ∧
   (∀ s : State, s.chip.pw.sq = some .idleDoze → s.chip.seqReady = true → s.chip.pw.target = .doze →
     s.chip.pw.wake = false → s.chip.rd 0 0x05 = 0 →
     Answers .modeSequenceEnd s (fun t => t.pw.cur = .doze ∧ t.pw.sq = none ∧ t.pw.core = false ∧ t.pw.pipe = false ∧
       t.pw.link = false ∧ t.pw.phase = some (s.chip.tb.stb, s.chip.tb.aon, s.chip.aonPhase))) ∧
   (∀ s : State, s.chip.pw.sq = some .dozeSleep → s.chip.seqReady = true → s.chip.pw.target = .sleep →
     s.chip.pw.wake = false → s.chip.rd 0 0x05 = 0 →
     Answers .modeSequenceEnd s (fun t => t.pw.cur = .sleep ∧ t.pw.sq = none ∧ t.pw.core = false ∧ t.pw.pipe = false ∧
       t.pw.link = false ∧ t.tb.stb = s.chip.tb.stb ∧ t.pw.phase = some (s.chip.tb.stb, s.chip.tb.aon, s.chip.aonPhase) ∧
       (∃ w l, t.keep = .saved w l) ∧ t.cc.frameNum = s.chip.cc.frameNum)) ∧
   (∀ s : State, s.chip.pw.sq = some .idleRun → s.chip.pw.target = .run →
     Answers .modeSequenceEnd s (fun t => t.pw = { s.chip.pw with
         cur := .run, sq := none, wake := false, array := true, isetOn := true } ∧
       fld (t.rd 0 0x0D) 12 4 = 5 ∧ WordsKept s.chip t [(0, 0x0D)] ∧ t.cc = s.chip.cc ∧ t.tb = s.chip.tb))) ∧
  (∀ s : State, s.chip.pw.sq = some .dozeSleep → s.chip.pw.drained = false → s.chip.poolEmpty = false →
     s.chip.drainLate = true →
     Answers .drainTimeout s (fun t => t.pw.drained = true ∧ t.poolEmpty = true ∧
       t.rd 0 0x03 = s.chip.rd 0 0x03 ||| 0x0100 ∧ WordsKept s.chip t [(0, 0x03)] ∧ t.tb = s.chip.tb ∧ t.cc = s.chip.cc))

/-- A wake pin enabled in WAKEEN wakes the device from SLEEP (R73): the wake sequence runs, bound for RUN or IDLE as WAKEMODE
has it, and its WAKESRC bit is set; in RUN the event has no effect. The wake phrase: a squelch change stamps the interval
that it begins and judges the one it ends, and one that cannot complete the phrase changes no word (R77); a phrase that
completes in SLEEP, by its last burst or by the end of its final quiet, wakes the device where WAKEEN.PHR is 1 (R73, R78);
a final quiet of the phrase in RUN sets WAKESRC bit 11 (R80); a WPHRASE write replaces control or element word and restarts
the matcher (R76, R79). The alarm that is reached fires: ARMED clears and FIRED is set; in SLEEP it wakes the device where
WAKEEN.ALM is 1, and in RUN the firing has no further effect (R113). -/
def Obligations.WakeEvents : Prop :=
  (∀ (s : State) (n : Fin 8), s.chip.pw.vddaon = true → tst (s.chip.rd 0 0x05) n.val = true →
     Completes (.wakePin n) s (s.chip.wakeFire n.val).modeGo ∧
     (s.chip.pw.cur = .sleep → s.chip.pw.sq = none → s.chip.pw.ready = true → s.chip.pw.below = 0 →
       Answers (.wakePin n) s (fun t => t.pw.sq = some .wakeSleep ∧ t.pw.bound = s.chip.wakeTarget ∧
         tst (t.rd 0 0x04) n.val = true ∧ WordsKept s.chip t [(0, 0x04), (0, 0x0D)] ∧ t.tb = s.chip.tb)) ∧
     (s.steady → s.chip.pw.wake = false → Answers (.wakePin n) s (Unchanged s.chip))) ∧
  ((∀ (s : State) (o : Bool), s.chip.phrase.isOpen ≠ o → s.chip.pw.ready = true →
     Completes (.squelchChange o) s (s.chip.squelch o) ∧
     (s.chip.phrase.index + 1 ≠ fld s.chip.phraseWord 0 5 →
       Answers (.squelchChange o) s (fun t => t.phrase.isOpen = o ∧ t.phrase.since = s.chip.tb.aon ∧ AllWordsKept s.chip t ∧
         t.pw = s.chip.pw)) ∧
     (s.chip.phrase.index + 1 = fld s.chip.phraseWord 0 5 → o = false → s.chip.phrase.index % 2 = 0 →
       s.chip.phraseFits s.chip.phrase.index (s.chip.tb.aon - s.chip.phrase.since).toNat = true →
       tst (s.chip.rd 0 0x05) 8 = true → s.chip.pw.cur = .sleep → s.chip.pw.sq = none → s.chip.pw.below = 0 →
       Answers (.squelchChange o) s (fun t => t.phrase.index = 0 ∧ t.pw.sq = some .wakeSleep ∧ t.pw.wake = true ∧
         tst (t.rd 0 0x04) 8 = true))) ∧
   (∀ s : State, s.chip.pw.ready = true → s.chip.quietDue = true →
     (s.steady → s.chip.pw.wake = false →
       Answers .phraseQuietExpiry s (fun t => t.phrase.index = 0 ∧ t.rd 0 0x04 = s.chip.rd 0 0x04 ||| 0x0800 ∧
         WordsKept s.chip t [(0, 0x04)] ∧ t.pw = s.chip.pw)) ∧
     (tst (s.chip.rd 0 0x05) 8 = true → s.chip.pw.cur = .sleep → s.chip.pw.sq = none → s.chip.pw.below = 0 →
       Answers .phraseQuietExpiry s (fun t => t.phrase.index = 0 ∧ t.pw.sq = some .wakeSleep ∧ t.pw.wake = true ∧
         tst (t.rd 0 0x04) 8 = true))) ∧
   (∀ (s : State) (v : Word), s.chip.busOn = true → tst (s.chip.rd 0 0x0F) 0 = false →
     (tst v 15 = true → fld v 0 5 ≠ 1 → fld v 0 5 ≤ 16 →
       Answers (.wphraseWrite v) s (fun t => t.rd 0 0x0C = (v &&& 0x4F1F) ||| 0x8000 ∧ t.phrase.index = 0 ∧
         WordsKept s.chip t [(0, 0x0C)] ∧ t.pw = s.chip.pw)) ∧
     (tst v 15 = true → (fld v 0 5 = 1 ∨ 16 < fld v 0 5) → Answers (.wphraseWrite v) s (Unchanged s.chip)) ∧
     (tst v 15 = false →
       Answers (.wphraseWrite v) s (fun t => t.rd 0 (0x40 + fld v 8 4) = v &&& 0x00FF ∧ t.phrase.index = 0 ∧
         WordsKept s.chip t [(0, 0x40 + fld v 8 4)] ∧ t.pw = s.chip.pw)))) ∧
  (∀ s : State, s.chip.pw.vddaon = true → s.chip.alarmDue = true →
     (tst (s.chip.rd 0 0x05) 9 = false ∨ (s.steady ∧ s.chip.pw.wake = false) →
       Answers .alarmFire s (fun t => t.rd spTmr 0x13 = (s.chip.rd spTmr 0x13 &&& ~~~0x8000) ||| 0x4000 ∧
         OnlyThese s.chip t [(spTmr, 0x13)])) ∧
     (tst (s.chip.rd 0 0x05) 9 = true → s.chip.pw.cur = .sleep → s.chip.pw.sq = none → s.chip.pw.ready = true →
       s.chip.pw.below = 0 →
       Answers .alarmFire s (fun t => t.rd spTmr 0x13 = (s.chip.rd spTmr 0x13 &&& ~~~0x8000) ||| 0x4000 ∧
         t.pw.sq = some .wakeSleep ∧ tst (t.rd 0 0x04) 9 = true)))

/-- The alarm's words (R112): writes to ALM0 and ALM1 are held, a write to ALM2 loads all three and sets ARMED, and
DISARM clears ARMED; FIRED clears where a 1 is written to it. -/
def Obligations.AlarmLoad : Prop :=
  (∀ (s : State) (i : Fin 2) (v : Word), s.opens spTmr (0x10 + i.val) →
    Answers (.registerWrite spTmr (0x10 + i.val) v) s (fun t => t.rdHeld spTmr (0x10 + i.val) = v ∧ AllWordsKept s.chip t ∧
      (∀ k, k ≠ key spTmr (0x10 + i.val) → Bank.get t.held k = Bank.get s.chip.held k) ∧
      t = { s.chip with held := t.held, cyc := t.cyc, pins := { s.chip.pins with irq := t.pins.irq } })) ∧
  (∀ (s : State) (v : Word), s.chip.busOn = true →
    (s.window.owned spTmr 0x12 = true → Completes (.alarmLoad v) s (s.window.writeAlm 2 v)) ∧
    (s.window.owned spTmr 0x13 = true → Completes (.alarmDisarm v) s (s.window.writeAlmctl v))) ∧
  (∀ (s : State) (v : Word), s.opens spTmr 0x12 →
    Answers (.alarmLoad v) s (fun t => t.rd spTmr 0x10 = s.chip.rdHeld spTmr 0x10 ∧
      t.rd spTmr 0x11 = s.chip.rdHeld spTmr 0x11 ∧ t.rd spTmr 0x12 = v ∧
      t.rd spTmr 0x13 = s.chip.rd spTmr 0x13 ||| 0x8000 ∧
      OnlyThese { s.chip with pw := { s.chip.pw with alarmAt := s.chip.tb.aon } } t
        [(spTmr, 0x10), (spTmr, 0x11), (spTmr, 0x12), (spTmr, 0x13)])) ∧
  (∀ (s : State) (v : Word), s.opens spTmr 0x13 → tst v 0 = true →
    Answers (.alarmDisarm v) s (fun t => tst (t.rd spTmr 0x13) 15 = false ∧
      (tst v 14 = true → tst (s.fresh spTmr 0x13) 14 = false → tst (t.rd spTmr 0x13) 14 = false) ∧
      (tst v 14 = false → tst (t.rd spTmr 0x13) 14 = tst (s.chip.rd spTmr 0x13) 14) ∧ OnlyThese s.chip t [(spTmr, 0x13)]))

/-- The system resets and their causes in RSTCAUSE: a supply below its reset level (R96), PWRCTL.SYSRST (R98), JTAG
SYSRESET (R267), a lost clock (R72, R88). A rise of VDDAON is a power-on reset and a loss of VDDAON loses everything
but the non-volatile stores (R97, R577); the boot reader then makes the bus ready (R576, R582), and a wake that came in the
meantime begins. -/
def Obligations.Resets : Prop :=
  ((∀ (s : State) (v : Word), s.chip.busOn = true → fld v 0 3 < 4 → tst v 7 = true →
     Answers (.sysrst v) s (fun t => resetLeaves s.chip t 0x0004)) ∧
   (∀ (s : State) (r : Fin 4), s.chip.fed r.val = true →
     Answers (.supplyReset r) s (fun t => resetLeaves s.chip t (wd (2 + 256 * 2 ^ r.val)))) ∧
   (∀ s : State, s.chip.tapOn = true → tst (s.chip.opt 0) 1 = false →
     Answers .sysreset s (fun t => resetLeaves s.chip t 0x0008)) ∧
   (∀ s : State, s.chip.waking = true → Answers .sysPllLockTimeout s (fun t => resetLeaves s.chip t 0x0010)) ∧
   (∀ s : State, s.chip.pw.core = true ∨ s.chip.pw.cur = .doze →
     Answers .clockFailure s (fun t => resetLeaves s.chip t 0x0010))) ∧
  ((∀ s : State, Answers .powerOnReset s (fun t => t.pw = Power.reset ∧ t.cc = CaptureCtl.reset ∧ t.tb = TimeBase.reset ∧
     t.keep = .empty ∧ t.loam = Loam.reset ∧ t.link = Link.reset ∧ t.streams = Chip.reset.streams ∧
     t.rd 0 0x0E = 0x0001 ∧ (∀ k, nvKey k = false → Bank.get t.regs k = unlisted k))) ∧
   (∀ s : State, Answers .vddaonLoss s (fun t => t.pw = { Power.reset with vddaon := false } ∧ t.keep = .empty ∧
     (∀ k, nvKey k = false → Bank.get t.regs k = unlisted k))) ∧
   (∀ s : State, s.chip.pw.vddaon = true → s.chip.pw.ready = false →
     Completes .bootReady s s.chip.bootDone.modeGo ∧
     (s.chip.pw.cur = .sleep → s.chip.pw.target = .sleep → s.chip.pw.wake = false →
       Answers .bootReady s (fun t => t.pw = { s.chip.pw with ready := true } ∧ t.st.gen = s.chip.bootGen ∧
         t.st.factBad = s.chip.factoryBad ∧ fld (t.rd 0 0x0D) 8 3 = s.chip.bootGen ∧
         WordsKept s.chip t [(0, 0x0D), (spNvm, 0), (spNvm, 1)]))))

/-- A supply below its reset level whose monitor is not active only stands low (the model's reading, log entry 51). A
warning sets WARN and WARNSTK, raises SUPPLY_WARN (R93), or keeps it for the wake while CORE is not clocked (R561), marks a
running capture (R94) and counts in the ledger; it clears with the level. SUPPLY_GOOD, 10 ms after the last supply has
recovered, lets the stores take up again what the warning stopped, in DOZE at the wake (R95). -/
def Obligations.Supplies : Prop :=
  (∀ (s : State) (r : Fin 4), s.chip.fed r.val = false →
    Answers (.supplyReset r) s (fun t => t.pw = { s.chip.pw with below := s.chip.pw.below ||| BitVec.ofNat 4 (2 ^ r.val) } ∧
      AllWordsKept s.chip t)) ∧
  (∀ (s : State) (r : Fin 4), s.chip.fed r.val = true → tst (s.chip.rd 0 0x06) r.val = false →
    Completes (.supplyWarn r) s (s.chip.supplyWarn r.val) ∧
    (s.chip.pw.core = false →
      Answers (.supplyWarn r) s (fun t => t.rd 0 0x06 = s.chip.rd 0 0x06 ||| (bitW r.val ||| bitW (4 + r.val)) ∧
        t.pw.deferred.events = s.chip.pw.deferred.events ||| 0x40000000 ∧ WordsKept s.chip t [(0, 0x06)])) ∧
    (s.chip.pw.core = true → s.steady →
      Answers (.supplyWarn r) s (fun t => t.rd 0 0x06 = s.chip.rd 0 0x06 ||| (bitW r.val ||| bitW (4 + r.val)) ∧
        tst (t.rd 0 0x14) 14 = true ∧ t.pw.low.getLsbD r.val = true ∧
        (∀ c, s.chip.cc.cap = some c → t.cc.cap.map (·.supply) = some true ∧ tst (t.rd 0 0x2B) 13 = true) ∧
        t.tb = s.chip.tb ∧ t.loam = s.chip.loam))) ∧
  (∀ (s : State) (r : Fin 4),
    Answers (.supplyWarnClear r) s (fun t => tst (t.rd 0 0x06) r.val = false ∧ t.pw.below.getLsbD r.val = false ∧
      t.pw.low.getLsbD r.val = false ∧ WordsKept s.chip t [(0, 0x06)])) ∧
  (∀ s : State, s.chip.fed 0 = true → s.chip.suppliesGood = true →
    (s.chip.pw.core = false →
      Answers .supplyGood s (fun t => t.pw = { s.chip.pw with goodHeld := true } ∧ AllWordsKept s.chip t)) ∧
    (s.chip.pw.core = true → Completes .supplyGood s s.chip.storesGood ∧
      (s.chip.st.commit = none → s.chip.st.flush = none → s.chip.st.staging = false → s.chip.st.waiting = none →
        s.chip.st.retryPend = false → s.chip.st.flushDue = false → s.chip.st.flushRetry = false →
        Answers .supplyGood s (fun t => t.st = { s.chip.st with retryDue := false } ∧ AllWordsKept s.chip t))))

/-- The AON crystal (R86, R87): adopted, it ends RCCLK; a retry that fails only ends; XTALRETRY starts one while the RC
oscillator clocks AON and leaves a trial that follows a power-on reset as it is. The PIX PLL (R90, R91, R92): a PIXN below 40 or above 128 is discarded; during a capture a new
one waits; else the PLL relocks, running at its fallback until it has locked; the frequency monitor forces the
fallback. -/
def Obligations.ClockSources : Prop :=
  ((∀ s : State, s.chip.pw.vddaon = true → s.chip.pw.xtalTry = true → s.chip.pw.rc = true →
     Answers .aonCrystalAdopted s (fun t => t.pw = { s.chip.pw with rc := false, xtalTry := false, xtalFirst := false } ∧
       AllWordsKept s.chip t) ∧
     (s.chip.pw.xtalFirst = false →
       Answers .aonCrystalStartTimeout s (fun t => t.pw = { s.chip.pw with xtalTry := false } ∧ AllWordsKept s.chip t)) ∧
     (s.chip.pw.xtalFirst = true → Completes .aonCrystalStartTimeout s (s.chip.xtalFail 0)) ∧
     (s.chip.pw.xtalFirst = true → s.chip.pw.core = false →
       Answers .aonCrystalStartTimeout s (fun t => t.pw.rc = true ∧ t.pw.xtalTry = false ∧
         t.rd 0 0x03 = s.chip.rd 0 0x03 ||| 0x0400 ∧
         t.pw.deferred.faults = s.chip.pw.deferred.faults ++ [(0x11, [0])] ∧ WordsKept s.chip t [(0, 0x03)]))) ∧
   (∀ s : State, s.chip.pw.vddaon = true → s.chip.pw.rc = false → Completes .aonCrystalStop s (s.chip.xtalFail 1)) ∧
   (∀ s : State, s.chip.pw.vddaon = true → s.chip.pw.rc = false → s.chip.pw.core = false →
     Answers .aonCrystalStop s (fun t => t.pw.rc = true ∧ t.pw.xtalTry = false ∧
       t.rd 0 0x03 = s.chip.rd 0 0x03 ||| 0x0400 ∧
       t.pw.deferred.faults = s.chip.pw.deferred.faults ++ [(0x11, [1])] ∧ WordsKept s.chip t [(0, 0x03)])) ∧
   (∀ (s : State) (v : Word), s.reaches 0 0x10 → s.chip.pw.rc = true → 40 ≤ fld v 0 8 → fld v 0 8 ≤ 128 → tst v 8 = true →
     Answers (.xtalretry v) s (fun t => t.pw.xtalTry = true ∧
       t.pw.xtalFirst = (s.chip.pw.xtalFirst && s.chip.pw.xtalTry) ∧ WordsKept s.chip t [(0, 0x10)]))) ∧
  ((∀ (s : State) (v : Word), s.reaches 0 0x10 →
     ((fld v 0 8 < 40 ∨ 128 < fld v 0 8) → Answers (.pixnWrite v) s (Unchanged s.chip)) ∧
     (40 ≤ fld v 0 8 → fld v 0 8 ≤ 128 → tst v 8 = false → s.chip.pw.array = true → fld v 0 8 ≠ s.chip.pw.pixN →
       (s.chip.cc.cap.isSome = true → Answers (.pixnWrite v) s (fun t => t.pw = { s.chip.pw with pixPend := true } ∧
         fld (t.rd 0 0x10) 0 8 = fld v 0 8 ∧ WordsKept s.chip t [(0, 0x10)])) ∧
       (s.chip.cc.cap = none →
         Answers (.pixnWrite v) s (fun t => t.pw = { s.chip.pw with pixN := fld v 0 8, pixPend := false, pixFb := true } ∧
           fld (t.rd 0 0x10) 0 8 = fld v 0 8 ∧ WordsKept s.chip t [(0, 0x10)])))) ∧
   (∀ s : State, s.chip.pw.pixPend = true → s.chip.cc.cap = none → Completes .pixnPendingApply s s.chip.pixChange) ∧
   (∀ s : State, s.chip.pw.pixPend = true → s.chip.cc.cap = none → s.chip.pw.array = true →
     fld (s.chip.rd 0 0x10) 0 8 ≠ s.chip.pw.pixN →
     Answers .pixnPendingApply s (fun t =>
       t.pw = { s.chip.pw with pixN := fld (s.chip.rd 0 0x10) 0 8, pixPend := false, pixFb := true } ∧ AllWordsKept s.chip t)) ∧
   (∀ s : State, s.chip.pw.pixFb = true →
     Answers .pixRelockDone s (fun t => t.pw = { s.chip.pw with pixFb := false } ∧ AllWordsKept s.chip t)) ∧
   (∀ (s : State) (kHz : Nat), s.chip.pw.array = true → s.chip.pw.pixFb = false → 5100 * s.chip.pw.pixN < kHz →
     Completes (.pixFreqMonitorTrip kHz) s (s.chip.pixTrip kHz)) ∧
   (∀ (s : State) (kHz : Nat), s.chip.pw.array = true → s.chip.pw.core = true → s.chip.pw.pixFb = false →
     5100 * s.chip.pw.pixN < kHz → s.chip.moversOff →
     Answers (.pixFreqMonitorTrip kHz) s (fun t => t.pw = { s.chip.pw with pixFb := true } ∧ tst (t.rd 0 0x11) 5 = true ∧
       t.rd spFault 0 = s.chip.rd spFault 0 + 1)))

/-- A BLKRST write of one block's bit reads 1 until the block runs again, and returns what the block holds to its reset
value: capture control and Loam (R101), the HKC, the strobes, WAVE, the pipeline (R570), the camera ports, the pool,
packet formation, the lanes, the stores controller (R392) and Marl (R347). A block runs again: its BLKRST bit clears
and nothing else changes (R99). -/
def Obligations.BlockResets : Prop :=
  (∀ s : State, s.reaches 0 0x12 → s.chip.rd 0 0x12 = 0 →
     (s.chip.pw.core = true →
       Answers .blkrstCapt s (fun t => tst (t.rd 0 0x12) 0 = true ∧ t.loam = Loam.reset ∧ t.rd spLoam 0x3000 = 0 ∧
         t.rd spLoam 0x3003 = 0 ∧ t.cc.heldTrig = [] ∧ t.cc.cap = none ∧ t.cc.susp = [] ∧
         (s.chip.cc.cap = none → s.chip.cc.susp = [] →
           t.cc = { s.chip.cc with heldTrig := [] } ∧ t.rd 0 0x2B = s.chip.rd 0 0x2B)) ∧
       Answers .blkrstHkc s (fun t => tst (t.rd 0 0x12) 1 = true ∧ t.hkc.queue = [] ∧ t.hkc.conv = [] ∧
         t.hkc.reqs = List.replicate 8 none ∧ t.hkc.act = tst (s.chip.rd spHkc 0) 15 ∧ t.rd spHkc 1 = 0 ∧
         t.rd spHkc 2 = 0 ∧ t.rd spHkc 4 = 0 ∧ t.cc = s.chip.cc) ∧
       Answers .blkrstIllum s (fun t => tst (t.rd 0 0x12) 2 = true ∧ t.rd spIllum 0 = 0 ∧
         (∀ c, c < 8 → (t.chan c).level = false) ∧ t.tb = s.chip.tb) ∧
       Answers .blkrstWave s (fun t => tst (t.rd 0 0x12) 3 = true ∧ t.wave.playing = false ∧ t.wave.armed = false ∧
         t.wave.out = [] ∧ t.rd 0 0x3D = 0 ∧ t.cc = s.chip.cc) ∧
       (s.steady → Answers .blkrstNvmc s (fun t => tst (t.rd 0 0x12) 9 = true ∧ t.st.commit = none ∧ t.st.otp = none ∧
         t.st.stgValid = false)) ∧
       Answers .blkrstMarl s (fun t => tst (t.rd 0 0x12) 10 = true ∧ t.cal.stopping = false ∧ t.cal.hold = 0 ∧
         t.streams = s.chip.streams ∧ t.chans = s.chip.chans)) ∧
     (s.chip.pw.pipe = true →
       Answers .blkrstPipe s (fun t => tst (t.rd 0 0x12) 4 = true ∧ t.pipe.inline = [] ∧ t.pipe.memory = [] ∧
         t.pipe.lines = [] ∧ t.rd spPipe 0 = 0) ∧
       Answers .blkrstCsi s (fun t => tst (t.rd 0 0x12) 5 = true ∧ ∀ p, p < 3 → (t.cam p).frames = []) ∧
       Answers .blkrstPool s (fun t => tst (t.rd 0 0x12) 6 = true ∧ t.link.flight = none ∧ t.rd 0 0x3A = 0 ∧
         ∀ j, (t.stream j).recs = [] ∧ (t.stream j).bufs = [] ∧ (t.stream j).held = []) ∧
       Answers .blkrstLnkpkt s (fun t => tst (t.rd 0 0x12) 7 = true ∧ t.link.flight = none ∧ t.rd spSeal 2 = 0 ∧
         t.rd spSeal 3 = 0 ∧ ∀ j, (t.stream j).credits = 0 ∧ (t.stream j).pseq = 0)) ∧
     (s.chip.pw.link = true → Answers .blkrstLnkphy s (fun t => tst (t.rd 0 0x12) 8 = true ∧ t.link.flight = none ∧
       t.link.rxSync = false ∧ t.link.retire = 0 ∧ t.link.mcount = 0 ∧ t.rd spLink 0x18 = 0))) ∧
  (∀ (s : State) (b : Fin 11), tst (s.chip.rd 0 0x12) b.val = true →
     Answers (.blkrstDone b) s (fun t => t.rd 0 0x12 = s.chip.rd 0 0x12 &&& ~~~bitW b.val ∧ OnlyThese s.chip t [(0, 0x12)]))

/-- AONLOCK only sets, bits 0 and 1 (R102). A locked WAKEEN or WPHRASE write changes nothing of its target while CORE is
off: AON holds it for its record (R59). SEALLOCK only sets, bits 0 to 7 (R537), and a new lock keeps its SEALCFG word
for the next power-up (R538). LOAMDBG reads or writes a LOAM word while CORE is clocked; a read returns 0xFFFF with OFF
while it is not (R268); EXTEST drives the lands from its update cells (R602). -/
def Obligations.LocksAndJtag : Prop :=
  ((∀ (s : State) (v : Word), s.chip.busOn = true →
     Answers (.aonlockWrite v) s (fun t => t.rd 0 0x0F = s.chip.rd 0 0x0F ||| (v &&& 0x0003) ∧
       OnlyThese s.chip t [(0, 0x0F)])) ∧
   (∀ (s : State) (v : Word), s.chip.busOn = true → s.chip.pw.core = false → s.chip.pw.refused = none →
     (tst (s.chip.rd 0 0x0F) 1 = true →
       Answers (.registerWrite 0 0x05 v) s (fun t => AllWordsKept s.chip t ∧ t.pw = { s.chip.pw with refused := some (0x05, v) })) ∧
     (tst (s.chip.rd 0 0x0F) 0 = true →
       Answers (.wphraseWrite v) s (fun t => AllWordsKept s.chip t ∧ t.pw = { s.chip.pw with refused := some (0x0C, v) })))) ∧
  (∀ (s : State) (v : Word), s.opens spSeal 0 →
     Answers (.seallockWrite v) s (fun t => t.pins.sealLock = s.chip.pins.sealLock ||| (v &&& 0x00FF) ∧
       (∀ j, j < 8 → tst v j = true → tst s.chip.pins.sealLock j = false →
         t.pins.sealCfg.getD j 0 = s.chip.rd spSeal (0x10 + j)) ∧
       AllWordsKept s.chip t ∧ t.pins.out = s.chip.pins.out)) ∧
  ((∀ (s : State) (dr : BitVec 40), s.chip.tapOn = true → tst (s.chip.opt 0) 1 = false → dr.getLsbD 32 = false →
     (s.chip.pw.core = true → s.chip.entering = false →
       Answers (.loamdbg dr) s (fun t => t.pins.dbg.2 = (true, false) ∧ t.loam = s.chip.loam ∧
         ((regRow spLoam (dr.toNat / 0x10000 % 0x10000)).all (fun r => r.rc == 0) = true →
           t.pins.dbg.1 = s.chip.readLoam (dr.toNat / 0x10000 % 0x10000) ∧ AllWordsKept s.chip t))) ∧
     (s.chip.pw.core = false →
       Answers (.loamdbg dr) s (fun t => t.pins.dbg = (0xFFFF, true, true) ∧ AllWordsKept s.chip t ∧ t.loam = s.chip.loam))) ∧
   (∀ (s : State) (dr : BitVec 40) (m : Chip), s.chip.tapOn = true → tst (s.chip.opt 0) 1 = false → dr.getLsbD 32 = true →
     s.chip.pw.core = true → s.chip.entering = false →
     m = (s.chip.begin 90).writeLoam (dr.toNat / 0x10000 % 0x10000) (wd dr.toNat) 2 →
     Completes (.loamdbg dr) s { m with pins := { m.pins with dbg := (s.chip.pins.dbg.1, true, false) } }) ∧
   (∀ (s : State) (cells : BitVec 178), s.chip.tapOn = true →
     Answers (.extestUpdate cells) s (fun t => t.pins.extest = some cells ∧ AllWordsKept s.chip t ∧ t.pins.out = s.chip.pins.out)))

/-- EVSTAT bits clear where a 1 is written, and no others (R557); one that was set in the same cycle stays (R10). EVEN holds the written mask (R558). -/
def Obligations.EventRegisters : Prop :=
  (∀ (s : State) (hi : Bool) (v : Word), s.reaches 0 (if hi then 0x14 else 0x13) →
     Answers (.evstatClear hi v) s (fun t =>
       t.rd 0 (if hi then 0x14 else 0x13) =
         s.chip.rd 0 (if hi then 0x14 else 0x13) &&& ~~~(v &&& ~~~s.fresh 0 (if hi then 0x14 else 0x13)) ∧
       OnlyThese s.chip t [(0, if hi then 0x14 else 0x13)])) ∧
  (∀ (s : State) (hi : Bool) (v : Word), s.reaches 0 (if hi then 0x16 else 0x15) →
     Answers (.evenWrite hi v) s (fun t => t.rd 0 (if hi then 0x16 else 0x15) = v ∧
       OnlyThese s.chip t [(0, if hi then 0x16 else 0x15)]))

/-- EVVEC reads the number of the lowest-numbered event that is both pending and enabled, and 0x8000 when none is; a
write of 0x0000 to 0x001F clears that event, unless it was raised in the same cycle (R10), and any other value is discarded
(R559). -/
def Obligations.EventVector : Prop :=
  (∀ (m : Chip) (n : Nat), n < 32 → tst (m.rd 0 (0x13 + n / 16)) (n % 16) = true →
    tst (m.rd 0 (0x15 + n / 16)) (n % 16) = true →
    (∀ k, k < n → tst (m.rd 0 (0x13 + k / 16)) (k % 16) = false ∨ tst (m.rd 0 (0x15 + k / 16)) (k % 16) = false) →
    m.peekDirect 0x17 = wd n) ∧
  (∀ m : Chip, m.irqWanted = false → m.peekDirect 0x17 = 0x8000) ∧
  (∀ (s : State) (v : Word), s.reaches 0 0x17 →
    (v.toNat < 32 → Answers (.evvecWrite v) s (fun t =>
      t.rd 0 (0x13 + v.toNat / 16) = s.chip.rd 0 (0x13 + v.toNat / 16) &&&
        ~~~(bitW (v.toNat % 16) &&& ~~~s.fresh 0 (0x13 + v.toNat / 16)) ∧
      OnlyThese s.chip t [(0, 0x13 + v.toNat / 16)])) ∧
    (32 ≤ v.toNat → Answers (.evvecWrite v) s (Unchanged s.chip)))

/-- FACK takes a value that leaves at most 32 records unread; any other is discarded (R566). -/
def Obligations.FaultAcknowledge : Prop :=
  ∀ (s : State) (v : Word), s.opens spFault 1 →
    ((s.chip.rd spFault 0 - v).toNat ≤ 32 →
      Answers (.fackWrite v) s (fun t => t.rd spFault 1 = v ∧ OnlyThese s.chip t [(spFault, 1)])) ∧
    (32 < (s.chip.rd spFault 0 - v).toNat → Answers (.fackWrite v) s (Unchanged s.chip))

/-- A temperature sample: TMAX is the larger code; WARN rises above THLIM, falls 5 degrees below it, and its rise raises
THERMAL_WARN (R563). The code of TEMP0 is kept for a WHITE run (R371). -/
def Obligations.ThermalWarning : Prop :=
  ∀ (s : State) (a b : Nat), s.chip.pw.core = true → a < 4096 → b < 4096 →
    Answers (.thermalSample a b) s (fun t =>
      fld (t.rd spPin 0x8C) 0 12 = max a b ∧
      (16 * (fld (s.chip.rd spPin 0x8B) 0 8 + 64) < max a b →
        tst (t.rd spPin 0x8C) 15 = true ∧ (tst (s.chip.rd spPin 0x8C) 15 = false → tst (t.rd 0 0x14) 15 = true)) ∧
      (max a b + 80 < 16 * (fld (s.chip.rd spPin 0x8B) 0 8 + 64) → tst (t.rd spPin 0x8C) 15 = false) ∧
      t.cal = { s.chip.cal with temp0 := some a } ∧
      OnlyThese { s.chip with cal := t.cal } t [(spPin, 0x8C), (0, 0x14)])

/-- GPIO writes act on OUT, where no other drive of it shares their cycle (R127), or on the staged masks while STAGE is 1
(R546, R547). The commit makes OUT ((OUT or S) and
not C) xor T and clears the masks (R547); a GPSTG write with STAGE and COMMIT 0 discards them (R548). -/
def Obligations.GpioOutputs : Prop :=
  (∀ (s : State) (hi : Bool) (v : Word), s.chip.busOn = true → s.chip.coreOn = true →
     (s.chip.staging = false → s.chip.cyc.drives = [] →
       Answers (.gpioset hi v) s (fun t => t.pins = { s.chip.pins with out := s.chip.pins.out ||| halfMask v hi, irq := t.pins.irq } ∧
         AllWordsKept s.chip t) ∧
       Answers (.gpioclr hi v) s (fun t => t.pins = { s.chip.pins with out := s.chip.pins.out &&& ~~~halfMask v hi, irq := t.pins.irq } ∧
         AllWordsKept s.chip t) ∧
       Answers (.gpiotgl hi v) s (fun t => t.pins = { s.chip.pins with out := s.chip.pins.out ^^^ halfMask v hi, irq := t.pins.irq } ∧
         AllWordsKept s.chip t)) ∧
     (s.chip.staging = true →
       Answers (.gpioset hi v) s (fun t => t.pins = { s.chip.pins with sset := s.chip.pins.sset ||| halfMask v hi, irq := t.pins.irq } ∧
         AllWordsKept s.chip t) ∧
       Answers (.gpioclr hi v) s (fun t => t.pins = { s.chip.pins with sclr := s.chip.pins.sclr ||| halfMask v hi, irq := t.pins.irq } ∧
         AllWordsKept s.chip t) ∧
       Answers (.gpiotgl hi v) s (fun t => t.pins = { s.chip.pins with stgl := s.chip.pins.stgl ||| halfMask v hi, irq := t.pins.irq } ∧
         AllWordsKept s.chip t))) ∧
  (∀ (s : State) (v : Word), s.opens spPin 0x80 →
     (tst v 14 = true → s.chip.cyc.drives = [] → Answers (.commitStagedPins v) s (fun t =>
       t.pins = { s.chip.pins with
         out := ((s.chip.pins.out ||| s.chip.pins.sset) &&& ~~~s.chip.pins.sclr) ^^^ s.chip.pins.stgl,
         sset := 0, sclr := 0, stgl := 0, irq := t.pins.irq } ∧ t.staging = tst v 15 ∧ WordsKept s.chip t [(spPin, 0x80)])) ∧
     (tst v 14 = false → tst v 15 = false → Answers (.stageDiscard v) s (fun t =>
       t.pins = { s.chip.pins with sset := 0, sclr := 0, stgl := 0, irq := t.pins.irq } ∧ t.staging = false ∧
       WordsKept s.chip t [(spPin, 0x80)])))

/-- Pin configuration: an FSEL that is no function of the pin, PULL 0b11 and a STATE of 6 or 7 discard their write and
set PINERR.CFG (R539, R549, R551); other values are stored, the sleep state in AON too (R552). The quadrature
monitor: at a rise of ENC_A DIR takes ENC_B, and a change of DIR counts in REVCNT (R543). A change of level at a pin
is what its input buffer shows afterwards, unless INDIS is 1 (R544, R545); with CORE off nothing but the levels
follows. -/
def Obligations.PinFunctions : Prop :=
  (∀ (s : State) (n : Fin 32) (v : Word), s.opens spPin 0 →
     (fselOk n.val (fld v 0 3) = false → Answers (.pcfgWrite n v) s (fun t =>
       t.rd spPin 0x8A = s.chip.rd spPin 0x8A ||| 0x0001 ∧ OnlyThese s.chip t [(spPin, 0x8A)])) ∧
     (fselOk n.val (fld v 0 3) = true → Answers (.pcfgWrite n v) s (fun t =>
       t.fsel n.val = fld v 0 3 ∧ OnlyThese s.chip t [(spPin, pinOff n.val 0), (spPin, 0x8A)])) ∧
     (fld v 12 2 = 3 → Answers (.padWrite n v) s (fun t =>
       t.rd spPin 0x8A = s.chip.rd spPin 0x8A ||| 0x0001 ∧ OnlyThese s.chip t [(spPin, 0x8A)])) ∧
     (fld v 12 2 ≠ 3 → Answers (.padWrite n v) s (fun t =>
       t.rd spPin (pinOff n.val 1) &&& 0xFEF0 = v &&& 0xFEF0 ∧ OnlyThese s.chip t [(spPin, pinOff n.val 1)])) ∧
     (6 ≤ fld v 0 3 → Answers (.slpWrite n v) s (fun t =>
       t.rd spPin 0x8A = s.chip.rd spPin 0x8A ||| 0x0001 ∧ OnlyThese s.chip t [(spPin, 0x8A)])) ∧
     (fld v 0 3 < 6 → s.chip.pins.slp.length = 32 → Answers (.slpWrite n v) s (fun t =>
       fld (t.rd spPin (pinOff n.val 2)) 0 3 = fld v 0 3 ∧ t.pins.slp.getD n.val 0 = t.rd spPin (pinOff n.val 2) ∧
       WordsKept s.chip t [(spPin, pinOff n.val 2)] ∧ t.pins.out = s.chip.pins.out))) ∧
  (∀ (s : State) (b : Bool), s.chip.pw.core = true → s.chip.fsel 8 = 5 → s.chip.fsel 9 = 5 →
     Answers (.encAEdge b) s (fun t => tst (t.rd spPin 0x88) 14 = b ∧
       t.rd spPin 0x89 = (if tst (s.chip.rd spPin 0x88) 14 = b then s.chip.rd spPin 0x89 else satAdd (s.chip.rd spPin 0x89) 1) ∧
       OnlyThese s.chip t [(spPin, 0x88), (spPin, 0x89)])) ∧
  (∀ (s : State) (n : Fin 32) (l : Bool),
     Answers (.pinInputChange n l) s (fun t => t.pins.level.getLsbD n.val = l ∧
       (∀ k, k < 32 → k ≠ n.val → t.pins.level.getLsbD k = s.chip.pins.level.getLsbD k) ∧ t.pins.out = s.chip.pins.out ∧
       t.cc = s.chip.cc ∧ (s.chip.pw.core = false → AllWordsKept s.chip t)))

/-- Compare channels: MATCH3 loads all four words in one step (R121), and a value that the STB has reached already is a
missed match, which under LATE skip is only counted (R123, R142); a match that does not repeat performs its action, sets its
flag and clears EN, one with a PERIOD moves MATCH on (R122). -/
def Obligations.CompareChannels : Prop :=
  (∀ (s : State) (n : Fin 16) (v : Word) (new : Tick), s.opens spTmr 0 →
    new.toNat = (s.chip.rdHeld spTmr (cmpOff n.val 0)).toNat + 0x10000 * (s.chip.rdHeld spTmr (cmpOff n.val 1)).toNat +
      0x100000000 * ((s.chip.rdHeld spTmr (cmpOff n.val 2)).toNat + 0x10000 * v.toNat) →
    ((s.chip.cmpEn n.val = false ∨
        (s.chip.reached (s.chip.cmpMatch n.val) = false ∧ s.chip.reached new = false)) →
      Answers (.cmpMatchLoad n v) s (fun t => t.cmpMatch n.val = new ∧ t.cmpEn n.val = s.chip.cmpEn n.val ∧
        OnlyThese s.chip t [(spTmr, cmpOff n.val 0), (spTmr, cmpOff n.val 1), (spTmr, cmpOff n.val 2),
          (spTmr, cmpOff n.val 3)])) ∧
    (s.chip.cmpEn n.val = true → s.chip.reached (s.chip.cmpMatch n.val) = false → s.chip.reached new = true →
      tst (s.chip.rd spTmr (cmpOff n.val 6)) 14 = true → s.chip.rd32 spTmr (cmpOff n.val 4) = 0 →
      Answers (.cmpMatchLoad n v) s (fun t => t.cmpMatch n.val = new ∧ t.cmpEn n.val = false ∧
        t.rd spTmr (cmpOff n.val 8) = satAdd (s.chip.rd spTmr (cmpOff n.val 8)) 1 ∧ tst (t.rd spTmr 0x09) n.val = true ∧
        t.rd spTmr 0x08 = s.chip.rd spTmr 0x08 ∧ t.tb = s.chip.tb ∧ t.cc = s.chip.cc))) ∧
  (∀ (s : State) (n : Fin 16), s.chip.pw.core = true → s.chip.cmpEn n.val = true →
    s.chip.reached (s.chip.cmpMatch n.val) = true →
    Completes (.cmpMatch n) s ((s.chip.begin (1 + n.val)).cmpFire n.val) ∧
    (s.chip.syncMode ≠ 2 → s.chip.tb.barred = [] → fld (s.chip.rd spTmr (cmpOff n.val 6)) 8 4 = 0 →
      (s.chip.rd32 spTmr (cmpOff n.val 4) = 0 →
        Answers (.cmpMatch n) s (fun t => tst (t.rd spTmr 0x08) n.val = true ∧ t.cmpEn n.val = false ∧
          t.cmpMatch n.val = s.chip.cmpMatch n.val ∧
          (tst (s.chip.rd spTmr (cmpOff n.val 6)) 13 = true → tst (t.rd 0 0x13) 11 = true) ∧
          OnlyThese s.chip t [(spTmr, 0x08), (spTmr, cmpOff n.val 6), (0, 0x13)])) ∧
      (s.chip.rd32 spTmr (cmpOff n.val 4) ≠ 0 →
        Answers (.cmpMatch n) s (fun t => tst (t.rd spTmr 0x08) n.val = true ∧ t.cmpEn n.val = true ∧
          t.cmpMatch n.val = s.chip.cmpMatch n.val + BitVec.ofNat 64 (s.chip.rd32 spTmr (cmpOff n.val 4))))))

/-- The sync link: a master sends its epoch, in cells from which a receiver reads the same value (R115, R116); a frame that a
follower cannot accept counts in CRCERR (R116); the first good frame steps the STB to the value it names and locks (R117);
four epochs without one lose the lock (R119). -/
def Obligations.SyncLink : Prop :=
  (∀ s : State, s.chip.pw.core = true → s.chip.syncMode = 1 → s.chip.tb.stb.toNat % 65536 = 0 →
    Answers .syncFrameSend s (fun t =>
      t.tb = { s.chip.tb with syncOut := some (s.chip.tb.stb, syncCells ((s.chip.tb.stb >>> 16).setWidth 48)) } ∧
      AllWordsKept s.chip t)) ∧
  (∀ v : AonTick, (syncCells v).head? = some 32 ∧ syncValue 32 (syncCells v).tail = some v) ∧
  (∀ (s : State) (start : Nat) (pulses : List Nat) (e : Nat), s.chip.pw.core = true → s.chip.syncMode = 2 →
    Completes (.syncFrameReceived start pulses e) s (s.chip.syncReceive start pulses e) ∧
    (syncValue start pulses = none →
      Answers (.syncFrameReceived start pulses e) s (fun t =>
        fld (t.rd spTmr 1) 4 4 = min (fld (s.chip.rd spTmr 1) 4 4 + 1) 15 ∧ OnlyThese s.chip t [(spTmr, 1)])) ∧
    (∀ v, syncValue start pulses = some v → s.chip.tb.locked = false → (∀ n, n < 16 → s.chip.cmpEn n = false) →
      Answers (.syncFrameReceived start pulses e) s (fun t =>
        t.tb.stb = ((v.setWidth 64) <<< 16) + BitVec.ofNat 64 e ∧ t.tb.locked = true ∧ tst (t.rd spTmr 1) 0 = true ∧
        WordsKept s.chip t [(spTmr, 1)]))) ∧
  (∀ s : State, s.chip.pw.core = true → s.chip.syncMode = 2 → s.chip.tb.lost = false →
    s.chip.tb.syncFrom.toNat + 4 * 65536 ≤ s.chip.tb.stb.toNat →
    Completes .syncLost s s.chip.syncLose ∧
    (s.chip.moversOff →
      Answers .syncLost s (fun t => tst (t.rd spTmr 1) 0 = false ∧ tst (t.rd spTmr 1) 2 = true ∧
        t.rd spFault 0 = s.chip.rd spFault 0 + 1 ∧ t.tb = { s.chip.tb with lost := true })))

/-- A counted edge of the source that a timer selects (R129 to R132): below the prescaler only ACC moves; else COUNT advances, a terminal count of
a one-shot timer stops it with DONE, that of a continuous timer returns COUNT to 0 and is due its action. The actions
of a count set the timer's flag (R132); TSTART starts timers that no stop of the cycle bars (R128) and stops them (R136), REARM makes a one-shot timer startable
(R135), and a counted edge of the capture input stores the counter (R140). -/
def Obligations.Timers : Prop :=
  (∀ (s : State) (n : Fin 8) (src : ClkSource), s.chip.pw.core = true → s.chip.clocks n.val src = true →
     s.chip.tmBit n.val 0 = true → s.chip.frozen n.val = false →
     Completes (.timerSourceEdge (n, src)) s ((s.chip.begin (40 + n.val)).sourceEdge n.val)) ∧
  (∀ (s : State) (n : Fin 8) (src : ClkSource), s.chip.pw.core = true → s.chip.clocks n.val src = true →
     s.chip.tmBit n.val 0 = true → s.chip.frozen n.val = false → s.chip.tb.matchDue = 0 → s.chip.tb.termDue = 0 → s.chip.driftCap = none →
     (s.chip.rd32 spTmr (tmOff n.val 8) + 0x10000 < s.chip.rd32 spTmr (tmOff n.val 6) →
       Answers (.timerSourceEdge (n, src)) s (fun t =>
         t.rd32 spTmr (tmOff n.val 8) = (s.chip.rd32 spTmr (tmOff n.val 8) + 0x10000) % 0x100000000 ∧
         OnlyThese s.chip t [(spTmr, tmOff n.val 8), (spTmr, tmOff n.val 9)])) ∧
     (s.chip.rd32 spTmr (tmOff n.val 6) ≤ s.chip.rd32 spTmr (tmOff n.val 8) + 0x10000 →
       (s.chip.rd32 spTmr (tmOff n.val 0) ≠ s.chip.rd32 spTmr (tmOff n.val 2) →
         Answers (.timerSourceEdge (n, src)) s (fun t =>
           t.rd32 spTmr (tmOff n.val 0) = (s.chip.rd32 spTmr (tmOff n.val 0) + 1) % 0x100000000 ∧ t.tb.termDue = 0 ∧
           t.tmBit n.val 0 = true)) ∧
       (s.chip.rd32 spTmr (tmOff n.val 0) = s.chip.rd32 spTmr (tmOff n.val 2) →
         (tst (s.chip.rd spTmr (tmOff n.val 0xA)) 15 = true →
           Answers (.timerSourceEdge (n, src)) s (fun t => t.tmBit n.val 0 = false ∧ t.tmBit n.val 1 = true ∧
             t.rd32 spTmr (tmOff n.val 0) = s.chip.rd32 spTmr (tmOff n.val 0) ∧ t.tb.termDue.getLsbD n.val = true)) ∧
         (tst (s.chip.rd spTmr (tmOff n.val 0xA)) 15 = false →
           Answers (.timerSourceEdge (n, src)) s (fun t => t.rd32 spTmr (tmOff n.val 0) = 0 ∧ t.tmBit n.val 0 = true ∧
             t.tb.termDue.getLsbD n.val = true))))) ∧
  ((∀ (s : State) (n : Fin 8), s.chip.pw.core = true →
     (s.chip.tb.matchDue.getLsbD n.val = true →
       Completes (.timerMatch n) s ((s.chip.begin (17 + 2 * n.val)).timerMatch n.val)) ∧
     (s.chip.tb.termDue.getLsbD n.val = true →
       Completes (.timerTerminal n) s ((s.chip.begin (18 + 2 * n.val)).timerFlush n.val))) ∧
   (∀ (s : State) (n : Fin 8), s.chip.pw.core = true → s.chip.driftCap = none →
     (s.chip.tb.matchDue.getLsbD n.val = true → fld (s.chip.rd spTmr (tmOff n.val 0xB)) 8 4 = 0 →
       Answers (.timerMatch n) s (fun t => t.rd spTmr 0x0A = s.chip.rd spTmr 0x0A ||| bitW n.val ∧
         t.tb.matchDue = s.chip.tb.matchDue &&& ~~~BitVec.ofNat 8 (2 ^ n.val) ∧
         (tst (s.chip.rd spTmr (tmOff n.val 0xB)) 15 = true → tst (t.rd 0 0x13) 11 = true) ∧
         WordsKept s.chip t [(spTmr, 0x0A), (0, 0x13)])) ∧
     (s.chip.tb.termDue.getLsbD n.val = true → s.chip.tb.matchDue.getLsbD n.val = false →
       fld (s.chip.rd spTmr (tmOff n.val 0xC)) 8 4 = 0 →
       Answers (.timerTerminal n) s (fun t => t.rd spTmr 0x0A = s.chip.rd spTmr 0x0A ||| bitW n.val ∧
         t.tb.termDue = s.chip.tb.termDue &&& ~~~BitVec.ofNat 8 (2 ^ n.val) ∧
         WordsKept s.chip t [(spTmr, 0x0A), (0, 0x13)]))) ∧
   (∀ (s : State) (v : Word), s.reaches 0 0x1C →
     (tst v 15 = false → s.chip.cyc.stopped = 0 → Answers (.tstartStart v) s (fun t =>
       ∀ n, n < 8 → t.tmBit n 0 = (s.chip.tmBit n 0 || (tst v n && !s.chip.tmBit n 1)))) ∧
     (tst v 15 = true → Answers (.tstartStop v) s (fun t =>
       ∀ n, n < 8 → t.tmBit n 0 = (s.chip.tmBit n 0 && !tst v n)))) ∧
   (∀ (s : State) (n : Fin 8) (v : Word), s.opens spTmr 0 → tst v 0 = true →
     Answers (.rearm n v) s (fun t => t.rd32 spTmr (tmOff n.val 0) = 0 ∧ t.tmBit n.val 1 = false ∧
       t.tmBit n.val 0 = s.chip.tmBit n.val 0 ∧
       OnlyThese s.chip t [(spTmr, tmOff n.val 0), (spTmr, tmOff n.val 1), (spTmr, tmOff n.val 0xF)])) ∧
   (∀ (s : State) (n : Fin 8) (rising : Bool), s.chip.pw.core = true → s.chip.pins.asleep = false →
     tst (s.chip.rd spTmr (tmOff n.val 0xD)) 12 = true → (s.chip.capPin n.val).isSome = true →
     Completes (.timerCapture n rising) s (s.chip.timerCap n.val rising)) ∧
   (∀ (s : State) (n : Fin 8), s.chip.pw.core = true → s.chip.pins.asleep = false →
     tst (s.chip.rd spTmr (tmOff n.val 0xD)) 12 = true → (s.chip.capPin n.val).isSome = true →
     s.chip.driftCap = none → s.chip.tb.rose.getLsbD n.val = false →
     Answers (.timerCapture n true) s (fun t =>
       t.rd32 spTmr (tmOff n.val 0x12) = (if tst (s.chip.rd spTmr (tmOff n.val 0xD)) 15
         then s.chip.tb.stb.toNat % 0x100000000 else s.chip.rd32 spTmr (tmOff n.val 0)) ∧
       tst (t.rd spTmr 0x0A) (8 + n.val) = true ∧ t.tb.rose.getLsbD n.val = true ∧ t.tb.stb = s.chip.tb.stb) ∧
     Answers (.timerCapture n false) s (fun t =>
       t.rd32 spTmr (tmOff n.val 0x14) = (if tst (s.chip.rd spTmr (tmOff n.val 0xD)) 15
         then s.chip.tb.stb.toNat % 0x100000000 else s.chip.rd32 spTmr (tmOff n.val 0)) ∧
       tst (t.rd spTmr 0x0A) (8 + n.val) = true ∧ t.tb = s.chip.tb)))

/-- CAPCTL (R165, R167, R169): two command bits at once discard the write; ARM starts a check of the context; the check
that passes arms it and the one that fails disarms it with ARMERR; DISARM clears ARMED, the held trigger and the
check, and a Continuous capture of the context stops after its frame, a suspended one for good (R164). -/
def Obligations.ArmAndDisarm : Prop :=
  (∀ (s : State) (v : Word), s.reaches 0 0x2A →
    (1 < b2n (tst v 9) + b2n (tst v 10) + b2n (tst v 11) →
      Answers (.arm v) s (Unchanged s.chip) ∧ Answers (.disarm v) s (Unchanged s.chip) ∧ Answers (.abort v) s (Unchanged s.chip)) ∧
    (tst v 9 = true → tst v 10 = false → tst v 11 = false → s.chip.cc.checking = none →
      Answers (.arm v) s (fun t => t.cc = { s.chip.cc with checking := some (Fin.ofNat 16 (fld v 0 4)) } ∧
        WordsKept s.chip t [(0, 0x2A)] ∧ t.loam = s.chip.loam)) ∧
    (tst v 9 = false → tst v 10 = true → tst v 11 = false →
      Answers (.disarm v) s (fun t => t.armed (fld v 0 4) = false ∧ (∀ x ∈ t.cc.heldTrig, x.val ≠ fld v 0 4) ∧
        (∀ x, t.cc.checking = some x → x.val ≠ fld v 0 4) ∧ t.loam = s.chip.loam ∧
        t.cc.cap.map (fun c => (c.ctx, c.fn, c.stop)) =
          s.chip.cc.cap.map (fun c => (c.ctx, c.fn, c.stop || decide (c.ctx.val = fld v 0 4))) ∧
        (∀ x ∈ t.cc.susp, x.cap.ctx.val ≠ fld v 0 4)))) ∧
  (∀ (s : State) (k : Fin 16), s.chip.pw.core = true → s.chip.cc.checking = some k →
    Completes .armCheckComplete s s.chip.checkEnd ∧
    ((s.chip.armCheck (s.chip.latchCtx k.val)).1 = 0 →
      Answers .armCheckComplete s (fun t => t.armed k.val = true ∧ fld (t.rd 0 0x2B) 4 4 = 0 ∧
        t.cc = { s.chip.cc with checking := none } ∧ t.loam = s.chip.loam)) ∧
    ((s.chip.armCheck (s.chip.latchCtx k.val)).1 ≠ 0 → k ∉ s.chip.cc.heldTrig → s.chip.cal.run = .none →
      (∀ c, s.chip.cc.cap = some c → c.ctx ≠ k) → s.chip.cc.susp = [] →
      Answers .armCheckComplete s (fun t => t.armed k.val = false ∧
        fld (t.rd 0 0x2B) 4 4 = (s.chip.armCheck (s.chip.latchCtx k.val)).1 ∧ fld (t.rd 0 0x2B) 0 4 = k.val ∧
        t.cc = { s.chip.cc with checking := none } ∧ t.loam = s.chip.loam)))

/-- A trigger (R171, R173, R174, R175): one that comes in the cycle of another of its context counts with
that; one that reaches a context which is not armed counts in its TRGIGN; while the array is busy an armed context holds it,
or with HOLD off counts an overrun. -/
def Obligations.TriggersWait : Prop :=
  (∀ (s : State) (k : Fin 16), s.reaches 0 0x2C → tst (s.chip.rd spCtx (0x100 * k.val + 1)) 3 = true →
    s.host.cyc.triggered.getLsbD k.val = true → Answers (.trigsw (bitW k.val)) s (Unchanged s.chip)) ∧
  (∀ (s : State) (k : Fin 16), s.reaches 0 0x2C → tst (s.chip.rd spCtx (0x100 * k.val + 1)) 3 = true →
    s.chip.cyc.triggered = 0 →
    (s.chip.armed k.val = false →
      Answers (.trigsw (bitW k.val)) s (fun t =>
        t.rd spCtx (0x100 * k.val + 0xA) = satAdd (s.chip.rd spCtx (0x100 * k.val + 0xA)) 1 ∧
        OnlyThese s.chip t [(spCtx, 0x100 * k.val + 0xA)])) ∧
    (s.chip.armed k.val = true → s.chip.cc.checking = none → s.chip.cc.susp = [] → s.chip.pw.cur = .run →
      (∀ c, s.chip.cc.cap = some c → c.ctx ≠ k) → s.chip.cc.cap.isSome = true → k ∉ s.chip.cc.heldTrig →
      (tst (s.chip.rd spCtx (0x100 * k.val)) 3 = false →
        Answers (.trigsw (bitW k.val)) s (fun t => t.cc = { s.chip.cc with heldTrig := s.chip.cc.heldTrig ++ [k] } ∧
          AllWordsKept s.chip t ∧ t.loam = s.chip.loam)) ∧
      (tst (s.chip.rd spCtx (0x100 * k.val)) 3 = true →
        Answers (.trigsw (bitW k.val)) s (fun t => t.cc = s.chip.cc ∧
          t.rd spCtx (0x100 * k.val + 9) = satAdd (s.chip.rd spCtx (0x100 * k.val + 9)) 1 ∧
          tst (t.rd 0 0x13) 3 = true ∧ WordsKept s.chip t [(spCtx, 0x100 * k.val + 9), (0, 0x13)])))) ∧
  (∀ (s : State) (k : Fin 16) (p : Fin 32), s.chip.pw.core = true → s.chip.fsel p.val = 3 →
    (∀ j, j < 16 → (fld (s.chip.rd spCtx (0x100 * j + 1)) 8 5 = p.val ↔ j = k.val)) →
    tst (s.chip.rd spCtx (0x100 * k.val + 1)) 0 = true → s.chip.cyc.triggered = 0 →
    (s.chip.armed k.val = true → fld (s.chip.rd spCtx (0x100 * k.val + 1)) 13 2 = 0 → s.chip.cc.checking = none →
      s.chip.cc.susp = [] → s.chip.pw.cur = .run → (∀ c, s.chip.cc.cap = some c → c.ctx ≠ k) →
      s.chip.cc.cap.isSome = true → k ∉ s.chip.cc.heldTrig → tst (s.chip.rd spCtx (0x100 * k.val)) 3 = false →
      Answers (.pinTrigger p true) s (fun t => t.cc = { s.chip.cc with heldTrig := s.chip.cc.heldTrig ++ [k] } ∧
        AllWordsKept s.chip t ∧ t.loam = s.chip.loam)) ∧
    (s.chip.armed k.val = false → fld (s.chip.rd spCtx (0x100 * k.val + 1)) 13 2 = 0 →
      Answers (.pinTrigger p true) s (fun t =>
        t.rd spCtx (0x100 * k.val + 0xA) = satAdd (s.chip.rd spCtx (0x100 * k.val + 0xA)) 1 ∧
        OnlyThese s.chip t [(spCtx, 0x100 * k.val + 0xA)]) ∧
      Answers (.pinTrigger p false) s (Unchanged s.chip)))

/-- A trigger that starts a capture, of the software, of a pin or held until the array is free (R177), makes FRAMENUM the next number, has its context run and Loam execute (R178, R229). -/
def Obligations.CapturesStart : Prop :=
  (∀ (s : State) (k : Fin 16) (rest : List (Fin 16)), s.chip.pw.core = true → s.chip.cc.heldTrig = k :: rest →
    s.chip.arrayBusy = false →
    Completes .heldTriggerRelease s (Chip.startCapture { s.chip with cc := { s.chip.cc with heldTrig := rest } } k false)) ∧
  (∀ (s : State) (k : Fin 16) (rest : List (Fin 16)), s.chip.pw.core = true → s.chip.cc.heldTrig = k :: rest →
    s.chip.arrayBusy = false → (s.chip.armCheck (s.chip.latchCtx k.val)).1 = 0 →
    Answers .heldTriggerRelease s (fun t => t.cc.frameNum = s.chip.cc.frameNum + 1 ∧ t.cc.lastFn = t.cc.frameNum ∧
      t.cc.cap.map (·.ctx) = some k ∧ t.cc.cap.map (·.fn) = some t.cc.frameNum ∧ t.cc.heldTrig = rest ∧
      t.loam.running = true ∧ t.loam.t0 = s.chip.tb.stb + 4)) ∧
  (∀ (s : State) (k : Fin 16), s.reaches 0 0x2C → tst (s.chip.rd spCtx (0x100 * k.val + 1)) 3 = true →
    s.chip.armed k.val = true → s.chip.cc.checking = none → s.chip.cc.susp = [] → s.chip.arrayBusy = false →
    s.chip.cc.heldTrig = [] → s.chip.cyc.triggered = 0 → (s.chip.armCheck (s.chip.latchCtx k.val)).1 = 0 →
    Answers (.trigsw (bitW k.val)) s (fun t => t.cc.frameNum = s.chip.cc.frameNum + 1 ∧
      t.cc.cap.map (·.ctx) = some k ∧ t.loam.running = true ∧ t.loam.t0 = s.chip.tb.stb + 4)) ∧
  (∀ (s : State) (k : Fin 16) (p : Fin 32), s.chip.pw.core = true → s.chip.fsel p.val = 3 →
    (∀ j, j < 16 → (fld (s.chip.rd spCtx (0x100 * j + 1)) 8 5 = p.val ↔ j = k.val)) →
    tst (s.chip.rd spCtx (0x100 * k.val + 1)) 0 = true → fld (s.chip.rd spCtx (0x100 * k.val + 1)) 13 2 = 0 →
    s.chip.armed k.val = true → s.chip.cc.checking = none → s.chip.cc.susp = [] → s.chip.arrayBusy = false →
    s.chip.cc.heldTrig = [] → s.chip.cyc.triggered = 0 → (s.chip.armCheck (s.chip.latchCtx k.val)).1 = 0 →
    Answers (.pinTrigger p true) s (fun t => t.cc.frameNum = s.chip.cc.frameNum + 1 ∧
      t.cc.cap.map (·.ctx) = some k ∧ t.loam.running = true ∧ t.loam.t0 = s.chip.tb.stb + 4))

/-- A capture that ends frees the array (R253), and so does one that is aborted by CAPCTL.ABORT (R170). -/
def Obligations.CapturesEnd : Prop :=
  (∀ s : State, s.chip.mayIssue = true → iOp s.chip.fetch = 0x01 → wordOk s.chip.fetch = true →
    s.chip.outside = false → s.chip.cc.susp = [] →
    (s.chip.endReady = true → Answers .loamEnd s (fun t => t.cc.cap = none ∧ t.cc.nodes = 0 ∧ t.loam.running = false ∧
      t.loam.queue = [] ∧ t.pins.trigOut = false)) ∧
    (s.chip.endReady = false →
      Answers .loamEnd s (fun t => t.loam = { s.chip.loam with wait := some .atEnd } ∧ AllWordsKept s.chip t ∧
        t.cc = s.chip.cc))) ∧
  (∀ (s : State) (v : Word), s.reaches 0 0x2A → s.chip.cc.susp = [] → s.chip.cc.cap.isSome = true →
    tst v 9 = false → tst v 10 = false → tst v 11 = true →
    Answers (.abort v) s (fun t => t.cc.cap = none ∧ t.cc.nodes = 0 ∧ t.loam.running = false ∧ t.loam.queue = [] ∧
      t.pins.trigOut = false))

/-- Strobes and regulators (R188, R192, R194, R195): a strobe that its source keeps high beyond STRBMAX is forced low with
FLT; a regulator starts
at REGLO and an idle one ends with its EN; ISETVAL goes to the DAC of a channel whose regulator is not active; a
bound that would put REGLO above REGHI is discarded with CFGERR. -/
def Obligations.StrobesAndRegulators : Prop :=
  (∀ (s : State) (c : Fin 8), (s.chip.chan c.val).level = true → (s.chip.chan c.val).limit ≠ 0 → s.chip.moversOff →
    s.chip.fallsBy c.val ((s.chip.chan c.val).rise + (s.chip.chan c.val).limit.setWidth 64) = false →
    s.chip.reached ((s.chip.chan c.val).rise + (s.chip.chan c.val).limit.setWidth 64) = true →
    Answers (.strbmaxExpiry c) s (fun t => (t.chan c.val).level = false ∧ tst (t.rd spIllum 0) (8 + c.val) = true ∧
      t.tb = s.chip.tb ∧ t.loam = s.chip.loam)) ∧
  (∀ (s : State) (c : Fin 8) (v : Word), s.opens spIllum 0 → s.chip.shaped →
    ((s.chip.chan c.val).act = false → tst v 15 = true →
      Answers (.regctlEnWrite c v) s (fun t => (t.chan c.val).act = true ∧
        (t.chan c.val).reg = (s.chip.rd spIllum (chanOff c.val 6)).setWidth 10 ∧
        WordsKept s.chip t [(spIllum, chanOff c.val 4)] ∧ t.hkc = s.chip.hkc)) ∧
    ((s.chip.chan c.val).act = true → tst v 15 = false → s.chip.slotBusy (fld v 8 3) = false →
      Answers (.regctlEnWrite c v) s (fun t => (t.chan c.val).act = false ∧ (t.chan c.val).pend = false ∧
        (t.chan c.val).dac = (s.chip.chan c.val).dac ∧ WordsKept s.chip t [(spIllum, chanOff c.val 4)])) ∧
    ((s.chip.chan c.val).act = false → Answers (.isetvalWrite c v) s (fun t =>
      (t.chan c.val).dac = v.setWidth 10 ∧ AllWordsKept s.chip t ∧
      (∀ j, j ≠ c.val → t.chan j = s.chip.chan j))) ∧
    ((s.chip.chan c.val).act = true → Answers (.isetvalWrite c v) s (fun t =>
      t.rd spIllum (chanOff c.val 0xA) = satAdd (s.chip.rd spIllum (chanOff c.val 0xA)) 1 ∧
      OnlyThese s.chip t [(spIllum, chanOff c.val 0xA)])) ∧
    ((s.chip.chan c.val).level = false → (s.chip.chan c.val).heldHi = none → (s.chip.chan c.val).heldLo = none →
      (((s.chip.rd spIllum (chanOff c.val 7)).setWidth 10 : BitVec 10).toNat < (v.setWidth 10 : BitVec 10).toNat →
        Answers (.regBoundWrite c false v) s (fun t =>
          t.rd spIllum (chanOff c.val 4) = s.chip.rd spIllum (chanOff c.val 4) ||| 0x0800 ∧
          OnlyThese s.chip t [(spIllum, chanOff c.val 4)])) ∧
      ((v.setWidth 10 : BitVec 10).toNat ≤ ((s.chip.rd spIllum (chanOff c.val 7)).setWidth 10 : BitVec 10).toNat →
        Answers (.regBoundWrite c false v) s (fun t =>
          t.rd spIllum (chanOff c.val 6) = (v.setWidth 10 : BitVec 10).setWidth 16 ∧
          WordsKept s.chip t [(spIllum, chanOff c.val 6)] ∧
          ((s.chip.chan c.val).act = false → t.chans = s.chip.chans))) ∧
      (((s.chip.rd spIllum (chanOff c.val 6)).setWidth 10 : BitVec 10).toNat ≤ (v.setWidth 10 : BitVec 10).toNat →
        Answers (.regBoundWrite c true v) s (fun t =>
          t.rd spIllum (chanOff c.val 7) = (v.setWidth 10 : BitVec 10).setWidth 16 ∧
          WordsKept s.chip t [(spIllum, chanOff c.val 7)]))))

/-- Requests of the HKC slots (R204 to R209): a software event makes a request due after its delay, a second one is
dropped and counted; a request that wins starts its conversion in its due cycle; one that waits 20 ticks is dropped.
Results of the HKC (R202, R214, R217): the delivered code is the slot's last sample, and a conversion of a VREF run, which no slot asked for, joins its sum (R363);
a read of HKQ0 takes the oldest
entry of the queue and 0 from an empty one. -/
def Obligations.HkcConversions : Prop :=
  ((∀ (s : State) (j : Fin 8), s.opens spHkc 3 → s.chip.shaped → s.chip.slotSrc j.val = 1 →
     tst (s.chip.rd spHkc (slotOff j.val 0)) 15 = true → s.chip.slotsOn = true → tst (s.chip.rd 0 0x12) 1 = false →
     (s.chip.slotReq j.val = none →
       Answers (.hkctrig (bitW j.val)) s (fun t =>
         (t.slotReq j.val).map (·.due) = some (s.chip.tb.stb + BitVec.ofNat 64 (max (s.chip.rd spHkc (slotOff j.val 2)).toNat 2)) ∧
         (t.slotReq j.val).map (·.ch) = some (fld (s.chip.rd spHkc (slotOff j.val 0)) 8 4) ∧
         (∀ i, i ≠ j.val → t.slotReq i = s.chip.slotReq i) ∧ AllWordsKept s.chip t)) ∧
     (s.chip.slotReq j.val ≠ none →
       Answers (.hkctrig (bitW j.val)) s (fun t =>
         t.rd spHkc (slotOff j.val 6) = satAdd (s.chip.rd spHkc (slotOff j.val 6)) 1 ∧ tst (t.rd 0 0x13) 9 = true ∧
         t.hkc = s.chip.hkc))) ∧
   (∀ (s : State) (j : Fin 8) (r : HkcReq), s.chip.pw.core = true → s.chip.slotReq j.val = some r →
     Completes (.hkcRequestDue j) s (s.chip.serve j.val) ∧
     (r.due = s.chip.tb.stb → s.chip.hkcReady = true → (∀ i, i < 8 → i ≠ j.val → s.chip.slotReq i = none) →
       Answers (.hkcRequestDue j) s (fun t => t.slotReq j.val = none ∧ t.hkc.conv.length = s.chip.hkc.conv.length + 1 ∧
         t.hkc.last = some s.chip.tb.stb ∧ t.hkc.nextB = !s.chip.hkc.nextB ∧ AllWordsKept s.chip t)) ∧
     (r.due.toNat + 20 ≤ s.chip.tb.stb.toNat →
       Answers (.hkcWaitExpiry j) s (fun t => t.slotReq j.val = none ∧
         t.rd spHkc (slotOff j.val 6) = satAdd (s.chip.rd spHkc (slotOff j.val 6)) 1 ∧ tst (t.rd 0 0x13) 9 = true ∧
         t.hkc.conv = s.chip.hkc.conv)))) ∧
  ((∀ (s : State) (c : HkcConv) (r : List HkcConv) (raw spare : Nat), s.chip.pw.core = true → s.chip.hkc.conv = c :: r →
     ∀ m, m = Chip.deliver { s.chip with hkc := { s.chip.hkc with conv := r } } c raw →
     Completes (.hkcResult (raw, spare)) s (if c.shadow then m.hkcPair (b2n c.sliceB) raw spare c.supply else m) ∧
     (c.slot < 8 → s.chip.moversOff → c.shadow = false →
       Answers (.hkcResult (raw, spare)) s (fun t => t.hkc.conv = r ∧
         t.rd spHkc (slotOff c.slot 7) = wd (0x8000 + (correct (min raw 4095) c.ofs c.gain).1) ∧
         (c.req.qen = false → t.hkc.queue = s.chip.hkc.queue)))) ∧
   (∀ (s : State) (raw spare n : Nat) (sp : Bool) (sums : List Nat), s.chip.pw.core = true → s.chip.hkc.conv = [] →
     s.chip.hkcFree = true → s.chip.cal.run = .vref sp n sums → n < 3072 →
     Completes (.hkcResult (raw, spare)) s (s.chip.ownConversion raw spare) ∧
     (s.chip.hkc.background = false → s.chip.hkc.spareOn = false →
       Answers (.hkcResult (raw, spare)) s (fun t =>
         t.cal.run = .vref (sp || s.chip.warn) (n + 1)
           (if n % 64 = 0 then sums ++ [raw] else upd sums (n / 64) (· + raw)) ∧
         t.hkc.last = some s.chip.tb.stb ∧ t.hkc.queue = s.chip.hkc.queue ∧ AllWordsKept s.chip t))) ∧
   (∀ s : State, s.chip.busOn = true → s.chip.coreOn = true →
     (∀ e r, s.chip.hkc.queue = e :: r → Answers .hkq0Read s (fun t => t.hd = e.1 ∧
       t.hkc = { s.chip.hkc with queue := r, popped := (e.2.1, wd e.2.2.toNat) } ∧ AllWordsKept s.chip t)) ∧
     (s.chip.hkc.queue = [] → Answers .hkq0Read s (fun t => t.hd = 0 ∧
       t.hkc = { s.chip.hkc with popped := (0, 0) } ∧ AllWordsKept s.chip t))))

/-- HKCCTL (R221, R226): QTHRESH above 64 discards a write; EN starts an idle converter, its clearing cancels every
request and ends with the last conversion; CALMODE takes effect in a ready cycle; slice C shadows 20 us after its power-up,
and a window of 256 conversions that disagrees by more than 4 codes on average sets the slice's FLT (R225, R227). -/
def Obligations.HkcModes : Prop :=
  (∀ (s : State) (v : Word), s.opens spHkc 0 →
    (64 < fld v 0 7 → Answers (.hkcctlEnWrite v) s (Unchanged s.chip) ∧ Answers (.calmodeWrite v) s (Unchanged s.chip)) ∧
    (fld v 0 7 ≤ 64 → s.chip.hkc.act = false → tst v 15 = true →
      Answers (.hkcctlEnWrite v) s (fun t => t.hkc.act = true ∧ t.hkc.queue = s.chip.hkc.queue ∧
        WordsKept s.chip t [(spHkc, 0)])) ∧
    (fld v 0 7 ≤ 64 → s.chip.hkc.act = true → tst (s.chip.rd spHkc 0) 15 = true → tst v 15 = false →
      Answers (.hkcctlEnWrite v) s (fun t => t.hkc.act = true ∧ t.hkc.reqs = List.replicate 8 none ∧
        t.hkc.conv = s.chip.hkc.conv)) ∧
    (fld v 0 7 ≤ 64 → s.chip.hkcReady = true →
      Answers (.calmodeWrite v) s (fun t => t.hkc.background = tst v 8 ∧ t.hkc.queue = s.chip.hkc.queue))) ∧
  (∀ s : State, s.chip.hkc.act = true → (s.chip.hkc.pend = true ∨ tst (s.chip.rd spHkc 0) 15 = false) →
    s.chip.hkc.conv = [] →
    Answers .hkcShutdownDone s (fun t => t.hkc = { s.chip.hkc with act := s.chip.hkc.pend, pend := false } ∧
      AllWordsKept s.chip t)) ∧
  (∀ s : State, s.chip.pw.core = true → s.chip.hkc.background = true → tst (s.chip.rd spHkc 0) 8 = true →
    s.chip.hkc.spareOn = false → s.chip.hkc.spareFrom.toNat + 2000 ≤ s.chip.tb.stb.toNat →
    Answers .hkcSpareSettled s (fun t => t.hkc = { s.chip.hkc with spareOn := true, shadowB := false, turn := 0 } ∧
      AllWordsKept s.chip t)) ∧
  (∀ (s : State) (x : Fin 2) (l : List (Nat × Nat)) (n : Nat) (held : Bool), s.chip.pw.core = true →
    s.chip.hkcWin x.val = (l, n, held) → 256 ≤ n →
    Completes (.hkcShadowWindowEnd x) s (s.chip.hkcWindow x.val) ∧
    (l = [] → Answers (.hkcShadowWindowEnd x) s (fun t => AllWordsKept s.chip t ∧
      t.hkc = { s.chip.hkc with windows := upd s.chip.hkc.windows x.val (fun _ => ([], 0, false)),
                                prev := upd s.chip.hkc.prev x.val (fun _ => none) })) ∧
    (4 * l.length < ((l.map (fun p => (p.1 : Int) - (p.2 : Int))).sum).natAbs → held = true → s.chip.moversOff →
      Answers (.hkcShadowWindowEnd x) s (fun t => tst (t.rd spHkc 1) (13 + x.val) = true ∧ tst (t.rd 0 0x14) 9 = true ∧
        (t.hkcWin x.val).2.1 = 0 ∧ t.tb = s.chip.tb)))

/-- Every instruction of Loam: a word with a 1 in a bit that its opcode does not use faults with code 0x04 (R238); one that would
execute outside its bank faults with code 0x03 (R240). -/
def Obligations.LoamUnusedBits : Prop :=
  (∀ p ∈ loamTable, ∀ s : State, s.chip.mayIssue = true →
    s.chip.outside = false → iOp s.chip.fetch = p.2 → wordOk s.chip.fetch = false →
    exec p.1 s = done s (s.chip.loamFault 0x04)) ∧
  (∀ p ∈ loamTable, ∀ s : State, s.chip.mayIssue = true → s.chip.outside = true →
    exec p.1 s = done s (s.chip.loamFault 0x03))

/-- NOP, JMP, JZ, JNZ, JLT and DJNZ (R239, R240): the next address, and for a taken jump the target; only DJNZ writes a
register. CALL keeps the return address, RET goes to it (R241); a CALL on a full stack and a RET on an empty one
fault. -/
def Obligations.LoamControlFlow : Prop :=
  (∀ (s : State) (w tgt : Nat) (a b : Long), w = s.chip.fetch → tgt = w % 4096 → a = s.chip.lreg (iA w) →
     b = s.chip.lreg (iB w) → s.chip.inBank → tgt < s.chip.bankSize →
     (s.issues 0x00 → Answers .loamNop s (fun t => OnlyLoam s.chip t (s.chip.loam.goesTo (s.chip.loam.pc + 1)))) ∧
     (s.issues 0x02 → Answers .loamJmp s (fun t => OnlyLoam s.chip t (s.chip.loam.goesTo tgt))) ∧
     (s.issues 0x03 → Answers .loamJz s (fun t =>
       OnlyLoam s.chip t (s.chip.loam.goesTo (if a = 0 then tgt else s.chip.loam.pc + 1)))) ∧
     (s.issues 0x04 → Answers .loamJnz s (fun t =>
       OnlyLoam s.chip t (s.chip.loam.goesTo (if a = 0 then s.chip.loam.pc + 1 else tgt)))) ∧
     (s.issues 0x0D → Answers .loamJlt s (fun t =>
       OnlyLoam s.chip t (s.chip.loam.goesTo (if a.toNat < b.toNat then tgt else s.chip.loam.pc + 1)))) ∧
     (s.issues 0x05 → Answers .loamDjnz s (fun t =>
       OnlyLoam s.chip t (Loam.goesTo { s.chip.loam with regs := upd s.chip.loam.regs (iA w) (fun _ => a - 1) }
         (if a = 1 then s.chip.loam.pc + 1 else tgt))))) ∧
  (∀ s : State,
     (s.issues 0x06 → s.chip.fetch % 4096 < s.chip.bankSize → s.chip.loam.stack.length < 8 →
       Answers .loamCall s (fun t => OnlyLoam s.chip t
         (Loam.goesTo { s.chip.loam with stack := (s.chip.loam.pc + 1) :: s.chip.loam.stack } (s.chip.fetch % 4096)))) ∧
     (s.issues 0x06 → 8 ≤ s.chip.loam.stack.length → exec .loamCall s = done s (s.chip.loamFault 0x01)) ∧
     (∀ a r, s.issues 0x07 → s.chip.loam.stack = a :: r → a < s.chip.bankSize →
       Answers .loamRet s (fun t => OnlyLoam s.chip t (Loam.goesTo { s.chip.loam with stack := r } a))) ∧
     (s.issues 0x07 → s.chip.loam.stack = [] → exec .loamRet s = done s (s.chip.loamFault 0x02)))

/-- LDI, LDIH, LDC, ALU, ADDI, GET and MEM load (R239, R242, R243): A takes the value, nothing else changes. MEM store
and FLAG: the data memory takes A, low word first (R239), the frame takes its USER flags (R252). -/
def Obligations.LoamData : Prop :=
  (∀ (s : State) (w : Nat) (a b c : Long), w = s.chip.fetch → a = s.chip.lreg (iA w) → b = s.chip.lreg (iB w) →
     c = s.chip.lreg (iC w) → s.chip.inBank →
     (s.issues 0x08 → Answers .loamLdi s (fun t => putsReg s t (BitVec.ofNat 32 (iImm w)))) ∧
     (s.issues 0x09 → Answers .loamLdih s (fun t => putsReg s t ((a &&& 0xFFFF) ||| (BitVec.ofNat 32 (iImm w)) <<< 16))) ∧
     (∀ k, s.issues 0x0A → s.chip.cc.cap = some k → iX w % 2 = 0 →
       Answers .loamLdc s (fun t => putsReg s t ((k.word (iImm w)).setWidth 32))) ∧
     (∀ k, s.issues 0x0A → s.chip.cc.cap = some k → iX w % 2 = 1 → iImm w < 0xFF →
       Answers .loamLdc s (fun t => putsReg s t (BitVec.ofNat 32 (k.word32 (iImm w))))) ∧
     (s.issues 0x0B → Answers .loamAlu s (fun t => putsReg s t (match w % 8 with
       | 0 => b + c
       | 1 => b - c
       | 2 => b &&& c
       | 3 => b ||| c
       | 4 => b ^^^ c
       | 5 => b <<< (c.toNat % 32)
       | 6 => b >>> (c.toNat % 32)
       | _ => b))) ∧
     (s.issues 0x0C → Answers .loamAddi s (fun t => putsReg s t (b + BitVec.ofInt 32 (sext (iImm w) 16)))) ∧
     (∀ k, s.issues 0x0E → s.chip.cc.cap = some k →
       (iImm w = 0 → Answers .loamGet s (fun t => putsReg s t ((s.chip.tb.stb - s.chip.loam.t0).setWidth 32))) ∧
       (iImm w = 1 → Answers .loamGet s (fun t => putsReg s t (BitVec.ofNat 32 k.ctx.val))) ∧
       (iImm w = 2 → Answers .loamGet s (fun t => putsReg s t k.fn)) ∧
       (7 ≤ iImm w → exec .loamGet s = done s (s.chip.loamFault 0x04))) ∧
     (s.issues 0x0F → iX w = 0 → Answers .loamMem s (fun t =>
       putsReg s t (BitVec.ofNat 32 (s.chip.rd32 spLoam (0x3040 + 2 * iImm w)))))) ∧
  (∀ (s : State), s.chip.inBank →
     (s.issues 0x0F → iX s.chip.fetch = 1 → Answers .loamMem s (fun t =>
       t.rd32 spLoam (0x3040 + 2 * iImm s.chip.fetch) = (s.chip.lreg (iA s.chip.fetch)).toNat ∧
       WordsKept s.chip t [(spLoam, 0x3040 + 2 * iImm s.chip.fetch), (spLoam, 0x3041 + 2 * iImm s.chip.fetch)] ∧
       t.loam = s.chip.loam.goesTo (s.chip.loam.pc + 1) ∧ t.cc = s.chip.cc)) ∧
     (∀ c, s.issues 0x1E → s.chip.cc.cap = some c → Answers .loamFlag s (fun t =>
       t.cc = { s.chip.cc with cap := some { c with user := c.user ||| BitVec.ofNat 4 (iImm s.chip.fetch) } } ∧
       t.loam = s.chip.loam.goesTo (s.chip.loam.pc + 1) ∧ AllWordsKept s.chip t)))

/-- The waits (R244): WAITT goes on where its tick is reached and waits for it otherwise, WAITE on a condition that
holds; each waiting one goes on once its tick or its event has come. -/
def Obligations.LoamWaits : Prop :=
  (∀ (s : State) (t0 : Tick), s.issues 0x10 → s.chip.inBank →
    t0 = s.chip.loam.t0 + (s.chip.lreg (iB s.chip.fetch)).setWidth 64 + BitVec.ofInt 64 (sext (iImm s.chip.fetch) 16) →
    (s.chip.reached t0 = true →
      Answers .loamWaitt s (fun t => OnlyLoam s.chip t (s.chip.loam.goesTo (s.chip.loam.pc + 1)))) ∧
    (s.chip.reached t0 = false →
      Answers .loamWaitt s (fun t => OnlyLoam s.chip t { s.chip.loam with wait := some (.tick t0) }))) ∧
  (∀ (s : State) (t0 : Tick), s.chip.pw.core = true → s.chip.loam.wait = some (.tick t0) → s.chip.reached t0 = true →
    s.chip.inBank → s.chip.loam.haltPend = 0 → s.chip.loam.stepping = false →
    Answers .waittReached s (fun t => OnlyLoam s.chip t (s.chip.loam.goesTo (s.chip.loam.pc + 1)))) ∧
  (∀ s : State, s.issues 0x11 → s.chip.inBank →
    (iImm s.chip.fetch < 2 → s.chip.waitCond (iImm s.chip.fetch) = true →
      Answers .loamWaite s (fun t => OnlyLoam s.chip t (s.chip.loam.goesTo (s.chip.loam.pc + 1)))) ∧
    (iImm s.chip.fetch < 2 → s.chip.waitCond (iImm s.chip.fetch) = false →
      Answers .loamWaite s (fun t => OnlyLoam s.chip t { s.chip.loam with wait := some (.event (iImm s.chip.fetch)) })) ∧
    (3 ≤ iImm s.chip.fetch → exec .loamWaite s = done s (s.chip.loamFault 0x04))) ∧
  (∀ (s : State) (k : Nat), s.chip.pw.core = true → s.chip.loam.wait = some (.event k) → k < 2 →
    s.chip.waitCond k = true → s.chip.inBank → s.chip.loam.haltPend = 0 → s.chip.loam.stepping = false →
    Answers .waiteEvent s (fun t => OnlyLoam s.chip t (s.chip.loam.goesTo (s.chip.loam.pc + 1))))

/-- OPEN, CLOSE, STRB, ISETL, HKT and PIN queue their actions at T0 + B, for OPEN and CLOSE plus the sign-extended IMM;
late ones take effect on the next tick and count; with the queue full the instruction stalls (R232, R233, R246,
R247). STR queues the edges of a stratum of the plan and does nothing for a stratum that is not used (R245); a
stalled instruction places its actions once the queue has room (R232). -/
def Obligations.LoamTiming : Prop :=
  (∀ (s : State) (w : Nat) (at0 at1 : Tick), w = s.chip.fetch → s.chip.inBank →
     at0 = s.chip.loam.t0 + (s.chip.lreg (iB w)).setWidth 64 → at1 = at0 + BitVec.ofInt 64 (sext (iImm w) 16) →
     (s.issues 0x14 → queues s .loamOpen (act at1 1 (iX w) 0 false 0)) ∧
     (s.issues 0x15 → queues s .loamClose (act at1 0 (iX w) 0 false 0)) ∧
     (s.issues 0x16 → queues s .loamStrb (act at0 2 0 (BitVec.ofNat 8 (iImm w)) (iX w == 1) 0)) ∧
     (s.issues 0x17 → queues s .loamIsetl (act at0 3 (iX w) 0 false 0)) ∧
     (s.issues 0x18 → queues s .loamHkt (act at0 5 (iImm w) 0 false 0)) ∧
     (s.issues 0x19 → iX w ≠ 0 → queues s .loamPin (act at0 4 (iImm w) 0 false (iX w))) ∧
     (s.issues 0x19 → iX w = 0 → exec .loamPin s = done s (s.chip.loamFault 0x04))) ∧
  ((∀ (s : State) (c : Capture), s.issues 0x13 → s.chip.inBank → s.chip.cc.cap = some c →
     (c.strata ≤ iX s.chip.fetch →
       Answers .loamStr s (fun t => OnlyLoam s.chip t (s.chip.loam.goesTo (s.chip.loam.pc + 1)))) ∧
     (iX s.chip.fetch < c.strata → s.chip.loam.queue.length ≤ 27 →
       (∀ a ∈ s.chip.strActions c (iX s.chip.fetch), s.chip.reached a.tick = false) →
       Answers .loamStr s (fun t => OnlyLoam s.chip t (Loam.goesTo
         { s.chip.loam with queue := s.chip.loam.queue ++ s.chip.strActions c (iX s.chip.fetch) } (s.chip.loam.pc + 1))))) ∧
   (∀ (s : State) (acts : List Action), s.chip.pw.core = true → s.chip.loam.wait = some (.queue acts) →
     s.chip.loam.queue.length + acts.length ≤ 32 → s.chip.inBank → s.chip.loam.haltPend = 0 →
     s.chip.loam.stepping = false →
     Answers .actionQueueStallEnd s (fun t => t.loam.queue.length = s.chip.loam.queue.length + acts.length ∧
       t.loam.pc = s.chip.loam.pc + 1 ∧ t.loam.wait = none ∧ t.cc = s.chip.cc ∧
       WordsKept s.chip t [(spLoam, 0x3000), (spLoam, 0x3003)])))

/-- The plane reads (R248, R249): READP starts the row engine on its plane once no stratum is open and the engine is
idle, and waits until then; READB hands the step engine its band. DRAIN empties the nodes and discards the queue
(R235, R250), and in Drift the steps taken up (log entry 45); BREAK halts Loam after itself with cause 4 (R254); BASE with X = 0 moves T0; with X = 1 it waits for a
readout (R163) and, at the end of a Continuous capture, for the queue, and else begins the next frame (R257); EMIT on a stream that is not selected has no effect, and other than frame start,
frame end and event it faults (R251). -/
def Obligations.LoamReadout : Prop :=
  ((∀ (s : State) (c : Capture), s.issues 0x1A → s.chip.inBank → s.chip.cc.cap = some c → c.interleaved = false →
     iX s.chip.fetch < c.strata →
     (s.chip.readpReady = false →
       Answers .loamReadp s (fun t => OnlyLoam s.chip t { s.chip.loam with wait := some (.readp (iX s.chip.fetch)) })) ∧
     (s.chip.readpReady = true → s.chip.pipe.inline.length < 8 →
       Answers .loamReadp s (fun t =>
         t.cc = { s.chip.cc with cap := some { c with
           read := c.read ||| BitVec.ofNat 4 (2 ^ iX s.chip.fetch), converted := 0,
           todo := c.planeRows.map (fun r => ⟨iX s.chip.fetch, r⟩) } } ∧
         t.loam = Loam.goesTo { s.chip.loam with watch := 0 } (s.chip.loam.pc + 1) ∧ AllWordsKept s.chip t))) ∧
   (∀ (s : State) (c : Capture) (row : Nat), s.issues 0x1B → s.chip.inBank → s.chip.cc.cap = some c →
     s.chip.loam.rom = false → c.mode = 3 → tst (c.word 0xC0) 15 = false → iX s.chip.fetch = 0 →
     iImm s.chip.fetch = c.depth → row = (s.chip.lreg (iB s.chip.fetch)).toNat → row % 2 = 0 → 48 ≤ row →
     row + c.depth ≤ 3888 → s.chip.cc.drift.readb = none → s.chip.cc.drift.ending = false →
     Answers .loamReadb s (fun t => t.cc.drift.readb = some (0, row, c.depth) ∧ t.cc.cap = s.chip.cc.cap ∧
       t.loam = s.chip.loam.goesTo (s.chip.loam.pc + 1) ∧ AllWordsKept s.chip t))) ∧
  (∀ (s : State), s.chip.inBank →
     (s.issues 0x1C → Answers .loamDrain s (fun t => t.cc.nodes = 0 ∧
       t.loam = Loam.goesTo { s.chip.loam with queue := [] } (s.chip.loam.pc + 1) ∧
       t.cc.drift = { s.chip.cc.drift with taken := [], exposing := none, closed := [] } ∧ t.cc.heldTrig = s.chip.cc.heldTrig ∧ t.tb = s.chip.tb)) ∧
     (s.issues 0x1F → tst (s.chip.rd 0 0x32) 12 = true → (∀ i, i < 4 → tst (s.chip.rd spLoam (0x3008 + i)) 15 = false) → Answers .loamBreak s (fun t => t.loam.halted = true ∧
       t.loam.hcause = 4 ∧ t.loam.pc = s.chip.loam.pc + 1 ∧ t.loam.running = s.chip.loam.running ∧ t.cc = s.chip.cc ∧
       tst (t.rd 0 0x13) 5 = true ∧ WordsKept s.chip t [(0, 0x13)])) ∧
     (s.issues 0x12 → iX s.chip.fetch = 0 → Answers .loamBase s (fun t => OnlyLoam s.chip t
       (Loam.goesTo { s.chip.loam with t0 := s.chip.loam.t0 + (s.chip.lreg (iB s.chip.fetch)).setWidth 64 } (s.chip.loam.pc + 1)))) ∧
     (∀ c, s.issues 0x12 → iX s.chip.fetch ≠ 0 → s.chip.cc.cap = some c →
       (c.mode ≠ 2 → exec .loamBase s = done s (s.chip.loamFault 0x0A)) ∧
       (c.mode = 2 → s.chip.rowsIdle = true → s.chip.baseEnds c = false → s.chip.baseYields = false →
         Answers .loamBase s (fun t => t.cc.frameNum = s.chip.cc.frameNum + 1 ∧ t.cc.lastFn = t.cc.frameNum ∧
           t.cc.cap.map (·.fn) = some t.cc.frameNum ∧ t.cc.cap.map (·.ctx) = some c.ctx ∧
           t.loam.pc = s.chip.loam.pc + 1 ∧ t.loam.running = s.chip.loam.running ∧ t.tb = s.chip.tb)) ∧
       (c.mode = 2 → s.chip.rowsIdle = false ∨ (s.chip.baseEnds c = true ∧ s.chip.endReady = false) →
         Answers .loamBase s (fun t => OnlyLoam s.chip t
           { s.chip.loam with wait := some (.base (s.chip.lreg (iB s.chip.fetch))) }))) ∧
     (∀ c, s.issues 0x1D → s.chip.cc.cap = some c →
       (iImm s.chip.fetch ≠ 1 → iImm s.chip.fetch ≠ 2 → iImm s.chip.fetch ≠ 0x33 →
         exec .loamEmit s = done s (s.chip.loamFault 0x05)) ∧
       (iImm s.chip.fetch = 1 ∨ iImm s.chip.fetch = 2 ∨ iImm s.chip.fetch = 0x33 → c.streamOf (iX s.chip.fetch) = none →
         Answers .loamEmit s (fun t =>
           OnlyLoam s.chip t (Loam.goesTo { s.chip.loam with watch := 0 } (s.chip.loam.pc + 1)))) ∧
       (∀ st, iImm s.chip.fetch = 0x33 → c.streamOf (iX s.chip.fetch) = some st → (s.chip.stream st).act = false →
         Answers .loamEmit s (fun t => t.rd spPool (streamOff st 8) = satAdd (s.chip.rd spPool (streamOff st 8)) 1 ∧
           t.loam = Loam.goesTo { s.chip.loam with watch := 0 } (s.chip.loam.pc + 1) ∧
           WordsKept s.chip t [(spPool, streamOff st 8)] ∧ t.streams = s.chip.streams))))

/-- The edges of the strata take effect at their ticks (R146, R236): OPEN opens its stratum, CLOSE closes the open one,
whose node then holds its charge, the test rows' among it (R150, R153), and a stratum open for 100,000,000 ticks closes by itself. The other actions (R183
to R185, R246, R247): a falling strobe edge takes the masked channels of the capture low, an ISET action loads the
DACs of its stratum's channels that no regulator holds, a PIN action drives its output latch (alone in its cycle), and an HKT action makes
its slot's request due after the slot's delay. -/
def Obligations.QueuedActions : Prop :=
  (∀ (s : State) (a : Action),
     (s.chip.dueAction 1 = some a → Completes .stratumOpen s ((s.chip.takeAction a).doOpen a).advanceLoam) ∧
     (s.chip.dueAction 0 = some a → Completes .stratumClose s ((s.chip.takeAction a).doClose a).advanceLoam) ∧
     (s.chip.dueAction 2 = some a →
       Completes .strbEdge s ((s.chip.takeAction a).captureStrobe a.mask a.rise a.tick).advanceLoam) ∧
     (∀ c, s.chip.dueAction 3 = some a → s.chip.cc.cap = some c →
       Completes .isetApply s ((s.chip.takeAction a).isetApply c a.arg).advanceLoam) ∧
     (s.chip.dueAction 4 = some a → Completes .pinAction s ((s.chip.takeAction a).drivePin 40 a.arg a.op).advanceLoam) ∧
     (s.chip.dueAction 5 = some a → Completes .hktAction s ((s.chip.takeAction a).targetEvent 6 a.arg a.tick).advanceLoam)) ∧
  ((∀ (s : State) (a : Action) (c : Capture), s.acts 1 a → s.chip.cc.cap = some c → c.opened = none →
     (∀ x, c.lastClose = some x → x.toNat + 100 ≤ a.tick.toNat) →
     Answers .stratumOpen s (fun t => t.cc = { s.chip.cc with cap := some { c with opened := some (a.arg, a.tick) } } ∧
       t.loam = s.chip.without a ∧ t.chans = s.chip.chans ∧ t.tb = s.chip.tb)) ∧
   (∀ (s : State) (a : Action) (c : Capture) (x : Tick), s.acts 0 a → s.chip.cc.cap = some c → c.opened = some (a.arg, x) →
     x.toNat + 200 ≤ a.tick.toNat →
     Answers .stratumClose s (fun t => t.cc = { s.chip.cc with
         cap := some { c with opened := none, lastClose := some a.tick, closed := c.closed ||| BitVec.ofNat 4 (2 ^ a.arg) }
         nodes := s.chip.cc.nodes ||| BitVec.ofNat 4 (2 ^ a.arg)
         charge := upd s.chip.cc.charge a.arg (fun l => (List.range 8).map (fun i => min 9500 (nth l i + 1280 * i))) } ∧
       (c.mode ≠ 3 → tst (t.rd 0 0x13) 2 = true) ∧ WordsKept s.chip t [(0, 0x13)] ∧ t.loam = s.chip.without a ∧
       t.chans = s.chip.chans ∧ t.tb = s.chip.tb)) ∧
   (∀ (s : State) (c : Capture) (k : Nat) (x : Tick), s.chip.pw.core = true → s.chip.cc.cap = some c →
     c.opened = some (k, x) → s.chip.reached (x + 100000000) = true → s.chip.loam.wait = none → s.chip.moversOff →
     (∀ a ∈ s.chip.loam.queue, a.kind = 0 → a.arg = k → x.toNat + 100000000 < a.tick.toNat) →
     Answers .stratumMaxClose s (fun t => t.cc = { s.chip.cc with
         cap := some { c with opened := none, lastClose := some (x + 100000000),
                              closed := c.closed ||| BitVec.ofNat 4 (2 ^ k) }
         nodes := s.chip.cc.nodes ||| BitVec.ofNat 4 (2 ^ k)
         charge := upd s.chip.cc.charge k (fun l => (List.range 8).map (fun i => min 9500 (nth l i + 1280 * i))) } ∧
       tst (t.rd spLoam 0x3000) 13 = true ∧ t.rd spFault 0 = s.chip.rd spFault 0 + 1 ∧
       (∀ a ∈ t.loam.queue, a ∈ s.chip.loam.queue)))) ∧
  (∀ (s : State) (a : Action), s.chip.shaped →
     (s.acts 2 a → a.rise = false → Answers .strbEdge s (fun t =>
       (∀ c, c < 8 → a.mask.getLsbD c = true → tst (s.chip.rd spIllum (chanOff c 0)) 15 = false →
         (t.chan c).level = false ∧ (t.chan c).src = false) ∧
       (∀ c, c < 8 → a.mask.getLsbD c = false → t.chan c = s.chip.chan c) ∧
       t.loam = s.chip.without a ∧ t.cc = s.chip.cc ∧ t.tb = s.chip.tb)) ∧
     (s.acts 2 a → a.rise = true → (∀ k, s.chip.cc.cap = some k → k.dark = false) → Answers .strbEdge s (fun t =>
       (∀ c, c < 8 → a.mask.getLsbD c = true → tst (s.chip.rd spIllum (chanOff c 0)) 15 = false →
         s.chip.fltHolds c = false → (s.chip.chan c).src = false → (s.chip.chan c).level = false →
         (t.chan c).level = true ∧ (t.chan c).rise = a.tick) ∧
       (∀ c, c < 8 → a.mask.getLsbD c = false → t.chan c = s.chip.chan c) ∧
       t.loam = s.chip.without a ∧ t.cc = s.chip.cc ∧ t.tb = s.chip.tb)) ∧
     (∀ c, s.acts 3 a → s.chip.cc.cap = some c → Answers .isetApply s (fun t =>
       (∀ i, i < 8 → (c.strbMask a.arg).getLsbD i = true → (c.regMask a.arg).getLsbD i = false →
         (t.chan i).dac = (c.word (0x38 + 0x10 * a.arg + i)).setWidth 10) ∧
       (∀ i, i < 8 → (c.strbMask a.arg).getLsbD i = false → t.chan i = s.chip.chan i) ∧
       t.loam = s.chip.without a ∧ AllWordsKept s.chip t ∧ t.cc = s.chip.cc)) ∧
     (s.acts 4 a → s.chip.fsel a.arg = 1 → s.chip.cyc.drives = [] → Answers .pinAction s (fun t =>
       t.pins.out = (if a.op = 1 then s.chip.pins.out ||| BitVec.ofNat 32 (2 ^ a.arg)
         else if a.op = 2 then s.chip.pins.out &&& ~~~BitVec.ofNat 32 (2 ^ a.arg)
         else s.chip.pins.out ^^^ BitVec.ofNat 32 (2 ^ a.arg)) ∧
       t.loam = s.chip.without a ∧ AllWordsKept s.chip t ∧ t.cc = s.chip.cc)) ∧
     (s.acts 5 a → a.arg < 8 → s.chip.slotSrc a.arg = 6 → tst (s.chip.rd spHkc (slotOff a.arg 0)) 15 = true →
       s.chip.slotsOn = true → tst (s.chip.rd 0 0x12) 1 = false → s.chip.slotReq a.arg = none →
       Answers .hktAction s (fun t =>
         (t.slotReq a.arg).map (·.due) =
           some (a.tick + BitVec.ofNat 64 (max (s.chip.rd spHkc (slotOff a.arg 2)).toNat 2)) ∧
         (∀ i, i ≠ a.arg → t.slotReq i = s.chip.slotReq i) ∧
         t.loam = s.chip.without a ∧ AllWordsKept s.chip t ∧ t.cc = s.chip.cc)))

/-- The row engine (R21, R151, R161, R436): once its row time has passed it converts the rows of a plane in order and hands an in-line frame's row to the
pipeline; readout that paused for the pool or the pipeline goes on once neither holds it. -/
def Obligations.RowEngine : Prop :=
  (∀ (s : State) (c : Capture) (a : RowTodo) (rest : List RowTodo) (f : PFrame) (codes : List GroupRow),
    s.chip.pw.array = true → s.chip.cc.cap = some c → c.todo = a :: rest → c.opened = none → c.pausedPool = false →
    c.pausedPace = false → s.chip.rowDue c = true → a.row ≠ 47 →
    Completes (.rowRead codes) s (s.chip.readRow codes).advanceLoam ∧
    (s.chip.loam.wait = none → (∀ h ∈ s.chip.cal.hist, h.force = []) → (∀ g, s.chip.windowDue g = false) →
    s.chip.pipe.frames.find? (fun f => f.is 0 c.ctx.val c.fn) = some f → f.lost = false → f.inline = true →
    Answers (.rowRead codes) s (fun t => t.cc.cap.map (·.todo) = some rest ∧
      t.cc.cap.map (·.converted) =
        some (c.planeRows.length - (rest.filter (fun x => x.plane == a.plane)).length) ∧
      t.pipe.inline = s.chip.pipe.inline ++
        [{ src := 0, id := c.ctx.val, fn := c.fn, plane := a.plane, row := a.row, stamp := s.chip.tb.stb,
           vals := s.chip.rowValues c codes, left := (s.chip.rowValues c codes).length, bl := [], store := none }] ∧
      t.loam = s.chip.loam ∧ t.tb = s.chip.tb ∧ t.streams = s.chip.streams))) ∧
  (∀ (s : State) (c : Capture), s.chip.pw.pipe = true → s.chip.cc.cap = some c → (∀ x ∈ s.chip.streams, x.held = []) →
    Answers .readoutResume s (fun t => t.cc = { s.chip.cc with cap := some { c with pausedPool := false } } ∧
      AllWordsKept s.chip t ∧ t.streams = s.chip.streams ∧ t.loam = s.chip.loam)) ∧
  (∀ (s : State) (c : Capture), s.chip.pw.pipe = true → s.chip.cc.cap = some c → s.chip.pipe.inline.length < 8 →
    Answers .paceResume s (fun t => t.cc = { s.chip.cc with cap := some { c with pausedPace := false } } ∧
      AllWordsKept s.chip t ∧ t.streams = s.chip.streams ∧ t.loam = s.chip.loam))

/-- Loam's debug commands (R261 to R265): with HMODE 1 HALT, a breakpoint and a step that cannot run halt Loam with their
causes and keep the capture; RESUME and STEP let a halted Loam go on; more than one command bit discards the write. A
watchdog that runs out is fault 0x07 (R256), which ends the capture. A program word is written, and a write while Loam
executes a program of that RAM is refused and flagged (R259, R260); a program write leaves PRGLIM 0. A command of Loam
changes nothing where another instruction stands at the program counter or Loam cannot execute (the model's choice,
log entry 4). A HALT that meets an enabled breakpoint at the next instruction is recorded as the breakpoint (R261). -/
def Obligations.LoamDebug : Prop :=
  ((∀ (s : State) (v : Word), s.reaches 0 0x32 →
     (1 < b2n (tst v 15) + b2n (tst v 14) + b2n (tst v 13) →
       Answers (.halt v) s (Unchanged s.chip) ∧ Answers (.resume v) s (Unchanged s.chip) ∧
       Answers (.step v) s (Unchanged s.chip)) ∧
     (tst v 15 = true → tst v 14 = false → tst v 13 = false → tst v 12 = true → s.chip.loam.halted = false →
       s.chip.loam.wait = none →
       (s.chip.loam.running && s.chip.cc.cap.isSome && s.chip.atBreak) = false →
       Answers (.halt v) s (fun t => t.loam = { s.chip.loam with halted := true, hcause := 1, stepping := false, haltPend := 0 } ∧
         tst (t.rd 0 0x13) 5 = true ∧ t.cc = s.chip.cc ∧ WordsKept s.chip t [(0, 0x32), (0, 0x13)])) ∧
     (tst v 15 = false → tst v 14 = true → tst v 13 = false → s.chip.loam.halted = true → s.chip.cc.susp = [] →
       Answers (.resume v) s (fun t => t.loam = { s.chip.loam with halted := false, skipBp := true } ∧ t.cc = s.chip.cc ∧
         WordsKept s.chip t [(0, 0x32)])) ∧
     (tst v 15 = false → tst v 14 = false → tst v 13 = true → s.chip.loam.halted = true →
       (s.chip.cc.cap.isSome = true →
         Answers (.step v) s (fun t => t.loam = { s.chip.loam with halted := false, skipBp := true, stepping := true } ∧
           t.cc = s.chip.cc ∧ WordsKept s.chip t [(0, 0x32)])) ∧
       (s.chip.cc.cap = none →
         Answers (.step v) s (fun t => t.loam = { s.chip.loam with hcause := 6 } ∧ tst (t.rd 0 0x13) 5 = true ∧
           t.cc = s.chip.cc ∧ WordsKept s.chip t [(0, 0x32), (0, 0x13)])))) ∧
   (∀ (s : State) (v : Word), s.reaches 0 0x32 → tst v 15 = true → tst v 14 = false → tst v 13 = false → tst v 12 = true →
     s.chip.loam.running = true → s.chip.loam.halted = false → s.chip.loam.wait = none → s.chip.cc.cap.isSome = true →
     s.chip.atBreak = true → Answers (.halt v) s (fun t =>
       t.loam = { s.chip.loam with halted := true, hcause := 3, stepping := false, haltPend := 0 })) ∧
   (∀ s : State, s.chip.pw.core = true → s.chip.loam.running = true → s.chip.loam.halted = false → s.chip.loam.wait = none →
     s.chip.cc.cap.isSome = true → s.chip.atBreak = true → Completes .breakpointHit s (s.chip.haltNow 3)) ∧
   (∀ s : State, s.chip.pw.core = true → s.chip.loam.running = true → s.chip.loam.halted = false → s.chip.loam.wait = none →
     s.chip.cc.cap.isSome = true → s.chip.atBreak = true → tst (s.chip.rd 0 0x32) 12 = true →
     Answers .breakpointHit s (fun t =>
       t.loam = { s.chip.loam with halted := true, hcause := 3, stepping := false, haltPend := 0 } ∧
       tst (t.rd 0 0x13) 5 = true ∧ t.cc = s.chip.cc ∧ WordsKept s.chip t [(0, 0x13)])) ∧
   (∀ s : State, s.chip.pw.core = true → s.chip.loam.running = true → s.chip.loam.halted = false →
     s.chip.cc.cap.isSome = true → s.chip.rd spLoam 0x3002 ≠ 0 →
     100000 * (s.chip.rd spLoam 0x3002).toNat < s.chip.loam.watch →
     exec .loamWatchdog s = done s (s.chip.loamFault 0x07) ∧
     (s.chip.cc.susp = [] → Answers .loamWatchdog s (fun t => t.cc.cap = none ∧ t.loam.running = false)))) ∧
  (∀ (s : State) (off : Nat) (v : Word), off < 0x2000 → s.opens spLoam off →
     ((s.chip.loam.running && !s.chip.loam.rom && !s.chip.loam.halted) = false →
       Answers (.programRamWrite off v) s (fun t => t.rd spLoam off = v ∧ t.rd spLoam 0x3001 = 0 ∧
         OnlyThese s.chip t [(spLoam, off), (spLoam, 0x3001)])) ∧
     ((s.chip.loam.running && !s.chip.loam.rom && !s.chip.loam.halted) = true →
       Answers (.programRamWrite off v) s (fun t => t.rd spLoam 0x3000 = s.chip.rd spLoam 0x3000 ||| 0x8000 ∧
         OnlyThese s.chip t [(spLoam, 0x3000)]))) ∧
  (∀ p ∈ loamTable, ∀ s : State, s.chip.mayIssue = false ∨
    (s.chip.outside = false ∧ iOp s.chip.fetch ≠ p.2) → Answers p.1 s (Unchanged s.chip))

/-- A Drift step from its take-up to its band (R271 to R273): READB and an outstanding step give the step its times, its
exposure opens and closes, its charge waits in the node, and its band is read. The end of a document (R284, R285):
the edge of the end pin starts the TAIL count; its end, and STALLTMO milliseconds without a step, end the document,
which takes up no further step. -/
def Obligations.DriftDocument : Prop :=
  (∀ (s : State) (c : Capture), s.chip.driftCap = some c → s.chip.pw.array = true →
     (s.chip.cc.drift.readb.isSome = true → s.chip.cc.drift.outstanding ≠ [] → s.chip.cc.drift.ending = false →
       Completes .stepTakeUp s (s.chip.takeUp c)) ∧
     (∀ x, s.chip.dueAction 2 = none → s.chip.nextLit c = some x → Completes .strbEdge s (s.chip.lightStep c x)) ∧
     (∀ x rest, s.chip.cc.drift.taken = x :: rest → s.chip.cc.drift.exposing = none → s.chip.reached x.openAt = true →
       Completes .driftExposureOpen s (s.chip.openStep c)) ∧
     (∀ x, s.chip.cc.drift.exposing = some x → s.chip.reached x.closeAt = true →
       Completes .driftExposureClose s (s.chip.closeStep c)) ∧
     (∀ x rows, s.chip.cc.drift.reading = some x → s.chip.reached x.bandTo = true →
       Completes (.bandReadEnd rows) s (s.chip.bandEnd c x rows))) ∧
  ((∀ (s : State) (c : Capture) (x : DStep) (rest : List DStep), s.chip.driftCap = some c → s.chip.pw.array = true →
     s.chip.cc.drift.readb.isSome = true → s.chip.cc.drift.outstanding = x :: rest → s.chip.cc.drift.ending = false →
     s.chip.loam.wait = none →
     Answers .stepTakeUp s (fun t => t.cc.drift.outstanding = rest ∧ t.cc.drift.readb = none ∧
       t.cc.drift.taken = s.chip.cc.drift.taken ++ [s.chip.planStep c x] ∧ t.cc.cap = s.chip.cc.cap ∧
       AllWordsKept s.chip t ∧ t.loam = s.chip.loam) ∧
     (s.chip.cc.drift.lastClose = none → s.chip.cc.drift.bandEnd = [] →
       (s.chip.planStep c x).openAt =
         BitVec.ofNat 64 (max (x.ts.toNat + c.offT x.stratum) (s.chip.tb.stb.toNat + c.leadT x.stratum)) ∧
       (s.chip.planStep c x).closeAt = (s.chip.planStep c x).openAt + BitVec.ofNat 64 (c.durT x.stratum))) ∧
   (∀ (s : State) (c : Capture) (x : DStep) (rest : List DStep), s.chip.driftCap = some c → s.chip.pw.array = true →
     s.chip.cc.drift.taken = x :: rest → s.chip.cc.drift.exposing = none →
     (x.lit = false → s.chip.dueAction 2 = none →
       s.chip.reached (x.openAt - BitVec.ofNat 64 (c.leadT x.stratum)) = true →
       Answers .strbEdge s (fun t => (t.cc.drift.taken.head?).map (·.lit) = some true ∧ t.loam = s.chip.loam)) ∧
     (x.lit = true → s.chip.reached x.openAt = true →
       Answers .driftExposureOpen s (fun t =>
         t.cc = { s.chip.cc with drift := { s.chip.cc.drift with taken := rest, exposing := some x } } ∧
         t.loam = s.chip.loam ∧ t.chans = s.chip.chans))) ∧
   (∀ (s : State) (c : Capture) (x : DStep), s.chip.driftCap = some c → s.chip.pw.array = true →
     s.chip.cc.drift.exposing = some x → s.chip.reached x.closeAt = true →
     Answers .driftExposureClose s (fun t =>
       t.cc = { s.chip.cc with
         drift := { s.chip.cc.drift with exposing := none, closed := s.chip.cc.drift.closed ++ [x] }
         nodes := s.chip.cc.nodes ||| BitVec.ofNat 4 (2 ^ x.stratum)
         charge := upd s.chip.cc.charge x.stratum
           (fun l => (List.range 8).map (fun i => min 9500 (nth l i + 1280 * i))) } ∧ t.loam = s.chip.loam)) ∧
   (∀ (s : State) (c : Capture) (x : DStep) (rest : List DStep), s.chip.driftCap = some c → s.chip.pw.array = true →
     s.chip.cc.drift.closed = x :: rest → s.chip.cc.drift.reading = none → s.chip.reached x.bandFrom = true →
     Answers .bandReadStart s (fun t =>
       t.cc = { s.chip.cc with drift := { s.chip.cc.drift with closed := rest, reading := some x } } ∧
       AllWordsKept s.chip t ∧ t.loam = s.chip.loam)) ∧
   (∀ (s : State) (c : Capture) (x : DStep) (rows : List (List GroupRow)), s.chip.driftCap = some c →
     s.chip.pw.array = true → s.chip.cc.drift.reading = some x → s.chip.reached x.bandTo = true → s.chip.loam.wait = none →
     Answers (.bandReadEnd rows) s (fun t => t.cc.drift.reading = none ∧ t.loam.watch = 0 ∧
       t.cc.nodes = s.chip.cc.nodes &&& ~~~BitVec.ofNat 4 (2 ^ x.stratum)))) ∧
  ((∀ (s : State) (c : Capture) (r : Bool) (e : Nat), s.chip.pw.core = true → s.chip.driftCap = some c →
     e = fld (c.word 0xC1) 5 2 → fld (c.word 0xC0) 12 2 ≠ 0 → s.chip.cc.drift.tail = none →
     s.chip.cc.drift.ending = false →
     (e = 2 ∨ (e = 0 ∧ r = true) ∨ (e = 1 ∧ r = false) →
       Answers (.driftEndPin r) s (fun t =>
         t.cc = { s.chip.cc with drift := { s.chip.cc.drift with tail := some (c.word 0xC3).toNat } } ∧
         AllWordsKept s.chip t ∧ t.loam = s.chip.loam)) ∧
     (¬ (e = 2 ∨ (e = 0 ∧ r = true) ∨ (e = 1 ∧ r = false)) → Answers (.driftEndPin r) s (Unchanged s.chip))) ∧
   (∀ (s : State) (c : Capture), s.chip.pw.core = true → s.chip.driftCap = some c → s.chip.cc.drift.ending = false →
     s.chip.loam.wait = none →
     (s.chip.cc.drift.tail = some 0 →
       Answers .driftTailExpiry s (fun t => t.cc.drift.ending = true ∧ t.cc.drift.outstanding = [] ∧
         t.cc.drift.taken = [] ∧ t.cc.drift.exposing = none ∧ t.cc.drift.reading = s.chip.cc.drift.reading ∧
         (s.chip.cc.drift.reading = none → t.cc.drift.ended = true ∧ tst (t.rd spCtx (c.off 0xD0)) 14 = true) ∧
         t.loam = s.chip.loam)) ∧
     ((c.word 0xC6).toNat ≠ 0 →
       s.chip.cc.drift.lastStep.toNat + 100000 * (c.word 0xC6).toNat ≤ s.chip.tb.stb.toNat →
       Answers .driftStall s (fun t => t.cc.drift.ending = true ∧ t.cc.drift.stalled = true ∧
         tst (t.rd spCtx (c.off 0xD0)) 15 = true ∧ t.cc.drift.outstanding = [] ∧ t.loam = s.chip.loam))))

/-- The pipeline takes one segment of at most 256 values, a Drift line first, then the in-line source, then a memory pass
(R435); a STATCTL write that clears LOCK shows the waiting set (R448); a pending in-line source takes over once no
frame of the present one is open (R23). A statistics set that a mover copies holds the front bank (R446). -/
def Obligations.PipelineWork : Prop :=
  (∀ s : State, s.chip.pw.pipe = true →
    (∀ l rest, s.chip.pipe.lines = l :: rest → 256 < l.left →
      Answers .pipeSegment s (fun t =>
        OnlyPipe s.chip t { s.chip.pipe with lines := { l with left := l.left - 256 } :: rest })) ∧
    (∀ r rest, s.chip.pipe.lines = [] → s.chip.pipe.inline = r :: rest → 256 < r.left →
      Answers .pipeSegment s (fun t =>
        OnlyPipe s.chip t { s.chip.pipe with inline := { r with left := r.left - 256 } :: rest })) ∧
    (∀ r rest, s.chip.pipe.lines = [] → s.chip.pipe.inline = r :: rest → r.left ≤ 256 → r.store = none →
      s.chip.pipe.frames.find? (fun f => f.is r.src r.id r.fn) = none →
      Answers .pipeSegment s (fun t => OnlyPipe s.chip t { s.chip.pipe with inline := rest })) ∧
    (∀ r rest, s.chip.pipe.lines = [] → s.chip.pipe.inline = [] → s.chip.pipe.memory = r :: rest → 256 < r.left →
      Answers .pipeSegment s (fun t =>
        OnlyPipe s.chip t { s.chip.pipe with memory := { r with left := r.left - 256 } :: rest })) ∧
    (s.chip.sourceOpen = false →
      Answers .insrcSwitch s (fun t => OnlyPipe s.chip t { s.chip.pipe with act := fld (s.chip.rd spPipe 0x10) 0 2 })) ∧
    (s.chip.sourceOpen = true → Answers .insrcSwitch s (Unchanged s.chip))) ∧
  (∀ (s : State) (v : Word) (b : Bank), s.opens spStat 0 → tst v 15 = false → s.chip.statHeld = false →
    s.chip.pipe.waiting = some b → b.wf = true → (∀ c ∈ b, key spStat 0xF0 ≤ c.1 ∧ c.1 < key spStat 0x5000) →
    Answers (.statctlUnlock v) s (fun t => t.pipe = { s.chip.pipe with waiting := none } ∧ tst (t.rd spStat 0) 15 = false ∧
      (∀ k, key spStat 0xF0 ≤ k → k < key spStat 0x5000 → Bank.get t.regs k = Bank.get b k) ∧
      (∀ k, k ≠ key spStat 0 → k < key spStat 0xF0 ∨ key spStat 0x5000 ≤ k → Bank.get t.regs k = Bank.get s.chip.regs k)))

/-- The slices (R321, R323, R326, R337, R338): the window of a powered NORMAL group ends once it has made its 256 conversions;
a passing one only turns to the other role, one under a supply warning is skipped and counted; FORCE fails a slice at once with no capture running and waits during one; RESTORE gives a
frozen group its slice back. -/
def Obligations.Slices : Prop :=
  (∀ (s : State) (g : Fin 162) (x : Fin 2), s.chip.pw.array = true → 256 ≤ (s.chip.hist g.val).conv →
    groupState (s.chip.gstat g.val) = 0 → fld (s.chip.gstat g.val) 2 1 = x.val →
    Completes (.shadowWindowEnd g x) s (s.chip.windowEnd g.val)) ∧
  (∀ (s : State) (g : Fin 162) (x : Fin 2), s.chip.pw.array = true → 256 ≤ (s.chip.hist g.val).conv →
    groupState (s.chip.gstat g.val) = 0 → s.chip.cal.group ≠ some g.val → fld (s.chip.gstat g.val) 2 2 = x.val →
    ((s.chip.hist g.val).warned = false → (s.chip.hist g.val).deferred = none →
      windowFails (windowDiffs (s.chip.hist g.val).pairs) = false →
      Answers (.shadowWindowEnd g x) s (fun t =>
        fld (t.gstat g.val) 2 2 = 1 - fld (s.chip.gstat g.val) 2 2 ∧ groupState (t.gstat g.val) = 0 ∧
        (t.hist g.val).conv = (s.chip.hist g.val).conv - 256 ∧
        OnlyThese { s.chip with cal := t.cal } t [(spCal, 0x100 + g.val)])) ∧
    ((s.chip.hist g.val).warned = true →
      Answers (.shadowWindowEnd g x) s (fun t =>
        fld (t.gstat g.val) 2 2 = 1 - fld (s.chip.gstat g.val) 2 2 ∧
        (t.hist g.val).warned = (s.chip.hist g.val).nextWarned ∧
        (t.rd spCal (trimOff g.val (physIn (s.chip.gstat g.val) (fld (s.chip.gstat g.val) 2 2)) 7)).toNat =
          min 0xFFFF ((s.chip.rd spCal (trimOff g.val (physIn (s.chip.gstat g.val) (fld (s.chip.gstat g.val) 2 2)) 7)).toNat + 1) ∧
        OnlyThese { s.chip with cal := t.cal } t
          [(spCal, 0x100 + g.val), (spCal, trimOff g.val (physIn (s.chip.gstat g.val) (fld (s.chip.gstat g.val) 2 2)) 7)]))) ∧
  (∀ (s : State) (g : Fin 162) (v : Word) (p : Nat), s.opens spCal 0x200 → p = fld v 0 2 → p ≠ 3 →
    (tst v 15 = false → tst v 14 = true → tst (s.chip.gstat g.val) (6 + p) = false →
      (s.chip.cc.cap.isSome = true →
        Answers (.force g v) s (fun t => (t.hist g.val).force = (s.chip.hist g.val).force ++ [p] ∧
          AllWordsKept s.chip t ∧ t.cc = s.chip.cc)) ∧
      (s.chip.cc.cap = none → (s.chip.hist g.val).force = [] → roleOf (s.chip.gstat g.val) p ≤ 1 →
        groupState (s.chip.gstat g.val) = 0 → s.chip.moversOff →
        Answers (.force g v) s (fun t => tst (t.gstat g.val) (6 + p) = true ∧ groupState (t.gstat g.val) = 1 ∧
          physIn (t.gstat g.val) (roleOf (s.chip.gstat g.val) p) = physIn (s.chip.gstat g.val) 2 ∧
          physIn (t.gstat g.val) 2 = 3 ∧ tst (t.rd 0 0x14) 10 = true ∧
          t.rd spFault 0 = s.chip.rd spFault 0 + 1))) ∧
    (tst v 15 = true → tst v 14 = false → s.chip.capBusy = false → tst (s.chip.gstat g.val) (6 + p) = true →
      groupState (s.chip.gstat g.val) = 1 →
      Answers (.restore g v) s (fun t => tst (t.gstat g.val) (6 + p) = false ∧ groupState (t.gstat g.val) = 0 ∧
        physIn (t.gstat g.val) 2 = p ∧ OnlyThese { s.chip with cal := t.cal } t [(spCal, 0x100 + g.val)])) ∧
    (tst v 15 = true → s.chip.capBusy = true → Answers (.restore g v) s (Unchanged s.chip)))

/-- Marl and the trims (R343, R347, R354, R355, R357, R359): a dwell that ends with MARLEN clear leaves its group; a
walking trim takes one tap towards its target; a target write by the host pins its trims and UNPINALL unpins every
one; clearing MARLEN during a dwell stops Marl at the next window. A trim of a FROZEN group, or of a failed slice, stands unless
the host has written it. -/
def Obligations.Trimming : Prop :=
  (∀ (s : State) (g : Nat), s.chip.pw.core = true → s.chip.cal.group = some g → s.chip.dwellFull = true →
    Completes .marlDwellEnd s (s.chip.dwellEnd g)) ∧
  (∀ (s : State) (g : Nat), s.chip.pw.core = true → s.chip.cal.group = some g → s.chip.dwellFull = true →
    tst (s.chip.rd 0 0x34) 15 = false → s.chip.moversOff →
    Answers .marlDwellEnd s (fun t => t.cal.group = none ∧ t.cal.from_ = g + 1 ∧ t.cal.dwell = Dwell.zero ∧
      t.cc = s.chip.cc ∧ t.hkc = s.chip.hkc)) ∧
  (∀ (s : State) (g : Fin 162) (p : Fin 3) (i : Fin 4), s.chip.pw.core = true →
    (s.chip.mayWalk g.val p.val i.val = true →
      Answers (.trimStep g p i) s (fun t =>
        t.trimVal g.val p.val i.val 4 = s.chip.trimVal g.val p.val i.val 4 +
          (s.chip.trimVal g.val p.val i.val 0 - s.chip.trimVal g.val p.val i.val 4).sign ∧
        OnlyThese { s.chip with cal := t.cal } t [(spCal, trimOff g.val p.val (4 + (trimField i.val).1))])) ∧
    (groupState (s.chip.gstat g.val) = 1 → s.chip.pinned g.val p.val i.val = false → s.chip.mayWalk g.val p.val i.val = false) ∧
    (s.chip.mayWalk g.val p.val i.val = false → Answers (.trimStep g p i) s (Unchanged s.chip))) ∧
  (∀ (s : State) (i : Fin 6), s.chip.pw.core = true → s.chip.shaped → 256 ≤ nth s.chip.hkc.sinceStep i.val →
    (s.chip.hkcApplied i.val).toInt ≠ sext (s.chip.rd spHkc (0x300 + i.val)).toNat 8 →
    Answers (.hkcTrimStep i) s (fun t =>
      (t.hkcApplied i.val).toInt = (s.chip.hkcApplied i.val).toInt +
        (sext (s.chip.rd spHkc (0x300 + i.val)).toNat 8 - (s.chip.hkcApplied i.val).toInt).sign ∧
      AllWordsKept s.chip t ∧ t.hkc.queue = s.chip.hkc.queue)) ∧
  (∀ (s : State) (v : Word), s.opens spCal 0 →
    (∀ (g : Fin 162) (p i : Fin 3), Answers (.trimTargetWrite (trimOff g.val p.val i.val) v) s (fun t =>
      (i.val = 0 → t.pinned g.val p.val 0 = true ∧ t.pinned g.val p.val 1 = true) ∧
      (i.val = 1 → t.pinned g.val p.val 2 = true) ∧
      (i.val = 2 → t.pinned g.val p.val 3 = true ∧ fld (t.rd spCal (trimOff g.val p.val 2)) 0 12 = fld v 0 12) ∧
      OnlyThese s.chip t [(spCal, trimOff g.val p.val i.val), (spCal, 0x300 + g.val)])) ∧
    (∀ i : Fin 6, Answers (.trimTargetWrite (0x300 + i.val) v) s (fun t => tst (t.rd spCal 6) i.val = true ∧
      OnlyThese s.chip t [(spHkc, 0x300 + i.val), (spCal, 6)]))) ∧
  (∀ (s : State) (v : Word), s.reaches 0 0x34 → tst v 10 = false → tst v 11 = false →
    (tst v 12 = false → tst v 15 = false → s.chip.cal.group.isSome = true →
      Answers (.marlenClear v) s (fun t => t.cal = { s.chip.cal with stopping := true } ∧
        WordsKept s.chip t [(0, 0x34)] ∧ t.cc = s.chip.cc)) ∧
    (tst v 12 = true → Answers (.unpinall v) s (fun t =>
      (∀ g p i, g < 162 → p < 3 → i < 4 → t.pinned g p i = false) ∧ t.rd spCal 6 &&& 0x003F = 0 ∧ t.cc = s.chip.cc)))

/-- The user runs (R360 to R372): RUN starts a VREF run where the converter is active and is refused with result 3 where
a run is in progress; a WHITE run waits for the array and its captures are started one at a time; CANCEL, the
time-outs and a spoiled run end with result 2, a run whose measurements are good with result 1 and its values in
place. -/
def Obligations.CalibrationRuns : Prop :=
  (∀ (s : State) (v : Word), s.reaches 0 0x34 → tst v 11 = false → tst v 12 = false → tst v 10 = true →
    (fld v 8 2 = 1 → s.chip.cal.run = .none →
      Answers (.runVref v) s (fun t => t.cc = s.chip.cc ∧
        (s.chip.hkc.act = true → t.cal.run = .vref false 0 [] ∧ t.cal.runStart = s.chip.tb.stb ∧ t.cal.result = 0) ∧
        (s.chip.hkc.act = false → t.cal.run = .none ∧ t.cal.result = 3))) ∧
    (fld v 8 2 = 2 → s.chip.cal.run = .none →
      (s.chip.whiteRefused (fld v 0 4) = true →
        Answers (.runWhite v) s (fun t => t.cal.run = .none ∧ t.cal.result = 3 ∧ t.cc = s.chip.cc)) ∧
      (s.chip.whiteRefused (fld v 0 4) = false → s.chip.cc.heldTrig ≠ [] →
        Answers (.runWhite v) s (fun t => t.cal.run = .white (Fin.ofNat 16 (fld v 0 4)) 0 0 false ∧ t.cal.result = 0 ∧
          t.cal.runStart = s.chip.tb.stb ∧ t.cc = s.chip.cc))) ∧
    (s.chip.cal.run ≠ .none → fld v 8 2 = 1 ∨ fld v 8 2 = 2 →
      Answers (.runVref v) s (fun t => t.cal.run = s.chip.cal.run ∧ t.cal.result = 3 ∧ t.cc = s.chip.cc))) ∧
  (∀ (s : State) (v : Word), s.reaches 0 0x34 → tst v 10 = false → tst v 11 = true → tst v 12 = false →
    s.chip.cal.run ≠ .none →
    Answers (.cancel v) s (fun t => t.cal.run = .none ∧ t.cal.result = 2 ∧ tst (t.rd 0 0x14) 8 = true ∧
      tst (t.rd 0 0x14) 9 = true ∧ t.cc = s.chip.cc)) ∧
  (∀ (s : State) (x : Bool) (n : Nat) (sums : List Nat), s.chip.pw.core = true → s.chip.cal.run = .vref x n sums →
    (s.chip.cal.runStart.toNat + 10000000 ≤ s.chip.tb.stb.toNat →
      Answers .vrefRunTimeout s (fun t => t.cal = { s.chip.cal with run := .none, result := 2 } ∧
        tst (t.rd 0 0x14) 8 = true ∧ tst (t.rd 0 0x14) 9 = true ∧ WordsKept s.chip t [(0, 0x14)])) ∧
    (n = 3072 → (x = true ∨ ∃ i, i < 12 ∧ vrefOf sums i = none) →
      Answers (.vrefRunComplete ()) s (fun t => t.cal = { s.chip.cal with run := .none, result := 2 } ∧
        WordsKept s.chip t [(0, 0x14)])) ∧
    (n = 3072 → x = false → (∀ i, i < 12 → vrefOf sums i ≠ none) →
      Answers (.vrefRunComplete ()) s (fun t => t.cal = { s.chip.cal with run := .none, result := 1 } ∧
        tst (t.rd 0 0x14) 8 = true ∧ tst (t.rd spCal 0x60) 15 = true ∧
        (∀ c, s.chip.cal.temp0 = some c → t.rd spCal 0x60 = 0x8000 ||| (wd c &&& 0x0FFF)) ∧
        (∀ i o g, i < 12 → vrefOf sums i = some (o, g) →
          t.rd spHkc (0x200 + 2 * nth vrefChannels i) = wd (enc o 16) ∧
          t.rd spHkc (0x201 + 2 * nth vrefChannels i) = wd g.toNat)))) ∧
  (∀ (s : State) (k : Fin 16) (a b : Nat) (x : Bool), s.chip.pw.core = true → s.chip.cal.run = .white k a b x →
    (s.chip.cal.runStart.toNat + 1000000000 ≤ s.chip.tb.stb.toNat →
      Answers .whiteRunTimeout s (fun t => t.cal = { s.chip.cal with run := .none, result := 2 } ∧
        WordsKept s.chip t [(0, 0x14)])) ∧
    (a = b → b < 2 → s.chip.cc.heldTrig = [] → s.chip.arrayBusy = false →
      (s.chip.armCheck (s.chip.latchCtx k.val)).1 = 0 →
      Answers .whiteCaptureStart s (fun t => t.cal.run = .white k (a + 1) b x ∧ t.cal.tempAt = s.chip.cal.temp0 ∧ t.cc.cap.map (·.ctx) = some k ∧
        t.cc.cap.map (·.white) = some true ∧ t.cc.frameNum = s.chip.cc.frameNum + 1)) ∧
    (a = 2 → b = 2 → ∀ f g, s.chip.pipe.white = [f, g] →
      Completes (.whiteRunComplete () ()) s (s.chip.whiteEnd f g x) ∧
      (x = true → Answers (.whiteRunComplete () ()) s (fun t =>
        t.cal = { s.chip.cal with run := .none, result := 2 } ∧ WordsKept s.chip t [(0, 0x14)])) ∧
      (∀ j bf bg, j ∈ (ctxStrata f.words).filter (ctxLit f.words) →
        (bf, bg) ∈ (f.blocks s.chip.otpMap j).zip (g.blocks s.chip.otpMap j) →
        nodeOk (fld (s.chip.rd spCal 2) 0 12) bf bg = false →
        Answers (.whiteRunComplete () ()) s (fun t =>
          t.cal = { s.chip.cal with run := .none, result := 2 } ∧ WordsKept s.chip t [(0, 0x14)])) ∧
      (x = false → tst (s.chip.rd spCal 3) 15 = false →
        (∀ j ∈ (ctxStrata f.words).filter (ctxLit f.words),
          ∀ p ∈ (f.blocks s.chip.otpMap j).zip (g.blocks s.chip.otpMap j),
            nodeOk (fld (s.chip.rd spCal 2) 0 12) p.1 p.2 = true) →
        Answers (.whiteRunComplete () ()) s (fun t => t.cal.run = .none ∧ t.cal.result = 1 ∧
          t.cal.atBoundary.isSome = true ∧ tst (t.rd 0 0x14) 8 = true ∧ WordsKept s.chip t [(0, 0x14)]))))

/-- NVMCTL (R378 to R389): STAGE starts the staging copy; COMMIT without a valid image is refused with cause 4, else
starts with the erase of the next slot; LOAD takes the words of the slot in force for the next boundary; LFLUSH starts a flush,
which waits for a commit; RETCMD retires a slot with a fault record. The ends of the stores' operations (R378, R382,
R387, R393 to R395): the copy makes the image valid, a commit that completes raises NVM_DONE and one whose erase
fails its verification NVM_FAIL with cause 2; a flush takes the increments into the base and programs its page; an hour
counts in the ledger. -/
def Obligations.Stores : Prop :=
  ((∀ (s : State) (v : Word), s.reaches 0 0x36 →
     (tst v 14 = true → tst v 15 = false → tst v 12 = false → tst v 11 = false → s.chip.nvmBusy = false →
       Answers (.stage v) s (fun t => t.st = { s.chip.st with staging := true } ∧ AllWordsKept s.chip t)) ∧
     (tst v 15 = true → tst v 14 = false → tst v 12 = false → tst v 11 = false → s.chip.nvmBusy = false →
       s.chip.st.staging = false →
       (s.chip.st.stgValid = false →
         Answers (.commit v) s (fun t => t.st.cause = 4 ∧ t.st.commit = none ∧ tst (t.rd 0 0x14) 12 = true ∧
           WordsKept s.chip t [(0, 0x14)])) ∧
       (∀ n, s.chip.st.stgValid = true → s.chip.commitTarget = some n → s.chip.intervalLeft = 0 → s.chip.st.flush = none →
         Answers (.commit v) s (fun t => t.st.commit = some ⟨n, s.chip.nextSeq, s.chip.tb.aon, false,
             nth s.chip.st.ecnt n, 0, 0, s.chip.warn⟩ ∧ t.st.lastSlot = n ∧ t.slotState n = 0 ∧
           (∀ k, (k < key spNvm (0x100000 + 0x8000 * n) ∨ key spNvm (0x100000 + 0x8000 * n) + 0x8000 ≤ k) →
             Bank.get t.regs k = Bank.get s.chip.regs k)))) ∧
     (tst v 12 = true → tst v 15 = false → tst v 14 = false → tst v 11 = false →
       (s.chip.slotInForce = none → Answers (.load v) s (Unchanged s.chip)) ∧
       (∀ n, s.chip.slotInForce = some n →
         Answers (.load v) s (fun t => t.cal = { s.chip.cal with
             atBoundary := some (s.chip.cal.atBoundary.getD [] ++ s.chip.setWordsOf n) } ∧
           AllWordsKept s.chip t ∧ t.st = s.chip.st))) ∧
     (tst v 11 = true → tst v 15 = false → tst v 14 = false → tst v 12 = false →
       (s.chip.nvmBusy = true →
         Answers (.lflush v) s (fun t => t.st = { s.chip.st with
           flushDue := true, flushAgain := s.chip.st.flushDue && s.chip.st.flushAgain } ∧ AllWordsKept s.chip t)) ∧
       (∀ p, s.chip.nvmBusy = false → s.chip.st.flush = none → s.chip.nextPage = some p →
         Answers (.lflush v) s (fun t => t.st.flush = some (p, false) ∧ t.st.incr = s.chip.st.incr ∧
           t.st.base = s.chip.st.base ∧ AllWordsKept s.chip t)))) ∧
   (∀ (s : State) (v : Word), s.opens spNvm 2 → tst v 15 = true → s.chip.nvmBusy = false →
     (s.chip.slotRetired (fld v 0 5) = false → s.chip.moversOff →
       Answers (.retcmd v) s (fun t => t.slotRetired (fld v 0 5) = true ∧ t.rd spFault 0 = s.chip.rd spFault 0 + 1 ∧
         t.st = s.chip.st)) ∧
     (s.chip.slotRetired (fld v 0 5) = true → Answers (.retcmd v) s (Unchanged s.chip)))) ∧
  ((∀ s : State, s.chip.pw.core = true →
     (∀ c, s.chip.st.commit = some c →
       (c.pages = 128 → c.stop = false → Completes (.commitComplete none) s (s.chip.commitDone c).modeGo) ∧
       Completes (.commitComplete (some c.step)) s (s.chip.commitVerify c).modeGo) ∧
     (∀ p again f, s.chip.st.flush = some (p, again) →
       Completes (.ledgerFlushComplete f) s (if f then s.chip.flushFail p again else s.chip.flushDone p).modeGo)) ∧
   (∀ s : State, s.steady → s.chip.pw.core = true →
     (s.chip.st.staging = true → s.chip.st.boundaryHeld = false → s.chip.st.waiting = none →
       Answers .stageComplete s (fun t => t.st = { s.chip.st with staging := false, stgValid := true } ∧
         (∀ k, stagingKey k = false → Bank.get t.regs k = Bank.get s.chip.regs k) ∧ t.pw = s.chip.pw)) ∧
     (∀ c, s.chip.st.commit = some c → s.chip.st.flushDue = false → s.chip.st.waiting = none → s.chip.st.retryDue = false →
       (c.pages = 128 → c.stop = false → Answers (.commitComplete none) s (fun t => t.st.commit = none ∧
         tst (t.rd 0 0x14) 11 = true ∧ t.pw = s.chip.pw ∧ t.cc = s.chip.cc ∧
         WordsKept s.chip t [(0, 0x14), (spNvm, 0x100000 + 0x8000 * c.slot + 0x7FFE),
           (spNvm, 0x100000 + 0x8000 * c.slot + 0x7FFF)])) ∧
       (s.chip.moversOff → Answers (.commitComplete (some c.step)) s (fun t => t.st.commit = none ∧ t.st.cause = 2 ∧
         tst (t.rd 0 0x14) 12 = true ∧ t.pw = s.chip.pw ∧ t.cc = s.chip.cc))) ∧
     (∀ p again, s.chip.st.flush = some (p, again) → s.chip.st.waiting = none → s.chip.st.retryDue = false →
       s.chip.st.flushDue = false →
       Answers (.ledgerFlushComplete false) s (fun t => t.st.flush = none ∧ t.st.lpage = p ∧
         t.st.lseq = s.chip.st.lseq + 1 ∧ t.st.lastFlush = s.chip.tb.aon ∧ t.st.laon = s.chip.tb.aon ∧
         (p, pageBytes (s.chip.st.lseq + 1) ((List.range 8).map s.chip.total) s.chip.tb.aon) ∈ t.st.pages ∧
         t.st.base = (List.range 8).map (fun i => nth s.chip.st.base i + nth s.chip.st.incr i) ∧
         t.st.incr = List.replicate 8 0 ∧ AllWordsKept s.chip t ∧ t.pw = s.chip.pw))) ∧
   (∀ s : State,
     s.chip.st.lastFlush.toNat + 117964800 * fld (s.chip.rd spNvm 1) 0 8 ≤ s.chip.tb.aon.toNat → s.chip.st.flush = none →
     (s.chip.pw.core = false →
       Answers .ledgerFlushDue s (fun t => t.st = { s.chip.st with flushDue := true } ∧ AllWordsKept s.chip t)) ∧
     (∀ p, s.chip.pw.core = true → s.chip.nvmBusy = false → s.chip.nextPage = some p →
       Answers .ledgerFlushDue s (fun t => t.st.flush = some (p, false) ∧ t.st.flushDue = false ∧
         AllWordsKept s.chip t))) ∧
   (∀ s : State, 117964800 ≤ s.chip.st.hourTicks → s.chip.st.incr.length = 8 →
     nth s.chip.st.base 7 + nth s.chip.st.incr 7 < 0xFFFFFFFFFFFF →
     Answers .ledgerHourTick s (fun t => t.st.hourTicks = s.chip.st.hourTicks - 117964800 ∧
       nth t.st.incr 7 = nth s.chip.st.incr 7 + 1 ∧ AllWordsKept s.chip t)))

/-- The OTP (R401 to R408): PROG, KEYPROG, GLOCK and a KEYLOCK write start their operation, more than one command bit and
a command during an operation are discarded, PROG of a locked word and KEYPROG of a locked slot are refused whole and
recorded; the operation then only
sets bits. -/
def Obligations.OneTimeProgramming : Prop :=
  (∀ (s : State) (v : Word), s.reaches 0 0x3E →
    (1 < b2n (tst v 15) + b2n (tst v 14) + b2n (tst v 13) →
      Answers (.prog v) s (Unchanged s.chip) ∧ Answers (.keyprog v) s (Unchanged s.chip) ∧
      Answers (.glock v) s (Unchanged s.chip)) ∧
    (s.chip.st.otp = none → tst v 15 = true → tst v 14 = false → tst v 13 = false →
      (s.chip.otpLocked (fld (s.chip.rd spOtp 0x1000) 0 12) = false → s.chip.warn = false →
        Answers (.prog v) s (fun t => t.st = { s.chip.st with
            otp := some (.prog (fld (s.chip.rd spOtp 0x1000) 0 12) (s.chip.rd spOtp 0x1001) false) } ∧
          WordsKept s.chip t [(0, 0x3E)])) ∧
      (s.chip.otpLocked (fld (s.chip.rd spOtp 0x1000) 0 12) = true → s.chip.moversOff →
        Answers (.prog v) s (fun t => t.st = s.chip.st ∧ tst (t.rd 0 0x14) 13 = true ∧ t.rd 0 0x3E = s.chip.rd 0 0x3E ∧
          t.rd spFault 0 = s.chip.rd spFault 0 + 1))) ∧
    (s.chip.st.otp = none → tst v 15 = false → tst v 14 = true → tst v 13 = false → s.chip.moversOff →
      tst (s.chip.rd spOtp 0xC10) (fld v 4 1) = true ∨ tst (s.chip.rd spOtp 0xC11) (fld v 4 1) = true →
      Answers (.keyprog v) s (fun t => t.st = s.chip.st ∧ tst (t.rd 0 0x14) 13 = true ∧ t.rd 0 0x3E = s.chip.rd 0 0x3E ∧
        t.rd spFault 0 = s.chip.rd spFault 0 + 1)) ∧
    (s.chip.st.otp = none → tst v 15 = false → tst v 14 = true → tst v 13 = false →
      tst (s.chip.rd spOtp 0xC10) (fld v 4 1) = false → tst (s.chip.rd spOtp 0xC11) (fld v 4 1) = false →
      Answers (.keyprog v) s (fun t => t.st = { s.chip.st with
          otp := some (.key (fld v 4 1) ((List.range 8).map (fun i => s.chip.rd spOtp (0x1008 + i)))) } ∧
        (∀ i, i < 8 → t.rd spOtp (0x1008 + i) = 0))) ∧
    (s.chip.st.otp = none → tst v 15 = false → tst v 14 = false → tst v 13 = true →
      Answers (.glock v) s (fun t => t.st = { s.chip.st with otp := some (.glock (fld v 0 2)) } ∧
        WordsKept s.chip t [(0, 0x3E)]))) ∧
  (∀ (s : State) (v : Word), s.reaches 0 0x3F → s.chip.st.otp = none →
    (v &&& 0x0003 &&& ~~~s.chip.rd spOtp 0xC11 ≠ 0 →
      Answers (.keylockWrite v) s (fun t => t.st = { s.chip.st with
          otp := some (.keylock (v &&& 0x0003 &&& ~~~s.chip.rd spOtp 0xC11)) } ∧ AllWordsKept s.chip t)) ∧
    (v &&& 0x0003 &&& ~~~s.chip.rd spOtp 0xC11 = 0 → Answers (.keylockWrite v) s (Unchanged s.chip))) ∧
  (∀ s : State, s.chip.pw.core = true →
    (∀ o, s.chip.st.otp = some o → Completes .otpOpComplete s (s.chip.otpDone o)) ∧
    (∀ w v, s.chip.st.otp = some (.prog w v false) →
      Answers .otpOpComplete s (fun t => t.rd spOtp w = s.chip.rd spOtp w ||| v ∧ t.st = { s.chip.st with otp := none } ∧
        WordsKept s.chip t [(spOtp, w)])) ∧
    (∀ g, s.chip.st.otp = some (.glock g) →
      Answers .otpOpComplete s (fun t => t.rd spOtp 0xC12 = s.chip.rd spOtp 0xC12 ||| bitW g ∧
        t.st = { s.chip.st with otp := none } ∧ WordsKept s.chip t [(spOtp, 0xC12)])) ∧
    (∀ b, s.chip.st.otp = some (.keylock b) →
      Answers .otpOpComplete s (fun t => t.rd spOtp 0xC11 = s.chip.rd spOtp 0xC11 ||| b ∧
        t.st = { s.chip.st with otp := none } ∧ WordsKept s.chip t [(spOtp, 0xC11)])))

/-- An input frame (R290 to R293, R296 to R301): where one opens, it joins the input of the decimator, an output sample
joins the block, and a full block takes its sequence number and goes to the port's stream. Frame sync (R303, R304, R311): an input port that
loses its clocks loses LOCK, counts and flags it; with sync it starts afresh; a WP1 on WP0's clocks loses and regains it
with WP0; WP2 stops. -/
def Obligations.WaveInput : Prop :=
  (∀ (s : State) (p : Fin 2) (slots : List (BitVec 32)), s.chip.pw.core = true → (s.chip.port p.val).act = true →
     (s.chip.port p.val).shut = false → s.chip.frameOpens p.val = true →
     Completes (.wpInputFrame p slots) s ((s.chip.frameTaken p.val).inputFrame p.val slots)) ∧
  (∀ (s : State) (p : Fin 2) (slots : List (BitVec 32)) (w : WavePort), s.chip.shaped → s.chip.pw.core = true →
     w = s.chip.port p.val → w.act = true → w.shut = false → w.closing = false → s.chip.frameOpens p.val = true →
     (w.phase + 1 < w.ratio →
       Answers (.wpInputFrame p slots) s (fun t => (t.port p.val).phase = w.phase + 1 ∧
         (t.port p.val).inputs = w.inputs + 1 ∧ (t.port p.val).lastFs = s.chip.tb.stb ∧ (t.port p.val).block = w.block ∧
         AllWordsKept s.chip t ∧ t.streams = s.chip.streams)) ∧
     (w.ratio ≤ w.phase + 1 → w.block.length + 1 < w.blklen.toNat →
       Answers (.wpInputFrame p slots) s (fun t => (t.port p.val).phase = 0 ∧
         (t.port p.val).block.length = w.block.length + 1 ∧ (w.block = [] → (t.port p.val).stamp = s.chip.tb.stb) ∧
         (t.port p.val).settle = w.settle - 1 ∧ AllWordsKept s.chip t ∧ t.streams = s.chip.streams)) ∧
     (w.ratio ≤ w.phase + 1 → w.blklen.toNat ≤ w.block.length + 1 → s.chip.blockWaits p.val = false →
       Answers (.wpInputFrame p slots) s (fun t => (t.port p.val).block = [] ∧ (t.port p.val).inputs = 0 ∧
         t.rd32 spWave (waveOff p.val 8) = (s.chip.rd32 spWave (waveOff p.val 8) + 1) % 0x100000000))) ∧
  ((∀ (s : State) (p : Fin 2) (x : Bool) (w : WavePort), s.chip.shaped → s.chip.pw.core = true → w = s.chip.port p.val →
     w.act = true → s.chip.follows = false →
     (w.lock = true → w.master p.val = false → w.block = [] →
       Answers (.wpSyncLoss (p.castLE (by omega)) x) s (fun t => (t.port p.val).lock = false ∧ (t.port p.val).act = true ∧
         t.rd spWave (waveOff p.val 0xB) = satAdd (s.chip.rd spWave (waveOff p.val 0xB)) 1 ∧
         t.rd spWave (waveOff p.val 6) = s.chip.rd spWave (waveOff p.val 6) ||| (if x then 0x0002 else 0x0001) ∧
         tst (t.rd 0 0x13) 15 = true ∧
         WordsKept s.chip t [(spWave, waveOff p.val 0xB), (spWave, waveOff p.val 6), (0, 0x13)])) ∧
     (w.lock = false →
       Answers (.wpSyncRegained (p.castLE (by omega))) s (fun t => (t.port p.val).lock = true ∧ (t.port p.val).block = [] ∧
         (t.port p.val).hist = List.replicate 8 [] ∧ (t.port p.val).resync = true ∧
         (t.port p.val).dec = s.chip.wreg p.val 4 ∧ (t.port p.val).settle = settleOf (t.port p.val).ratio ∧
         AllWordsKept s.chip t))) ∧
   (∀ (s : State) (p : Fin 3), s.chip.pw.core = true → (s.chip.port p.val).act = true → (s.chip.port p.val).lock = false →
     (p.val = 1 → s.chip.follows = false) →
     Completes (.wpSyncRegained p) s
       (if p.val = 0 then (s.chip.syncGain p.val).syncWith else s.chip.syncGain p.val)) ∧
   (∀ (s : State) (x : Bool), s.chip.shaped → s.chip.pw.core = true → s.chip.follows = true →
     (s.chip.port 0).master 0 = false →
     ((s.chip.port 0).lock = true → (s.chip.port 0).block = [] → (s.chip.port 1).block = [] →
       Answers (.wpSyncLoss 0 x) s (fun t => (t.port 0).lock = false ∧ (t.port 1).lock = false ∧
         ((s.chip.port 1).lock = true →
           t.rd spWave (waveOff 1 0xB) = satAdd (s.chip.rd spWave (waveOff 1 0xB)) 1))) ∧
     ((s.chip.port 0).lock = false → (s.chip.port 1).lock = false →
       Answers (.wpSyncRegained 0) s (fun t => (t.port 0).lock = true ∧ (t.port 1).lock = true)) ∧
     Answers (.wpSyncLoss 1 x) s (Unchanged s.chip)) ∧
   (∀ (s : State) (x : Bool), s.chip.shaped → s.chip.pw.core = true → (s.chip.port 2).act = true →
     (s.chip.port 2).master 2 = false →
     Answers (.wpSyncLoss 2 x) s (fun t => t.wave.playing = false ∧ t.wave.armed = false ∧ t.wave.out = [] ∧
       (t.port 2).lock = false ∧ (t.port 2).act = true ∧ (∀ p, p < 2 → t.port p = s.chip.port p) ∧ tst (t.rd spWave (waveOff 2 6)) 1 = true ∧ tst (t.rd 0 0x13) 15 = true)))

/-- WPCTL (R288, R295, R305, R306, R308, R312): EN starts a port with a valid configuration, is taken back with CFG set
for an invalid one, and its clearing lets the port finish its block; RESYNC starts the port's input afresh; P2PLAY
arms a playback that fits the memory, a P2PLAY whose extent does not sets CFG, P2STOP stops or disarms it, MUTEALL mutes every channel; a shut-down ends with
ACT 0. WP2 at work (R305 to R310): playback starts with its tick recorded, sends frame after frame and stops when
asked; without playback zeros go out; gain and mute changes wait for a zero crossing or their time-out. -/
def Obligations.WaveControl : Prop :=
  ((∀ (s : State) (v : Word), s.reaches 0 0x3C → s.chip.shaped →
     (∀ p : Fin 3, tst v 4 = false → tst v 5 = false → tst v 9 = false → tst v 10 = false → tst v 15 = false →
       (tst v p.val = true → tst (s.chip.rd 0 0x3C) p.val = false → (s.chip.port p.val).act = false →
         (s.chip.portValid p.val = true →
           Answers (.wpEnWrite v) s (fun t => (t.port p.val).act = true ∧ (t.port p.val).fmt = s.chip.wreg p.val 0 ∧
             (t.port p.val).block = [] ∧ tst (t.rd 0 0x3C) p.val = true)) ∧
         (s.chip.portValid p.val = false →
           Answers (.wpEnWrite v) s (fun t => (t.port p.val).act = false ∧ tst (t.rd 0 0x3C) p.val = false ∧
             tst (t.rd spWave (waveOff p.val 6)) 3 = true))) ∧
       (tst v p.val = false → tst (s.chip.rd 0 0x3C) p.val = true → (s.chip.port p.val).act = true →
         Answers (.wpEnWrite v) s (fun t => (t.port p.val).act = true ∧ (t.port p.val).closing = true ∧
           (t.port p.val).block = (s.chip.port p.val).block ∧ tst (t.rd 0 0x3C) p.val = false))) ∧
     (∀ p : Fin 2, tst v (4 + p.val) = true → tst v p.val = tst (s.chip.rd 0 0x3C) p.val → (s.chip.port p.val).act = true →
       (s.chip.port p.val).lock = true →
       Answers (.resync v) s (fun t => (t.port p.val).block = [] ∧ (t.port p.val).hist = List.replicate 8 [] ∧
         (t.port p.val).resync = true ∧ (t.port p.val).lock = true ∧ (t.port p.val).act = true)) ∧
     (tst v 2 = tst (s.chip.rd 0 0x3C) 2 → (s.chip.port 2).act = true → tst v 15 = false →
       (tst v 9 = true → tst v 10 = false → s.chip.wave.playing = false →
         (s.chip.rd spWave 0xA2 ≠ 0 →
           (s.chip.rd spWave 0xA1).toNat + (s.chip.rd spWave 0xA2).toNat * s.chip.wp2Slots.length ≤ 16384 →
           Answers (.p2play v) s (fun t => t.wave.armed = true ∧ t.wave.playing = false)) ∧
         (s.chip.rd spWave 0xA2 = 0 →
           Answers (.p2play v) s (fun t => t.wave.armed = s.chip.wave.armed ∧
             tst (t.rd spWave (waveOff 2 6)) 3 = true))) ∧
       (tst v 10 = true → tst v 9 = false →
         Answers (.p2stop v) s (fun t => t.wave.playing = s.chip.wave.playing ∧
           (s.chip.wave.playing = true → t.wave.stopAsked = true) ∧
           (s.chip.wave.playing = false → t.wave.armed = false)))) ∧
     (tst v 9 = true → s.chip.rd spWave 0xA2 = 0 →
       Answers (.p2play v) s (fun t => tst (t.rd spWave (waveOff 2 6)) 3 = true)) ∧
     (tst v 15 = true →
       Answers (.muteall v) s (fun t => t.rd spWave 0xB8 &&& 0x00FF = 0x00FF ∧
         ∀ c, c < 8 → (t.wpChan c).newMute.getD (t.wpChan c).muted = true))) ∧
   (∀ (s : State) (p : Fin 3), s.chip.shaped → s.chip.pw.core = true → s.chip.portIdle p.val = true →
     Completes (.wpShutdownDone p) s (s.chip.stopPort p.val) ∧
     ((s.chip.port p.val).pend = false → (p.val = 0 → s.chip.follows = false) →
       Answers (.wpShutdownDone p) s (fun t => (t.port p.val).act = false ∧ (t.port p.val).block = [] ∧
         AllWordsKept s.chip t)) ∧
     ((s.chip.port p.val).pend = true →
       Answers (.wpShutdownDone p) s (fun t => (t.port p.val).act = true ∧ (t.port p.val).pend = false ∧
         AllWordsKept s.chip t)))) ∧
  ((∀ s : State, s.chip.pw.core = true → (s.chip.port 2).act = true → s.chip.frameOpens 2 = true →
     Completes .wp2OutputFrame s (s.chip.frameTaken 2).wp2Frame ∧
     (s.chip.wave.armed = true → (tst (s.chip.rd spWave 0xA0) 15 = false ∨ s.chip.pstart ≤ s.chip.tb.stb.toNat) →
       Answers .wp2PlayStart s (fun t =>
         t.wave = { s.chip.wave with armed := false, playing := true, frame := 0, loops := 0 } ∧
         t.rd64 spWave 0xA8 = s.chip.tb.stb.toNat ∧
         WordsKept s.chip t [(spWave, 0xA8), (spWave, 0xA9), (spWave, 0xAA), (spWave, 0xAB)])) ∧
     (s.chip.wave.playing = false →
       Answers .wp2OutputFrame s (fun t => t.wave.out = List.replicate (slotsOf (s.chip.port 2).fmt) 0 ∧
         t.wave.playing = false ∧ AllWordsKept s.chip t)) ∧
     (s.chip.wave.playing = true → s.chip.wave.stopAsked = true →
       Answers .wp2OutputFrame s (fun t => t.wave.playing = false ∧ tst (t.rd 0 0x3D) 7 = true)) ∧
     (s.chip.wave.playing = true → s.chip.wave.stopAsked = false → (s.chip.port 2).closing = false →
       s.chip.wave.frame + 1 < (s.chip.rd spWave 0xA2).toNat →
       Answers .wp2OutputFrame s (fun t => t.wave.playing = true ∧ t.wave.frame = s.chip.wave.frame + 1 ∧
         t.wave.loops = s.chip.wave.loops))) ∧
   (∀ (s : State) (v : Word), s.opens spWave 0 → s.chip.shaped →
     (∀ c : Fin 8,
       ((s.chip.wpChan c.val).muted = false → (s.chip.wpChan c.val).ramping = false →
         (s.chip.wpChan c.val).newMute = none →
         Answers (.wp2GainWrite c v) s (fun t => (t.wpChan c.val).newGain = some v ∧
           (t.wpChan c.val).gain = (s.chip.wpChan c.val).gain ∧ (t.wpChan c.val).gainSince = s.chip.tb.stb ∧
           WordsKept s.chip t [(spWave, 0xB0 + c.val)])) ∧
       ((s.chip.wpChan c.val).muted = true →
         Answers (.wp2GainWrite c v) s (fun t => (t.wpChan c.val).nextGain = some v ∧
           (t.wpChan c.val).gain = (s.chip.wpChan c.val).gain ∧ WordsKept s.chip t [(spWave, 0xB0 + c.val)]))) ∧
     Answers (.wp2MuteWrite v) s (fun t => (∀ c, c < 8 → (t.wpChan c).newMute.getD (t.wpChan c).muted = tst v c) ∧
       WordsKept s.chip t [(spWave, 0xB8)])) ∧
   (∀ (s : State) (c : Fin 8) (x : WpChan), s.chip.shaped → s.chip.pw.core = true → (s.chip.port 2).act = true →
     x = s.chip.wpChan c.val →
     (∀ g, x.newGain = some g → s.chip.zcOut true x.gainSince = true →
       (x.newMute = none ∨ s.chip.zcOut true x.muteSince = false) →
       Answers (.wp2ZeroCrossTimeout c) s (fun t => (t.wpChan c.val).newGain = none ∧ (t.wpChan c.val).gain = g ∧
         (t.wpChan c.val).newMute = x.newMute ∧ (t.wpChan c.val).muted = x.muted ∧
         t.rd spWave 0xB9 = satAdd (s.chip.rd spWave 0xB9) 1 ∧ WordsKept s.chip t [(spWave, 0xB9)])) ∧
     (∀ b, x.newMute = some b → s.chip.zcOut true x.muteSince = true →
       (x.newGain = none ∨ s.chip.zcOut true x.gainSince = false) →
       Answers (.wp2ZeroCrossTimeout c) s (fun t => (t.wpChan c.val).newMute = none ∧ (t.wpChan c.val).muted = b ∧
         (t.wpChan c.val).newGain = x.newGain ∧
         t.rd spWave 0xB9 = satAdd (s.chip.rd spWave 0xB9) 1 ∧ WordsKept s.chip t [(spWave, 0xB9)])) ∧
     (∀ g b, x.newGain = some g → x.newMute = some b → s.chip.zcOut true x.gainSince = true →
       s.chip.zcOut true x.muteSince = true →
       Answers (.wp2ZeroCrossTimeout c) s (fun t => (t.wpChan c.val).newGain = none ∧ (t.wpChan c.val).newMute = none ∧
         (t.wpChan c.val).muted = b ∧ t.rd spWave 0xB9 = satAdd (s.chip.rd spWave 0xB9) 2))))

/-- A camera frame opens at its frame start and closes at its frame end; a frame start in an open frame closes that one
SHORT first; a long packet goes to the open frame of its virtual channel; a frame end or a line with no frame open, and an
unsupported packet, only count (R452, R453). -/
def Obligations.CameraFrames : Prop :=
  (∀ (s : State) (p : Fin 2) (vc : Fin 16), s.chip.shaped → s.chip.pw.pipe = true → s.chip.pw.core = true →
    (∀ fn, s.chip.camAccepts p.val = true → s.chip.camFrame p.val vc.val = none → s.chip.pipe.act ≠ p.val + 1 →
      Answers (.csiFrameStart p vc fn) s (fun t => (t.camFrame p.val vc.val).map (·.csiFn) = some fn ∧
        (t.camFrame p.val vc.val).map (·.stamp) = some s.chip.tb.stb ∧
        (t.camFrame p.val vc.val).map (·.route) = some none ∧ (∀ q, q ≠ p.val → t.cam q = s.chip.cam q) ∧
        AllWordsKept s.chip t ∧ t.streams = s.chip.streams)) ∧
    (∀ fn f, s.chip.camAccepts p.val = true → s.chip.camFrame p.val vc.val = some f →
      Completes (.csiFrameStart p vc fn) s
        (((s.chip.closeCam p.val f flShort).csiError p.val 4 (some 3)).openCam p.val vc.val fn)) ∧
    ((s.chip.cam p.val).act = true →
      (∀ f, s.chip.camFrame p.val vc.val = some f →
        (∀ dt payload ok, imageType dt = true ∨ dt = 0x12 →
          Completes (.csiLongPacket p vc dt payload ok) s
            (s.chip.camPacket p.val f dt (csiValues dt payload) payload ok)) ∧
        Answers (.csiFrameEnd p vc) s (fun t => t.camFrame p.val vc.val = none)) ∧
      (s.chip.camFrame p.val vc.val = none →
        Answers (.csiFrameEnd p vc) s (fun t =>
          t.rd spCsi (portOff p.val 9) = satAdd (s.chip.rd spCsi (portOff p.val 9)) 1 ∧
          tst (t.rd spCsi (portOff p.val 4)) 4 = true ∧ t.cams = s.chip.cams ∧
          WordsKept s.chip t [(spCsi, portOff p.val 9), (spCsi, portOff p.val 4), (0, 0x14)]) ∧
        (∀ dt payload ok, imageType dt = true →
          Answers (.csiLongPacket p vc dt payload ok) s (fun t =>
            t.rd spCsi (portOff p.val 9) = satAdd (s.chip.rd spCsi (portOff p.val 9)) 1 ∧ t.cams = s.chip.cams))) ∧
      (∀ dt payload ok, imageType dt = false → dt ≠ 0x12 →
        Answers (.csiLongPacket p vc dt payload ok) s (fun t =>
          t.rd spCsi (portOff p.val 10) = satAdd (s.chip.rd spCsi (portOff p.val 10)) 1 ∧
          OnlyThese s.chip t [(spCsi, portOff p.val 10)])) ∧
      Answers (.csiPacketError p .sot) s (fun t =>
        t.rd spCsi (portOff p.val 5) = satAdd (s.chip.rd spCsi (portOff p.val 5)) 1 ∧
        tst (t.rd spCsi (portOff p.val 4)) 0 = true ∧ t.cams = s.chip.cams) ∧
      Answers (.csiPacketError p .eccCorrected) s (fun t =>
        t.rd spCsi (portOff p.val 6) = satAdd (s.chip.rd spCsi (portOff p.val 6)) 1 ∧
        OnlyThese s.chip t [(spCsi, portOff p.val 6)]) ∧
      Answers (.csiPacketError p .unsupported) s (fun t =>
        t.rd spCsi (portOff p.val 10) = satAdd (s.chip.rd spCsi (portOff p.val 10)) 1 ∧
        OnlyThese s.chip t [(spCsi, portOff p.val 10)]) ∧
      Answers (.csiPacketError p .eccDouble) s (fun t =>
        t.rd spCsi (portOff p.val 7) = satAdd (s.chip.rd spCsi (portOff p.val 7)) 1 ∧
        tst (t.rd spCsi (portOff p.val 4)) 1 = true ∧ t.cams = s.chip.cams))) ∧
  (∀ (s : State) (p : Fin 2) (vc : Fin 16) (dt r : Nat) (payload : List Byte) (f : CamFrame) (vals : List Nat),
    s.chip.shaped → s.chip.pw.pipe = true → (s.chip.cam p.val).act = true → s.chip.camFrame p.val vc.val = some f →
    f.route = some (some r) → imageType dt = true → f.passes dt = false → vals = csiValues dt payload →
    f.len = some vals.length → s.chip.camInline p.val f r = true → s.chip.pipe.inline.length < 8 →
    s.chip.pipe.frames.any (fun g => g.is (p.val + 1) r f.fn) = true →
    s.chip.pipe.frames.any (fun g => g.is (p.val + 1) r f.fn && g.lost) = false →
    Answers (.csiLongPacket p vc dt payload true) s (fun t => t.pipe = { s.chip.pipe with inline := s.chip.pipe.inline ++
        [{ src := p.val + 1, id := r, fn := f.fn, plane := 0, row := f.lines, stamp := s.chip.tb.stb, vals := vals,
           left := vals.length, bl := [], store := none }] } ∧
      (t.camFrame p.val vc.val).map (·.lines) = some (f.lines + 1) ∧ AllWordsKept s.chip t))

/-- PCAM (R455 to R457): a vertical sync opens the frame of the port, its lines count, the next sync and a lost clock
close it, a cut line and a lost clock with FRMERR and PCAM_ERR. The enable of a camera port (R451, R463): it starts
with its configuration, unless its lanes name one twice; a cleared EN lets it finish; a shut-down with no frame open
ends with ACT 0. -/
def Obligations.CameraPorts : Prop :=
  (∀ s : State, s.chip.shaped → s.chip.pcamOn = true → s.chip.pw.core = true →
     (s.chip.camAccepts 2 = true → (s.chip.cam 2).frames = [] → s.chip.pipe.act ≠ 3 →
       Answers .pcamVsyncOpen s (fun t => (t.camFrame 2 0).map (·.stamp) = some s.chip.tb.stb ∧ AllWordsKept s.chip t ∧
         t.streams = s.chip.streams)) ∧
     (∀ f, s.chip.camFrame 2 0 = some f →
       (∀ vals, f.route = some none → Answers (.pcamLine vals) s (Unchanged s.chip)) ∧
       (∀ vals, Completes (.pcamLine vals) s (s.chip.camPacket 2 f s.chip.pcamType
         (vals.map (fun v => v.toNat % 2 ^ csiBits s.chip.pcamType))
         ((vals.map (fun v => v.toNat % 2 ^ csiBits s.chip.pcamType)).map (BitVec.ofNat 8 ·)) true)) ∧
       (∀ vals r, f.route = some (some r) →
         Answers (.pcamLine vals) s (fun t => (t.camFrame 2 0).map (·.lines) = some (f.lines + 1))) ∧
       (∀ x, Answers (.pcamVsyncClose x) s (fun t => t.camFrame 2 0 = none ∧
         (f.route = none → x = true → t.rd spCsi (portOff 2 9) = satAdd (s.chip.rd spCsi (portOff 2 9)) 1 ∧
           tst (t.rd 0 0x14) 4 = true) ∧
         (f.route = none → x = false → AllWordsKept s.chip t))) ∧
       Answers .pcamPclkTimeout s (fun t => t.camFrame 2 0 = none ∧
         (f.route = none → t.rd spCsi (portOff 2 9) = satAdd (s.chip.rd spCsi (portOff 2 9)) 1 ∧
           tst (t.rd 0 0x14) 4 = true ∧ WordsKept s.chip t [(spCsi, portOff 2 9), (0, 0x14)])))) ∧
  ((∀ (s : State) (p : Fin 3) (v : Word), s.opens spCsi 0 → s.chip.shaped →
     ((s.chip.cam p.val).act = false → tst v 15 = true →
       ((p.val < 2 → (s.chip.plainWrite spCsi (portOff p.val 0) v).laneTwice p.val = false) →
         Answers (.cameraPortEnWrite p v) s (fun t => (t.cam p.val).act = true ∧ (t.cam p.val).pend = false ∧
           (∀ i, i < 3 → t.rdHeld spCsi (portOff p.val i) = t.rd spCsi (portOff p.val i)) ∧
           (∀ q, q ≠ p.val → t.cam q = s.chip.cam q) ∧ WordsKept s.chip t [(spCsi, portOff p.val 0)])) ∧
       (p.val < 2 → (s.chip.plainWrite spCsi (portOff p.val 0) v).laneTwice p.val = true →
         Answers (.cameraPortEnWrite p v) s (fun t => (t.cam p.val).act = false ∧
           tst (t.rd spCsi (portOff p.val 4)) 15 = true ∧
           WordsKept s.chip t [(spCsi, portOff p.val 0), (spCsi, portOff p.val 4)]))) ∧
     ((s.chip.cam p.val).act = true → s.chip.camEn p.val = true → tst v 15 = false →
       (s.chip.cam p.val).pend = false →
       Answers (.cameraPortEnWrite p v) s (fun t => (t.cam p.val).act = true ∧ (t.cam p.val).stopAt = s.chip.tb.stb ∧
         (t.cam p.val).frames = (s.chip.cam p.val).frames ∧ WordsKept s.chip t [(spCsi, portOff p.val 0)]))) ∧
   (∀ (s : State) (p : Fin 3), s.chip.shaped → s.chip.pw.pipe = true → s.chip.camIdle p.val = true →
     Completes (.cameraPortShutdownDone p) s (s.chip.stopCam p.val) ∧
     ((s.chip.cam p.val).frames = [] → (s.chip.cam p.val).pend = false →
     Answers (.cameraPortShutdownDone p) s (fun t => (t.cam p.val).act = false ∧
       (∀ q, q ≠ p.val → t.cam q = s.chip.cam q) ∧ AllWordsKept s.chip t))))

/-- The pool (R465, R468, R469, R473): the oldest held request of a stream is granted where its record fits the open
buffer and stays where there is no room; one that has waited HOLDLIM of the PIPE clocks is dropped and counted; STREAMEN starts the
streams and ends those that hold nothing. The packet mover (R475 to R478): a request of an idle HKC channel takes the
queue's entries, at most MAXENT, into one record of its stream; one request waits while a copy is busy and further
ones are counted; a copy ends when its packets have gone. -/
def Obligations.PoolAndMover : Prop :=
  ((∀ (s : State) (j : Fin 8) (h : Rec × Tick × Bool × Bool) (rest : List (Rec × Tick × Bool × Bool)), s.chip.shaped →
     s.chip.pw.pipe = true → s.chip.pw.core = true → (s.chip.stream j.val).held = h :: rest →
     (h.2.2.2 = false → Completes (.poolHoldGrant j) s (s.chip.grantHead j.val)) ∧
     (h.2.2.2 = false → h.1.chan = none →
       (∀ b, (s.chip.stream j.val).bufs.getLast? = some b → b.weight = 1 → b.used + h.1.bytes ≤ 16384 → h.1.dt ≠ 0 →
         h.1.dt ≠ 2 → h.1.src ≠ 5 → h.1.src ≠ 6 →
         Answers (.poolHoldGrant j) s (fun t => (t.stream j.val).held = rest ∧
           (t.stream j.val).recs = (s.chip.stream j.val).recs ++ [{ h.1 with buf := b.num }] ∧ AllWordsKept s.chip t ∧
           (∀ i, i ≠ j.val → t.stream i = s.chip.stream i))) ∧
       ((s.chip.mapStream j.val (fun t => { t with held := rest })).place j.val h.1.bytes = none →
         Answers (.poolHoldGrant j) s (fun t => t.streams = s.chip.streams ∧
           t.rd 0 0x3A = s.chip.rd 0 0x3A ||| 0x4000 ∧ tst (t.rd 0 0x14) 1 = true ∧
           WordsKept s.chip t [(0, 0x3A), (0, 0x14)]))) ∧
     (h.2.2.1 = false → h.2.2.2 = false →
       100 * (s.chip.rd spPool (streamOff j.val 3)).toNat ≤ h.2.1.toNat →
       Answers (.holdlimExpiry j) s (fun t => (t.stream j.val).held = rest ∧
         (t.stream j.val).recs = (s.chip.stream j.val).recs ∧
         t.rd spPool (streamOff j.val 7) = satAdd (s.chip.rd spPool (streamOff j.val 7)) 1 ∧
         t.rd 0 0x3A = s.chip.rd 0 0x3A ||| 0x2000 ∧ tst (t.rd 0 0x14) 2 = true))) ∧
   (∀ (s : State) (v : Word), s.reaches 0 0x3B → s.chip.shaped →
     Answers (.streamEnWrite v) s (fun t => WordsKept s.chip t [(0, 0x3B)] ∧
       ∀ j, j < 8 →
         ((s.chip.stream j).act = false → (t.stream j).act = tst v j) ∧
         ((s.chip.stream j).act = true → tst (s.chip.rd 0 0x3B) j = true → tst v j = false → (s.chip.stream j).used = 0 →
           (s.chip.stream j).held = [] → (s.chip.stream j).frames = [] → (t.stream j).act = false) ∧
         ((s.chip.stream j).act = true → tst v j = false → (s.chip.stream j).recs = (t.stream j).recs) ∧
         ((s.chip.stream j).act = true → (s.chip.stream j).held ≠ [] → (t.stream j).act = true)))) ∧
  (∀ (s : State) (c : Fin 4), Completes (.moverRequest c) s (s.chip.moverRequest c.val) ∧
    ((s.chip.mover c.val).busy = true → s.chip.moverOwes c.val = false →
      Completes (.moverCopyComplete c) s (s.chip.moverDone c.val))) ∧
  (∀ (s : State) (c : Fin 4) (cfg : Word), s.chip.shaped → cfg = s.chip.rd spPool (moverOff c.val 0) → tst cfg 15 = true →
     (s.chip.mover c.val).pend = false →
     ((s.chip.mover c.val).act = true → s.chip.pw.pipe = true →
       ((s.chip.mover c.val).busy = true → (s.chip.mover c.val).heldReq = false →
         Answers (.moverRequest c) s (fun t => (t.mover c.val).heldReq = true ∧ (t.mover c.val).busy = true ∧
           AllWordsKept s.chip t ∧ t.streams = s.chip.streams)) ∧
       ((s.chip.mover c.val).busy = true → (s.chip.mover c.val).heldReq = true →
         Answers (.moverRequest c) s (fun t =>
           t.rd spPool (moverOff c.val 3) = satAdd (s.chip.rd spPool (moverOff c.val 3)) 1 ∧
           OnlyThese s.chip t [(spPool, moverOff c.val 3)])) ∧
       (∀ b, (s.chip.mover c.val).busy = false → fld cfg 12 2 = 0 → fld cfg 0 7 ≠ 0 → s.chip.hkc.queue ≠ [] →
         (s.chip.stream (fld cfg 8 3)).act = true → (s.chip.stream (fld cfg 8 3)).pend = false →
         s.chip.streamEn (fld cfg 8 3) = true → (s.chip.stream (fld cfg 8 3)).held = [] →
         (s.chip.stream (fld cfg 8 3)).frames = [] →
         (s.chip.stream (fld cfg 8 3)).bufs.getLast? = some b → b.weight = 1 →
         b.used + 12 * min (fld cfg 0 7) s.chip.hkc.queue.length + 64 ≤ 16384 →
         Answers (.moverRequest c) s (fun t =>
           t.hkc = { s.chip.hkc with queue := s.chip.hkc.queue.drop (min (fld cfg 0 7) s.chip.hkc.queue.length) } ∧
           (t.mover c.val).busy = true ∧
           (t.stream (fld cfg 8 3)).recs.length = (s.chip.stream (fld cfg 8 3)).recs.length + 1 ∧ AllWordsKept s.chip t))) ∧
     ((s.chip.mover c.val).busy = true → s.chip.moverOwes c.val = false → s.chip.pipe.waiting = none →
       (s.chip.mover c.val).heldReq = false →
       Answers (.moverCopyComplete c) s (fun t => (t.mover c.val).busy = false ∧
         (t.mover c.val).act = (s.chip.mover c.val).act ∧ AllWordsKept s.chip t ∧ t.streams = s.chip.streams)))

/-- LINKCTL (R480, R496, R497, R500, R502, R510, R511, R513, R514): EN trains an idle link at the written rate, its
clearing takes every lane OFF, after the packet in flight where there is one; RETRAIN takes the selected RETIRED
lanes back and trains; RETIRE asks for the retirement of ACTIVE lanes, but never of all; both command bits at once
discard the write. -/
def Obligations.LinkControl : Prop :=
  ∀ (s : State) (v : Word), s.reaches 0 0x38 → s.chip.shaped →
    (tst v 14 = true → tst v 13 = true → Answers (.linkEnWrite v) s (Unchanged s.chip) ∧
      Answers (.retrain v) s (Unchanged s.chip) ∧ Answers (.retire v) s (Unchanged s.chip)) ∧
    (tst v 14 = false → tst v 13 = false →
      (tst v 15 = true → s.chip.link.act = false → s.chip.pw.link = true → s.chip.link.flight = none →
        s.chip.link.offAfter = false → 4 ≤ s.chip.st.gen →
        Answers (.linkEnWrite v) s (fun t => t.link.act = true ∧ t.link.st = 1 ∧ t.link.rate = fld v 8 2 ∧
          (∀ n, n < 4 → (t.lane n).st = if (s.chip.lane n).st = .retired then .retired else trains v n) ∧
          (∀ j, (t.stream j).credits = 0) ∧ WordsKept s.chip t [(0, 0x38)])) ∧
      (tst v 15 = false → s.chip.link.act = true → s.chip.linkEn = true →
        (s.chip.link.flight = none →
          Answers (.linkEnWrite v) s (fun t => t.link.act = false ∧ t.link.st = 0 ∧
            (∀ n, n < 4 → (t.lane n).st = if (s.chip.lane n).st = .retired then .retired else .off) ∧
            WordsKept s.chip t [(0, 0x38)])) ∧
        (s.chip.link.flight.isSome = true →
          Answers (.linkEnWrite v) s (fun t => t.link.offAfter = true ∧ t.link.act = true ∧ t.link.st = s.chip.link.st ∧
            t.link.lanes = s.chip.link.lanes ∧ t.link.flight = s.chip.link.flight ∧ t.streams = s.chip.streams)))) ∧
    (tst v 14 = true → tst v 13 = false → tst v 15 = true → s.chip.link.act = true → s.chip.linkEn = true →
      s.chip.link.offAfter = false →
      (s.chip.link.flight = none → s.chip.pw.link = true → 4 ≤ s.chip.st.gen →
        Answers (.retrain v) s (fun t => t.link.st = 1 ∧ t.link.rate = fld v 8 2 ∧
          (∀ n, n < 4 → (t.lane n).st = if (s.chip.lane n).st = .retired ∧ tst v (4 + n) = false then .retired else trains v n) ∧
          WordsKept s.chip t [(0, 0x38)])) ∧
      (s.chip.link.flight.isSome = true →
        Answers (.retrain v) s (fun t => t.link.trainAfter = true ∧ t.link.st = s.chip.link.st ∧
          t.link.flight = s.chip.link.flight ∧ t.streams = s.chip.streams))) ∧
    (∀ act new : BitVec 4, tst v 13 = true → tst v 14 = false → tst v 15 = s.chip.linkEn → s.chip.link.act = true →
      act = BitVec.ofNat 4 (s.chip.lanesIn .active) → new = BitVec.ofNat 4 (fld v 4 4) &&& act →
      (new = 0 → Answers (.retire v) s (fun t => t.link.retire = s.chip.link.retire ∧ WordsKept s.chip t [(0, 0x38)])) ∧
      (new ≠ 0 → (s.chip.link.retire ||| new) &&& act ≠ act →
        Answers (.retire v) s (fun t => t.link.retire = s.chip.link.retire ||| new ∧ t.link.lanes = s.chip.link.lanes ∧
          WordsKept s.chip t [(0, 0x38)])) ∧
      (new ≠ 0 → (s.chip.link.retire ||| new) &&& act = act →
        Answers (.retire v) s (fun t => t.link.retire = s.chip.link.retire ∧ t.link.lanes = s.chip.link.lanes ∧
          tst (t.rd 0 0x39) 8 = true ∧ WordsKept s.chip t [(0, 0x38), (0, 0x39)])))

/-- RXL and the columns (R483, R485, R488, R491, R493, R494, R498, R501): each event counts or sets its bit; training that has
lasted TRAINTMO milliseconds says so once; a session without sync for RXLOSS milliseconds trains again; every 16,384th
column is an ALIGN column and advances MCOUNT, and a column carries one block per sending lane. Lanes are lost (R507 to R512): a driver fault retires an ACTIVE lane with cause 1, a record and its
events, the last one leaves the link without a lane, and one of another lane has no effect; a planned retirement is
applied at its boundary, with cause 3, unless no lane would be left; RETMAX milliseconds end its wait. -/
def Obligations.LinkEvents : Prop :=
  (∀ s : State, s.chip.pw.link = true → s.chip.pw.core = true →
     (∀ f, s.chip.link.st = 1 → s.chip.rd spLink 0x10 ≠ 0 → s.chip.link.trainFrom = some f →
       f.toNat + 100000 * (s.chip.rd spLink 0x10).toNat ≤ s.chip.tb.stb.toNat →
       Answers .trainTimeout s (fun t => t.rd 0 0x39 = s.chip.rd 0 0x39 ||| 0x0800 ∧ tst (t.rd 0 0x14) 6 = true ∧
         OnlyThese { s.chip with link := { s.chip.link with trainFrom := none } } t [(0, 0x39), (0, 0x14)])) ∧
     Answers .rxlSync s (fun t => t.link = { s.chip.link with rxSync := true } ∧ OnlyLink s.chip t) ∧
     (s.chip.link.rxSync = true →
       Answers .rxlSyncLoss s (fun t => t.link = { s.chip.link with rxSync := false, lostAt := s.chip.tb.stb } ∧
         t.rd spLink 0x1C = satAdd (s.chip.rd spLink 0x1C) 1 ∧ WordsKept s.chip t [(spLink, 0x1C)])) ∧
     (s.chip.link.rxSync = false → s.chip.inSession = true →
       s.chip.link.lostAt.toNat + 100000 * fld (s.chip.rd spLink 0x11) 0 8 ≤ s.chip.tb.stb.toNat →
       (s.chip.link.flight = none → s.chip.link.act = true → s.chip.linkEn = true →
         Answers .rxlossExpiry s (fun t => t.link.st = 1 ∧ (∀ j, (t.stream j).credits = 0) ∧ t.link.trainAfter = false)) ∧
       (s.chip.link.flight.isSome = true →
         Answers .rxlossExpiry s (fun t => t.link = { s.chip.link with trainAfter := true } ∧ OnlyLink s.chip t))) ∧
     (∀ fill, (20 < fill → Answers (.rxlSkip fill) s (fun t => t.rd spLink 0x1A = satAdd (s.chip.rd spLink 0x1A) 1 ∧
         OnlyThese s.chip t [(spLink, 0x1A)])) ∧
       (fill < 12 → Answers (.rxlSkip fill) s (fun t => t.rd spLink 0x19 = satAdd (s.chip.rd spLink 0x19) 1 ∧
         OnlyThese s.chip t [(spLink, 0x19)])) ∧
       (12 ≤ fill → fill ≤ 20 → Answers (.rxlSkip fill) s (Unchanged s.chip))) ∧
     Answers .elasticBufferError s (fun t => t.rd spLink 0x1B = satAdd (s.chip.rd spLink 0x1B) 1 ∧
       t.rd 0 0x39 = s.chip.rd 0 0x39 ||| 0x0200 ∧ OnlyThese s.chip t [(spLink, 0x1B), (0, 0x39)]) ∧
     Answers .invalidCodeGroup s (fun t => t.rd spLink 0x18 = satAdd (s.chip.rd spLink 0x18) 1 ∧
       OnlyThese s.chip t [(spLink, 0x18)]) ∧
     (s.chip.senders ≠ [] →
       (16383 ≤ s.chip.link.sinceAlign → Answers .alignColumn s (fun t => t.link.mcount = s.chip.link.mcount + 1 ∧
         t.link.sinceAlign = 0 ∧ t.link.column.length = s.chip.senders.length ∧ (∀ n, (t.lane n).st = (s.chip.lane n).st) ∧ OnlyLink s.chip t)) ∧
       (s.chip.link.sinceAlign < 16383 → Answers .idleColumn s (fun t => t.link.mcount = s.chip.link.mcount ∧
         t.link.sinceIdle = 0 ∧ t.link.sinceAlign = s.chip.link.sinceAlign + 1 ∧ t.link.column.length = s.chip.senders.length ∧ (∀ n, (t.lane n).st = (s.chip.lane n).st) ∧ OnlyLink s.chip t)))) ∧
  ((∀ (s : State) (n : Fin 4), s.chip.shaped → s.chip.pw.link = true → s.chip.pw.core = true →
     Completes (.laneDriverFault n) s (s.chip.laneFault n.val 1).1 ∧
     ((s.chip.lane n.val).st ≠ .active → Answers (.laneDriverFault n) s (Unchanged s.chip)) ∧
     ((s.chip.lane n.val).st = .active → s.chip.link.flight = none → s.chip.link.offAfter = false →
       s.chip.link.trainAfter = false → s.chip.moversOff →
       Answers (.laneDriverFault n) s (fun t => (t.lane n.val).st = .retired ∧ (t.lane n.val).cause = 1 ∧
         (∀ j, j ≠ n.val → (t.lane j).st = (s.chip.lane j).st) ∧
         t.rd spFault 0 = s.chip.rd spFault 0 + 1 ∧ tst (t.rd 0 0x14) 5 = true ∧ tst (t.rd 0 0x14) 6 = true ∧
         ((∃ j, j < 4 ∧ j ≠ n.val ∧ (s.chip.lane j).st = .active) → t.link.st = s.chip.link.st) ∧
         ((∀ j, j < 4 → j ≠ n.val → (s.chip.lane j).st ≠ .active) → t.link.st = 3)))) ∧
   (∀ (s : State) (act go : BitVec 4), s.chip.shaped → s.chip.pw.link = true → s.chip.pw.core = true →
     s.chip.inSession = true → s.chip.link.flight = none → s.chip.retireDue = true →
     act = BitVec.ofNat 4 (s.chip.lanesIn .active) → go = s.chip.link.retire &&& act →
     (go ≠ 0 → go ≠ act →
       Answers .retirementApply s (fun t => t.link.retire = 0 ∧ tst (t.rd 0 0x14) 6 = true ∧
         ∀ n, n < 4 → (t.lane n).st = if go.getLsbD n then .retired else (s.chip.lane n).st)) ∧
     (go ≠ 0 → go = act →
       Answers .retirementApply s (fun t => t.link.retire = 0 ∧ t.link.lanes = s.chip.link.lanes ∧
         t.rd 0 0x39 = s.chip.rd 0 0x39 ||| 0x0100 ∧ WordsKept s.chip t [(0, 0x39)]))) ∧
   (∀ s : State, s.chip.link.retire ≠ 0 →
     s.chip.link.retireAt.toNat + 100000 * (s.chip.rd spLink 0x12).toNat ≤ s.chip.tb.stb.toNat →
     Answers .retmaxExpiry s (fun t => t.link = { s.chip.link with retireNow := true } ∧ OnlyLink s.chip t)))

/-- Packets (R470, R515, R526, R528): the chosen stream's next packet goes into flight, PSEQ counts and its credits are
deducted; the packet that completes a record outside a frame takes the record away, and the line start of a line
leaves the line to its next packet. -/
def Obligations.Packets : Prop :=
  (∀ (s : State) (n : Nat), s.chip.nextStream = some n → s.chip.packetBoundary = true →
    Completes .packetStart s (s.chip.startPacket n)) ∧
  (∀ (s : State) (x : Flight), s.chip.pw.link = true → s.chip.link.flight = some x →
    Completes .packetComplete s (s.chip.packetSent x)) ∧
  (∀ (s : State) (n : Nat) (r : Rec) (rest : List Rec), s.chip.shaped → s.chip.nextStream = some n →
    s.chip.packetBoundary = true → (s.chip.stream n).recs = r :: rest →
    (tst (s.chip.rd spSeal (0x10 + n)) 15 = false ∨ r.dt ≠ 1) →
    Answers .packetStart s (fun t => t.link.flight.map (·.stream) = some n ∧
      t.link.flight.map (·.bytes) = some (s.chip.packetBytes n r) ∧ t.link.flight.map (·.final) = some (!r.atLineStart) ∧
      (t.stream n).pseq = (s.chip.stream n).pseq + 1 ∧ (t.stream n).recs = r :: rest ∧
      ((s.chip.stream n).inf = false →
        (t.stream n).credits = (s.chip.stream n).credits - (20 + s.chip.packetLen n r + 255) / 256) ∧
      ((s.chip.stream n).inf = true → (t.stream n).credits = (s.chip.stream n).credits) ∧ AllWordsKept s.chip t)) ∧
  (∀ (s : State) (x : Flight), s.chip.shaped → s.chip.pw.link = true → s.chip.link.flight = some x → x.framed = false →
    x.chan = none → s.chip.link.offAfter = false → s.chip.link.trainAfter = false → x.stream < 8 →
    (x.final = true →
      Answers .packetComplete s (fun t => t.link.flight = none ∧
        (t.stream x.stream).recs = (s.chip.stream x.stream).recs.drop 1 ∧
        (∀ j, j ≠ x.stream → t.stream j = s.chip.stream j) ∧ AllWordsKept s.chip t)) ∧
    (x.final = false →
      Answers .packetComplete s (fun t => t.link.flight = none ∧
        (t.stream x.stream).recs.length = (s.chip.stream x.stream).recs.length ∧
        ((t.stream x.stream).recs.head?).map (·.sent) = ((s.chip.stream x.stream).recs.head?).map (fun _ => 1) ∧
        AllWordsKept s.chip t)))

/-- The messages of the return lane (R497 to R499, R507, R510, R527, R529, R531, R532): LINKUP makes the named training
lanes ACTIVE and opens the session with no credits; CREDIT adds to a channel's credits and is discarded outside a
session; TRIG reaches its contexts; ACK writes its channel's registers; LANEMAP asks for a retirement; LANEFAULT
retires an ACTIVE lane with cause 2; a message that is discarded counts. An acknowledgement that is asked for and
enabled goes as a record to its stream (R530): here for CREDIT, with its sequence number and type. -/
def Obligations.Messages : Prop :=
  (∀ (s : State) (q : Byte) (a : Bool), s.chip.shaped → s.quiet a →
     (∀ lanes : BitVec 4,
       (s.chip.link.st ≠ 1 → Answers (.linkup lanes q a) s (fun t => counted s.chip t ∧ OnlyThese s.chip t [(spSeal, 3)])) ∧
       (s.chip.link.st = 1 → lanes &&& BitVec.ofNat 4 (s.chip.lanesIn .train) ≠ 0 → s.chip.pw.core = true →
         Answers (.linkup lanes q a) s (fun t => counted s.chip t ∧ t.link.st = 2 ∧
           (∀ n, n < 4 → (t.lane n).st = if (s.chip.lane n).st = .train then (if lanes.getLsbD n then .active else .unused)
             else (s.chip.lane n).st) ∧
           (∀ j, (t.stream j).credits = 0 ∧ (t.stream j).inf = false) ∧ t.rd spLink 0x1E = s.chip.rd spLink 0x1E + 1 ∧
           tst (t.rd 0 0x14) 6 = true ∧ WordsKept s.chip t [(spSeal, 3), (spLink, 0x1E), (0, 0x14)]))) ∧
     (∀ (c : Fin 8) (inf : Bool) (n : BitVec 24),
       (s.chip.inSession = false → Answers (.credit c inf n q a) s (Unchanged s.chip)) ∧
       (s.chip.inSession = true →
         Answers (.credit c inf n q a) s (fun t => counted s.chip t ∧ WordsKept s.chip t [(spSeal, 3)] ∧
           (∀ j, j ≠ c.val → t.stream j = s.chip.stream j) ∧
           (inf = true → (t.stream c.val).inf = true) ∧
           (inf = false → (t.stream c.val).inf = false) ∧
           (inf = false → (s.chip.stream c.val).inf = false →
             (t.stream c.val).credits = min ((s.chip.stream c.val).credits + n.toNat) 0xFFFFFF) ∧
           (inf = false → (s.chip.stream c.val).inf = true → (t.stream c.val).credits = n.toNat)))) ∧
     (∀ k : Fin 16, tst (s.chip.rd spCtx (0x100 * k.val + 1)) 2 = true →
       s.chip.cyc.triggered = 0 →
       (s.chip.armed k.val = false →
         Answers (.trig (bitW k.val) q a) s (fun t => counted s.chip t ∧
           t.rd spCtx (0x100 * k.val + 0xA) = satAdd (s.chip.rd spCtx (0x100 * k.val + 0xA)) 1 ∧
           OnlyThese s.chip t [(spSeal, 3), (spCtx, 0x100 * k.val + 0xA)])) ∧
       (s.chip.armed k.val = true → s.chip.cc.checking = none → s.chip.cc.susp = [] → s.chip.pw.cur = .run →
         (∀ c, s.chip.cc.cap = some c → c.ctx ≠ k) → s.chip.cc.cap.isSome = true → k ∉ s.chip.cc.heldTrig →
         tst (s.chip.rd spCtx (0x100 * k.val)) 3 = false →
         Answers (.trig (bitW k.val) q a) s (fun t => counted s.chip t ∧
           t.cc = { s.chip.cc with heldTrig := s.chip.cc.heldTrig ++ [k] } ∧ WordsKept s.chip t [(spSeal, 3)]))) ∧
     (∀ (c : Fin 8) (nak : Bool) (fn : Long),
       Answers (.ack c nak fn q a) s (fun t => counted s.chip t ∧ t.rd32 spSeal (sealOff c.val 4) = fn.toNat ∧
         t.rd spSeal (sealOff c.val 6) = (if nak then satAdd (s.chip.rd spSeal (sealOff c.val 6)) 1
           else s.chip.rd spSeal (sealOff c.val 6)) ∧
         OnlyThese s.chip t [(spSeal, 3), (spSeal, sealOff c.val 4), (spSeal, sealOff c.val 5), (spSeal, sealOff c.val 6)])) ∧
     (∀ lanes act new : BitVec 4, act = BitVec.ofNat 4 (s.chip.lanesIn .active) → new = lanes &&& act →
       (new ≠ 0 → (s.chip.link.retire ||| new) &&& act ≠ act →
         Answers (.lanemap lanes q a) s (fun t => counted s.chip t ∧
           t.link.retire = s.chip.link.retire ||| new ∧ t.link.lanes = s.chip.link.lanes ∧
           (s.chip.link.retire = 0 → t.link.retireAt = s.chip.tb.stb) ∧ WordsKept s.chip t [(spSeal, 3)])) ∧
       (new ≠ 0 → (s.chip.link.retire ||| new) &&& act = act →
         Answers (.lanemap lanes q a) s (fun t => counted s.chip t ∧ t.link = s.chip.link ∧
           t.rd 0 0x39 = s.chip.rd 0 0x39 ||| 0x0100))) ∧
     (∀ n : Fin 4,
       ((s.chip.lane n.val).st ≠ .active →
         Answers (.lanefault n q a) s (fun t => counted s.chip t ∧ OnlyThese s.chip t [(spSeal, 3)])) ∧
       ((s.chip.lane n.val).st = .active → s.chip.link.flight = none → s.chip.link.offAfter = false →
         s.chip.link.trainAfter = false → s.chip.moversOff →
         Answers (.lanefault n q a) s (fun t => counted s.chip t ∧ (t.lane n.val).st = .retired ∧
           (t.lane n.val).cause = 2))) ∧
     Answers .messageDiscarded s (fun t => t.rd spSeal 2 = satAdd (s.chip.rd spSeal 2) 1 ∧
       OnlyThese s.chip t [(spSeal, 2)])) ∧
  (∀ (s : State) (q : Byte) (c : Fin 8) (inf : Bool) (n : BitVec 24) (k : Nat) (b : Buf), s.chip.shaped →
     s.chip.rxOn = true → s.chip.inSession = true → tst (s.chip.rd spSeal 1) 3 = true → k = fld (s.chip.rd spSeal 1) 0 3 →
     (s.chip.stream k).act = true → (s.chip.stream k).pend = false → s.chip.streamEn k = true →
     (s.chip.stream k).held = [] → (s.chip.stream k).frames = [] → (s.chip.stream k).bufs.getLast? = some b →
     b.weight = 1 → b.used + 80 ≤ 16384 →
     Answers (.credit c inf n q true) s (fun t => counted s.chip t ∧ (t.stream k).recs.map (·.payload) =
       (s.chip.stream k).recs.map (·.payload) ++ [bytesN s.chip.tb.stb.toNat 8 ++ [1, q, 0, 0, 0x82, 0, 0, 0]]))
end

