-- ==== Sys2Proof/Laws/Bank.lean ====
section
/-! SUPPORT. The word store: a read after a write, and the canonical form that every operation on it keeps. -/

namespace Sys2Proof.Machine

/-! ## Reading and writing -/

/-- The word that a store with this head answers for a key. -/
theorem Bank.get_cons (c : Nat × Word) (r : Bank) (k : Nat) :
    Bank.get (c :: r) k = if c.1 = k then c.2 else Bank.get r k := by
  by_cases h : c.1 = k <;> simp [Bank.get, h]

/-- An empty store answers what an unlisted key reads as. -/
@[simp] theorem Bank.get_nil (k : Nat) : Bank.get [] k = unlisted k := rfl

/-- Dropping a key leaves the words of the other keys. -/
theorem Bank.get_drop (b : Bank) (k j : Nat) :
    Bank.get (Bank.drop b k) j = if j = k then unlisted j else Bank.get b j := by
  induction b with
  | nil => simp [Bank.drop]
  | cons c r ih =>
    simp only [Bank.drop] at ih
    by_cases h : c.1 = k
    · by_cases hj : j = k
      · simpa [Bank.drop, List.filter_cons, h, hj] using ih
      · have hne : c.1 ≠ j := fun e => hj (by omega)
        simpa [Bank.drop, List.filter_cons, h, hj, Bank.get_cons, hne, Ne.symm hj] using ih
    · by_cases hc : c.1 = j
      · have hj : j ≠ k := fun e => h (by omega)
        simp [Bank.drop, Bank.get_cons, hc, hj]
      · simpa [Bank.drop, List.filter_cons, h, Bank.get_cons, hc] using ih

/-- A read after a write gives the value written at that key and the old word at every other. -/
theorem Bank.get_put (b : Bank) (k j : Nat) (v : Word) :
    Bank.get (Bank.put b k v) j = if j = k then v else Bank.get b j := by
  induction b with
  | nil =>
    unfold Bank.put
    split
    · rename_i h
      by_cases hj : j = k <;> simp [hj, h]
    · rw [Bank.get_cons]
      exact if_congr eq_comm rfl rfl
  | cons c r ih =>
    unfold Bank.put
    split
    · rename_i h
      rw [ih, Bank.get_cons]
      by_cases hj : j = k
      · simp [hj]
      · have : c.1 ≠ j := fun e => hj (by omega)
        simp [hj, this]
    · rename_i h
      split
      · split
        · rename_i hv
          rw [Bank.get_cons, Bank.get_drop, Bank.get_cons]
          by_cases hj : j = k
          · have : c.1 ≠ k := h
            simp [hj, this, hv]
          · simp [hj]
        · rw [Bank.get_cons, Bank.get_cons, Bank.get_drop, Bank.get_cons]
          by_cases hj : j = k
          · simp [hj]
          · simp [hj, Ne.symm hj]
      · rw [Bank.get_cons, ih, Bank.get_cons]
        by_cases hj : c.1 = j
        · have : j ≠ k := fun e => h (by omega)
          simp [hj, this]
        · simp [hj]

/-- The word just written. -/
@[simp] theorem Bank.get_put_same (b : Bank) (k : Nat) (v : Word) : Bank.get (Bank.put b k v) k = v := by
  simp [Bank.get_put]

/-- A word elsewhere. -/
theorem Bank.get_put_ne (b : Bank) {k j : Nat} (v : Word) (h : j ≠ k) : Bank.get (Bank.put b k v) j = Bank.get b j := by
  simp [Bank.get_put, h]

/-- Two words of the spaces have one key only when they are the same word. -/
theorem key_eq_iff {sp off sp' off' : Nat} (h : off < 0x1000000) (h' : off' < 0x1000000) :
    key sp off = key sp' off' ↔ sp = sp' ∧ off = off' := by
  unfold key; omega

/-! ## The canonical form -/

/-- The canonical form in words. -/
theorem Bank.wf_iff (b : Bank) :
    Bank.wf b = true ↔ b.Pairwise (fun c d => c.1 < d.1) ∧ ∀ c ∈ b, c.2 ≠ unlisted c.1 := by
  match b with
  | [] => simp [Bank.wf]
  | [c] => simp [Bank.wf]
  | c :: d :: r =>
    have ih := Bank.wf_iff (d :: r)
    simp only [Bank.wf, Bool.and_eq_true, decide_eq_true_eq, ih, List.pairwise_cons, List.mem_cons, forall_eq_or_imp]
    constructor
    · rintro ⟨⟨hc, hd⟩, ⟨hr, hp⟩, hu, hv⟩
      exact ⟨⟨⟨hd, fun x hx => lt_trans hd (hr x hx)⟩, hr, hp⟩, hc, hu, hv⟩
    · rintro ⟨⟨⟨hd, _⟩, hr, hp⟩, hc, hu, hv⟩
      exact ⟨⟨hc, hd⟩, ⟨hr, hp⟩, hu, hv⟩

/-- The empty store is canonical. -/
@[simp] theorem Bank.wf_nil : Bank.wf [] = true := rfl

/-- Resetting words keeps the canonical form. -/
theorem Bank.wf_keepIf {b : Bank} (p : Nat → Bool) (h : b.wf = true) : (b.keepIf p).wf = true := by
  rw [Bank.wf_iff] at *
  exact ⟨h.1.filter _, fun c hc => h.2 c (List.mem_filter.mp hc).1⟩

/-- The words after a write. -/
theorem Bank.mem_put {b : Bank} {k : Nat} {v : Word} {c : Nat × Word} (h : c ∈ Bank.put b k v) :
    (c = (k, v) ∧ v ≠ unlisted k) ∨ c ∈ b := by
  induction b with
  | nil =>
    unfold Bank.put at h
    split at h
    · simp at h
    · simp_all
  | cons d r ih =>
    have drop : c ∈ Bank.drop r k → c ∈ r := fun hd => (List.mem_filter.mp hd).1
    unfold Bank.put at h
    split at h
    · exact (ih h).imp id (fun x => List.mem_cons_of_mem _ x)
    · split at h
      · split at h
        · rcases List.mem_cons.mp h with rfl | h
          · simp
          · exact .inr (List.mem_cons_of_mem _ (drop h))
        · rename_i hv
          rcases List.mem_cons.mp h with rfl | h
          · exact .inl ⟨rfl, hv⟩
          · rcases List.mem_cons.mp h with rfl | h
            · simp
            · exact .inr (List.mem_cons_of_mem _ (drop h))
      · rcases List.mem_cons.mp h with rfl | h
        · simp
        · exact (ih h).imp id (fun x => List.mem_cons_of_mem _ x)

/-- A write keeps the rising order. -/
theorem Bank.pairwise_put {b : Bank} (k : Nat) (v : Word) (h : b.Pairwise (fun c d => c.1 < d.1)) :
    (Bank.put b k v).Pairwise (fun c d => c.1 < d.1) := by
  induction b with
  | nil => unfold Bank.put; split <;> simp
  | cons d r ih =>
    have hd := List.pairwise_cons.mp h
    have dropLe : ∀ x ∈ Bank.drop r k, d.1 < x.1 := fun x hx => hd.1 x (List.mem_filter.mp hx).1
    have dropPair : (Bank.drop r k).Pairwise (fun c d => c.1 < d.1) := hd.2.filter _
    unfold Bank.put
    split
    · exact ih hd.2
    · rename_i hne
      split
      · rename_i hlt
        split
        · exact List.pairwise_cons.mpr ⟨dropLe, dropPair⟩
        · refine List.pairwise_cons.mpr ⟨fun x hx => ?_, List.pairwise_cons.mpr ⟨dropLe, dropPair⟩⟩
          rcases List.mem_cons.mp hx with rfl | hx
          · exact hlt
          · exact lt_trans hlt (dropLe x hx)
      · rename_i hlt
        refine List.pairwise_cons.mpr ⟨fun x hx => ?_, ih hd.2⟩
        rcases Bank.mem_put hx with ⟨rfl, _⟩ | hx
        · simp only; omega
        · exact hd.1 x hx

/-- A write keeps the canonical form. -/
theorem Bank.wf_put {b : Bank} (k : Nat) (v : Word) (h : b.wf = true) : (b.put k v).wf = true := by
  rw [Bank.wf_iff] at *
  refine ⟨Bank.pairwise_put k v h.1, fun c hc => ?_⟩
  rcases Bank.mem_put hc with ⟨rfl, hv⟩ | hc
  · exact hv
  · exact h.2 c hc

/-- A list of writes keeps the canonical form. -/
theorem Bank.wf_putAll {b : Bank} (ws : List (Nat × Word)) (h : b.wf = true) : (b.putAll ws).wf = true := by
  unfold Bank.putAll
  induction ws generalizing b with
  | nil => exact h
  | cons w r ih => exact ih (Bank.wf_put w.1 w.2 h)

end Sys2Proof.Machine
end

