-- ==== Sys2Proof/Laws/State.lean ====
section
/-! SUPPORT. What each named update of the state leaves alone: one lemma per field and update, so that no proof unfolds a
record update. -/

namespace Sys2Proof.Machine

/-! ## The queue and the chip -/

/-- A new chip leaves the queue. -/
@[simp] theorem State.setChip_pending (s : State) (m : Chip) : ({ s with chip := m } : State).pending = s.pending := rfl

/-- A new chip is the chip. -/
@[simp] theorem State.setChip_chip (s : State) (m : Chip) : ({ s with chip := m } : State).chip = m := rfl

/-- A new queue leaves the chip. -/
@[simp] theorem State.setPending_chip (s : State) (q : List Instr) : ({ s with pending := q } : State).chip = s.chip := rfl

/-! ## wr -/

/-- A stored word leaves `held`. -/
@[simp] theorem Chip.wr_held (m : Chip) (sp off : Nat) (v : Word) : (m.wr sp off v).held = m.held := rfl

/-- A stored word leaves `free`. -/
@[simp] theorem Chip.wr_free (m : Chip) (sp off : Nat) (v : Word) : (m.wr sp off v).free = m.free := rfl

/-- A stored word leaves `hd`. -/
@[simp] theorem Chip.wr_hd (m : Chip) (sp off : Nat) (v : Word) : (m.wr sp off v).hd = m.hd := rfl

/-- A stored word leaves `cyc`. -/
@[simp] theorem Chip.wr_cyc (m : Chip) (sp off : Nat) (v : Word) : (m.wr sp off v).cyc = m.cyc := rfl

/-- A stored word leaves `pw`. -/
@[simp] theorem Chip.wr_pw (m : Chip) (sp off : Nat) (v : Word) : (m.wr sp off v).pw = m.pw := rfl

/-- A stored word leaves `keep`. -/
@[simp] theorem Chip.wr_keep (m : Chip) (sp off : Nat) (v : Word) : (m.wr sp off v).keep = m.keep := rfl

/-- A stored word leaves `phrase`. -/
@[simp] theorem Chip.wr_phrase (m : Chip) (sp off : Nat) (v : Word) : (m.wr sp off v).phrase = m.phrase := rfl

/-- A stored word leaves `tb`. -/
@[simp] theorem Chip.wr_tb (m : Chip) (sp off : Nat) (v : Word) : (m.wr sp off v).tb = m.tb := rfl

/-- A stored word leaves `win`. -/
@[simp] theorem Chip.wr_win (m : Chip) (sp off : Nat) (v : Word) : (m.wr sp off v).win = m.win := rfl

/-- A stored word leaves `cc`. -/
@[simp] theorem Chip.wr_cc (m : Chip) (sp off : Nat) (v : Word) : (m.wr sp off v).cc = m.cc := rfl

/-- A stored word leaves `loam`. -/
@[simp] theorem Chip.wr_loam (m : Chip) (sp off : Nat) (v : Word) : (m.wr sp off v).loam = m.loam := rfl

/-- A stored word leaves `chans`. -/
@[simp] theorem Chip.wr_chans (m : Chip) (sp off : Nat) (v : Word) : (m.wr sp off v).chans = m.chans := rfl

/-- A stored word leaves `hkc`. -/
@[simp] theorem Chip.wr_hkc (m : Chip) (sp off : Nat) (v : Word) : (m.wr sp off v).hkc = m.hkc := rfl

/-- A stored word leaves `cal`. -/
@[simp] theorem Chip.wr_cal (m : Chip) (sp off : Nat) (v : Word) : (m.wr sp off v).cal = m.cal := rfl

/-- A stored word leaves `st`. -/
@[simp] theorem Chip.wr_st (m : Chip) (sp off : Nat) (v : Word) : (m.wr sp off v).st = m.st := rfl

/-- A stored word leaves `pipe`. -/
@[simp] theorem Chip.wr_pipe (m : Chip) (sp off : Nat) (v : Word) : (m.wr sp off v).pipe = m.pipe := rfl

/-- A stored word leaves `cams`. -/
@[simp] theorem Chip.wr_cams (m : Chip) (sp off : Nat) (v : Word) : (m.wr sp off v).cams = m.cams := rfl

/-- A stored word leaves `streams`. -/
@[simp] theorem Chip.wr_streams (m : Chip) (sp off : Nat) (v : Word) : (m.wr sp off v).streams = m.streams := rfl

/-- A stored word leaves `movers`. -/
@[simp] theorem Chip.wr_movers (m : Chip) (sp off : Nat) (v : Word) : (m.wr sp off v).movers = m.movers := rfl

/-- A stored word leaves `link`. -/
@[simp] theorem Chip.wr_link (m : Chip) (sp off : Nat) (v : Word) : (m.wr sp off v).link = m.link := rfl

/-- A stored word leaves `wave`. -/
@[simp] theorem Chip.wr_wave (m : Chip) (sp off : Nat) (v : Word) : (m.wr sp off v).wave = m.wave := rfl

/-- A stored word leaves `pins`. -/
@[simp] theorem Chip.wr_pins (m : Chip) (sp off : Nat) (v : Word) : (m.wr sp off v).pins = m.pins := rfl


/-! ## wrHeld -/

/-- A shadow word leaves `regs`. -/
@[simp] theorem Chip.wrHeld_regs (m : Chip) (sp off : Nat) (v : Word) : (m.wrHeld sp off v).regs = m.regs := rfl

/-- A shadow word leaves `free`. -/
@[simp] theorem Chip.wrHeld_free (m : Chip) (sp off : Nat) (v : Word) : (m.wrHeld sp off v).free = m.free := rfl

/-- A shadow word leaves `hd`. -/
@[simp] theorem Chip.wrHeld_hd (m : Chip) (sp off : Nat) (v : Word) : (m.wrHeld sp off v).hd = m.hd := rfl

/-- A shadow word leaves `cyc`. -/
@[simp] theorem Chip.wrHeld_cyc (m : Chip) (sp off : Nat) (v : Word) : (m.wrHeld sp off v).cyc = m.cyc := rfl

/-- A shadow word leaves `pw`. -/
@[simp] theorem Chip.wrHeld_pw (m : Chip) (sp off : Nat) (v : Word) : (m.wrHeld sp off v).pw = m.pw := rfl

/-- A shadow word leaves `keep`. -/
@[simp] theorem Chip.wrHeld_keep (m : Chip) (sp off : Nat) (v : Word) : (m.wrHeld sp off v).keep = m.keep := rfl

/-- A shadow word leaves `phrase`. -/
@[simp] theorem Chip.wrHeld_phrase (m : Chip) (sp off : Nat) (v : Word) : (m.wrHeld sp off v).phrase = m.phrase := rfl

/-- A shadow word leaves `tb`. -/
@[simp] theorem Chip.wrHeld_tb (m : Chip) (sp off : Nat) (v : Word) : (m.wrHeld sp off v).tb = m.tb := rfl

/-- A shadow word leaves `win`. -/
@[simp] theorem Chip.wrHeld_win (m : Chip) (sp off : Nat) (v : Word) : (m.wrHeld sp off v).win = m.win := rfl

/-- A shadow word leaves `cc`. -/
@[simp] theorem Chip.wrHeld_cc (m : Chip) (sp off : Nat) (v : Word) : (m.wrHeld sp off v).cc = m.cc := rfl

/-- A shadow word leaves `loam`. -/
@[simp] theorem Chip.wrHeld_loam (m : Chip) (sp off : Nat) (v : Word) : (m.wrHeld sp off v).loam = m.loam := rfl

/-- A shadow word leaves `chans`. -/
@[simp] theorem Chip.wrHeld_chans (m : Chip) (sp off : Nat) (v : Word) : (m.wrHeld sp off v).chans = m.chans := rfl

/-- A shadow word leaves `hkc`. -/
@[simp] theorem Chip.wrHeld_hkc (m : Chip) (sp off : Nat) (v : Word) : (m.wrHeld sp off v).hkc = m.hkc := rfl

/-- A shadow word leaves `cal`. -/
@[simp] theorem Chip.wrHeld_cal (m : Chip) (sp off : Nat) (v : Word) : (m.wrHeld sp off v).cal = m.cal := rfl

/-- A shadow word leaves `st`. -/
@[simp] theorem Chip.wrHeld_st (m : Chip) (sp off : Nat) (v : Word) : (m.wrHeld sp off v).st = m.st := rfl

/-- A shadow word leaves `pipe`. -/
@[simp] theorem Chip.wrHeld_pipe (m : Chip) (sp off : Nat) (v : Word) : (m.wrHeld sp off v).pipe = m.pipe := rfl

/-- A shadow word leaves `cams`. -/
@[simp] theorem Chip.wrHeld_cams (m : Chip) (sp off : Nat) (v : Word) : (m.wrHeld sp off v).cams = m.cams := rfl

/-- A shadow word leaves `streams`. -/
@[simp] theorem Chip.wrHeld_streams (m : Chip) (sp off : Nat) (v : Word) : (m.wrHeld sp off v).streams = m.streams := rfl

/-- A shadow word leaves `movers`. -/
@[simp] theorem Chip.wrHeld_movers (m : Chip) (sp off : Nat) (v : Word) : (m.wrHeld sp off v).movers = m.movers := rfl

/-- A shadow word leaves `link`. -/
@[simp] theorem Chip.wrHeld_link (m : Chip) (sp off : Nat) (v : Word) : (m.wrHeld sp off v).link = m.link := rfl

/-- A shadow word leaves `wave`. -/
@[simp] theorem Chip.wrHeld_wave (m : Chip) (sp off : Nat) (v : Word) : (m.wrHeld sp off v).wave = m.wave := rfl

/-- A shadow word leaves `pins`. -/
@[simp] theorem Chip.wrHeld_pins (m : Chip) (sp off : Nat) (v : Word) : (m.wrHeld sp off v).pins = m.pins := rfl


/-! ## orBits -/

/-- Setting bits leaves `held`. -/
@[simp] theorem Chip.orBits_held (m : Chip) (sp off : Nat) (b : Word) : (m.orBits sp off b).held = m.held := rfl

/-- Setting bits leaves `free`. -/
@[simp] theorem Chip.orBits_free (m : Chip) (sp off : Nat) (b : Word) : (m.orBits sp off b).free = m.free := rfl

/-- Setting bits leaves `hd`. -/
@[simp] theorem Chip.orBits_hd (m : Chip) (sp off : Nat) (b : Word) : (m.orBits sp off b).hd = m.hd := rfl

/-- Setting bits leaves `pw`. -/
@[simp] theorem Chip.orBits_pw (m : Chip) (sp off : Nat) (b : Word) : (m.orBits sp off b).pw = m.pw := rfl

/-- Setting bits leaves `keep`. -/
@[simp] theorem Chip.orBits_keep (m : Chip) (sp off : Nat) (b : Word) : (m.orBits sp off b).keep = m.keep := rfl

/-- Setting bits leaves `phrase`. -/
@[simp] theorem Chip.orBits_phrase (m : Chip) (sp off : Nat) (b : Word) : (m.orBits sp off b).phrase = m.phrase := rfl

/-- Setting bits leaves `tb`. -/
@[simp] theorem Chip.orBits_tb (m : Chip) (sp off : Nat) (b : Word) : (m.orBits sp off b).tb = m.tb := rfl

/-- Setting bits leaves `win`. -/
@[simp] theorem Chip.orBits_win (m : Chip) (sp off : Nat) (b : Word) : (m.orBits sp off b).win = m.win := rfl

/-- Setting bits leaves `cc`. -/
@[simp] theorem Chip.orBits_cc (m : Chip) (sp off : Nat) (b : Word) : (m.orBits sp off b).cc = m.cc := rfl

/-- Setting bits leaves `loam`. -/
@[simp] theorem Chip.orBits_loam (m : Chip) (sp off : Nat) (b : Word) : (m.orBits sp off b).loam = m.loam := rfl

/-- Setting bits leaves `chans`. -/
@[simp] theorem Chip.orBits_chans (m : Chip) (sp off : Nat) (b : Word) : (m.orBits sp off b).chans = m.chans := rfl

/-- Setting bits leaves `hkc`. -/
@[simp] theorem Chip.orBits_hkc (m : Chip) (sp off : Nat) (b : Word) : (m.orBits sp off b).hkc = m.hkc := rfl

/-- Setting bits leaves `cal`. -/
@[simp] theorem Chip.orBits_cal (m : Chip) (sp off : Nat) (b : Word) : (m.orBits sp off b).cal = m.cal := rfl

/-- Setting bits leaves `st`. -/
@[simp] theorem Chip.orBits_st (m : Chip) (sp off : Nat) (b : Word) : (m.orBits sp off b).st = m.st := rfl

/-- Setting bits leaves `pipe`. -/
@[simp] theorem Chip.orBits_pipe (m : Chip) (sp off : Nat) (b : Word) : (m.orBits sp off b).pipe = m.pipe := rfl

/-- Setting bits leaves `cams`. -/
@[simp] theorem Chip.orBits_cams (m : Chip) (sp off : Nat) (b : Word) : (m.orBits sp off b).cams = m.cams := rfl

/-- Setting bits leaves `streams`. -/
@[simp] theorem Chip.orBits_streams (m : Chip) (sp off : Nat) (b : Word) : (m.orBits sp off b).streams = m.streams := rfl

/-- Setting bits leaves `movers`. -/
@[simp] theorem Chip.orBits_movers (m : Chip) (sp off : Nat) (b : Word) : (m.orBits sp off b).movers = m.movers := rfl

/-- Setting bits leaves `link`. -/
@[simp] theorem Chip.orBits_link (m : Chip) (sp off : Nat) (b : Word) : (m.orBits sp off b).link = m.link := rfl

/-- Setting bits leaves `wave`. -/
@[simp] theorem Chip.orBits_wave (m : Chip) (sp off : Nat) (b : Word) : (m.orBits sp off b).wave = m.wave := rfl

/-- Setting bits leaves `pins`. -/
@[simp] theorem Chip.orBits_pins (m : Chip) (sp off : Nat) (b : Word) : (m.orBits sp off b).pins = m.pins := rfl


/-! ## clrBits -/

/-- Clearing bits leaves `held`. -/
@[simp] theorem Chip.clrBits_held (m : Chip) (sp off : Nat) (b : Word) : (m.clrBits sp off b).held = m.held := rfl

/-- Clearing bits leaves `free`. -/
@[simp] theorem Chip.clrBits_free (m : Chip) (sp off : Nat) (b : Word) : (m.clrBits sp off b).free = m.free := rfl

/-- Clearing bits leaves `hd`. -/
@[simp] theorem Chip.clrBits_hd (m : Chip) (sp off : Nat) (b : Word) : (m.clrBits sp off b).hd = m.hd := rfl

/-- Clearing bits leaves `cyc`. -/
@[simp] theorem Chip.clrBits_cyc (m : Chip) (sp off : Nat) (b : Word) : (m.clrBits sp off b).cyc = m.cyc := rfl

/-- Clearing bits leaves `pw`. -/
@[simp] theorem Chip.clrBits_pw (m : Chip) (sp off : Nat) (b : Word) : (m.clrBits sp off b).pw = m.pw := rfl

/-- Clearing bits leaves `keep`. -/
@[simp] theorem Chip.clrBits_keep (m : Chip) (sp off : Nat) (b : Word) : (m.clrBits sp off b).keep = m.keep := rfl

/-- Clearing bits leaves `phrase`. -/
@[simp] theorem Chip.clrBits_phrase (m : Chip) (sp off : Nat) (b : Word) : (m.clrBits sp off b).phrase = m.phrase := rfl

/-- Clearing bits leaves `tb`. -/
@[simp] theorem Chip.clrBits_tb (m : Chip) (sp off : Nat) (b : Word) : (m.clrBits sp off b).tb = m.tb := rfl

/-- Clearing bits leaves `win`. -/
@[simp] theorem Chip.clrBits_win (m : Chip) (sp off : Nat) (b : Word) : (m.clrBits sp off b).win = m.win := rfl

/-- Clearing bits leaves `cc`. -/
@[simp] theorem Chip.clrBits_cc (m : Chip) (sp off : Nat) (b : Word) : (m.clrBits sp off b).cc = m.cc := rfl

/-- Clearing bits leaves `loam`. -/
@[simp] theorem Chip.clrBits_loam (m : Chip) (sp off : Nat) (b : Word) : (m.clrBits sp off b).loam = m.loam := rfl

/-- Clearing bits leaves `chans`. -/
@[simp] theorem Chip.clrBits_chans (m : Chip) (sp off : Nat) (b : Word) : (m.clrBits sp off b).chans = m.chans := rfl

/-- Clearing bits leaves `hkc`. -/
@[simp] theorem Chip.clrBits_hkc (m : Chip) (sp off : Nat) (b : Word) : (m.clrBits sp off b).hkc = m.hkc := rfl

/-- Clearing bits leaves `cal`. -/
@[simp] theorem Chip.clrBits_cal (m : Chip) (sp off : Nat) (b : Word) : (m.clrBits sp off b).cal = m.cal := rfl

/-- Clearing bits leaves `st`. -/
@[simp] theorem Chip.clrBits_st (m : Chip) (sp off : Nat) (b : Word) : (m.clrBits sp off b).st = m.st := rfl

/-- Clearing bits leaves `pipe`. -/
@[simp] theorem Chip.clrBits_pipe (m : Chip) (sp off : Nat) (b : Word) : (m.clrBits sp off b).pipe = m.pipe := rfl

/-- Clearing bits leaves `cams`. -/
@[simp] theorem Chip.clrBits_cams (m : Chip) (sp off : Nat) (b : Word) : (m.clrBits sp off b).cams = m.cams := rfl

/-- Clearing bits leaves `streams`. -/
@[simp] theorem Chip.clrBits_streams (m : Chip) (sp off : Nat) (b : Word) : (m.clrBits sp off b).streams = m.streams := rfl

/-- Clearing bits leaves `movers`. -/
@[simp] theorem Chip.clrBits_movers (m : Chip) (sp off : Nat) (b : Word) : (m.clrBits sp off b).movers = m.movers := rfl

/-- Clearing bits leaves `link`. -/
@[simp] theorem Chip.clrBits_link (m : Chip) (sp off : Nat) (b : Word) : (m.clrBits sp off b).link = m.link := rfl

/-- Clearing bits leaves `wave`. -/
@[simp] theorem Chip.clrBits_wave (m : Chip) (sp off : Nat) (b : Word) : (m.clrBits sp off b).wave = m.wave := rfl

/-- Clearing bits leaves `pins`. -/
@[simp] theorem Chip.clrBits_pins (m : Chip) (sp off : Nat) (b : Word) : (m.clrBits sp off b).pins = m.pins := rfl


/-! ## bump -/

/-- A counter leaves `held`. -/
@[simp] theorem Chip.bump_held (m : Chip) (sp off n : Nat) : (m.bump sp off n).held = m.held := rfl

/-- A counter leaves `free`. -/
@[simp] theorem Chip.bump_free (m : Chip) (sp off n : Nat) : (m.bump sp off n).free = m.free := rfl

/-- A counter leaves `hd`. -/
@[simp] theorem Chip.bump_hd (m : Chip) (sp off n : Nat) : (m.bump sp off n).hd = m.hd := rfl

/-- A counter leaves `pw`. -/
@[simp] theorem Chip.bump_pw (m : Chip) (sp off n : Nat) : (m.bump sp off n).pw = m.pw := rfl

/-- A counter leaves `keep`. -/
@[simp] theorem Chip.bump_keep (m : Chip) (sp off n : Nat) : (m.bump sp off n).keep = m.keep := rfl

/-- A counter leaves `phrase`. -/
@[simp] theorem Chip.bump_phrase (m : Chip) (sp off n : Nat) : (m.bump sp off n).phrase = m.phrase := rfl

/-- A counter leaves `tb`. -/
@[simp] theorem Chip.bump_tb (m : Chip) (sp off n : Nat) : (m.bump sp off n).tb = m.tb := rfl

/-- A counter leaves `win`. -/
@[simp] theorem Chip.bump_win (m : Chip) (sp off n : Nat) : (m.bump sp off n).win = m.win := rfl

/-- A counter leaves `cc`. -/
@[simp] theorem Chip.bump_cc (m : Chip) (sp off n : Nat) : (m.bump sp off n).cc = m.cc := rfl

/-- A counter leaves `loam`. -/
@[simp] theorem Chip.bump_loam (m : Chip) (sp off n : Nat) : (m.bump sp off n).loam = m.loam := rfl

/-- A counter leaves `chans`. -/
@[simp] theorem Chip.bump_chans (m : Chip) (sp off n : Nat) : (m.bump sp off n).chans = m.chans := rfl

/-- A counter leaves `hkc`. -/
@[simp] theorem Chip.bump_hkc (m : Chip) (sp off n : Nat) : (m.bump sp off n).hkc = m.hkc := rfl

/-- A counter leaves `cal`. -/
@[simp] theorem Chip.bump_cal (m : Chip) (sp off n : Nat) : (m.bump sp off n).cal = m.cal := rfl

/-- A counter leaves `st`. -/
@[simp] theorem Chip.bump_st (m : Chip) (sp off n : Nat) : (m.bump sp off n).st = m.st := rfl

/-- A counter leaves `pipe`. -/
@[simp] theorem Chip.bump_pipe (m : Chip) (sp off n : Nat) : (m.bump sp off n).pipe = m.pipe := rfl

/-- A counter leaves `cams`. -/
@[simp] theorem Chip.bump_cams (m : Chip) (sp off n : Nat) : (m.bump sp off n).cams = m.cams := rfl

/-- A counter leaves `streams`. -/
@[simp] theorem Chip.bump_streams (m : Chip) (sp off n : Nat) : (m.bump sp off n).streams = m.streams := rfl

/-- A counter leaves `movers`. -/
@[simp] theorem Chip.bump_movers (m : Chip) (sp off n : Nat) : (m.bump sp off n).movers = m.movers := rfl

/-- A counter leaves `link`. -/
@[simp] theorem Chip.bump_link (m : Chip) (sp off n : Nat) : (m.bump sp off n).link = m.link := rfl

/-- A counter leaves `wave`. -/
@[simp] theorem Chip.bump_wave (m : Chip) (sp off n : Nat) : (m.bump sp off n).wave = m.wave := rfl

/-- A counter leaves `pins`. -/
@[simp] theorem Chip.bump_pins (m : Chip) (sp off n : Nat) : (m.bump sp off n).pins = m.pins := rfl


/-! ## wr32 -/

/-- A 32-bit item leaves `held`. -/
@[simp] theorem Chip.wr32_held (m : Chip) (sp off v : Nat) : (m.wr32 sp off v).held = m.held := rfl

/-- A 32-bit item leaves `free`. -/
@[simp] theorem Chip.wr32_free (m : Chip) (sp off v : Nat) : (m.wr32 sp off v).free = m.free := rfl

/-- A 32-bit item leaves `hd`. -/
@[simp] theorem Chip.wr32_hd (m : Chip) (sp off v : Nat) : (m.wr32 sp off v).hd = m.hd := rfl

/-- A 32-bit item leaves `cyc`. -/
@[simp] theorem Chip.wr32_cyc (m : Chip) (sp off v : Nat) : (m.wr32 sp off v).cyc = m.cyc := rfl

/-- A 32-bit item leaves `pw`. -/
@[simp] theorem Chip.wr32_pw (m : Chip) (sp off v : Nat) : (m.wr32 sp off v).pw = m.pw := rfl

/-- A 32-bit item leaves `keep`. -/
@[simp] theorem Chip.wr32_keep (m : Chip) (sp off v : Nat) : (m.wr32 sp off v).keep = m.keep := rfl

/-- A 32-bit item leaves `phrase`. -/
@[simp] theorem Chip.wr32_phrase (m : Chip) (sp off v : Nat) : (m.wr32 sp off v).phrase = m.phrase := rfl

/-- A 32-bit item leaves `tb`. -/
@[simp] theorem Chip.wr32_tb (m : Chip) (sp off v : Nat) : (m.wr32 sp off v).tb = m.tb := rfl

/-- A 32-bit item leaves `win`. -/
@[simp] theorem Chip.wr32_win (m : Chip) (sp off v : Nat) : (m.wr32 sp off v).win = m.win := rfl

/-- A 32-bit item leaves `cc`. -/
@[simp] theorem Chip.wr32_cc (m : Chip) (sp off v : Nat) : (m.wr32 sp off v).cc = m.cc := rfl

/-- A 32-bit item leaves `loam`. -/
@[simp] theorem Chip.wr32_loam (m : Chip) (sp off v : Nat) : (m.wr32 sp off v).loam = m.loam := rfl

/-- A 32-bit item leaves `chans`. -/
@[simp] theorem Chip.wr32_chans (m : Chip) (sp off v : Nat) : (m.wr32 sp off v).chans = m.chans := rfl

/-- A 32-bit item leaves `hkc`. -/
@[simp] theorem Chip.wr32_hkc (m : Chip) (sp off v : Nat) : (m.wr32 sp off v).hkc = m.hkc := rfl

/-- A 32-bit item leaves `cal`. -/
@[simp] theorem Chip.wr32_cal (m : Chip) (sp off v : Nat) : (m.wr32 sp off v).cal = m.cal := rfl

/-- A 32-bit item leaves `st`. -/
@[simp] theorem Chip.wr32_st (m : Chip) (sp off v : Nat) : (m.wr32 sp off v).st = m.st := rfl

/-- A 32-bit item leaves `pipe`. -/
@[simp] theorem Chip.wr32_pipe (m : Chip) (sp off v : Nat) : (m.wr32 sp off v).pipe = m.pipe := rfl

/-- A 32-bit item leaves `cams`. -/
@[simp] theorem Chip.wr32_cams (m : Chip) (sp off v : Nat) : (m.wr32 sp off v).cams = m.cams := rfl

/-- A 32-bit item leaves `streams`. -/
@[simp] theorem Chip.wr32_streams (m : Chip) (sp off v : Nat) : (m.wr32 sp off v).streams = m.streams := rfl

/-- A 32-bit item leaves `movers`. -/
@[simp] theorem Chip.wr32_movers (m : Chip) (sp off v : Nat) : (m.wr32 sp off v).movers = m.movers := rfl

/-- A 32-bit item leaves `link`. -/
@[simp] theorem Chip.wr32_link (m : Chip) (sp off v : Nat) : (m.wr32 sp off v).link = m.link := rfl

/-- A 32-bit item leaves `wave`. -/
@[simp] theorem Chip.wr32_wave (m : Chip) (sp off v : Nat) : (m.wr32 sp off v).wave = m.wave := rfl

/-- A 32-bit item leaves `pins`. -/
@[simp] theorem Chip.wr32_pins (m : Chip) (sp off v : Nat) : (m.wr32 sp off v).pins = m.pins := rfl


/-! ## wr64 -/

/-- A 64-bit item leaves `held`. -/
@[simp] theorem Chip.wr64_held (m : Chip) (sp off v : Nat) : (m.wr64 sp off v).held = m.held := rfl

/-- A 64-bit item leaves `free`. -/
@[simp] theorem Chip.wr64_free (m : Chip) (sp off v : Nat) : (m.wr64 sp off v).free = m.free := rfl

/-- A 64-bit item leaves `hd`. -/
@[simp] theorem Chip.wr64_hd (m : Chip) (sp off v : Nat) : (m.wr64 sp off v).hd = m.hd := rfl

/-- A 64-bit item leaves `cyc`. -/
@[simp] theorem Chip.wr64_cyc (m : Chip) (sp off v : Nat) : (m.wr64 sp off v).cyc = m.cyc := rfl

/-- A 64-bit item leaves `pw`. -/
@[simp] theorem Chip.wr64_pw (m : Chip) (sp off v : Nat) : (m.wr64 sp off v).pw = m.pw := rfl

/-- A 64-bit item leaves `keep`. -/
@[simp] theorem Chip.wr64_keep (m : Chip) (sp off v : Nat) : (m.wr64 sp off v).keep = m.keep := rfl

/-- A 64-bit item leaves `phrase`. -/
@[simp] theorem Chip.wr64_phrase (m : Chip) (sp off v : Nat) : (m.wr64 sp off v).phrase = m.phrase := rfl

/-- A 64-bit item leaves `tb`. -/
@[simp] theorem Chip.wr64_tb (m : Chip) (sp off v : Nat) : (m.wr64 sp off v).tb = m.tb := rfl

/-- A 64-bit item leaves `win`. -/
@[simp] theorem Chip.wr64_win (m : Chip) (sp off v : Nat) : (m.wr64 sp off v).win = m.win := rfl

/-- A 64-bit item leaves `cc`. -/
@[simp] theorem Chip.wr64_cc (m : Chip) (sp off v : Nat) : (m.wr64 sp off v).cc = m.cc := rfl

/-- A 64-bit item leaves `loam`. -/
@[simp] theorem Chip.wr64_loam (m : Chip) (sp off v : Nat) : (m.wr64 sp off v).loam = m.loam := rfl

/-- A 64-bit item leaves `chans`. -/
@[simp] theorem Chip.wr64_chans (m : Chip) (sp off v : Nat) : (m.wr64 sp off v).chans = m.chans := rfl

/-- A 64-bit item leaves `hkc`. -/
@[simp] theorem Chip.wr64_hkc (m : Chip) (sp off v : Nat) : (m.wr64 sp off v).hkc = m.hkc := rfl

/-- A 64-bit item leaves `cal`. -/
@[simp] theorem Chip.wr64_cal (m : Chip) (sp off v : Nat) : (m.wr64 sp off v).cal = m.cal := rfl

/-- A 64-bit item leaves `st`. -/
@[simp] theorem Chip.wr64_st (m : Chip) (sp off v : Nat) : (m.wr64 sp off v).st = m.st := rfl

/-- A 64-bit item leaves `pipe`. -/
@[simp] theorem Chip.wr64_pipe (m : Chip) (sp off v : Nat) : (m.wr64 sp off v).pipe = m.pipe := rfl

/-- A 64-bit item leaves `cams`. -/
@[simp] theorem Chip.wr64_cams (m : Chip) (sp off v : Nat) : (m.wr64 sp off v).cams = m.cams := rfl

/-- A 64-bit item leaves `streams`. -/
@[simp] theorem Chip.wr64_streams (m : Chip) (sp off v : Nat) : (m.wr64 sp off v).streams = m.streams := rfl

/-- A 64-bit item leaves `movers`. -/
@[simp] theorem Chip.wr64_movers (m : Chip) (sp off v : Nat) : (m.wr64 sp off v).movers = m.movers := rfl

/-- A 64-bit item leaves `link`. -/
@[simp] theorem Chip.wr64_link (m : Chip) (sp off v : Nat) : (m.wr64 sp off v).link = m.link := rfl

/-- A 64-bit item leaves `wave`. -/
@[simp] theorem Chip.wr64_wave (m : Chip) (sp off v : Nat) : (m.wr64 sp off v).wave = m.wave := rfl

/-- A 64-bit item leaves `pins`. -/
@[simp] theorem Chip.wr64_pins (m : Chip) (sp off v : Nat) : (m.wr64 sp off v).pins = m.pins := rfl


/-! ## ledger -/

/-- A ledger increment leaves `regs`. -/
@[simp] theorem Chip.ledger_regs (m : Chip) (i n : Nat) : (m.ledger i n).regs = m.regs := rfl

/-- A ledger increment leaves `held`. -/
@[simp] theorem Chip.ledger_held (m : Chip) (i n : Nat) : (m.ledger i n).held = m.held := rfl

/-- A ledger increment leaves `free`. -/
@[simp] theorem Chip.ledger_free (m : Chip) (i n : Nat) : (m.ledger i n).free = m.free := rfl

/-- A ledger increment leaves `hd`. -/
@[simp] theorem Chip.ledger_hd (m : Chip) (i n : Nat) : (m.ledger i n).hd = m.hd := rfl

/-- A ledger increment leaves `cyc`. -/
@[simp] theorem Chip.ledger_cyc (m : Chip) (i n : Nat) : (m.ledger i n).cyc = m.cyc := rfl

/-- A ledger increment leaves `pw`. -/
@[simp] theorem Chip.ledger_pw (m : Chip) (i n : Nat) : (m.ledger i n).pw = m.pw := rfl

/-- A ledger increment leaves `keep`. -/
@[simp] theorem Chip.ledger_keep (m : Chip) (i n : Nat) : (m.ledger i n).keep = m.keep := rfl

/-- A ledger increment leaves `phrase`. -/
@[simp] theorem Chip.ledger_phrase (m : Chip) (i n : Nat) : (m.ledger i n).phrase = m.phrase := rfl

/-- A ledger increment leaves `tb`. -/
@[simp] theorem Chip.ledger_tb (m : Chip) (i n : Nat) : (m.ledger i n).tb = m.tb := rfl

/-- A ledger increment leaves `win`. -/
@[simp] theorem Chip.ledger_win (m : Chip) (i n : Nat) : (m.ledger i n).win = m.win := rfl

/-- A ledger increment leaves `cc`. -/
@[simp] theorem Chip.ledger_cc (m : Chip) (i n : Nat) : (m.ledger i n).cc = m.cc := rfl

/-- A ledger increment leaves `loam`. -/
@[simp] theorem Chip.ledger_loam (m : Chip) (i n : Nat) : (m.ledger i n).loam = m.loam := rfl

/-- A ledger increment leaves `chans`. -/
@[simp] theorem Chip.ledger_chans (m : Chip) (i n : Nat) : (m.ledger i n).chans = m.chans := rfl

/-- A ledger increment leaves `hkc`. -/
@[simp] theorem Chip.ledger_hkc (m : Chip) (i n : Nat) : (m.ledger i n).hkc = m.hkc := rfl

/-- A ledger increment leaves `cal`. -/
@[simp] theorem Chip.ledger_cal (m : Chip) (i n : Nat) : (m.ledger i n).cal = m.cal := rfl

/-- A ledger increment leaves `pipe`. -/
@[simp] theorem Chip.ledger_pipe (m : Chip) (i n : Nat) : (m.ledger i n).pipe = m.pipe := rfl

/-- A ledger increment leaves `cams`. -/
@[simp] theorem Chip.ledger_cams (m : Chip) (i n : Nat) : (m.ledger i n).cams = m.cams := rfl

/-- A ledger increment leaves `streams`. -/
@[simp] theorem Chip.ledger_streams (m : Chip) (i n : Nat) : (m.ledger i n).streams = m.streams := rfl

/-- A ledger increment leaves `movers`. -/
@[simp] theorem Chip.ledger_movers (m : Chip) (i n : Nat) : (m.ledger i n).movers = m.movers := rfl

/-- A ledger increment leaves `link`. -/
@[simp] theorem Chip.ledger_link (m : Chip) (i n : Nat) : (m.ledger i n).link = m.link := rfl

/-- A ledger increment leaves `wave`. -/
@[simp] theorem Chip.ledger_wave (m : Chip) (i n : Nat) : (m.ledger i n).wave = m.wave := rfl

/-- A ledger increment leaves `pins`. -/
@[simp] theorem Chip.ledger_pins (m : Chip) (i n : Nat) : (m.ledger i n).pins = m.pins := rfl


/-! ## settle -/

/-- IRQ_N leaves `regs`. -/
@[simp] theorem Chip.settle_regs (m : Chip) : (m.settle).regs = m.regs := rfl

/-- IRQ_N leaves `held`. -/
@[simp] theorem Chip.settle_held (m : Chip) : (m.settle).held = m.held := rfl

/-- IRQ_N leaves `free`. -/
@[simp] theorem Chip.settle_free (m : Chip) : (m.settle).free = m.free := rfl

/-- IRQ_N leaves `hd`. -/
@[simp] theorem Chip.settle_hd (m : Chip) : (m.settle).hd = m.hd := rfl

/-- IRQ_N leaves `cyc`. -/
@[simp] theorem Chip.settle_cyc (m : Chip) : (m.settle).cyc = m.cyc := rfl

/-- IRQ_N leaves `pw`. -/
@[simp] theorem Chip.settle_pw (m : Chip) : (m.settle).pw = m.pw := rfl

/-- IRQ_N leaves `keep`. -/
@[simp] theorem Chip.settle_keep (m : Chip) : (m.settle).keep = m.keep := rfl

/-- IRQ_N leaves `phrase`. -/
@[simp] theorem Chip.settle_phrase (m : Chip) : (m.settle).phrase = m.phrase := rfl

/-- IRQ_N leaves `tb`. -/
@[simp] theorem Chip.settle_tb (m : Chip) : (m.settle).tb = m.tb := rfl

/-- IRQ_N leaves `win`. -/
@[simp] theorem Chip.settle_win (m : Chip) : (m.settle).win = m.win := rfl

/-- IRQ_N leaves `cc`. -/
@[simp] theorem Chip.settle_cc (m : Chip) : (m.settle).cc = m.cc := rfl

/-- IRQ_N leaves `loam`. -/
@[simp] theorem Chip.settle_loam (m : Chip) : (m.settle).loam = m.loam := rfl

/-- IRQ_N leaves `chans`. -/
@[simp] theorem Chip.settle_chans (m : Chip) : (m.settle).chans = m.chans := rfl

/-- IRQ_N leaves `hkc`. -/
@[simp] theorem Chip.settle_hkc (m : Chip) : (m.settle).hkc = m.hkc := rfl

/-- IRQ_N leaves `cal`. -/
@[simp] theorem Chip.settle_cal (m : Chip) : (m.settle).cal = m.cal := rfl

/-- IRQ_N leaves `st`. -/
@[simp] theorem Chip.settle_st (m : Chip) : (m.settle).st = m.st := rfl

/-- IRQ_N leaves `pipe`. -/
@[simp] theorem Chip.settle_pipe (m : Chip) : (m.settle).pipe = m.pipe := rfl

/-- IRQ_N leaves `cams`. -/
@[simp] theorem Chip.settle_cams (m : Chip) : (m.settle).cams = m.cams := rfl

/-- IRQ_N leaves `streams`. -/
@[simp] theorem Chip.settle_streams (m : Chip) : (m.settle).streams = m.streams := rfl

/-- IRQ_N leaves `movers`. -/
@[simp] theorem Chip.settle_movers (m : Chip) : (m.settle).movers = m.movers := rfl

/-- IRQ_N leaves `link`. -/
@[simp] theorem Chip.settle_link (m : Chip) : (m.settle).link = m.link := rfl

/-- IRQ_N leaves `wave`. -/
@[simp] theorem Chip.settle_wave (m : Chip) : (m.settle).wave = m.wave := rfl


/-! ## plainWrite -/

/-- A plain write leaves `held`. -/
@[simp] theorem Chip.plainWrite_held (m : Chip) (sp off : Nat) (v : Word) : (m.plainWrite sp off v).held = m.held := by
  unfold Chip.plainWrite; split <;> rfl

/-- A plain write leaves `free`. -/
@[simp] theorem Chip.plainWrite_free (m : Chip) (sp off : Nat) (v : Word) : (m.plainWrite sp off v).free = m.free := by
  unfold Chip.plainWrite; split <;> rfl

/-- A plain write leaves `hd`. -/
@[simp] theorem Chip.plainWrite_hd (m : Chip) (sp off : Nat) (v : Word) : (m.plainWrite sp off v).hd = m.hd := by
  unfold Chip.plainWrite; split <;> rfl

/-- A plain write leaves `cyc`. -/
@[simp] theorem Chip.plainWrite_cyc (m : Chip) (sp off : Nat) (v : Word) : (m.plainWrite sp off v).cyc = m.cyc := by
  unfold Chip.plainWrite; split <;> rfl

/-- A plain write leaves `pw`. -/
@[simp] theorem Chip.plainWrite_pw (m : Chip) (sp off : Nat) (v : Word) : (m.plainWrite sp off v).pw = m.pw := by
  unfold Chip.plainWrite; split <;> rfl

/-- A plain write leaves `keep`. -/
@[simp] theorem Chip.plainWrite_keep (m : Chip) (sp off : Nat) (v : Word) : (m.plainWrite sp off v).keep = m.keep := by
  unfold Chip.plainWrite; split <;> rfl

/-- A plain write leaves `phrase`. -/
@[simp] theorem Chip.plainWrite_phrase (m : Chip) (sp off : Nat) (v : Word) : (m.plainWrite sp off v).phrase = m.phrase := by
  unfold Chip.plainWrite; split <;> rfl

/-- A plain write leaves `tb`. -/
@[simp] theorem Chip.plainWrite_tb (m : Chip) (sp off : Nat) (v : Word) : (m.plainWrite sp off v).tb = m.tb := by
  unfold Chip.plainWrite; split <;> rfl

/-- A plain write leaves `win`. -/
@[simp] theorem Chip.plainWrite_win (m : Chip) (sp off : Nat) (v : Word) : (m.plainWrite sp off v).win = m.win := by
  unfold Chip.plainWrite; split <;> rfl

/-- A plain write leaves `cc`. -/
@[simp] theorem Chip.plainWrite_cc (m : Chip) (sp off : Nat) (v : Word) : (m.plainWrite sp off v).cc = m.cc := by
  unfold Chip.plainWrite; split <;> rfl

/-- A plain write leaves `loam`. -/
@[simp] theorem Chip.plainWrite_loam (m : Chip) (sp off : Nat) (v : Word) : (m.plainWrite sp off v).loam = m.loam := by
  unfold Chip.plainWrite; split <;> rfl

/-- A plain write leaves `chans`. -/
@[simp] theorem Chip.plainWrite_chans (m : Chip) (sp off : Nat) (v : Word) : (m.plainWrite sp off v).chans = m.chans := by
  unfold Chip.plainWrite; split <;> rfl

/-- A plain write leaves `hkc`. -/
@[simp] theorem Chip.plainWrite_hkc (m : Chip) (sp off : Nat) (v : Word) : (m.plainWrite sp off v).hkc = m.hkc := by
  unfold Chip.plainWrite; split <;> rfl

/-- A plain write leaves `cal`. -/
@[simp] theorem Chip.plainWrite_cal (m : Chip) (sp off : Nat) (v : Word) : (m.plainWrite sp off v).cal = m.cal := by
  unfold Chip.plainWrite; split <;> rfl

/-- A plain write leaves `st`. -/
@[simp] theorem Chip.plainWrite_st (m : Chip) (sp off : Nat) (v : Word) : (m.plainWrite sp off v).st = m.st := by
  unfold Chip.plainWrite; split <;> rfl

/-- A plain write leaves `pipe`. -/
@[simp] theorem Chip.plainWrite_pipe (m : Chip) (sp off : Nat) (v : Word) : (m.plainWrite sp off v).pipe = m.pipe := by
  unfold Chip.plainWrite; split <;> rfl

/-- A plain write leaves `cams`. -/
@[simp] theorem Chip.plainWrite_cams (m : Chip) (sp off : Nat) (v : Word) : (m.plainWrite sp off v).cams = m.cams := by
  unfold Chip.plainWrite; split <;> rfl

/-- A plain write leaves `streams`. -/
@[simp] theorem Chip.plainWrite_streams (m : Chip) (sp off : Nat) (v : Word) : (m.plainWrite sp off v).streams = m.streams := by
  unfold Chip.plainWrite; split <;> rfl

/-- A plain write leaves `movers`. -/
@[simp] theorem Chip.plainWrite_movers (m : Chip) (sp off : Nat) (v : Word) : (m.plainWrite sp off v).movers = m.movers := by
  unfold Chip.plainWrite; split <;> rfl

/-- A plain write leaves `link`. -/
@[simp] theorem Chip.plainWrite_link (m : Chip) (sp off : Nat) (v : Word) : (m.plainWrite sp off v).link = m.link := by
  unfold Chip.plainWrite; split <;> rfl

/-- A plain write leaves `wave`. -/
@[simp] theorem Chip.plainWrite_wave (m : Chip) (sp off : Nat) (v : Word) : (m.plainWrite sp off v).wave = m.wave := by
  unfold Chip.plainWrite; split <;> rfl

/-- A plain write leaves `pins`. -/
@[simp] theorem Chip.plainWrite_pins (m : Chip) (sp off : Nat) (v : Word) : (m.plainWrite sp off v).pins = m.pins := by
  unfold Chip.plainWrite; split <;> rfl


/-! ## raise -/

/-- Raising an event leaves `held`. -/
@[simp] theorem Chip.raise_held (m : Chip) (n : Nat) : (m.raise n).held = m.held := by
  unfold Chip.raise; split <;> rfl

/-- Raising an event leaves `free`. -/
@[simp] theorem Chip.raise_free (m : Chip) (n : Nat) : (m.raise n).free = m.free := by
  unfold Chip.raise; split <;> rfl

/-- Raising an event leaves `hd`. -/
@[simp] theorem Chip.raise_hd (m : Chip) (n : Nat) : (m.raise n).hd = m.hd := by
  unfold Chip.raise; split <;> rfl

/-- Raising an event leaves `keep`. -/
@[simp] theorem Chip.raise_keep (m : Chip) (n : Nat) : (m.raise n).keep = m.keep := by
  unfold Chip.raise; split <;> rfl

/-- Raising an event leaves `phrase`. -/
@[simp] theorem Chip.raise_phrase (m : Chip) (n : Nat) : (m.raise n).phrase = m.phrase := by
  unfold Chip.raise; split <;> rfl

/-- Raising an event leaves `tb`. -/
@[simp] theorem Chip.raise_tb (m : Chip) (n : Nat) : (m.raise n).tb = m.tb := by
  unfold Chip.raise; split <;> rfl

/-- Raising an event leaves `win`. -/
@[simp] theorem Chip.raise_win (m : Chip) (n : Nat) : (m.raise n).win = m.win := by
  unfold Chip.raise; split <;> rfl

/-- Raising an event leaves `cc`. -/
@[simp] theorem Chip.raise_cc (m : Chip) (n : Nat) : (m.raise n).cc = m.cc := by
  unfold Chip.raise; split <;> rfl

/-- Raising an event leaves `loam`. -/
@[simp] theorem Chip.raise_loam (m : Chip) (n : Nat) : (m.raise n).loam = m.loam := by
  unfold Chip.raise; split <;> rfl

/-- Raising an event leaves `chans`. -/
@[simp] theorem Chip.raise_chans (m : Chip) (n : Nat) : (m.raise n).chans = m.chans := by
  unfold Chip.raise; split <;> rfl

/-- Raising an event leaves `hkc`. -/
@[simp] theorem Chip.raise_hkc (m : Chip) (n : Nat) : (m.raise n).hkc = m.hkc := by
  unfold Chip.raise; split <;> rfl

/-- Raising an event leaves `cal`. -/
@[simp] theorem Chip.raise_cal (m : Chip) (n : Nat) : (m.raise n).cal = m.cal := by
  unfold Chip.raise; split <;> rfl

/-- Raising an event leaves `st`. -/
@[simp] theorem Chip.raise_st (m : Chip) (n : Nat) : (m.raise n).st = m.st := by
  unfold Chip.raise; split <;> rfl

/-- Raising an event leaves `pipe`. -/
@[simp] theorem Chip.raise_pipe (m : Chip) (n : Nat) : (m.raise n).pipe = m.pipe := by
  unfold Chip.raise; split <;> rfl

/-- Raising an event leaves `cams`. -/
@[simp] theorem Chip.raise_cams (m : Chip) (n : Nat) : (m.raise n).cams = m.cams := by
  unfold Chip.raise; split <;> rfl

/-- Raising an event leaves `streams`. -/
@[simp] theorem Chip.raise_streams (m : Chip) (n : Nat) : (m.raise n).streams = m.streams := by
  unfold Chip.raise; split <;> rfl

/-- Raising an event leaves `movers`. -/
@[simp] theorem Chip.raise_movers (m : Chip) (n : Nat) : (m.raise n).movers = m.movers := by
  unfold Chip.raise; split <;> rfl

/-- Raising an event leaves `link`. -/
@[simp] theorem Chip.raise_link (m : Chip) (n : Nat) : (m.raise n).link = m.link := by
  unfold Chip.raise; split <;> rfl

/-- Raising an event leaves `wave`. -/
@[simp] theorem Chip.raise_wave (m : Chip) (n : Nat) : (m.raise n).wave = m.wave := by
  unfold Chip.raise; split <;> rfl

/-- Raising an event leaves `pins`. -/
@[simp] theorem Chip.raise_pins (m : Chip) (n : Nat) : (m.raise n).pins = m.pins := by
  unfold Chip.raise; split <;> rfl

/-! ## begin -/

/-- A source that acts leaves `regs`. -/
@[simp] theorem Chip.begin_regs (m : Chip) (src : Nat) : (m.begin src).regs = m.regs := rfl

/-- A source that acts leaves `held`. -/
@[simp] theorem Chip.begin_held (m : Chip) (src : Nat) : (m.begin src).held = m.held := rfl

/-- A source that acts leaves `free`. -/
@[simp] theorem Chip.begin_free (m : Chip) (src : Nat) : (m.begin src).free = m.free := rfl

/-- A source that acts leaves `hd`. -/
@[simp] theorem Chip.begin_hd (m : Chip) (src : Nat) : (m.begin src).hd = m.hd := rfl

/-- A source that acts leaves `pw`. -/
@[simp] theorem Chip.begin_pw (m : Chip) (src : Nat) : (m.begin src).pw = m.pw := rfl

/-- A source that acts leaves `keep`. -/
@[simp] theorem Chip.begin_keep (m : Chip) (src : Nat) : (m.begin src).keep = m.keep := rfl

/-- A source that acts leaves `phrase`. -/
@[simp] theorem Chip.begin_phrase (m : Chip) (src : Nat) : (m.begin src).phrase = m.phrase := rfl

/-- A source that acts leaves `tb`. -/
@[simp] theorem Chip.begin_tb (m : Chip) (src : Nat) : (m.begin src).tb = m.tb := rfl

/-- A source that acts leaves `win`. -/
@[simp] theorem Chip.begin_win (m : Chip) (src : Nat) : (m.begin src).win = m.win := rfl

/-- A source that acts leaves `cc`. -/
@[simp] theorem Chip.begin_cc (m : Chip) (src : Nat) : (m.begin src).cc = m.cc := rfl

/-- A source that acts leaves `loam`. -/
@[simp] theorem Chip.begin_loam (m : Chip) (src : Nat) : (m.begin src).loam = m.loam := rfl

/-- A source that acts leaves `chans`. -/
@[simp] theorem Chip.begin_chans (m : Chip) (src : Nat) : (m.begin src).chans = m.chans := rfl

/-- A source that acts leaves `hkc`. -/
@[simp] theorem Chip.begin_hkc (m : Chip) (src : Nat) : (m.begin src).hkc = m.hkc := rfl

/-- A source that acts leaves `cal`. -/
@[simp] theorem Chip.begin_cal (m : Chip) (src : Nat) : (m.begin src).cal = m.cal := rfl

/-- A source that acts leaves `st`. -/
@[simp] theorem Chip.begin_st (m : Chip) (src : Nat) : (m.begin src).st = m.st := rfl

/-- A source that acts leaves `pipe`. -/
@[simp] theorem Chip.begin_pipe (m : Chip) (src : Nat) : (m.begin src).pipe = m.pipe := rfl

/-- A source that acts leaves `cams`. -/
@[simp] theorem Chip.begin_cams (m : Chip) (src : Nat) : (m.begin src).cams = m.cams := rfl

/-- A source that acts leaves `streams`. -/
@[simp] theorem Chip.begin_streams (m : Chip) (src : Nat) : (m.begin src).streams = m.streams := rfl

/-- A source that acts leaves `movers`. -/
@[simp] theorem Chip.begin_movers (m : Chip) (src : Nat) : (m.begin src).movers = m.movers := rfl

/-- A source that acts leaves `link`. -/
@[simp] theorem Chip.begin_link (m : Chip) (src : Nat) : (m.begin src).link = m.link := rfl

/-- A source that acts leaves `wave`. -/
@[simp] theorem Chip.begin_wave (m : Chip) (src : Nat) : (m.begin src).wave = m.wave := rfl

/-- A source that acts leaves `pins`. -/
@[simp] theorem Chip.begin_pins (m : Chip) (src : Nat) : (m.begin src).pins = m.pins := rfl

/-! ## w1c -/

/-- A W1C clear leaves `held`. -/
@[simp] theorem Chip.w1c_held (m : Chip) (sp off : Nat) (b : Word) : (m.w1c sp off b).held = m.held := rfl

/-- A W1C clear leaves `free`. -/
@[simp] theorem Chip.w1c_free (m : Chip) (sp off : Nat) (b : Word) : (m.w1c sp off b).free = m.free := rfl

/-- A W1C clear leaves `hd`. -/
@[simp] theorem Chip.w1c_hd (m : Chip) (sp off : Nat) (b : Word) : (m.w1c sp off b).hd = m.hd := rfl

/-- A W1C clear leaves `cyc`. -/
@[simp] theorem Chip.w1c_cyc (m : Chip) (sp off : Nat) (b : Word) : (m.w1c sp off b).cyc = m.cyc := rfl

/-- A W1C clear leaves `pw`. -/
@[simp] theorem Chip.w1c_pw (m : Chip) (sp off : Nat) (b : Word) : (m.w1c sp off b).pw = m.pw := rfl

/-- A W1C clear leaves `keep`. -/
@[simp] theorem Chip.w1c_keep (m : Chip) (sp off : Nat) (b : Word) : (m.w1c sp off b).keep = m.keep := rfl

/-- A W1C clear leaves `phrase`. -/
@[simp] theorem Chip.w1c_phrase (m : Chip) (sp off : Nat) (b : Word) : (m.w1c sp off b).phrase = m.phrase := rfl

/-- A W1C clear leaves `tb`. -/
@[simp] theorem Chip.w1c_tb (m : Chip) (sp off : Nat) (b : Word) : (m.w1c sp off b).tb = m.tb := rfl

/-- A W1C clear leaves `win`. -/
@[simp] theorem Chip.w1c_win (m : Chip) (sp off : Nat) (b : Word) : (m.w1c sp off b).win = m.win := rfl

/-- A W1C clear leaves `cc`. -/
@[simp] theorem Chip.w1c_cc (m : Chip) (sp off : Nat) (b : Word) : (m.w1c sp off b).cc = m.cc := rfl

/-- A W1C clear leaves `loam`. -/
@[simp] theorem Chip.w1c_loam (m : Chip) (sp off : Nat) (b : Word) : (m.w1c sp off b).loam = m.loam := rfl

/-- A W1C clear leaves `chans`. -/
@[simp] theorem Chip.w1c_chans (m : Chip) (sp off : Nat) (b : Word) : (m.w1c sp off b).chans = m.chans := rfl

/-- A W1C clear leaves `hkc`. -/
@[simp] theorem Chip.w1c_hkc (m : Chip) (sp off : Nat) (b : Word) : (m.w1c sp off b).hkc = m.hkc := rfl

/-- A W1C clear leaves `cal`. -/
@[simp] theorem Chip.w1c_cal (m : Chip) (sp off : Nat) (b : Word) : (m.w1c sp off b).cal = m.cal := rfl

/-- A W1C clear leaves `st`. -/
@[simp] theorem Chip.w1c_st (m : Chip) (sp off : Nat) (b : Word) : (m.w1c sp off b).st = m.st := rfl

/-- A W1C clear leaves `pipe`. -/
@[simp] theorem Chip.w1c_pipe (m : Chip) (sp off : Nat) (b : Word) : (m.w1c sp off b).pipe = m.pipe := rfl

/-- A W1C clear leaves `cams`. -/
@[simp] theorem Chip.w1c_cams (m : Chip) (sp off : Nat) (b : Word) : (m.w1c sp off b).cams = m.cams := rfl

/-- A W1C clear leaves `streams`. -/
@[simp] theorem Chip.w1c_streams (m : Chip) (sp off : Nat) (b : Word) : (m.w1c sp off b).streams = m.streams := rfl

/-- A W1C clear leaves `movers`. -/
@[simp] theorem Chip.w1c_movers (m : Chip) (sp off : Nat) (b : Word) : (m.w1c sp off b).movers = m.movers := rfl

/-- A W1C clear leaves `link`. -/
@[simp] theorem Chip.w1c_link (m : Chip) (sp off : Nat) (b : Word) : (m.w1c sp off b).link = m.link := rfl

/-- A W1C clear leaves `wave`. -/
@[simp] theorem Chip.w1c_wave (m : Chip) (sp off : Nat) (b : Word) : (m.w1c sp off b).wave = m.wave := rfl

/-- A W1C clear leaves `pins`. -/
@[simp] theorem Chip.w1c_pins (m : Chip) (sp off : Nat) (b : Word) : (m.w1c sp off b).pins = m.pins := rfl

end Sys2Proof.Machine
end

