-- ==== Sys2Proof/Laws/Ops.lean ====
section
/-! SUPPORT. What each shared operation can do, said once. -/

namespace Sys2Proof.Machine

/-! ## Words of the chip -/

/-- A stored word is read back. -/
@[simp] theorem Chip.rd_wr_same (m : Chip) (sp off : Nat) (v : Word) : (m.wr sp off v).rd sp off = v := by
  simp [Chip.rd, Chip.wr]

/-- Any word after one word has been stored. -/
theorem Chip.get_wr (m : Chip) (sp off : Nat) (v : Word) (k : Nat) :
    Bank.get (m.wr sp off v).regs k = if k = key sp off then v else Bank.get m.regs k := by
  simp [Chip.wr, Bank.get_put]

/-- Another word of the spaces after one word has been stored. -/
theorem Chip.rd_wr_ne (m : Chip) {sp off sp' off' : Nat} (v : Word) (h : key sp' off' ≠ key sp off) :
    (m.wr sp off v).rd sp' off' = m.rd sp' off' := by
  simp [Chip.rd, Chip.get_wr, h]

/-- A shadow word is read back. -/
@[simp] theorem Chip.rdHeld_wrHeld_same (m : Chip) (sp off : Nat) (v : Word) : (m.wrHeld sp off v).rdHeld sp off = v := by
  simp [Chip.rdHeld, Chip.wrHeld]

/-- A stored word leaves the shadow words. -/
@[simp] theorem Chip.rdHeld_wr (m : Chip) (sp off : Nat) (v : Word) (sp' off' : Nat) :
    (m.wr sp off v).rdHeld sp' off' = m.rdHeld sp' off' := rfl

/-- Setting bits sets them and leaves the others of the word. -/
@[simp] theorem Chip.rd_orBits_same (m : Chip) (sp off : Nat) (b : Word) :
    (m.orBits sp off b).rd sp off = m.rd sp off ||| b := by
  simp [Chip.orBits]

/-- Clearing bits clears them and leaves the others of the word. -/
@[simp] theorem Chip.rd_clrBits_same (m : Chip) (sp off : Nat) (b : Word) :
    (m.clrBits sp off b).rd sp off = m.rd sp off &&& ~~~b := by
  simp [Chip.clrBits]

/-- A counter counts and saturates. -/
@[simp] theorem Chip.rd_bump_same (m : Chip) (sp off n : Nat) : (m.bump sp off n).rd sp off = satAdd (m.rd sp off) n := by
  simp [Chip.bump]

/-- A plain write of a word that has a row: RW bits take the value, W1C bits clear where it has a 1 unless the cycle has
set them (R6-R8, R10). -/
theorem Chip.rd_plainWrite_same (m : Chip) (sp off : Nat) (v : Word) (r : RegRow) (h : regRow sp off = some r) :
    (m.plainWrite sp off v).rd sp off =
      merge (m.rd sp off) r.rw v &&& ~~~(v &&& r.w1c &&& ~~~m.fresh sp off) := by
  simp [Chip.plainWrite, h]

/-- A plain write of a word without a row does nothing (R9). -/
theorem Chip.plainWrite_none (m : Chip) (sp off : Nat) (v : Word) (h : regRow sp off = none) : m.plainWrite sp off v = m := by
  simp [Chip.plainWrite, h]

/-- A plain write leaves every other word. -/
theorem Chip.get_plainWrite_ne (m : Chip) (sp off : Nat) (v : Word) {k : Nat} (h : k ≠ key sp off) :
    Bank.get (m.plainWrite sp off v).regs k = Bank.get m.regs k := by
  unfold Chip.plainWrite
  split
  · rfl
  · simp [Chip.get_wr, h]

/-! ## Events -/

/-- While CORE is clocked an event sets its EVSTAT bit (R557). -/
theorem Chip.raise_on (m : Chip) (n : Nat) (h : m.pw.core = true) :
    m.raise n = m.orBits 0 (0x13 + n / 16) (bitW (n % 16)) := by
  simp [Chip.raise, h]

/-- While CORE is not clocked the words stay and the cause is held in AON (R561). -/
theorem Chip.raise_off (m : Chip) (n : Nat) (h : m.pw.core = false) :
    (m.raise n).regs = m.regs ∧ (m.raise n).pw.deferred.events = m.pw.deferred.events ||| BitVec.ofNat 32 (2 ^ n) := by
  simp [Chip.raise, h]

/-- IRQ_N stands as its rule has it once it is evaluated (R558). -/
theorem Chip.settle_irq (m : Chip) : m.settle.pins.irq = m.settle.irqLevel := rfl

/-- Evaluating IRQ_N twice is evaluating it once. -/
@[simp] theorem Chip.settle_settle (m : Chip) : m.settle.settle = m.settle := rfl

/-! ## The answers of a meaning -/

/-- A meaning answers a next state with the queue as it stands. -/
theorem done_next (s : State) (m : Chip) : done s m = .next { s with chip := m.settle } := rfl

/-- What a next state of `done` is. -/
theorem done_inv {s t : State} {m : Chip} (h : done s m = .next t) : t.chip = m.settle ∧ t.pending = s.pending := by
  simp only [done, Host.Outcome.next.injEq] at h
  subst h
  exact ⟨rfl, rfl⟩

/-- An event command whose condition holds has its effect. -/
@[simp] theorem guarded_true (s : State) (m : Chip) : guarded s true m = done s m := rfl

/-- An event command whose condition does not hold changes nothing. -/
@[simp] theorem guarded_false (s : State) (m : Chip) : guarded s false m = done s s.chip := rfl

/-- A host write that the owner answers acts on the chip with the host as a source of the cycle. -/
theorem hostWrite_on (s : State) (sp off : Nat) (f : Chip → Chip) (h : s.chip.busOn = true)
    (ho : s.chip.owned sp off = true) : hostWrite s sp off f = done s (f (s.chip.begin 0)) := by
  have h' : (s.chip.begin 0).busOn = true := h
  have ho' : (s.chip.begin 0).owned sp off = true := ho
  simp [hostWrite, h', ho']

/-- A host write while the owner is off is discarded and sets BUSERR (R15). -/
theorem hostWrite_off (s : State) (sp off : Nat) (f : Chip → Chip) (h : s.chip.busOn = true)
    (ho : s.chip.owned sp off = false) : hostWrite s sp off f = done s (s.chip.begin 0).busErr := by
  have h' : (s.chip.begin 0).busOn = true := h
  have ho' : (s.chip.begin 0).owned sp off = false := ho
  simp [hostWrite, h', ho']

/-- A host write before the bus is ready does nothing (R576). -/
theorem hostWrite_notReady (s : State) (sp off : Nat) (f : Chip → Chip) (h : s.chip.busOn = false) :
    hostWrite s sp off f = done s s.chip := by
  have h' : (s.chip.begin 0).busOn = false := h
  simp [hostWrite, h']

/-- A host read that the owner answers. -/
theorem hostRead_on (s : State) (sp off : Nat) (f : Chip → Chip) (h : s.chip.busOn = true)
    (ho : s.chip.owned sp off = true) : hostRead s sp off f = done s (f (s.chip.begin 0)) := by
  have h' : (s.chip.begin 0).busOn = true := h
  have ho' : (s.chip.begin 0).owned sp off = true := ho
  simp [hostRead, h', ho']

/-- A host read while the owner is off returns 0xFFFF and sets BUSERR (R15). -/
theorem hostRead_off (s : State) (sp off : Nat) (f : Chip → Chip) (h : s.chip.busOn = true)
    (ho : s.chip.owned sp off = false) :
    hostRead s sp off f = done s { (s.chip.begin 0).busErr with hd := 0xFFFF } := by
  have h' : (s.chip.begin 0).busOn = true := h
  have ho' : (s.chip.begin 0).owned sp off = false := ho
  simp [hostRead, h', ho']

/-- A host read before the bus is ready does nothing (R576). -/
theorem hostRead_notReady (s : State) (sp off : Nat) (f : Chip → Chip) (h : s.chip.busOn = false) :
    hostRead s sp off f = done s s.chip := by
  have h' : (s.chip.begin 0).busOn = false := h
  simp [hostRead, h']

/-! ## Sets and clears of one cycle -/

/-- A word with no mark in the cycle: a W1C clear clears every bit it names. -/
theorem Chip.rd_w1c_unmarked (m : Chip) (sp off : Nat) (b : Word) (h : m.fresh sp off = 0) :
    (m.w1c sp off b).rd sp off = m.rd sp off &&& ~~~b := by
  have e : (~~~(0 : Word)) = BitVec.allOnes 16 := by decide
  rw [Chip.w1c, h, e, BitVec.and_allOnes, Chip.rd_clrBits_same]

/-- A W1C clear leaves what the cycle has set (R10). -/
theorem Chip.rd_w1c_same (m : Chip) (sp off : Nat) (b : Word) :
    (m.w1c sp off b).rd sp off = m.rd sp off &&& ~~~(b &&& ~~~m.fresh sp off) := by
  simp [Chip.w1c]

/-- Bits that have just been set are fresh, so a clear in the same cycle leaves them (R10). -/
theorem Chip.fresh_orBits (m : Chip) (sp off : Nat) (b : Word) :
    (m.orBits sp off b).fresh sp off = m.fresh sp off ||| b := by
  unfold Chip.orBits Chip.fresh Cycle.note
  cases h : m.cyc.mark (key sp off) with
  | none => simp [Chip.wr, Cycle.mark]
  | some x => simp [Chip.wr, Cycle.mark]

/-! ## The canonical form -/

/-- A stored word keeps the canonical form. -/
theorem Chip.wr_wf {m : Chip} (sp off : Nat) (v : Word) (h : m.regs.wf = true) : (m.wr sp off v).regs.wf = true :=
  Bank.wf_put _ _ h

/-- A shadow word keeps the canonical form. -/
theorem Chip.wrHeld_wf {m : Chip} (sp off : Nat) (v : Word) (h : m.held.wf = true) : (m.wrHeld sp off v).held.wf = true :=
  Bank.wf_put _ _ h

/-- Setting bits keeps the canonical form. -/
theorem Chip.orBits_wf {m : Chip} (sp off : Nat) (b : Word) (h : m.regs.wf = true) : (m.orBits sp off b).regs.wf = true :=
  Bank.wf_put _ _ h

/-- Clearing bits keeps the canonical form. -/
theorem Chip.clrBits_wf {m : Chip} (sp off : Nat) (b : Word) (h : m.regs.wf = true) : (m.clrBits sp off b).regs.wf = true :=
  Bank.wf_put _ _ h

/-- A counter keeps the canonical form. -/
theorem Chip.bump_wf {m : Chip} (sp off n : Nat) (h : m.regs.wf = true) : (m.bump sp off n).regs.wf = true :=
  Bank.wf_put _ _ h

/-- A plain write keeps the canonical form. -/
theorem Chip.plainWrite_wf {m : Chip} (sp off : Nat) (v : Word) (h : m.regs.wf = true) :
    (m.plainWrite sp off v).regs.wf = true := by
  unfold Chip.plainWrite
  split
  · exact h
  · exact Bank.wf_put _ _ h

/-- Raising an event keeps the canonical form. -/
theorem Chip.raise_wf {m : Chip} (n : Nat) (h : m.regs.wf = true) : (m.raise n).regs.wf = true := by
  unfold Chip.raise
  split
  · exact Bank.wf_put _ _ h
  · exact h

end Sys2Proof.Machine
end

