-- ==== Sys2Proof/Laws/Host.lean ====
section
/-! SUPPORT. What a host access answers, once: the writes through the window, and the rule that a direct register's address
selects. -/

namespace Sys2Proof.Machine

/-- A write of a word of a space whose owner answers is that word's own rule, after what the window held. -/
theorem hostWindow_on (s : State) (sp off : Nat) (v : Word) (h : s.chip.busOn = true) (ho : s.window.owned sp off = true) :
    hostWindow s sp off v = done s (s.window.writeSpace sp off v) := by
  have h' : (s.chip.begin 0).busOn = true := h
  unfold State.window State.host at *
  simp only [hostWindow, h', if_true, ho]

/-- A host access to a word that is reached with nothing held or staged finds the chip as it stands, the host acting. -/
theorem window_of_opens (s : State) (sp off : Nat) (h : s.opens sp off) : s.window = s.host := by
  obtain ⟨_, h1, h2⟩ := h
  have e1 : s.host.win.staged = none := h1
  have e2 : s.host.win.heldWrite = none := h2
  simp [State.window, Chip.windowFirst, Chip.heldDone, Chip.stagedAlone, e1, e2]

/-- A write of a word of a space that is reached with nothing held or staged. -/
theorem hostWindow_opens (s : State) (sp off : Nat) (v : Word) (h : s.opens sp off) :
    hostWindow s sp off v = done s (s.host.writeSpace sp off v) := by
  have ho : s.window.owned sp off = true := by rw [window_of_opens s sp off h]; exact h.1.2
  rw [hostWindow_on s sp off v h.1.1 ho, window_of_opens s sp off h]

/-- A direct write that is reached completes with its register's rule. -/
theorem directWrite_on (s : State) (a : Nat) (v : Word) (h : s.reaches 0 a) :
    hostWrite s 0 a (fun m => m.writeDirect a v) = .next { s with chip := (s.host.writeDirect a v).settle } :=
  hostWrite_on s 0 a _ h.1 h.2

end Sys2Proof.Machine
end

