-- ==== Sys2Proof/WellFormed.lean ====
section
/-! DEFINITION. The well-formed commands: every operand in the range the spec gives it. -/

namespace Sys2Proof

/-- Group 0-161, at most 32 conversions in a row, 12-bit raw codes (R314, R315). -/
def GroupRow.ok (r : GroupRow) : Bool :=
  decide (r.group < 162) && decide (r.raw.length ≤ 32) && r.raw.all (fun x => decide (x < 4096)) &&
    r.shadow.all (fun x => decide (x < 4096))

/-- The operands of a command lie in their ranges. -/
def Instr.wellFormed (i : Instr) : Bool :=
  match i with
  | .registerWrite sp off _ => if sp = 0 then decide (off < 0x40) else decide (1 ≤ sp ∧ sp ≤ 0x12 ∧ off < 0x1000000)
  | .windataRead => true
  | .windataWrite _ _ => true
  | .windowTimeout _ => true
  | .heldWindowWriteDone => true
  | .stb0Read => true
  | .aoncnt0Read => true
  | .framenumRead => true
  | .hkq0Read => true
  | .modeRequest _ => true
  | .runToIdleEntry => true
  | .modeSequenceEnd => true
  | .drainTimeout => true
  | .wakePin _ => true
  | .squelchChange _ => true
  | .phraseQuietExpiry => true
  | .wphraseWrite _ => true
  | .sysPllLockTimeout => true
  | .clockFailure => true
  | .aonCrystalAdopted => true
  | .aonCrystalStartTimeout => true
  | .aonCrystalStop => true
  | .xtalretry _ => true
  | .pixnWrite _ => true
  | .pixnPendingApply => true
  | .pixRelockDone => true
  | .pixFreqMonitorTrip kHz => decide (kHz < 0x10000)
  | .supplyWarn _ => true
  | .supplyGood => true
  | .supplyReset _ => true
  | .sysrst _ => true
  | .powerOnReset => true
  | .bootReady => true
  | .blkrstCapt => true
  | .blkrstHkc => true
  | .blkrstIllum => true
  | .blkrstWave => true
  | .blkrstPipe => true
  | .blkrstCsi => true
  | .blkrstPool => true
  | .blkrstLnkpkt => true
  | .blkrstLnkphy => true
  | .blkrstNvmc => true
  | .blkrstMarl => true
  | .blkrstDone _ => true
  | .aonlockWrite _ => true
  | .cmpMatchLoad _ _ => true
  | .cmpMatch _ => true
  | .alarmLoad _ => true
  | .alarmDisarm _ => true
  | .alarmFire => true
  | .syncFrameSend => true
  | .syncFrameReceived _ pulses _ => decide (pulses.length ≤ 56)
  | .syncLost => true
  | .timerSourceEdge _ => true
  | .timerMatch _ => true
  | .timerTerminal _ => true
  | .tstartStart _ => true
  | .tstartStop _ => true
  | .rearm _ _ => true
  | .timerCapture _ _ => true
  | .arm _ => true
  | .armCheckComplete => true
  | .disarm _ => true
  | .abort _ => true
  | .pinTrigger _ _ => true
  | .trigsw _ => true
  | .heldTriggerRelease => true
  | .strbmaxExpiry _ => true
  | .regctlEnWrite _ _ => true
  | .isetvalWrite _ _ => true
  | .regBoundWrite _ _ _ => true
  | .hkctrig _ => true
  | .hkcRequestDue _ => true
  | .hkcWaitExpiry _ => true
  | .hkcResult codes => decide (codes.1 < 4096 ∧ codes.2 < 4096)
  | .hkcctlEnWrite _ => true
  | .hkcShutdownDone => true
  | .calmodeWrite _ => true
  | .hkcSpareSettled => true
  | .hkcShadowWindowEnd _ => true
  | .loamNop => true
  | .loamEnd => true
  | .loamJmp => true
  | .loamJz => true
  | .loamJnz => true
  | .loamDjnz => true
  | .loamCall => true
  | .loamRet => true
  | .loamLdi => true
  | .loamLdih => true
  | .loamLdc => true
  | .loamAlu => true
  | .loamAddi => true
  | .loamJlt => true
  | .loamGet => true
  | .loamMem => true
  | .loamWaitt => true
  | .waittReached => true
  | .loamWaite => true
  | .waiteEvent => true
  | .loamBase => true
  | .loamStr => true
  | .loamOpen => true
  | .loamClose => true
  | .loamStrb => true
  | .loamIsetl => true
  | .loamHkt => true
  | .loamPin => true
  | .loamReadp => true
  | .loamReadb => true
  | .loamDrain => true
  | .loamEmit => true
  | .loamFlag => true
  | .loamBreak => true
  | .actionQueueStallEnd => true
  | .stratumOpen => true
  | .stratumClose => true
  | .stratumMaxClose => true
  | .strbEdge => true
  | .isetApply => true
  | .pinAction => true
  | .hktAction => true
  | .rowRead codes => codes.all GroupRow.ok
  | .readoutResume => true
  | .paceResume => true
  | .loamWatchdog => true
  | .halt _ => true
  | .resume _ => true
  | .step _ => true
  | .breakpointHit => true
  | .programRamWrite off _ => decide (off < 0x2000)
  | .sysreset => true
  | .loamdbg _ => true
  | .stepTakeUp => true
  | .driftExposureOpen => true
  | .driftExposureClose => true
  | .bandReadStart => true
  | .bandReadEnd rows => rows.all (fun r => r.all GroupRow.ok)
  | .driftEndPin _ => true
  | .driftTailExpiry => true
  | .driftStall => true
  | .wpInputFrame _ slots => decide (slots.length ≤ 8)
  | .wpSyncLoss _ _ => true
  | .wpSyncRegained _ => true
  | .resync _ => true
  | .wpEnWrite _ => true
  | .wpShutdownDone _ => true
  | .p2play _ => true
  | .p2stop _ => true
  | .muteall _ => true
  | .wp2PlayStart => true
  | .wp2OutputFrame => true
  | .wp2GainWrite _ _ => true
  | .wp2MuteWrite _ => true
  | .wp2ZeroCrossTimeout _ => true
  | .shadowWindowEnd _ _ => true
  | .force _ _ => true
  | .restore _ _ => true
  | .marlDwellEnd => true
  | .trimStep _ _ _ => true
  | .hkcTrimStep _ => true
  | .trimTargetWrite off _ => decide ((0x300 ≤ off ∧ off < 0x306) ∨ (0x1000 ≤ off ∧ off < 0x1F30 ∧ off % 8 < 3))
  | .marlenClear _ => true
  | .unpinall _ => true
  | .runVref _ => true
  | .runWhite _ => true
  | .cancel _ => true
  | .vrefRunComplete _ => true
  | .vrefRunTimeout => true
  | .whiteCaptureStart => true
  | .whiteRunComplete _ _ => true
  | .whiteRunTimeout => true
  | .stage _ => true
  | .stageComplete => true
  | .commit _ => true
  | .commitComplete verifyFail => verifyFail.all (fun n => decide (n ≤ 128))
  | .load _ => true
  | .retcmd _ => true
  | .lflush _ => true
  | .ledgerFlushDue => true
  | .ledgerFlushComplete _ => true
  | .ledgerHourTick => true
  | .prog _ => true
  | .keyprog _ => true
  | .glock _ => true
  | .keylockWrite _ => true
  | .otpOpComplete => true
  | .pipeSegment => true
  | .statctlUnlock _ => true
  | .insrcSwitch => true
  | .csiFrameStart _ _ _ => true
  | .csiLongPacket _ _ dt _ _ => decide (dt < 64)
  | .csiFrameEnd _ _ => true
  | .csiPacketError _ _ => true
  | .pcamVsyncOpen => true
  | .pcamLine _ => true
  | .pcamVsyncClose _ => true
  | .pcamPclkTimeout => true
  | .cameraPortEnWrite _ _ => true
  | .cameraPortShutdownDone _ => true
  | .poolHoldGrant _ => true
  | .holdlimExpiry _ => true
  | .streamEnWrite _ => true
  | .moverRequest _ => true
  | .moverCopyComplete _ => true
  | .linkEnWrite _ => true
  | .retrain _ => true
  | .retire _ => true
  | .linkup _ _ _ => true
  | .trainTimeout => true
  | .rxlSync => true
  | .rxlSyncLoss => true
  | .rxlossExpiry => true
  | .rxlSkip fill => decide (fill ≤ 32)
  | .elasticBufferError => true
  | .laneDriverFault _ => true
  | .retirementApply => true
  | .retmaxExpiry => true
  | .packetStart => true
  | .packetComplete => true
  | .alignColumn => true
  | .idleColumn => true
  | .credit _ _ _ _ _ => true
  | .trig _ _ _ => true
  | .ack _ _ _ _ _ => true
  | .lanemap _ _ _ => true
  | .lanefault _ _ _ => true
  | .messageDiscarded => true
  | .seallockWrite _ => true
  | .gpioset _ _ => true
  | .gpioclr _ _ => true
  | .gpiotgl _ _ => true
  | .commitStagedPins _ => true
  | .stageDiscard _ => true
  | .pcfgWrite _ _ => true
  | .padWrite _ _ => true
  | .slpWrite _ _ => true
  | .pinInputChange _ _ => true
  | .encAEdge _ => true
  | .evstatClear _ _ => true
  | .evenWrite _ _ => true
  | .evvecWrite _ => true
  | .thermalSample t0 t1 => decide (t0 < 4096 ∧ t1 < 4096)
  | .fackWrite _ => true
  | .supplyWarnClear _ => true
  | .vddaonLoss => true
  | .invalidCodeGroup => true
  | .domainOffRead a => decide (0x10 ≤ a ∧ a < 0x40)
  | .extestUpdate _ => true

end Sys2Proof
end

