-- ==== Sys2Proof/Tests/Slice0.lean ====
section
/-! SUPPORT. Small tests: the check of ill-formed commands, what reset and a few commands leave by the spec's own numbers,
and for each statement states and operands that meet its hypotheses, one for each of its clauses. -/

open Sys2Proof Sys2Proof.Machine

namespace Sys2Proof.Tests

set_option Elab.async false

/-! ## Ill-formed commands -/

theorem test_wf_register : Instr.wellFormed (.registerWrite 0 0x3F 0) = true ∧ Instr.wellFormed (.registerWrite 0 0x40 0) = false ∧
    Instr.wellFormed (.registerWrite 0x13 0 0) = false ∧ Instr.wellFormed (.registerWrite 1 0x1000000 0) = false := by decide
theorem test_wf_pixFreq : Instr.wellFormed (.pixFreqMonitorTrip 0x10000) = false := by decide
theorem test_wf_syncFrame : Instr.wellFormed (.syncFrameReceived 0 (List.replicate 57 0) 0) = false := by decide
theorem test_wf_hkcResult : Instr.wellFormed (.hkcResult (4096, 0)) = false ∧
    Instr.wellFormed (.hkcResult (0, 4096)) = false := by decide
theorem test_wf_rowRead : Instr.wellFormed (.rowRead [{ group := 162, raw := [], shadow := [] }]) = false ∧
    Instr.wellFormed (.rowRead [{ group := 0, raw := List.replicate 33 0, shadow := [] }]) = false ∧
    Instr.wellFormed (.rowRead [{ group := 0, raw := [4096], shadow := [] }]) = false := by decide
theorem test_wf_programRam : Instr.wellFormed (.programRamWrite 0x2000 0) = false := by decide
theorem test_wf_bandRead : Instr.wellFormed (.bandReadEnd [[{ group := 161, raw := [], shadow := [4096] }]]) = false := by decide
theorem test_wf_wpInput : Instr.wellFormed (.wpInputFrame 0 (List.replicate 9 0)) = false := by decide
theorem test_wf_trimTarget : Instr.wellFormed (.trimTargetWrite 0x306 0) = false ∧ Instr.wellFormed (.trimTargetWrite 0x1003 0) = false ∧
    Instr.wellFormed (.trimTargetWrite 0x1F30 0) = false := by decide
theorem test_wf_commit : Instr.wellFormed (.commitComplete (some 129)) = false := by decide
theorem test_wf_csi : Instr.wellFormed (.csiLongPacket 0 0 64 [] true) = false := by decide
theorem test_wf_rxlSkip : Instr.wellFormed (.rxlSkip 33) = false := by decide
theorem test_wf_thermal : Instr.wellFormed (.thermalSample 4096 0) = false := by decide
theorem test_wf_domainOff : Instr.wellFormed (.domainOffRead 0x0F) = false ∧ Instr.wellFormed (.domainOffRead 0x40) = false := by decide

/-! ## States for the tests -/

/-- The device in RUN with every domain clocked. -/
def up : Chip := { Chip.reset with
  pw := { Power.reset with cur := .run, target := .run, sq := none, core := true, array := true, pipe := true, link := true,
                           ready := true, vddaon := true, noMakeup := false, rc := false, xtalTry := false, xtalFirst := false }
  pins := { Pins.reset with asleep := false } }
/-- Words stored: space, offset, value. -/
def poke (m : Chip) (l : List (Nat × Nat × Word)) : Chip := l.foldl (fun m x => m.wr x.1 x.2.1 x.2.2) m
/-- A state with no command waiting. -/
def on (m : Chip) : State := ⟨[], m⟩
/-- The chip right after reset. -/
def off : Chip := Chip.reset
/-- A running capture of context 1. -/
def cap0 : Capture := { ctx := 1, fn := 5, words := [], pipe := [], cal := [], regAct := 0, opened := none, lastClose := none, closed := 0, todo := [], read := 0, converted := 0, pausedPool := false, pausedPace := false, illum := 0, supply := false, aborted := false, user := 0, strips := [], dark := false, vacant := [], tests := [], double := false, lastRow := none, stop := false,
                        left := false, white := false, inline := true }
/-- The chip while a capture runs. -/
def withCap (m : Chip) (c : Capture) : Chip := { m with cc := { m.cc with cap := some c } }
/-- The device in SLEEP. -/
def wk : Chip := { up with pw := { up.pw with core := false, array := false, pipe := false, link := false, cur := .sleep, target := .sleep }, pins := { up.pins with asleep := true } }
/-- A power state in a chip. -/
def pwr (m : Chip) (p : Power) : Chip := { m with pw := p }
/-- Words of context k, armed by one trigger source. -/
def ctxW (k : Nat) (src : Word) : List (Nat × Nat × Word) := [(0,0x1010),(1,src),(2,0x8000),(0x32,200),(0x11,2),(0x13,2)].map (fun (x : Nat × Word) => (spCtx, 0x100*k+x.1, x.2))
/-- The words of a Snapshot. -/
def capW : Bank := [(0,0x1010),(2,0x8000),(0x32,200),(0x11,2),(0x13,2)].foldl (fun (b : Bank) (x : Nat × Word) => Bank.put b (key spCtx x.1) x.2) []
/-- Context k armed. -/
def armW (k : Nat) (src : Word) : List (Nat × Nat × Word) := (spCtx, 0x100*k+8, 0x8000) :: ctxW k src
/-- Another MODE word in a capture's words. -/
def modeW (b : Bank) (v : Word) : Bank := Bank.put b (key spCtx 0) v
/-- A running Snapshot with its words. -/
def cap1 : Capture := { cap0 with words := capW }
/-- A word of Loam (R231). -/
def iw (op a b c x imm : Nat) : Nat := op*2^27 + a*2^24 + b*2^21 + c*2^18 + x*2^16 + imm
/-- Registers of Loam. -/
def lr : List Long := [0, 1, 2, 7, 100, 0xFFFFFFFF, 40, 64]
/-- Loam at address 3 about to execute a word. -/
def lm (m : Chip) (w : Nat) : Chip := { poke m [(spLoam,6,BitVec.ofNat 16 w),(spLoam,7,BitVec.ofNat 16 (w/65536))] with loam := { m.loam with running := true, pc := 3, regs := lr, t0 := 1000 } }
/-- The same during a capture. -/
def lu (w : Nat) : State := on (lm (withCap up cap1) w)
/-- STB at a tick. -/
def atT (m : Chip) (t : Tick) : Chip := { m with tb := { m.tb with stb := t } }
/-- The sums of a sound VREF run. -/
def vgood : List Nat := (List.replicate 12 [100, 100 + 3072 * 64, 102, 102 + 3072 * 64]).flatten

/-! ## How a named hypothesis is shown -/

/-- The units of a chip, counted. -/
def shapedB (m : Chip) : Bool :=
  m.chans.length == 8 && m.hkc.reqs.length == 8 && m.loam.regs.length == 8 &&
  m.cc.susp.all (fun x => x.loam.regs.length == 8) && m.streams.length == 8 && m.movers.length == 4 && m.cams.length == 3 &&
  m.link.lanes.length == 4 && m.wave.ports.length == 3 && m.wave.chans.length == 8 && m.pins.slp.length == 32 &&
  m.hkc.applied.length == 6

theorem shaped_of {m : Chip} (h : shapedB m = true) : m.shaped := by
  simp only [shapedB, Bool.and_eq_true, beq_iff_eq, List.all_eq_true] at h
  obtain ⟨⟨⟨⟨⟨⟨⟨⟨⟨⟨⟨a, b⟩, c⟩, d⟩, e⟩, f⟩, g⟩, i⟩, j⟩, k⟩, l⟩, n⟩ := h
  exact ⟨a, b, c, d, e, f, g, i, j, k, l, n⟩
theorem reaches_of {s : State} {sp o : Nat} (h : s.chip.busOn = true ∧ s.chip.owned sp o = true) : s.reaches sp o := h
theorem inBank_of {m : Chip} (h : m.loam.pc + 1 < m.bankSize) : m.inBank := h
theorem moversOff_of {m : Chip} (h : ∀ c, c < 4 → (m.mover c).act = false) : m.moversOff := h
theorem opens_of {s : State} {sp o : Nat} (h : (s.chip.busOn = true ∧ s.chip.owned sp o = true) ∧ s.chip.win.staged = none ∧
    s.chip.win.heldWrite = none) : s.opens sp o := h
theorem issues_of {s : State} {op : Nat} (h : s.chip.mayIssue = true ∧ s.chip.outside = false ∧ iOp s.chip.fetch = op ∧ wordOk s.chip.fetch = true ∧
    s.chip.loam.haltPend = 0 ∧ s.chip.loam.stepping = false) : s.issues op := h
theorem steady_of {s : State} (h : s.chip.pw.cur = .run ∧ s.chip.pw.target = .run ∧ s.chip.pw.sq = none) : s.steady := h
theorem quiet_of {s : State} {b : Bool} (h : s.chip.rxOn = true ∧ (b = true → tst (s.chip.rd spSeal 1) 3 = false)) : s.quiet b := h
theorem acts_of {s : State} {k : Nat} {a : Action} (h : s.chip.dueAction k = some a ∧ s.chip.loam.wait = none) : s.acts k a := h

/-! ## A few commands by the spec's own numbers -/

/-- What a step leaves, with one command waiting. -/
def after (m : Chip) (c : Instr) : Option Chip :=
  match step ⟨[c], m⟩ with
  | .next t => some t.chip
  | _ => none

/-- CHIPID after reset. -/
theorem test_chipid : State.reset.chip.rd 0 0 = 0x5120 := by decide +kernel
/-- SCRATCH0 holds what is written (R42). -/
theorem test_scratch : (after up (.registerWrite 0 0x0A 0xBEEF)).map (fun t => t.rd 0 0x0A) = some 0xBEEF := by decide +kernel
/-- Before the boot reader is done a write is lost (R576). -/
theorem test_not_ready : (after off (.registerWrite 0 0x0A 0xBEEF)).map (fun t => t.rd 0 0x0A) = some 0 := by decide +kernel
/-- The make-up of the worked example beside R107: N = 1,966,085, phases 1,200 and 2,500, M = 6,000,016,559. -/
theorem test_makeup : makeUp 1966085 1200 2500 = 6000016559 := by decide +kernel
/-- The control word 0xC305 of the worked example beside R76. -/
theorem test_wphrase : (after up (.wphraseWrite 0xC305)).map (fun t => t.rd 0 0x0C) = some 0xC305 := by decide +kernel
/-- An element word of the same example: DUR 66 of element 3. -/
theorem test_wphrase_element : (after up (.wphraseWrite 0x0342)).map (fun t => t.rd 0 0x43) = some 0x0042 := by decide +kernel
/-- The byte-wise CRC-32 with the reflected polynomial 0xEDB88320: its well-known value of the nine digits. -/
theorem test_crc32 : crc32 [0x31, 0x32, 0x33, 0x34, 0x35, 0x36, 0x37, 0x38, 0x39] = 0xCBF43926 := by decide +kernel
/-- The CRC-16 of R516 on the nine digits. -/
theorem test_crc16 : crc16 [0x31, 0x32, 0x33, 0x34, 0x35, 0x36, 0x37, 0x38, 0x39] = 0x29B1 := by decide +kernel

/-- Chapter 19, corner cases: a SLICE record and a LANE record of one cycle stand in the order of their codes. -/
theorem test_record_order :
    let m := (up.fault 0x0D [3]).fault 0x06 [7]
    m.rd spFault 0 = 2 ∧ m.rd spFault 0x100 = 0 ∧ m.rd spFault 0x101 = 0x0006 ∧ m.rd spFault 0x108 = 7 ∧
      m.rd spFault 0x110 = 1 ∧ m.rd spFault 0x111 = 0x000D ∧ m.rd spFault 0x118 = 3 := by decide +kernel

/-! ## Statements about every state or command -/

/-- The hypotheses of `Obligations.StepRunsFrontCommand`, `EveryCommandAnswers`, `IrqFollowsEveryStep` and `ShapeKept`. -/
theorem test_step_hypotheses :
    (∃ (c : Instr) (rest : List Instr) (s : State), s.pending = c :: rest) ∧ (∃ s t : State, step s = .next t) ∧
    (∃ s t : State, s.chip.shaped ∧ step s = .next t) :=
  ⟨⟨.stb0Read, [.windataRead], ⟨[.stb0Read, .windataRead], up⟩, rfl⟩, ⟨on up, _, rfl⟩, ⟨on up, _, shaped_of (by decide +kernel), rfl⟩⟩

/-- The hypotheses of `Obligations.LoamUnusedBits`, and of the clause of `Obligations.LoamDebug` about other instructions. -/
theorem test_unusedBits_hypotheses :
    (∃ (p : Instr × Nat) (s : State), p ∈ loamTable ∧ s.chip.mayIssue = true ∧ s.chip.outside = false ∧ iOp s.chip.fetch = p.2 ∧
      wordOk s.chip.fetch = false) ∧
    (∃ (p : Instr × Nat) (s : State), p ∈ loamTable ∧ s.chip.mayIssue = true ∧ s.chip.outside = true) ∧
    (∃ (p : Instr × Nat) (s : State), p ∈ loamTable ∧
      (s.chip.mayIssue = false ∨ s.chip.outside = false ∧ iOp s.chip.fetch ≠ p.2)) :=
  ⟨⟨(.loamNop, 0), lu 1, by decide +kernel⟩,
   ⟨(.loamNop, 0), on (let m := lm (withCap up cap1) 0; { m with loam := { m.loam with pc := 0x1000 } }), by decide +kernel⟩,
   ⟨(.loamNop, 0), on off, by decide +kernel⟩⟩

/-! ## The hypotheses of the statements -/

namespace EmptyQueueTicks

/-- States and operands that meet the hypotheses of `Obligations.EmptyQueueTicks`, clause by clause. -/
theorem test_EmptyQueueTicks_hypotheses :
    (∃ (s : State), s.pending = [] ∧ s.chip.pw.vddaon = false) ∧
    (∃ (s : State), s.pending = [] ∧ s.chip.pw.vddaon = true ∧ s.chip.pw.auto = false ∧ s.chip.st.commit = none ∧ s.chip.pw.core = true ∧ s.chip.tb.locked = false) ∧
    (∃ (s : State), s.pending = [] ∧ s.chip.pw.vddaon = true ∧ s.chip.pw.auto = false ∧ s.chip.st.commit = none ∧ s.chip.pw.core = true ∧ s.chip.tb.locked = true ∧ s.chip.tb.epochLeft ≠ 0) ∧
    (∃ (s : State), s.pending = [] ∧ s.chip.pw.vddaon = true ∧ s.chip.pw.auto = false ∧ s.chip.st.commit = none ∧ s.chip.pw.core = false) ∧
    (∃ (s : State), s.pending = [] ∧ s.chip.pw.vddaon = true ∧ s.chip.pw.auto = false ∧ s.chip.st.commit = none ∧ s.chip.tb.sub + 128 < 390625) ∧
    (∃ (s : State), s.pending = [] ∧ s.chip.pw.vddaon = true ∧ s.chip.pw.auto = false ∧ s.chip.st.commit = none ∧ 390625 ≤ s.chip.tb.sub + 128) :=
  ⟨⟨on { up with pw := {up.pw with vddaon := false} }, by decide +kernel⟩,
   ⟨on { up with tb := {up.tb with sub := 390600} }, by decide +kernel⟩,
   ⟨on { up with tb := {up.tb with locked := true, epochLeft := 5} }, by decide +kernel⟩,
   ⟨on wk, by decide +kernel⟩,
   ⟨on { up with tb := {up.tb with locked := true, epochLeft := 5} }, by decide +kernel⟩,
   ⟨on { up with tb := {up.tb with sub := 390600} }, by decide +kernel⟩⟩

end EmptyQueueTicks

namespace ScratchHoldsWrite

/-- States and operands that meet the hypotheses of `Obligations.ScratchHoldsWrite`, clause by clause. -/
theorem test_ScratchHoldsWrite_hypotheses :
    (∃ (s : State) (a : Nat), (a = 10 ∨ a = 11) ∧ s.chip.busOn = true) :=
  ⟨on up, 10, by decide +kernel⟩

end ScratchHoldsWrite

namespace DomainOffAccess

/-- States and operands that meet the hypotheses of `Obligations.DomainOffAccess`, clause by clause. -/
theorem test_DomainOffAccess_hypotheses :
    (∃ (s : State) (sp : Nat) (off : Nat), s.chip.busOn = true ∧ s.chip.owned sp off = false ∧ (sp = 0 ∧ off < 64 ∨ spaceKnown sp = true ∧ (s.chip.coreOn = false ∨ s.chip.win.staged = none ∧ s.chip.win.heldWrite = none))) ∧
    (∃ (s : State), s.chip.busOn = true ∧ s.chip.coreOn = false) ∧
    (∃ (s : State) (a : Nat), s.chip.busOn = true ∧ a < 64 ∧ s.chip.owned 0 a = false) :=
  ⟨⟨on wk, 0, 16, by decide +kernel⟩,
   ⟨on wk, by decide +kernel⟩,
   ⟨on wk, 16, by decide +kernel⟩⟩

end DomainOffAccess

namespace UnknownSpace

/-- States and operands that meet the hypotheses of `Obligations.UnknownSpace`, clause by clause. -/
theorem test_UnknownSpace_hypotheses :
    (∃ (s : State), s.reaches 0 32 ∧ s.chip.win.staged = none ∧ s.chip.win.heldWrite = none ∧ spaceKnown s.chip.ptrSpace = false) :=
  ⟨on up, reaches_of (by decide +kernel), by decide +kernel⟩

end UnknownSpace

namespace WindowAccess

/-- States and operands that meet the hypotheses of `Obligations.WindowAccess`, clause by clause. -/
theorem test_WindowAccess_hypotheses :
    (∃ (s : State) (m : Chip), m = s.host.windowFirst ∧ s.chip.busOn = true ∧ s.chip.coreOn = true ∧ spaceKnown m.ptrSpace = true ∧ m.owned m.ptrSpace m.ptrOff = true) ∧
    (∃ (s : State) (m : Chip) (n : Chip), m = s.host.heldDone ∧ n = m.stagedAlone ∧ s.chip.busOn = true ∧ s.chip.coreOn = true ∧ spaceKnown m.ptrSpace = true ∧ (∀ (x : Nat × Nat × Word), m.win.staged = some x → x.1 ≠ m.ptrSpace ∨ x.2.1 + 1 ≠ m.ptrOff) ∧ n.owned m.ptrSpace m.ptrOff = true ∧ itemLow m.ptrSpace m.ptrOff = false) ∧
    (∃ (s : State) (m : Chip) (n : Chip), m = s.host.heldDone ∧ n = m.stagedAlone ∧ s.chip.busOn = true ∧ s.chip.coreOn = true ∧ spaceKnown m.ptrSpace = true ∧ (∀ (x : Nat × Nat × Word), m.win.staged = some x → x.1 ≠ m.ptrSpace ∨ x.2.1 + 1 ≠ m.ptrOff) ∧ n.owned m.ptrSpace m.ptrOff = true ∧ itemLow m.ptrSpace m.ptrOff = true) ∧
    (∃ (s : State) (m : Chip) (lo : Word) (o : Nat), m = s.host.heldDone ∧ m.win.staged = some (m.ptrSpace, o, lo) ∧ s.chip.busOn = true ∧ s.chip.coreOn = true ∧ spaceKnown m.ptrSpace = true ∧ o + 1 = m.ptrOff ∧ m.owned m.ptrSpace m.ptrOff = true) ∧
    (∃ (s : State), s.reaches 0 32 ∧ s.chip.win.staged = none ∧ s.chip.win.heldWrite = none ∧ s.chip.ptrSpace = spLoam ∧ s.chip.ptrOff = 12290 ∧ tst (s.chip.rd 0 33) 0 = false) ∧
    (∃ (s : State) (lo : Word) (o : Nat), s.chip.win.staged = some (spLoam, o, lo) ∧ s.reaches 0 32 ∧ s.chip.win.heldWrite = none ∧ s.chip.ptrSpace = spLoam ∧ s.chip.ptrOff = o + 1 ∧ 12352 ≤ o ∧ o < 12479 ∧ tst (s.chip.rd 0 33) 0 = false) ∧
    (∃ (m : Chip), tst (m.rd 0 33) 0 = true ∧ fld (m.rd 0 33) 4 4 = 0 ∧ m.ptrOff < 16777215) ∧
    (∃ (s : State), (s.chip.win.heldWrite = none ∨ s.steady) ∧ s.chip.busOn = true ∧ s.chip.coreOn = true ∧ s.chip.win.staged = none) ∧
    (∃ (s : State) (v : Word), s.chip.win.heldWrite = some v ∧ s.chip.busOn = true ∧ s.chip.coreOn = true) ∧
    (∃ (s : State) (v : Word), s.chip.win.heldWrite = some v ∧ s.reaches 0 32 ∧ s.steady ∧ s.chip.win.staged = none ∧ s.chip.ptrSpace = 19) ∧
    (∃ (s : State) (v : Word), s.chip.win.heldWrite = some v ∧ s.reaches 0 32 ∧ s.steady ∧ s.chip.win.staged = none ∧ s.chip.ptrSpace = spLoam ∧ s.chip.ptrOff = 12290 ∧ tst (s.chip.rd 0 33) 0 = false) ∧
    (∃ (s : State) (sp : Nat), s.chip.busOn = true ∧ s.chip.coreOn = true ∧ sp ≠ 0 ∧ spaceKnown sp = false ∧ s.chip.win.staged = none ∧ s.chip.win.heldWrite = none) :=
  ⟨⟨on (poke up [(0,0x1F,0x0200),(0,0x1E,0x3040)]), _, rfl, by decide +kernel⟩,
   ⟨on (poke up [(0,0x1F,0x0200),(0,0x1E,0x3002)]), _, _, rfl, rfl, by decide +kernel⟩,
   ⟨on (poke up [(0,0x1F,0x0200),(0,0x1E,0x3040)]), _, _, rfl, rfl, by decide +kernel⟩,
   ⟨on { poke up [(0,0x1F,0x0200),(0,0x1E,0x3041)] with win := {up.win with staged := some (2, 0x3040, 0x55)} }, _, _, _, rfl, rfl, by decide +kernel⟩,
   ⟨on (poke up [(0,0x1F,0x0200),(0,0x1E,0x3002)]), reaches_of (by decide +kernel), by decide +kernel⟩,
   ⟨on { poke up [(0,0x1F,0x0200),(0,0x1E,0x3041)] with win := {up.win with staged := some (2, 0x3040, 0x55)} }, _, _, rfl, reaches_of (by decide +kernel), by decide +kernel⟩,
   ⟨(on (poke up [(0,0x1F,0x0200),(0,0x1E,0x3002),(0,0x21,1)])).chip, by decide +kernel⟩,
   ⟨on (poke up [(0,0x1F,0x0200),(0,0x1E,0x3040)]), Or.inl (by decide +kernel), by decide +kernel⟩,
   ⟨on { poke up [(0,0x1F,0x1300)] with win := {up.win with heldWrite := some 0x1234} }, _, rfl, by decide +kernel⟩,
   ⟨on { poke up [(0,0x1F,0x1300)] with win := {up.win with heldWrite := some 0x1234} }, _, rfl, reaches_of (by decide +kernel), steady_of (by decide +kernel), by decide +kernel⟩,
   ⟨on { poke up [(0,0x1F,0x0200),(0,0x1E,0x3002)] with win := {up.win with heldWrite := some 0x1234} }, _, rfl, reaches_of (by decide +kernel), steady_of (by decide +kernel), by decide +kernel⟩,
   ⟨on (poke up [(0,0x1F,0x0200),(0,0x1E,0x3040)]), 48, by decide +kernel⟩⟩

end WindowAccess

namespace HostReads

/-- States and operands that meet the hypotheses of `Obligations.HostReads`, clause by clause. -/
theorem test_HostReads_hypotheses :
    (∃ (s : State) (a : Nat), s.chip.busOn = true ∧ a < 64 ∧ a ∉ [7, 24, 30, 31, 32, 33, 45, 46] ∧ s.chip.owned 0 a = true) ∧
    (∃ (s : State) (a : Nat), s.chip.busOn = true ∧ a ∈ [30, 31, 33] ∧ s.chip.coreOn = true) ∧
    (∃ (s : State) (c : Instr) (a : Nat) (v : Word), s.reaches 0 a ∧ directWord c = some (a, v)) ∧
    (∃ (s : State) (c : Instr) (sp : Nat) (off : Nat) (v : Word), windowWord c = some (sp, off, v) ∧ s.chip.busOn = true ∧ s.window.owned sp off = true) ∧
    (∃ (s : State), s.chip.busOn = false) :=
  ⟨⟨on up, 0, by decide +kernel⟩,
   ⟨on up, 30, by decide +kernel⟩,
   ⟨on up, .modeRequest 1, 2, 1, reaches_of (by decide +kernel), by decide +kernel⟩,
   ⟨on up, .hkctrig 3, spHkc, 3, 3, by decide +kernel⟩,
   ⟨on off, by decide +kernel⟩⟩

end HostReads

namespace PowerModes
def tgt (m : Chip) (t : Mode) (q : Option Seq) : Chip := { m with pw := { m.pw with target := t, sq := q } }
def dz : Chip := tgt { up with pw := { up.pw with array := false, cur := .idle } } .doze (some .idleDoze)
def rc1 : Rec := { dt := 0x31, fn := 1, ctx := 15, src := 7, stratum := 0, window := 0, odt := 0, lineStart := [], payload := [1,2], framed := false, sent := 0, buf := 0, chan := none }
def strm (m : Chip) (f : Stream → Stream) : Chip := m.mapStream 0 f
/-- States and operands that meet the hypotheses of `Obligations.PowerModes`, clause by clause. -/
theorem test_PowerModes_hypotheses :
    (∃ (s : State) (v : Word), s.chip.busOn = true ∧ 4 ≤ fld v 0 3) ∧
    (∃ (s : State) (v : Word), s.chip.busOn = true ∧ fld v 0 3 = 1 ∧ tst v 7 = false ∧ s.chip.pw.cur = Mode.run ∧ s.chip.pw.sq = none ∧ s.chip.pw.wake = false ∧ s.chip.loam.halted = false ∧ s.chip.cc.cap = none) ∧
    (∃ (s : State) (v : Word), s.chip.busOn = true ∧ fld v 0 3 = 1 ∧ tst v 7 = false ∧ s.chip.pw.cur = Mode.run ∧ s.chip.pw.sq = none ∧ s.chip.pw.wake = false ∧ s.chip.loam.halted = false ∧ s.chip.cc.cap.isSome = true) ∧
    (∃ (s : State) (v : Word), s.chip.busOn = true ∧ fld v 0 3 < 2 ∧ tst v 7 = false ∧ s.chip.pw.cur = Mode.sleep ∧ s.chip.pw.sq = none ∧ s.chip.pw.below = 0) ∧
    (∃ (s : State) (v : Word), s.chip.busOn = true ∧ fld v 0 3 = 2 ∧ tst v 7 = false ∧ s.chip.pw.cur = Mode.idle ∧ s.chip.pw.sq = none ∧ s.chip.storesBusy = false ∧ s.chip.win.heldWrite = none) ∧
    (∃ (s : State) (v : Word), s.chip.busOn = true ∧ fld v 0 3 = 3 ∧ tst v 7 = false ∧ s.chip.pw.cur = Mode.doze ∧ s.chip.pw.sq = none ∧ s.chip.pw.wake = false) ∧
    (∃ (s : State) (v : Word), s.chip.busOn = true ∧ fld v 0 3 = 0 ∧ tst v 7 = false ∧ s.chip.pw.cur = Mode.idle ∧ s.chip.pw.sq = none ∧ s.chip.pw.wake = false ∧ s.chip.pw.below = 0) ∧
    (∃ (s : State), s.chip.pw.sq = some Seq.runIdleWait ∧ s.chip.cc.cap = none ∧ s.chip.pw.target ≠ Mode.run) ∧
    (∃ (s : State), s.chip.pw.sq = some Seq.runIdleWait ∧ s.chip.cc.cap = none ∧ s.chip.pw.target = Mode.run) ∧
    (∃ (s : State), s.chip.pw.sq = some Seq.runIdle ∧ s.chip.pw.target = Mode.idle) ∧
    (∃ (s : State), s.chip.pw.sq = some Seq.idleDoze ∧ s.chip.seqReady = true ∧ s.chip.pw.target = Mode.doze ∧ s.chip.pw.wake = false ∧ s.chip.rd 0 5 = 0) ∧
    (∃ (s : State), s.chip.pw.sq = some Seq.dozeSleep ∧ s.chip.seqReady = true ∧ s.chip.pw.target = Mode.sleep ∧ s.chip.pw.wake = false ∧ s.chip.rd 0 5 = 0) ∧
    (∃ (s : State), s.chip.pw.sq = some Seq.idleRun ∧ s.chip.pw.target = Mode.run) ∧
    (∃ (s : State), s.chip.pw.sq = some Seq.dozeSleep ∧ s.chip.pw.drained = false ∧ s.chip.poolEmpty = false ∧ s.chip.drainLate = true) :=
  ⟨⟨on { up with pw := {up.pw with cur := .idle, target := .idle, array := false} }, 0xffff, by decide +kernel⟩,
   ⟨on up, 0x0001, by decide +kernel⟩,
   ⟨on (withCap up cap0), 0x0001, by decide +kernel⟩,
   ⟨on wk, 0, by decide +kernel⟩,
   ⟨on { up with pw := {up.pw with cur := .idle, target := .idle, array := false} }, 0x0002, by decide +kernel⟩,
   ⟨on { wk with pw := {wk.pw with cur := .doze, target := .doze} }, 0x0003, by decide +kernel⟩,
   ⟨on { up with pw := {up.pw with cur := .idle, target := .idle, array := false} }, 0, by decide +kernel⟩,
   ⟨on (tgt up .idle (some .runIdleWait)), by decide +kernel⟩,
   ⟨on (tgt up .run (some .runIdleWait)), by decide +kernel⟩,
   ⟨on (tgt up .idle (some .runIdle)), by decide +kernel⟩,
   ⟨on dz, by decide +kernel⟩,
   ⟨on (poke (tgt wk .sleep (some .dozeSleep)) [(0,5,0)]), by decide +kernel⟩,
   ⟨on (tgt up .run (some .idleRun)), by decide +kernel⟩,
   ⟨on (atT (tgt (strm wk (fun t => { t with recs := [rc1], bufs := [⟨0,1,66,1⟩], nextBuf := 1 })) .sleep (some .dozeSleep)) 100000000), by decide +kernel⟩⟩

end PowerModes

namespace WakeEvents

/-- States and operands that meet the hypotheses of `Obligations.WakeEvents`, clause by clause. -/
theorem test_WakeEvents_hypotheses :
    (∃ (s : State) (n : Fin 8), s.chip.pw.vddaon = true ∧ tst (s.chip.rd 0 5) n.val = true ∧ s.chip.pw.cur = Mode.sleep ∧ s.chip.pw.sq = none ∧ s.chip.pw.ready = true ∧ s.chip.pw.below = 0) ∧
    (∃ (s : State) (n : Fin 8), s.steady ∧ s.chip.pw.vddaon = true ∧ tst (s.chip.rd 0 5) n.val = true ∧ s.chip.pw.wake = false) ∧
    (∃ (s : State) (o : Bool), s.chip.phrase.isOpen ≠ o ∧ s.chip.pw.ready = true ∧ s.chip.phrase.index + 1 ≠ fld s.chip.phraseWord 0 5) ∧
    (∃ (s : State) (o : Bool), o = false ∧ s.chip.phrase.isOpen ≠ o ∧ s.chip.pw.ready = true ∧ s.chip.phrase.index + 1 = fld s.chip.phraseWord 0 5 ∧ s.chip.phrase.index % 2 = 0 ∧ s.chip.phraseFits s.chip.phrase.index (BitVec.toNat (s.chip.tb.aon - s.chip.phrase.since)) = true ∧ tst (s.chip.rd 0 5) 8 = true ∧ s.chip.pw.cur = Mode.sleep ∧ s.chip.pw.sq = none ∧ s.chip.pw.below = 0) ∧
    (∃ (s : State), s.steady ∧ s.chip.pw.ready = true ∧ s.chip.quietDue = true ∧ s.chip.pw.wake = false) ∧
    (∃ (s : State), s.chip.pw.ready = true ∧ s.chip.quietDue = true ∧ tst (s.chip.rd 0 5) 8 = true ∧ s.chip.pw.cur = Mode.sleep ∧ s.chip.pw.sq = none ∧ s.chip.pw.below = 0) ∧
    (∃ (s : State) (v : Word), s.chip.busOn = true ∧ tst (s.chip.rd 0 15) 0 = false ∧ tst v 15 = true ∧ fld v 0 5 ≠ 1 ∧ fld v 0 5 ≤ 16) ∧
    (∃ (s : State) (v : Word), s.chip.busOn = true ∧ tst (s.chip.rd 0 15) 0 = false ∧ tst v 15 = true ∧ (fld v 0 5 = 1 ∨ 16 < fld v 0 5)) ∧
    (∃ (s : State) (v : Word), s.chip.busOn = true ∧ tst (s.chip.rd 0 15) 0 = false ∧ tst v 15 = false) ∧
    (∃ (s : State), (tst (s.chip.rd 0 5) 9 = false ∨ s.steady ∧ s.chip.pw.wake = false) ∧ s.chip.pw.vddaon = true ∧ s.chip.alarmDue = true) ∧
    (∃ (s : State), s.chip.pw.vddaon = true ∧ s.chip.alarmDue = true ∧ tst (s.chip.rd 0 5) 9 = true ∧ s.chip.pw.cur = Mode.sleep ∧ s.chip.pw.sq = none ∧ s.chip.pw.ready = true ∧ s.chip.pw.below = 0) :=
  ⟨⟨on (poke wk [(0,5,0x00FF)]), 0, by decide +kernel⟩,
   ⟨on (poke up [(0,5,0x00FF)]), 0, steady_of (by decide +kernel), by decide +kernel⟩,
   ⟨on { poke wk [(0,5,0x0100),(0,0xC,0xC002),(0,0x40,5),(0,0x41,5)] with phrase := { isOpen := true, since := 0, index := 0 }, tb := {wk.tb with aon := 5} }, false, by decide +kernel⟩,
   ⟨on { poke wk [(0,5,0x0100),(0,0xC,0xC001),(0,0x40,5)] with phrase := { isOpen := true, since := 0, index := 0 }, tb := {wk.tb with aon := 5} }, _, rfl, by decide +kernel⟩,
   ⟨on { poke up [(0,0xC,0xC002)] with phrase := { isOpen := false, since := 0, index := 1 } }, steady_of (by decide +kernel), by decide +kernel⟩,
   ⟨on { poke wk [(0,5,0x0100),(0,0xC,0xC002),(0,0x40,5),(0,0x41,5)] with phrase := { isOpen := false, since := 0, index := 1 }, tb := {wk.tb with aon := 50} }, by decide +kernel⟩,
   ⟨on { poke wk [(0,5,0x0100),(0,0xC,0xC002),(0,0x40,5),(0,0x41,5)] with phrase := { isOpen := true, since := 0, index := 0 }, tb := {wk.tb with aon := 5} }, 0x8000, by decide +kernel⟩,
   ⟨on { poke wk [(0,5,0x0100),(0,0xC,0xC002),(0,0x40,5),(0,0x41,5)] with phrase := { isOpen := true, since := 0, index := 0 }, tb := {wk.tb with aon := 5} }, 0xffff, by decide +kernel⟩,
   ⟨on { poke wk [(0,5,0x0100),(0,0xC,0xC002),(0,0x40,5),(0,0x41,5)] with phrase := { isOpen := true, since := 0, index := 0 }, tb := {wk.tb with aon := 5} }, 0x1234, by decide +kernel⟩,
   ⟨on { poke up [(0,5,0),(spTmr,0x13,0x8000)] with tb := {up.tb with aon := 5} }, Or.inl (by decide +kernel), by decide +kernel⟩,
   ⟨on { poke wk [(0,5,0x0200),(spTmr,0x13,0x8000)] with tb := {wk.tb with aon := 5} }, by decide +kernel⟩⟩

end WakeEvents

namespace AlarmLoad

/-- States and operands that meet the hypotheses of `Obligations.AlarmLoad`, clause by clause. -/
theorem test_AlarmLoad_hypotheses :
    (∃ (s : State) (i : Fin 2), s.opens spTmr (16 + i.val)) ∧
    (∃ (s : State), s.chip.busOn = true ∧ s.window.owned spTmr 18 = true) ∧
    (∃ (s : State), s.chip.busOn = true ∧ s.window.owned spTmr 19 = true) ∧
    (∃ (s : State), s.opens spTmr 18) ∧
    (∃ (s : State) (v : Word), s.opens spTmr 19 ∧ tst v 0 = true) :=
  ⟨⟨on up, 0, opens_of (by decide +kernel)⟩,
   ⟨on up, by decide +kernel⟩,
   ⟨on up, by decide +kernel⟩,
   ⟨on up, opens_of (by decide +kernel)⟩,
   ⟨on up, 0xffff, opens_of (by decide +kernel), by decide +kernel⟩⟩

end AlarmLoad

namespace Resets

/-- States and operands that meet the hypotheses of `Obligations.Resets`, clause by clause. -/
theorem test_Resets_hypotheses :
    (∃ (s : State) (v : Word), s.chip.busOn = true ∧ fld v 0 3 < 4 ∧ tst v 7 = true) ∧
    (∃ (s : State) (r : Fin 4), s.chip.fed r.val = true) ∧
    (∃ (s : State), s.chip.tapOn = true ∧ tst (s.chip.opt 0) 1 = false) ∧
    (∃ (s : State), s.chip.waking = true) ∧
    (∃ (s : State), (s.chip.pw.core = true ∨ s.chip.pw.cur = Mode.doze)) ∧
    (∃ (s : State), s.chip.pw.vddaon = true ∧ s.chip.pw.ready = false ∧ s.chip.pw.cur = Mode.sleep ∧ s.chip.pw.target = Mode.sleep ∧ s.chip.pw.wake = false) :=
  ⟨⟨on up, 0x0080, by decide +kernel⟩,
   ⟨on up, 0, by decide +kernel⟩,
   ⟨on up, by decide +kernel⟩,
   ⟨on { wk with pw := {wk.pw with sq := some .wakeSleep} }, by decide +kernel⟩,
   ⟨on up, by decide +kernel⟩,
   ⟨on off, by decide +kernel⟩⟩

end Resets

namespace Supplies

/-- States and operands that meet the hypotheses of `Obligations.Supplies`, clause by clause. -/
theorem test_Supplies_hypotheses :
    (∃ (s : State) (r : Fin 4), s.chip.fed r.val = false) ∧
    (∃ (s : State) (r : Fin 4), s.chip.fed r.val = true ∧ tst (s.chip.rd 0 6) r.val = false ∧ s.chip.pw.core = false) ∧
    (∃ (s : State) (r : Fin 4), s.steady ∧ s.chip.fed r.val = true ∧ tst (s.chip.rd 0 6) r.val = false ∧ s.chip.pw.core = true) ∧
    (∃ (s : State), s.chip.fed 0 = true ∧ s.chip.suppliesGood = true ∧ s.chip.pw.core = false) ∧
    (∃ (s : State), s.chip.fed 0 = true ∧ s.chip.suppliesGood = true ∧ s.chip.pw.core = true ∧ s.chip.st.commit = none ∧ s.chip.st.flush = none ∧ s.chip.st.staging = false ∧ s.chip.st.waiting = none ∧ s.chip.st.retryPend = false ∧ s.chip.st.flushDue = false ∧ s.chip.st.flushRetry = false) :=
  ⟨⟨on (pwr wk { wk.pw with cur := .doze, good := List.replicate 4 1000000 }), 2, by decide +kernel⟩,
   ⟨on (pwr wk { wk.pw with cur := .doze, good := List.replicate 4 1000000 }), 0, by decide +kernel⟩,
   ⟨on (pwr up { up.pw with good := List.replicate 4 1000000 }), 0, steady_of (by decide +kernel), by decide +kernel⟩,
   ⟨on (pwr wk { wk.pw with cur := .doze, good := List.replicate 4 1000000 }), by decide +kernel⟩,
   ⟨on (pwr up { up.pw with good := List.replicate 4 1000000 }), by decide +kernel⟩⟩

end Supplies

namespace ClockSources
def xt (m : Chip) (rc t f : Bool) : Chip := { m with pw := { m.pw with rc := rc, xtalTry := t, xtalFirst := f } }
/-- States and operands that meet the hypotheses of `Obligations.ClockSources`, clause by clause. -/
theorem test_ClockSources_hypotheses :
    (∃ (s : State), s.chip.pw.vddaon = true ∧ s.chip.pw.xtalTry = true ∧ s.chip.pw.rc = true ∧ s.chip.pw.xtalFirst = false) ∧
    (∃ (s : State), s.chip.pw.vddaon = true ∧ s.chip.pw.xtalTry = true ∧ s.chip.pw.rc = true ∧ s.chip.pw.xtalFirst = true ∧ s.chip.pw.core = false) ∧
    (∃ (s : State), s.chip.pw.vddaon = true ∧ s.chip.pw.rc = false ∧ s.chip.pw.core = false) ∧
    (∃ (s : State) (v : Word), s.reaches 0 16 ∧ s.chip.pw.rc = true ∧ 40 ≤ fld v 0 8 ∧ fld v 0 8 ≤ 128 ∧ tst v 8 = true) ∧
    (∃ (s : State) (v : Word), s.reaches 0 16 ∧ (fld v 0 8 < 40 ∨ 128 < fld v 0 8)) ∧
    (∃ (s : State) (v : Word), s.reaches 0 16 ∧ 40 ≤ fld v 0 8 ∧ fld v 0 8 ≤ 128 ∧ tst v 8 = false ∧ s.chip.pw.array = true ∧ fld v 0 8 ≠ s.chip.pw.pixN ∧ s.chip.cc.cap.isSome = true) ∧
    (∃ (s : State) (v : Word), s.reaches 0 16 ∧ 40 ≤ fld v 0 8 ∧ fld v 0 8 ≤ 128 ∧ tst v 8 = false ∧ s.chip.pw.array = true ∧ fld v 0 8 ≠ s.chip.pw.pixN ∧ s.chip.cc.cap = none) ∧
    (∃ (s : State), s.chip.pw.pixPend = true ∧ s.chip.cc.cap = none ∧ s.chip.pw.array = true ∧ fld (s.chip.rd 0 16) 0 8 ≠ s.chip.pw.pixN) ∧
    (∃ (s : State), s.chip.pw.pixFb = true) ∧
    (∃ (s : State) (kHz : Nat), s.chip.moversOff ∧ s.chip.pw.array = true ∧ s.chip.pw.core = true ∧ s.chip.pw.pixFb = false ∧ 5100 * s.chip.pw.pixN < kHz) :=
  ⟨⟨on (xt wk true true false), by decide +kernel⟩,
   ⟨on off, by decide +kernel⟩,
   ⟨on wk, by decide +kernel⟩,
   ⟨on (pwr up { up.pw with rc := true }), 0x0128, reaches_of (by decide +kernel), by decide +kernel⟩,
   ⟨on (pwr up { up.pw with rc := true }), 0xffff, reaches_of (by decide +kernel), by decide +kernel⟩,
   ⟨on (withCap up cap0), 0x1234, reaches_of (by decide +kernel), by decide +kernel⟩,
   ⟨on (pwr up { up.pw with rc := true }), 0x1234, reaches_of (by decide +kernel), by decide +kernel⟩,
   ⟨on { poke up [(0,0x10,0x0040)] with pw := {up.pw with pixPend := true} }, by decide +kernel⟩,
   ⟨on { up with pw := {up.pw with pixFb := true} }, by decide +kernel⟩,
   ⟨on (pwr up { up.pw with rc := true }), 652900, moversOff_of (by decide +kernel), by decide +kernel⟩⟩

end ClockSources

namespace BlockResets

/-- States and operands that meet the hypotheses of `Obligations.BlockResets`, clause by clause. -/
theorem test_BlockResets_hypotheses :
    (∃ (s : State), s.reaches 0 18 ∧ s.steady ∧ s.chip.rd 0 18 = 0 ∧ s.chip.pw.core = true) ∧
    (∃ (s : State), s.reaches 0 18 ∧ s.chip.rd 0 18 = 0 ∧ s.chip.pw.pipe = true) ∧
    (∃ (s : State), s.reaches 0 18 ∧ s.chip.rd 0 18 = 0 ∧ s.chip.pw.link = true) ∧
    (∃ (s : State) (b : Fin 11), tst (s.chip.rd 0 18) b.val = true) :=
  ⟨⟨on up, reaches_of (by decide +kernel), steady_of (by decide +kernel), by decide +kernel⟩,
   ⟨on up, reaches_of (by decide +kernel), by decide +kernel⟩,
   ⟨on up, reaches_of (by decide +kernel), by decide +kernel⟩,
   ⟨on (poke up [(0,0x12,0x07FF)]), 0, by decide +kernel⟩⟩

end BlockResets

namespace LocksAndJtag

/-- States and operands that meet the hypotheses of `Obligations.LocksAndJtag`, clause by clause. -/
theorem test_LocksAndJtag_hypotheses :
    (∃ (s : State), s.chip.busOn = true ∧ s.chip.pw.core = false ∧ s.chip.pw.refused = none ∧ tst (s.chip.rd 0 15) 1 = true) ∧
    (∃ (s : State), s.chip.busOn = true ∧ s.chip.pw.core = false ∧ s.chip.pw.refused = none ∧ tst (s.chip.rd 0 15) 0 = true) ∧
    (∃ (s : State), s.opens spSeal 0) ∧
    (∃ (s : State) (dr : BitVec 40), s.chip.tapOn = true ∧ tst (s.chip.opt 0) 1 = false ∧ dr.getLsbD 32 = false ∧ s.chip.pw.core = true ∧ s.chip.entering = false) ∧
    (∃ (s : State) (dr : BitVec 40), s.chip.tapOn = true ∧ tst (s.chip.opt 0) 1 = false ∧ dr.getLsbD 32 = false ∧ s.chip.pw.core = false) ∧
    (∃ (s : State) (dr : BitVec 40) (m : Chip), m = (s.chip.begin 90).writeLoam (dr.toNat / 65536 % 65536) (wd dr.toNat) 2 ∧ s.chip.tapOn = true ∧ tst (s.chip.opt 0) 1 = false ∧ dr.getLsbD 32 = true ∧ s.chip.pw.core = true ∧ s.chip.entering = false) :=
  ⟨⟨on (poke wk [(0,0xF,3)]), by decide +kernel⟩,
   ⟨on (poke wk [(0,0xF,3)]), by decide +kernel⟩,
   ⟨on up, opens_of (by decide +kernel)⟩,
   ⟨on up, 0, by decide +kernel⟩,
   ⟨on { wk with pins := {wk.pins with asleep := false}}, 0, by decide +kernel⟩,
   ⟨on up, 0x100000000, _, rfl, by decide +kernel⟩⟩

end LocksAndJtag

namespace EventRegisters

/-- States and operands that meet the hypotheses of `Obligations.EventRegisters`, clause by clause. -/
theorem test_EventRegisters_hypotheses :
    (∃ (s : State) (hi : Bool), s.reaches 0 (if hi = true then 20 else 19)) ∧
    (∃ (s : State) (hi : Bool), s.reaches 0 (if hi = true then 22 else 21)) :=
  ⟨⟨on up, false, reaches_of (by decide +kernel)⟩,
   ⟨on up, false, reaches_of (by decide +kernel)⟩⟩

end EventRegisters

namespace EventVector

/-- States and operands that meet the hypotheses of `Obligations.EventVector`, clause by clause. -/
theorem test_EventVector_hypotheses :
    (∃ (m : Chip) (n : Nat), n < 32 ∧ tst (m.rd 0 (19 + n / 16)) (n % 16) = true ∧ tst (m.rd 0 (21 + n / 16)) (n % 16) = true ∧ (∀ k : Nat, k < n → (tst (m.rd 0 (19 + k / 16)) (k % 16) = false ∨ tst (m.rd 0 (21 + k / 16)) (k % 16) = false))) ∧
    (∃ (m : Chip), m.irqWanted = false) ∧
    (∃ (s : State) (v : Word), s.reaches 0 23 ∧ BitVec.toNat v < 32) ∧
    (∃ (s : State) (v : Word), s.reaches 0 23 ∧ 32 ≤ BitVec.toNat v) :=
  ⟨⟨(on (poke up [(0,0x13,0x8001),(0,0x14,0x8001),(0,0x15,0x8000),(0,0x16,0xFFFF)])).chip, 15, by decide +kernel⟩,
   ⟨(on up).chip, by decide +kernel⟩,
   ⟨on up, 0, reaches_of (by decide +kernel), by decide +kernel⟩,
   ⟨on up, 0xffff, reaches_of (by decide +kernel), by decide +kernel⟩⟩

end EventVector

namespace FaultAcknowledge

/-- States and operands that meet the hypotheses of `Obligations.FaultAcknowledge`, clause by clause. -/
theorem test_FaultAcknowledge_hypotheses :
    (∃ (s : State) (v : Word), s.opens spFault 1 ∧ BitVec.toNat (s.chip.rd spFault 0 - v) ≤ 32) ∧
    (∃ (s : State) (v : Word), s.opens spFault 1 ∧ 32 < BitVec.toNat (s.chip.rd spFault 0 - v)) :=
  ⟨⟨on up, 0xffff, opens_of (by decide +kernel), by decide +kernel⟩,
   ⟨on up, 0x1234, opens_of (by decide +kernel), by decide +kernel⟩⟩

end FaultAcknowledge

namespace ThermalWarning

/-- States and operands that meet the hypotheses of `Obligations.ThermalWarning`, clause by clause. -/
theorem test_ThermalWarning_hypotheses :
    (∃ (s : State) (a : Nat) (b : Nat), s.chip.pw.core = true ∧ a < 4096 ∧ b < 4096) :=
  ⟨on up, 0, 0, by decide +kernel⟩

end ThermalWarning

namespace GpioOutputs

/-- States and operands that meet the hypotheses of `Obligations.GpioOutputs`, clause by clause. -/
theorem test_GpioOutputs_hypotheses :
    (∃ (s : State), s.chip.busOn = true ∧ s.chip.coreOn = true ∧ s.chip.staging = false ∧ s.chip.cyc.drives = []) ∧
    (∃ (s : State), s.chip.busOn = true ∧ s.chip.coreOn = true ∧ s.chip.staging = true) ∧
    (∃ (s : State) (v : Word), s.opens spPin 128 ∧ tst v 14 = true ∧ s.chip.cyc.drives = []) ∧
    (∃ (s : State) (v : Word), s.opens spPin 128 ∧ tst v 14 = false ∧ tst v 15 = false) :=
  ⟨⟨on up, by decide +kernel⟩,
   ⟨on { poke up [(spPin,0x80,0x8000)] with pins := {up.pins with sset := 0xF0F0, sclr := 0xFF00, stgl := 0xF000F, out := 0x12345678}}, by decide +kernel⟩,
   ⟨on up, 0xffff, opens_of (by decide +kernel), by decide +kernel⟩,
   ⟨on up, 0x1234, opens_of (by decide +kernel), by decide +kernel⟩⟩

end GpioOutputs

namespace PinFunctions

/-- States and operands that meet the hypotheses of `Obligations.PinFunctions`, clause by clause. -/
theorem test_PinFunctions_hypotheses :
    (∃ (s : State) (n : Fin 32) (v : Word), s.opens spPin 0 ∧ fselOk n.val (fld v 0 3) = false) ∧
    (∃ (s : State) (n : Fin 32) (v : Word), s.opens spPin 0 ∧ fselOk n.val (fld v 0 3) = true) ∧
    (∃ (s : State) (v : Word), s.opens spPin 0 ∧ fld v 12 2 = 3) ∧
    (∃ (s : State) (v : Word), s.opens spPin 0 ∧ fld v 12 2 ≠ 3) ∧
    (∃ (s : State) (v : Word), s.opens spPin 0 ∧ 6 ≤ fld v 0 3) ∧
    (∃ (s : State) (v : Word), s.opens spPin 0 ∧ fld v 0 3 < 6 ∧ s.chip.pins.slp.length = 32) ∧
    (∃ (s : State), s.chip.pw.core = true ∧ s.chip.fsel 8 = 5 ∧ s.chip.fsel 9 = 5) :=
  ⟨⟨on up, 0, 0xffff, opens_of (by decide +kernel), by decide +kernel⟩,
   ⟨on up, 0, 0x1234, opens_of (by decide +kernel), by decide +kernel⟩,
   ⟨on up, 0xffff, opens_of (by decide +kernel), by decide +kernel⟩,
   ⟨on up, 0x1234, opens_of (by decide +kernel), by decide +kernel⟩,
   ⟨on up, 0xffff, opens_of (by decide +kernel), by decide +kernel⟩,
   ⟨on up, 0x1234, opens_of (by decide +kernel), by decide +kernel⟩,
   ⟨on (poke up [(spPin,pinOff 8 0,5),(spPin,pinOff 9 0,5)]), by decide +kernel⟩⟩

end PinFunctions

namespace CompareChannels

/-- States and operands that meet the hypotheses of `Obligations.CompareChannels`, clause by clause. -/
theorem test_CompareChannels_hypotheses :
    (∃ (s : State) (n : Fin 16) (v : Word) (new : Tick), s.opens spTmr 0 ∧ BitVec.toNat new = BitVec.toNat (s.chip.rdHeld spTmr (cmpOff n.val 0)) + 65536 * BitVec.toNat (s.chip.rdHeld spTmr (cmpOff n.val 1)) + 4294967296 * (BitVec.toNat (s.chip.rdHeld spTmr (cmpOff n.val 2)) + 65536 * BitVec.toNat v) ∧ (s.chip.cmpEn n.val = false ∨ s.chip.reached (s.chip.cmpMatch n.val) = false ∧ s.chip.reached new = false)) ∧
    (∃ (s : State) (n : Fin 16) (v : Word) (new : Tick), s.opens spTmr 0 ∧ BitVec.toNat new = BitVec.toNat (s.chip.rdHeld spTmr (cmpOff n.val 0)) + 65536 * BitVec.toNat (s.chip.rdHeld spTmr (cmpOff n.val 1)) + 4294967296 * (BitVec.toNat (s.chip.rdHeld spTmr (cmpOff n.val 2)) + 65536 * BitVec.toNat v) ∧ s.chip.cmpEn n.val = true ∧ s.chip.reached (s.chip.cmpMatch n.val) = false ∧ s.chip.reached new = true ∧ tst (s.chip.rd spTmr (cmpOff n.val 6)) 14 = true ∧ s.chip.rd32 spTmr (cmpOff n.val 4) = 0) ∧
    (∃ (s : State) (n : Fin 16), s.chip.pw.core = true ∧ s.chip.cmpEn n.val = true ∧ s.chip.reached (s.chip.cmpMatch n.val) = true ∧ s.chip.syncMode ≠ 2 ∧ s.chip.tb.barred = [] ∧ fld (s.chip.rd spTmr (cmpOff n.val 6)) 8 4 = 0 ∧ s.chip.rd32 spTmr (cmpOff n.val 4) = 0) ∧
    (∃ (s : State) (n : Fin 16), s.chip.pw.core = true ∧ s.chip.cmpEn n.val = true ∧ s.chip.reached (s.chip.cmpMatch n.val) = true ∧ s.chip.syncMode ≠ 2 ∧ s.chip.tb.barred = [] ∧ fld (s.chip.rd spTmr (cmpOff n.val 6)) 8 4 = 0 ∧ s.chip.rd32 spTmr (cmpOff n.val 4) ≠ 0) :=
  ⟨⟨on { poke up [(spTmr,cmpOff 3 6,0xC000),(spTmr,cmpOff 3 0,50)] with tb := {up.tb with stb := 9} }, 0, 0, 0, opens_of (by decide +kernel), by decide +kernel⟩,
   ⟨on { poke up [(spTmr,cmpOff 3 6,0xC000),(spTmr,cmpOff 3 0,50)] with tb := {up.tb with stb := 9} }, 3, 0, 0, opens_of (by decide +kernel), by decide +kernel⟩,
   ⟨on { poke up [(spTmr,cmpOff 3 6,0xC000),(spTmr,cmpOff 3 0,50)] with tb := {up.tb with stb := 90} }, 3, by decide +kernel⟩,
   ⟨on { poke up [(spTmr,cmpOff 3 6,0xA000),(spTmr,cmpOff 3 0,5),(spTmr,cmpOff 3 4,7)] with tb := {up.tb with stb := 9}}, 3, by decide +kernel⟩⟩

end CompareChannels

namespace SyncLink

/-- States and operands that meet the hypotheses of `Obligations.SyncLink`, clause by clause. -/
theorem test_SyncLink_hypotheses :
    (∃ (s : State), s.chip.pw.core = true ∧ s.chip.syncMode = 1 ∧ BitVec.toNat s.chip.tb.stb % 65536 = 0) ∧
    (∃ (s : State) (start : Nat) (pulses : List Nat), s.chip.pw.core = true ∧ s.chip.syncMode = 2 ∧ syncValue start pulses = none) ∧
    (∃ (s : State) (start : Nat) (pulses : List Nat) (v : AonTick), s.chip.pw.core = true ∧ s.chip.syncMode = 2 ∧ syncValue start pulses = some v ∧ s.chip.tb.locked = false ∧ (∀ n : Nat, n < 16 → (s.chip.cmpEn n = false))) ∧
    (∃ (s : State), s.chip.moversOff ∧ s.chip.pw.core = true ∧ s.chip.syncMode = 2 ∧ s.chip.tb.lost = false ∧ BitVec.toNat s.chip.tb.syncFrom + 4 * 65536 ≤ BitVec.toNat s.chip.tb.stb) :=
  ⟨⟨on (poke up [(spTmr,0,1)]), by decide +kernel⟩,
   ⟨on (poke up [(spTmr,0,2)]), 0, [], by decide +kernel⟩,
   ⟨on (poke up [(spTmr,0,2)]), 31, (List.replicate 56 16), 0, by decide +kernel⟩,
   ⟨on { poke up [(spTmr,0,2),(spTmr,1,0x00F1)] with tb := {up.tb with locked := true, stb := 262144, marker := some 0}}, moversOff_of (by decide +kernel), by decide +kernel⟩⟩

end SyncLink

namespace Timers
def tmr (l : List (Nat × Word)) : Chip := poke up (l.map (fun (x : Nat × Word) => (spTmr, tmOff 2 x.1, x.2)))
/-- States and operands that meet the hypotheses of `Obligations.Timers`, clause by clause. -/
theorem test_Timers_hypotheses :
    (∃ (s : State) (n : Fin 8) (src : ClkSource), s.chip.pw.core = true ∧ s.chip.clocks n.val src = true ∧ s.chip.tmBit n.val 0 = true ∧ s.chip.frozen n.val = false ∧ s.chip.tb.matchDue = 0 ∧ s.chip.tb.termDue = 0 ∧ s.chip.driftCap = none ∧ s.chip.rd32 spTmr (tmOff n.val 8) + 65536 < s.chip.rd32 spTmr (tmOff n.val 6)) ∧
    (∃ (s : State) (n : Fin 8) (src : ClkSource), s.chip.pw.core = true ∧ s.chip.clocks n.val src = true ∧ s.chip.tmBit n.val 0 = true ∧ s.chip.frozen n.val = false ∧ s.chip.tb.matchDue = 0 ∧ s.chip.tb.termDue = 0 ∧ s.chip.driftCap = none ∧ s.chip.rd32 spTmr (tmOff n.val 6) ≤ s.chip.rd32 spTmr (tmOff n.val 8) + 65536 ∧ s.chip.rd32 spTmr (tmOff n.val 0) ≠ s.chip.rd32 spTmr (tmOff n.val 2)) ∧
    (∃ (s : State) (n : Fin 8) (src : ClkSource), s.chip.pw.core = true ∧ s.chip.clocks n.val src = true ∧ s.chip.tmBit n.val 0 = true ∧ s.chip.frozen n.val = false ∧ s.chip.tb.matchDue = 0 ∧ s.chip.tb.termDue = 0 ∧ s.chip.driftCap = none ∧ s.chip.rd32 spTmr (tmOff n.val 6) ≤ s.chip.rd32 spTmr (tmOff n.val 8) + 65536 ∧ s.chip.rd32 spTmr (tmOff n.val 0) = s.chip.rd32 spTmr (tmOff n.val 2) ∧ tst (s.chip.rd spTmr (tmOff n.val 10)) 15 = true) ∧
    (∃ (s : State) (n : Fin 8) (src : ClkSource), s.chip.pw.core = true ∧ s.chip.clocks n.val src = true ∧ s.chip.tmBit n.val 0 = true ∧ s.chip.frozen n.val = false ∧ s.chip.tb.matchDue = 0 ∧ s.chip.tb.termDue = 0 ∧ s.chip.driftCap = none ∧ s.chip.rd32 spTmr (tmOff n.val 6) ≤ s.chip.rd32 spTmr (tmOff n.val 8) + 65536 ∧ s.chip.rd32 spTmr (tmOff n.val 0) = s.chip.rd32 spTmr (tmOff n.val 2) ∧ tst (s.chip.rd spTmr (tmOff n.val 10)) 15 = false) ∧
    (∃ (s : State) (n : Fin 8), s.chip.pw.core = true ∧ s.chip.driftCap = none ∧ s.chip.tb.matchDue.getLsbD n.val = true ∧ fld (s.chip.rd spTmr (tmOff n.val 11)) 8 4 = 0) ∧
    (∃ (s : State) (n : Fin 8), s.chip.pw.core = true ∧ s.chip.driftCap = none ∧ s.chip.tb.termDue.getLsbD n.val = true ∧ s.chip.tb.matchDue.getLsbD n.val = false ∧ fld (s.chip.rd spTmr (tmOff n.val 12)) 8 4 = 0) ∧
    (∃ (s : State) (v : Word), s.reaches 0 28 ∧ tst v 15 = false ∧ s.chip.cyc.stopped = 0) ∧
    (∃ (s : State) (v : Word), s.reaches 0 28 ∧ tst v 15 = true) ∧
    (∃ (s : State) (v : Word), s.opens spTmr 0 ∧ tst v 0 = true) ∧
    (∃ (s : State) (n : Fin 8), s.chip.pw.core = true ∧ s.chip.pins.asleep = false ∧ tst (s.chip.rd spTmr (tmOff n.val 13)) 12 = true ∧ (s.chip.capPin n.val).isSome = true ∧ s.chip.driftCap = none ∧ s.chip.tb.rose.getLsbD n.val = false) :=
  ⟨⟨on (tmr [(0xF,1),(7,3)]), 2, .core, by decide +kernel⟩,
   ⟨on (tmr [(0xF,1),(2,5)]), 2, .core, by decide +kernel⟩,
   ⟨on (tmr [(0xF,1),(0xA,0x8000)]), 2, .core, by decide +kernel⟩,
   ⟨on (tmr [(0xF,1)]), 2, .core, by decide +kernel⟩,
   ⟨on { tmr [(0xB,0x8000),(0xF,1)] with tb := {up.tb with matchDue := 4}}, 2, by decide +kernel⟩,
   ⟨on { tmr [(0xC,0x8000),(0xF,1)] with tb := {up.tb with termDue := 4}}, 2, by decide +kernel⟩,
   ⟨on (tmr [(0xF,1),(7,3)]), 0x1234, reaches_of (by decide +kernel), by decide +kernel⟩,
   ⟨on (tmr [(0xF,1),(7,3)]), 0xffff, reaches_of (by decide +kernel), by decide +kernel⟩,
   ⟨on (tmr [(0xF,1),(7,3)]), 0xffff, opens_of (by decide +kernel), by decide +kernel⟩,
   ⟨on (poke (tmr [(0xD,0x1000),(0,77)]) [(spPin,pinOff 4 0,0x0022)]), 2, by decide +kernel⟩⟩

end Timers

namespace ArmAndDisarm

/-- States and operands that meet the hypotheses of `Obligations.ArmAndDisarm`, clause by clause. -/
theorem test_ArmAndDisarm_hypotheses :
    (∃ (s : State) (v : Word), s.reaches 0 42 ∧ 1 < b2n (tst v 9) + b2n (tst v 10) + b2n (tst v 11)) ∧
    (∃ (s : State) (v : Word), s.reaches 0 42 ∧ tst v 9 = true ∧ tst v 10 = false ∧ tst v 11 = false ∧ s.chip.cc.checking = none) ∧
    (∃ (s : State) (v : Word), s.reaches 0 42 ∧ tst v 9 = false ∧ tst v 10 = true ∧ tst v 11 = false) ∧
    (∃ (s : State) (k : Fin 16), s.chip.cc.checking = some k ∧ s.chip.pw.core = true ∧ (s.chip.armCheck (s.chip.latchCtx k.val)).1 = 0) ∧
    (∃ (s : State) (k : Fin 16), s.chip.cc.checking = some k ∧ s.chip.pw.core = true ∧ (s.chip.armCheck (s.chip.latchCtx k.val)).1 ≠ 0 ∧ k ∉ s.chip.cc.heldTrig ∧ s.chip.cal.run = CalRun.none ∧ (∀ (c : Capture), s.chip.cc.cap = some c → c.ctx ≠ k) ∧ s.chip.cc.susp = []) :=
  ⟨⟨on up, 0xffff, reaches_of (by decide +kernel), by decide +kernel⟩,
   ⟨on up, 0x1234, reaches_of (by decide +kernel), by decide +kernel⟩,
   ⟨on up, 0x0400, reaches_of (by decide +kernel), by decide +kernel⟩,
   ⟨on { poke up (ctxW 1 8) with cc := {up.cc with checking := some 1}}, _, rfl, by decide +kernel⟩,
   ⟨on { up with cc := {up.cc with checking := some 1}}, _, rfl, by decide +kernel⟩⟩

end ArmAndDisarm

namespace TriggersWait

/-- States and operands that meet the hypotheses of `Obligations.TriggersWait`, clause by clause. -/
theorem test_TriggersWait_hypotheses :
    (∃ (s : State) (k : Fin 16), s.reaches 0 44 ∧ tst (s.chip.rd spCtx (256 * k.val + 1)) 3 = true ∧ s.host.cyc.triggered.getLsbD k.val = true) ∧
    (∃ (s : State) (k : Fin 16), s.reaches 0 44 ∧ tst (s.chip.rd spCtx (256 * k.val + 1)) 3 = true ∧ s.chip.cyc.triggered = 0 ∧ s.chip.armed k.val = false) ∧
    (∃ (s : State) (k : Fin 16), s.reaches 0 44 ∧ tst (s.chip.rd spCtx (256 * k.val + 1)) 3 = true ∧ s.chip.cyc.triggered = 0 ∧ s.chip.armed k.val = true ∧ s.chip.cc.checking = none ∧ s.chip.cc.susp = [] ∧ s.chip.pw.cur = Mode.run ∧ (∀ (c : Capture), s.chip.cc.cap = some c → c.ctx ≠ k) ∧ s.chip.cc.cap.isSome = true ∧ k ∉ s.chip.cc.heldTrig ∧ tst (s.chip.rd spCtx (256 * k.val)) 3 = false) ∧
    (∃ (s : State) (k : Fin 16), s.reaches 0 44 ∧ tst (s.chip.rd spCtx (256 * k.val + 1)) 3 = true ∧ s.chip.cyc.triggered = 0 ∧ s.chip.armed k.val = true ∧ s.chip.cc.checking = none ∧ s.chip.cc.susp = [] ∧ s.chip.pw.cur = Mode.run ∧ (∀ (c : Capture), s.chip.cc.cap = some c → c.ctx ≠ k) ∧ s.chip.cc.cap.isSome = true ∧ k ∉ s.chip.cc.heldTrig ∧ tst (s.chip.rd spCtx (256 * k.val)) 3 = true) ∧
    (∃ (s : State) (k : Fin 16) (p : Fin 32), s.chip.pw.core = true ∧ s.chip.fsel p.val = 3 ∧ (∀ j : Nat, j < 16 → (fld (s.chip.rd spCtx (256 * j + 1)) 8 5 = p.val ↔ j = k.val)) ∧ tst (s.chip.rd spCtx (256 * k.val + 1)) 0 = true ∧ s.chip.cyc.triggered = 0 ∧ s.chip.armed k.val = true ∧ fld (s.chip.rd spCtx (256 * k.val + 1)) 13 2 = 0 ∧ s.chip.cc.checking = none ∧ s.chip.cc.susp = [] ∧ s.chip.pw.cur = Mode.run ∧ (∀ (c : Capture), s.chip.cc.cap = some c → c.ctx ≠ k) ∧ s.chip.cc.cap.isSome = true ∧ k ∉ s.chip.cc.heldTrig ∧ tst (s.chip.rd spCtx (256 * k.val)) 3 = false) ∧
    (∃ (s : State) (k : Fin 16) (p : Fin 32), s.chip.pw.core = true ∧ s.chip.fsel p.val = 3 ∧ (∀ j : Nat, j < 16 → (fld (s.chip.rd spCtx (256 * j + 1)) 8 5 = p.val ↔ j = k.val)) ∧ tst (s.chip.rd spCtx (256 * k.val + 1)) 0 = true ∧ s.chip.cyc.triggered = 0 ∧ s.chip.armed k.val = false ∧ fld (s.chip.rd spCtx (256 * k.val + 1)) 13 2 = 0) :=
  ⟨⟨on { poke up (ctxW 1 8) with cyc := { Cycle.fresh with seen := [1], triggered := 2 } }, 1, reaches_of (by decide +kernel), by decide +kernel⟩,
   ⟨on (poke up (ctxW 1 8)), 1, reaches_of (by decide +kernel), by decide +kernel⟩,
   ⟨on (withCap (poke up (armW 2 8)) cap1), 2, reaches_of (by decide +kernel), by decide +kernel⟩,
   ⟨on (withCap (poke up (armW 2 8 ++ [(spCtx,0x200,0x1018)])) cap1), 2, reaches_of (by decide +kernel), by decide +kernel⟩,
   ⟨on (withCap (poke up (armW 3 1 ++ [(spPin,pinOff 5 0,3),(spCtx,0x301,0x0501)])) cap1), 3, 5, by decide +kernel⟩,
   ⟨on (poke up (ctxW 3 1 ++ [(spPin,pinOff 5 0,3),(spCtx,0x301,0x0501)])), 3, 5, by decide +kernel⟩⟩

end TriggersWait

namespace CapturesStart

/-- States and operands that meet the hypotheses of `Obligations.CapturesStart`, clause by clause. -/
theorem test_CapturesStart_hypotheses :
    (∃ (s : State) (k : Fin 16) (rest : List (Fin 16)), s.chip.cc.heldTrig = k :: rest ∧ s.chip.pw.core = true ∧ s.chip.arrayBusy = false ∧ (s.chip.armCheck (s.chip.latchCtx k.val)).1 = 0) ∧
    (∃ (s : State) (k : Fin 16), s.reaches 0 44 ∧ tst (s.chip.rd spCtx (256 * k.val + 1)) 3 = true ∧ s.chip.armed k.val = true ∧ s.chip.cc.checking = none ∧ s.chip.cc.susp = [] ∧ s.chip.arrayBusy = false ∧ s.chip.cc.heldTrig = [] ∧ s.chip.cyc.triggered = 0 ∧ (s.chip.armCheck (s.chip.latchCtx k.val)).1 = 0) ∧
    (∃ (s : State) (k : Fin 16) (p : Fin 32), s.chip.pw.core = true ∧ s.chip.fsel p.val = 3 ∧ (∀ j : Nat, j < 16 → (fld (s.chip.rd spCtx (256 * j + 1)) 8 5 = p.val ↔ j = k.val)) ∧ tst (s.chip.rd spCtx (256 * k.val + 1)) 0 = true ∧ fld (s.chip.rd spCtx (256 * k.val + 1)) 13 2 = 0 ∧ s.chip.armed k.val = true ∧ s.chip.cc.checking = none ∧ s.chip.cc.susp = [] ∧ s.chip.arrayBusy = false ∧ s.chip.cc.heldTrig = [] ∧ s.chip.cyc.triggered = 0 ∧ (s.chip.armCheck (s.chip.latchCtx k.val)).1 = 0) :=
  ⟨⟨on { poke up (armW 1 8) with cc := {up.cc with heldTrig := [1,2]}}, _, _, rfl, by decide +kernel⟩,
   ⟨on (poke up (armW 1 8)), 1, reaches_of (by decide +kernel), by decide +kernel⟩,
   ⟨on (poke up (armW 3 1 ++ [(spPin,pinOff 5 0,3),(spCtx,0x301,0x0501)])), 3, 5, by decide +kernel⟩⟩

end CapturesStart

namespace CapturesEnd
def rn (m : Chip) (w : List (Nat × Word)) : Chip := { poke m (w.map (fun (x : Nat × Word) => (spLoam, x.1, x.2))) with loam := {m.loam with running := true}}
def act1 : Action := { tick := 100, kind := 5, arg := 0, mask := 0, rise := false, op := 0 }
/-- States and operands that meet the hypotheses of `Obligations.CapturesEnd`, clause by clause. -/
theorem test_CapturesEnd_hypotheses :
    (∃ (s : State), s.chip.mayIssue = true ∧ iOp s.chip.fetch = 1 ∧ wordOk s.chip.fetch = true ∧ s.chip.outside = false ∧ s.chip.cc.susp = [] ∧ s.chip.endReady = true) ∧
    (∃ (s : State), s.chip.mayIssue = true ∧ iOp s.chip.fetch = 1 ∧ wordOk s.chip.fetch = true ∧ s.chip.outside = false ∧ s.chip.cc.susp = [] ∧ s.chip.endReady = false) ∧
    (∃ (s : State) (v : Word), s.reaches 0 42 ∧ s.chip.cc.susp = [] ∧ s.chip.cc.cap.isSome = true ∧ tst v 9 = false ∧ tst v 10 = false ∧ tst v 11 = true) :=
  ⟨⟨on (rn (withCap up cap1) [(1,0x0800)]), by decide +kernel⟩,
   ⟨on (let m := rn (withCap up cap1) [(1,0x0800)]; {m with loam := {m.loam with queue := [act1]}}), by decide +kernel⟩,
   ⟨on (rn (withCap up cap1) [(1,0x0800)]), 0x0800, reaches_of (by decide +kernel), by decide +kernel⟩⟩

end CapturesEnd

namespace StrobesAndRegulators
def ch (m : Chip) (c : Nat) (f : Channel → Channel) : Chip := m.mapChan c f
/-- States and operands that meet the hypotheses of `Obligations.StrobesAndRegulators`, clause by clause. -/
theorem test_StrobesAndRegulators_hypotheses :
    (∃ (s : State) (c : Fin 8), s.chip.moversOff ∧ (s.chip.chan c.val).level = true ∧ (s.chip.chan c.val).limit ≠ 0 ∧ s.chip.fallsBy c.val ((s.chip.chan c.val).rise + BitVec.setWidth 64 (s.chip.chan c.val).limit) = false ∧ s.chip.reached ((s.chip.chan c.val).rise + BitVec.setWidth 64 (s.chip.chan c.val).limit) = true) ∧
    (∃ (s : State) (c : Fin 8) (v : Word), s.opens spIllum 0 ∧ s.chip.shaped ∧ (s.chip.chan c.val).act = false ∧ tst v 15 = true) ∧
    (∃ (s : State) (c : Fin 8) (v : Word), s.opens spIllum 0 ∧ s.chip.shaped ∧ (s.chip.chan c.val).act = true ∧ tst v 15 = false ∧ s.chip.slotBusy (fld v 8 3) = false) ∧
    (∃ (s : State) (c : Fin 8) (v : Word), s.opens spIllum 0 ∧ s.chip.shaped ∧ (s.chip.chan c.val).level = false ∧ (s.chip.chan c.val).heldHi = none ∧ (s.chip.chan c.val).heldLo = none ∧ (BitVec.setWidth 10 (s.chip.rd spIllum (chanOff c.val 7))).toNat < (BitVec.setWidth 10 v).toNat) ∧
    (∃ (s : State) (c : Fin 8) (v : Word), s.opens spIllum 0 ∧ s.chip.shaped ∧ (s.chip.chan c.val).level = false ∧ (s.chip.chan c.val).heldHi = none ∧ (s.chip.chan c.val).heldLo = none ∧ (BitVec.setWidth 10 v).toNat ≤ (BitVec.setWidth 10 (s.chip.rd spIllum (chanOff c.val 7))).toNat) ∧
    (∃ (s : State) (c : Fin 8) (v : Word), s.opens spIllum 0 ∧ s.chip.shaped ∧ (s.chip.chan c.val).level = false ∧ (s.chip.chan c.val).heldHi = none ∧ (s.chip.chan c.val).heldLo = none ∧ (BitVec.setWidth 10 (s.chip.rd spIllum (chanOff c.val 6))).toNat ≤ (BitVec.setWidth 10 v).toNat) :=
  ⟨⟨on { ch up 3 (fun c => {c with level := true, src := true, limit := 5, rise := 2}) with tb := {up.tb with stb := 7}}, 3, moversOff_of (by decide +kernel), by decide +kernel⟩,
   ⟨on { ch up 3 (fun c => {c with level := true, src := true, limit := 5, rise := 2}) with tb := {up.tb with stb := 7}}, 0, 0xffff, opens_of (by decide +kernel), shaped_of (by decide +kernel), by decide +kernel⟩,
   ⟨on { ch up 3 (fun c => {c with level := true, src := true, limit := 5, rise := 2, act := true}) with tb := {up.tb with stb := 6}}, 3, 0x1234, opens_of (by decide +kernel), shaped_of (by decide +kernel), by decide +kernel⟩,
   ⟨on (ch (poke up [(spIllum,chanOff 3 4,0x8000),(spIllum,chanOff 3 6,5),(spIllum,chanOff 3 7,9)]) 3 (fun c => {c with act := true})), 3, 0xffff, opens_of (by decide +kernel), shaped_of (by decide +kernel), by decide +kernel⟩,
   ⟨on { ch up 3 (fun c => {c with level := true, src := true, limit := 5, rise := 2}) with tb := {up.tb with stb := 7}}, 0, 0xffff, opens_of (by decide +kernel), shaped_of (by decide +kernel), by decide +kernel⟩,
   ⟨on { ch up 3 (fun c => {c with level := true, src := true, limit := 5, rise := 2}) with tb := {up.tb with stb := 7}}, 0, 0xffff, opens_of (by decide +kernel), shaped_of (by decide +kernel), by decide +kernel⟩⟩

end StrobesAndRegulators

namespace HkcConversions
def rq (d : Tick) : HkcReq := { due := d, ch := 3, prio := 0, drop := false, qen := false, waited := false }
def cv : HkcConv := { slot := 2, req := rq 5, at_ := 5, supply := false, sliceB := false, shadow := false, ofs := 0, gain := 0x4000 }
def sl (m : Chip) (_src : Word) : Chip := poke m [(spHkc,slotOff 2 0, 0x8300),(spHkc,slotOff 2 1,0x1000),(spHkc,0,0x8000),(spHkc,slotOff 2 2,7)]
/-- States and operands that meet the hypotheses of `Obligations.HkcConversions`, clause by clause. -/
theorem test_HkcConversions_hypotheses :
    (∃ (s : State) (j : Fin 8), s.opens spHkc 3 ∧ s.chip.shaped ∧ s.chip.slotSrc j.val = 1 ∧ tst (s.chip.rd spHkc (slotOff j.val 0)) 15 = true ∧ s.chip.slotsOn = true ∧ tst (s.chip.rd 0 18) 1 = false ∧ s.chip.slotReq j.val = none) ∧
    (∃ (s : State) (j : Fin 8), s.opens spHkc 3 ∧ s.chip.shaped ∧ s.chip.slotSrc j.val = 1 ∧ tst (s.chip.rd spHkc (slotOff j.val 0)) 15 = true ∧ s.chip.slotsOn = true ∧ tst (s.chip.rd 0 18) 1 = false ∧ s.chip.slotReq j.val ≠ none) ∧
    (∃ (s : State) (j : Fin 8) (r : HkcReq), s.chip.slotReq j.val = some r ∧ s.chip.pw.core = true ∧ r.due = s.chip.tb.stb ∧ s.chip.hkcReady = true ∧ (∀ i : Nat, i < 8 → (i ≠ j.val → s.chip.slotReq i = none))) ∧
    (∃ (s : State) (j : Fin 8) (r : HkcReq), s.chip.slotReq j.val = some r ∧ s.chip.pw.core = true ∧ BitVec.toNat r.due + 20 ≤ BitVec.toNat s.chip.tb.stb) ∧
    (∃ (s : State) (c : HkcConv) (r : List HkcConv) (raw : Nat) (m : Chip), m = Chip.deliver { s.chip with hkc := { s.chip.hkc with conv := r } } c raw ∧ s.chip.moversOff ∧ s.chip.pw.core = true ∧ s.chip.hkc.conv = c :: r ∧ c.slot < 8 ∧ c.shadow = false) ∧
    (∃ (s : State) (n : Nat) (sp : Bool) (sums : List Nat), s.chip.pw.core = true ∧ s.chip.hkc.conv = [] ∧ s.chip.hkcFree = true ∧ s.chip.cal.run = CalRun.vref sp n sums ∧ n < 3072 ∧ s.chip.hkc.background = false ∧ s.chip.hkc.spareOn = false) ∧
    (∃ (s : State) (e : Word × Word × Tick) (r : List (Word × Word × Tick)), s.chip.hkc.queue = e :: r ∧ s.chip.busOn = true ∧ s.chip.coreOn = true) ∧
    (∃ (s : State), s.chip.busOn = true ∧ s.chip.coreOn = true ∧ s.chip.hkc.queue = []) :=
  ⟨⟨on { sl up 1 with hkc := {up.hkc with act := true, background := false}, cal := {up.cal with run := .vref false 5 []}}, 2, opens_of (by decide +kernel), shaped_of (by decide +kernel), by decide +kernel⟩,
   ⟨on { sl up 0x0001 with hkc := {up.hkc with act := true, reqs := upd up.hkc.reqs 2 (fun _ => some (rq 40))}, tb := {up.tb with stb := 40}}, 2, opens_of (by decide +kernel), shaped_of (by decide +kernel), by decide +kernel⟩,
   ⟨on { sl up 0x0001 with hkc := {up.hkc with act := true, reqs := upd up.hkc.reqs 2 (fun _ => some (rq 40))}, tb := {up.tb with stb := 40}}, 2, _, rfl, by decide +kernel⟩,
   ⟨on { sl up 0x0001 with hkc := {up.hkc with act := true, reqs := upd up.hkc.reqs 2 (fun _ => some (rq 20))}, tb := {up.tb with stb := 40}}, 2, _, rfl, by decide +kernel⟩,
   ⟨on { sl up 1 with hkc := {up.hkc with act := true, conv := [cv]}}, cv, [], 5, _, rfl, moversOff_of (by decide +kernel), by decide +kernel⟩,
   ⟨on { sl up 1 with hkc := {up.hkc with act := true, background := false}, cal := {up.cal with run := .vref false 5 []}}, 5, false, [], by decide +kernel⟩,
   ⟨on { sl up 0x0001 with hkc := {up.hkc with act := true, queue := [(1,2,3),(4,5,6)]}}, _, _, rfl, by decide +kernel⟩,
   ⟨on { sl up 1 with hkc := {up.hkc with act := true, background := false}, cal := {up.cal with run := .vref false 5 []}}, by decide +kernel⟩⟩

end HkcConversions

namespace HkcModes
def hk (m : Chip) (v : Word) (b sp : Bool) : Chip := { poke m [(spHkc,0,v)] with hkc := {m.hkc with act := true, background := b, spareOn := sp}}
/-- States and operands that meet the hypotheses of `Obligations.HkcModes`, clause by clause. -/
theorem test_HkcModes_hypotheses :
    (∃ (s : State) (v : Word), s.opens spHkc 0 ∧ 64 < fld v 0 7) ∧
    (∃ (s : State) (v : Word), s.opens spHkc 0 ∧ fld v 0 7 ≤ 64 ∧ s.chip.hkc.act = false ∧ tst v 15 = true) ∧
    (∃ (s : State) (v : Word), s.opens spHkc 0 ∧ fld v 0 7 ≤ 64 ∧ s.chip.hkc.act = true ∧ tst (s.chip.rd spHkc 0) 15 = true ∧ tst v 15 = false) ∧
    (∃ (s : State) (v : Word), s.opens spHkc 0 ∧ fld v 0 7 ≤ 64 ∧ s.chip.hkcReady = true) ∧
    (∃ (s : State), s.chip.hkc.act = true ∧ (s.chip.hkc.pend = true ∨ tst (s.chip.rd spHkc 0) 15 = false) ∧ s.chip.hkc.conv = []) ∧
    (∃ (s : State), s.chip.pw.core = true ∧ s.chip.hkc.background = true ∧ tst (s.chip.rd spHkc 0) 8 = true ∧ s.chip.hkc.spareOn = false ∧ BitVec.toNat s.chip.hkc.spareFrom + 2000 ≤ BitVec.toNat s.chip.tb.stb) ∧
    (∃ (s : State) (x : Fin 2) (l : List (Nat × Nat)) (n : Nat) (held : Bool), s.chip.pw.core = true ∧ s.chip.hkcWin x.val = (l, n, held) ∧ 256 ≤ n ∧ l = []) ∧
    (∃ (s : State) (x : Fin 2) (l : List (Nat × Nat)) (n : Nat) (held : Bool), s.chip.moversOff ∧ s.chip.pw.core = true ∧ s.chip.hkcWin x.val = (l, n, held) ∧ 256 ≤ n ∧ 4 * l.length < (List.map (fun p => (p.1 : Int) - (p.2 : Int)) l).sum.natAbs ∧ held = true) :=
  ⟨⟨on (atT { hk up 0x0100 true false with hkc := {(hk up 0x0100 true false).hkc with act := true, spareFrom := 0} } 5000), 0xffff, opens_of (by decide +kernel), by decide +kernel⟩,
   ⟨on { up with hkc := {up.hkc with windows := [([], 256, false), ([], 0, false)]} }, 0x8000, opens_of (by decide +kernel), by decide +kernel⟩,
   ⟨on (hk up 0x8100 true false), 0x1234, opens_of (by decide +kernel), by decide +kernel⟩,
   ⟨on (atT { hk up 0x0100 true false with hkc := {(hk up 0x0100 true false).hkc with act := true, spareFrom := 0} } 5000), 0x1234, opens_of (by decide +kernel), by decide +kernel⟩,
   ⟨on (atT { hk up 0x0100 true false with hkc := {(hk up 0x0100 true false).hkc with act := true, spareFrom := 0} } 5000), by decide +kernel⟩,
   ⟨on (atT { hk up 0x0100 true false with hkc := {(hk up 0x0100 true false).hkc with act := true, spareFrom := 0} } 5000), by decide +kernel⟩,
   ⟨on { up with hkc := {up.hkc with windows := [([], 256, false), ([], 0, false)]} }, 0, [], 256, false, by decide +kernel⟩,
   ⟨on { up with hkc := {up.hkc with windows := [([(100,50)], 256, true), ([], 0, false)]} }, 0, [(100,50)], 256, true, moversOff_of (by decide +kernel), by decide +kernel⟩⟩

end HkcModes

namespace LoamControlFlow
def stk (s : State) (l : List Nat) : State := on { s.chip with loam := { s.chip.loam with stack := l } }
/-- States and operands that meet the hypotheses of `Obligations.LoamControlFlow`, clause by clause. -/
theorem test_LoamControlFlow_hypotheses :
    (∃ (s : State) (w : Nat) (tgt : Nat) (a : Long) (b : Long), w = s.chip.fetch ∧ tgt = w % 4096 ∧ a = s.chip.lreg (iA w) ∧ b = s.chip.lreg (iB w) ∧ s.chip.inBank ∧ s.issues 0 ∧ tgt < s.chip.bankSize) ∧
    (∃ (s : State) (w : Nat) (tgt : Nat) (a : Long) (b : Long), w = s.chip.fetch ∧ tgt = w % 4096 ∧ a = s.chip.lreg (iA w) ∧ b = s.chip.lreg (iB w) ∧ s.chip.inBank ∧ s.issues 2 ∧ tgt < s.chip.bankSize) ∧
    (∃ (s : State) (w : Nat) (tgt : Nat) (a : Long) (b : Long), w = s.chip.fetch ∧ tgt = w % 4096 ∧ a = s.chip.lreg (iA w) ∧ b = s.chip.lreg (iB w) ∧ s.chip.inBank ∧ s.issues 3 ∧ tgt < s.chip.bankSize) ∧
    (∃ (s : State) (w : Nat) (tgt : Nat) (a : Long) (b : Long), w = s.chip.fetch ∧ tgt = w % 4096 ∧ a = s.chip.lreg (iA w) ∧ b = s.chip.lreg (iB w) ∧ s.chip.inBank ∧ s.issues 4 ∧ tgt < s.chip.bankSize) ∧
    (∃ (s : State) (w : Nat) (tgt : Nat) (a : Long) (b : Long), w = s.chip.fetch ∧ tgt = w % 4096 ∧ a = s.chip.lreg (iA w) ∧ b = s.chip.lreg (iB w) ∧ s.chip.inBank ∧ s.issues 13 ∧ tgt < s.chip.bankSize) ∧
    (∃ (s : State) (w : Nat) (tgt : Nat) (a : Long) (b : Long), w = s.chip.fetch ∧ tgt = w % 4096 ∧ a = s.chip.lreg (iA w) ∧ b = s.chip.lreg (iB w) ∧ s.chip.inBank ∧ s.issues 5 ∧ tgt < s.chip.bankSize) ∧
    (∃ (s : State), s.issues 6 ∧ s.chip.fetch % 4096 < s.chip.bankSize ∧ s.chip.loam.stack.length < 8) ∧
    (∃ (s : State), s.issues 6 ∧ 8 ≤ s.chip.loam.stack.length) ∧
    (∃ (s : State) (a : Nat) (r : List Nat), s.chip.loam.stack = a :: r ∧ s.issues 7 ∧ a < s.chip.bankSize) ∧
    (∃ (s : State), s.issues 7 ∧ s.chip.loam.stack = []) :=
  ⟨⟨lu (iw 0 0 0 0 0 0), _, _, _, _, rfl, rfl, rfl, rfl, inBank_of (by decide +kernel), issues_of (by decide +kernel), by decide +kernel⟩,
   ⟨lu (iw 2 0 0 0 0 9), _, _, _, _, rfl, rfl, rfl, rfl, inBank_of (by decide +kernel), issues_of (by decide +kernel), by decide +kernel⟩,
   ⟨lu (iw 3 0 0 0 0 9), _, _, _, _, rfl, rfl, rfl, rfl, inBank_of (by decide +kernel), issues_of (by decide +kernel), by decide +kernel⟩,
   ⟨lu (iw 4 0 0 0 0 9), _, _, _, _, rfl, rfl, rfl, rfl, inBank_of (by decide +kernel), issues_of (by decide +kernel), by decide +kernel⟩,
   ⟨lu (iw 13 1 2 0 0 9), _, _, _, _, rfl, rfl, rfl, rfl, inBank_of (by decide +kernel), issues_of (by decide +kernel), by decide +kernel⟩,
   ⟨lu (iw 5 0 0 0 0 9), _, _, _, _, rfl, rfl, rfl, rfl, inBank_of (by decide +kernel), issues_of (by decide +kernel), by decide +kernel⟩,
   ⟨lu (iw 6 0 0 0 0 9), issues_of (by decide +kernel), by decide +kernel⟩,
   ⟨stk (lu (iw 6 0 0 0 0 9)) [1,2,3,4,5,6,7,8], issues_of (by decide +kernel), by decide +kernel⟩,
   ⟨stk (lu (iw 7 0 0 0 0 0)) [4095], _, _, rfl, issues_of (by decide +kernel), by decide +kernel⟩,
   ⟨lu (iw 7 0 0 0 0 0), issues_of (by decide +kernel), by decide +kernel⟩⟩

end LoamControlFlow

namespace LoamData

/-- States and operands that meet the hypotheses of `Obligations.LoamData`, clause by clause. -/
theorem test_LoamData_hypotheses :
    (∃ (s : State) (w : Nat) (a : Long) (b : Long) (c : Long), w = s.chip.fetch ∧ a = s.chip.lreg (iA w) ∧ b = s.chip.lreg (iB w) ∧ c = s.chip.lreg (iC w) ∧ s.chip.inBank ∧ s.issues 8) ∧
    (∃ (s : State) (w : Nat) (a : Long) (b : Long) (c : Long), w = s.chip.fetch ∧ a = s.chip.lreg (iA w) ∧ b = s.chip.lreg (iB w) ∧ c = s.chip.lreg (iC w) ∧ s.chip.inBank ∧ s.issues 9) ∧
    (∃ (s : State) (w : Nat) (a : Long) (b : Long) (c : Long) (k : Capture), w = s.chip.fetch ∧ a = s.chip.lreg (iA w) ∧ b = s.chip.lreg (iB w) ∧ c = s.chip.lreg (iC w) ∧ s.chip.cc.cap = some k ∧ s.chip.inBank ∧ s.issues 10 ∧ iX w % 2 = 0) ∧
    (∃ (s : State) (w : Nat) (a : Long) (b : Long) (c : Long) (k : Capture), w = s.chip.fetch ∧ a = s.chip.lreg (iA w) ∧ b = s.chip.lreg (iB w) ∧ c = s.chip.lreg (iC w) ∧ s.chip.cc.cap = some k ∧ s.chip.inBank ∧ s.issues 10 ∧ iX w % 2 = 1 ∧ iImm w < 255) ∧
    (∃ (s : State) (w : Nat) (a : Long) (b : Long) (c : Long), w = s.chip.fetch ∧ a = s.chip.lreg (iA w) ∧ b = s.chip.lreg (iB w) ∧ c = s.chip.lreg (iC w) ∧ s.chip.inBank ∧ s.issues 11) ∧
    (∃ (s : State) (w : Nat) (a : Long) (b : Long) (c : Long), w = s.chip.fetch ∧ a = s.chip.lreg (iA w) ∧ b = s.chip.lreg (iB w) ∧ c = s.chip.lreg (iC w) ∧ s.chip.inBank ∧ s.issues 12) ∧
    (∃ (s : State) (w : Nat) (a : Long) (b : Long) (c : Long) (k : Capture), w = s.chip.fetch ∧ a = s.chip.lreg (iA w) ∧ b = s.chip.lreg (iB w) ∧ c = s.chip.lreg (iC w) ∧ s.chip.cc.cap = some k ∧ s.chip.inBank ∧ s.issues 14 ∧ iImm w = 0) ∧
    (∃ (s : State) (w : Nat) (a : Long) (b : Long) (c : Long) (k : Capture), w = s.chip.fetch ∧ a = s.chip.lreg (iA w) ∧ b = s.chip.lreg (iB w) ∧ c = s.chip.lreg (iC w) ∧ s.chip.cc.cap = some k ∧ s.chip.inBank ∧ s.issues 14 ∧ iImm w = 1) ∧
    (∃ (s : State) (w : Nat) (a : Long) (b : Long) (c : Long) (k : Capture), w = s.chip.fetch ∧ a = s.chip.lreg (iA w) ∧ b = s.chip.lreg (iB w) ∧ c = s.chip.lreg (iC w) ∧ s.chip.cc.cap = some k ∧ s.chip.inBank ∧ s.issues 14 ∧ iImm w = 2) ∧
    (∃ (s : State) (w : Nat) (a : Long) (b : Long) (c : Long) (k : Capture), w = s.chip.fetch ∧ a = s.chip.lreg (iA w) ∧ b = s.chip.lreg (iB w) ∧ c = s.chip.lreg (iC w) ∧ s.chip.cc.cap = some k ∧ s.chip.inBank ∧ s.issues 14 ∧ 7 ≤ iImm w) ∧
    (∃ (s : State) (w : Nat) (a : Long) (b : Long) (c : Long), w = s.chip.fetch ∧ a = s.chip.lreg (iA w) ∧ b = s.chip.lreg (iB w) ∧ c = s.chip.lreg (iC w) ∧ s.chip.inBank ∧ s.issues 15 ∧ iX w = 0) ∧
    (∃ (s : State), s.chip.inBank ∧ s.issues 15 ∧ iX s.chip.fetch = 1) ∧
    (∃ (s : State) (c : Capture), s.chip.cc.cap = some c ∧ s.chip.inBank ∧ s.issues 30) :=
  ⟨⟨lu (iw 8 3 0 0 0 0xFFFF), _, _, _, _, rfl, rfl, rfl, rfl, inBank_of (by decide +kernel), issues_of (by decide +kernel)⟩,
   ⟨lu (iw 9 5 0 0 0 0x1234), _, _, _, _, rfl, rfl, rfl, rfl, inBank_of (by decide +kernel), issues_of (by decide +kernel)⟩,
   ⟨lu (iw 10 2 0 0 0 0x32), _, _, _, _, _, rfl, rfl, rfl, rfl, rfl, inBank_of (by decide +kernel), issues_of (by decide +kernel), by decide +kernel⟩,
   ⟨lu (iw 10 2 0 0 1 0x32), _, _, _, _, _, rfl, rfl, rfl, rfl, rfl, inBank_of (by decide +kernel), issues_of (by decide +kernel), by decide +kernel⟩,
   ⟨lu (iw 11 7 5 6 0 0), _, _, _, _, rfl, rfl, rfl, rfl, inBank_of (by decide +kernel), issues_of (by decide +kernel)⟩,
   ⟨lu (iw 12 1 5 0 0 0xFFFF), _, _, _, _, rfl, rfl, rfl, rfl, inBank_of (by decide +kernel), issues_of (by decide +kernel)⟩,
   ⟨lu (iw 14 1 0 0 0 0), _, _, _, _, _, rfl, rfl, rfl, rfl, rfl, inBank_of (by decide +kernel), issues_of (by decide +kernel), by decide +kernel⟩,
   ⟨lu (iw 14 1 0 0 0 1), _, _, _, _, _, rfl, rfl, rfl, rfl, rfl, inBank_of (by decide +kernel), issues_of (by decide +kernel), by decide +kernel⟩,
   ⟨lu (iw 14 1 0 0 0 2), _, _, _, _, _, rfl, rfl, rfl, rfl, rfl, inBank_of (by decide +kernel), issues_of (by decide +kernel), by decide +kernel⟩,
   ⟨lu (iw 14 1 0 0 0 7), _, _, _, _, _, rfl, rfl, rfl, rfl, rfl, inBank_of (by decide +kernel), issues_of (by decide +kernel), by decide +kernel⟩,
   ⟨lu (iw 15 1 0 0 0 63), _, _, _, _, rfl, rfl, rfl, rfl, inBank_of (by decide +kernel), issues_of (by decide +kernel), by decide +kernel⟩,
   ⟨lu (iw 15 5 0 0 1 63), inBank_of (by decide +kernel), issues_of (by decide +kernel), by decide +kernel⟩,
   ⟨lu (iw 0x1E 0 0 0 0 5), _, rfl, inBank_of (by decide +kernel), issues_of (by decide +kernel)⟩⟩

end LoamData

namespace LoamWaits
def wt (m : Chip) (x : LoamWait) : Chip := { m with loam := { m.loam with wait := some x } }
/-- States and operands that meet the hypotheses of `Obligations.LoamWaits`, clause by clause. -/
theorem test_LoamWaits_hypotheses :
    (∃ (s : State) (t0 : Tick), t0 = s.chip.loam.t0 + BitVec.setWidth 64 (s.chip.lreg (iB s.chip.fetch)) + BitVec.ofInt 64 (sext (iImm s.chip.fetch) 16) ∧ s.issues 16 ∧ s.chip.inBank ∧ s.chip.reached t0 = true) ∧
    (∃ (s : State) (t0 : Tick), t0 = s.chip.loam.t0 + BitVec.setWidth 64 (s.chip.lreg (iB s.chip.fetch)) + BitVec.ofInt 64 (sext (iImm s.chip.fetch) 16) ∧ s.issues 16 ∧ s.chip.inBank ∧ s.chip.reached t0 = false) ∧
    (∃ (s : State) (t0 : Tick), s.chip.loam.wait = some (LoamWait.tick t0) ∧ s.chip.inBank ∧ s.chip.pw.core = true ∧ s.chip.reached t0 = true ∧ s.chip.loam.haltPend = 0 ∧ s.chip.loam.stepping = false) ∧
    (∃ (s : State), s.issues 17 ∧ s.chip.inBank ∧ iImm s.chip.fetch < 2 ∧ s.chip.waitCond (iImm s.chip.fetch) = true) ∧
    (∃ (s : State), s.issues 17 ∧ s.chip.inBank ∧ iImm s.chip.fetch < 2 ∧ s.chip.waitCond (iImm s.chip.fetch) = false) ∧
    (∃ (s : State), s.issues 17 ∧ s.chip.inBank ∧ 3 ≤ iImm s.chip.fetch) ∧
    (∃ (s : State) (k : Nat), s.chip.loam.wait = some (LoamWait.event k) ∧ s.chip.inBank ∧ s.chip.pw.core = true ∧ k < 2 ∧ s.chip.waitCond k = true ∧ s.chip.loam.haltPend = 0 ∧ s.chip.loam.stepping = false) :=
  ⟨⟨on (atT (lu (iw 16 0 4 0 0 0)).chip 1100), _, rfl, issues_of (by decide +kernel), inBank_of (by decide +kernel), by decide +kernel⟩,
   ⟨lu (iw 16 0 4 0 0 0xFFFF), _, rfl, issues_of (by decide +kernel), inBank_of (by decide +kernel), by decide +kernel⟩,
   ⟨on (atT (wt (lu 0).chip (.tick 5)) 5), _, rfl, inBank_of (by decide +kernel), by decide +kernel⟩,
   ⟨lu (iw 17 0 0 0 0 0), issues_of (by decide +kernel), inBank_of (by decide +kernel), by decide +kernel⟩,
   ⟨on (let m := (lu (iw 17 0 0 0 0 1)).chip; { m with loam := { m.loam with queue := [act 5 5 0 0 false 0] } }), issues_of (by decide +kernel), inBank_of (by decide +kernel), by decide +kernel⟩,
   ⟨lu (iw 17 0 0 0 0 3), issues_of (by decide +kernel), inBank_of (by decide +kernel), by decide +kernel⟩,
   ⟨on (wt (lu 0).chip (.event 0)), _, rfl, inBank_of (by decide +kernel), by decide +kernel⟩⟩

end LoamWaits

namespace LoamTiming
def full (s : State) (n : Nat) : State := on { s.chip with loam := { s.chip.loam with queue := List.replicate n (act 99999 5 0 0 false 0) } }
/-- States and operands that meet the hypotheses of `Obligations.LoamTiming`, clause by clause. -/
theorem test_LoamTiming_hypotheses :
    (∃ (s : State) (w : Nat) (at0 : Tick) (at1 : Tick), w = s.chip.fetch ∧ at0 = s.chip.loam.t0 + BitVec.setWidth 64 (s.chip.lreg (iB w)) ∧ at1 = at0 + BitVec.ofInt 64 (sext (iImm w) 16) ∧ s.chip.inBank ∧ s.issues 20 ∧ s.chip.loam.queue.length < 32 ∧ s.chip.reached (act at1 1 (iX w) 0 false 0).tick = false) ∧
    (∃ (s : State) (w : Nat) (at0 : Tick) (at1 : Tick), w = s.chip.fetch ∧ at0 = s.chip.loam.t0 + BitVec.setWidth 64 (s.chip.lreg (iB w)) ∧ at1 = at0 + BitVec.ofInt 64 (sext (iImm w) 16) ∧ s.chip.inBank ∧ s.issues 20 ∧ s.chip.loam.queue.length < 32 ∧ s.chip.reached (act at1 1 (iX w) 0 false 0).tick = true) ∧
    (∃ (s : State) (w : Nat) (at0 : Tick) (at1 : Tick), w = s.chip.fetch ∧ at0 = s.chip.loam.t0 + BitVec.setWidth 64 (s.chip.lreg (iB w)) ∧ at1 = at0 + BitVec.ofInt 64 (sext (iImm w) 16) ∧ s.chip.inBank ∧ s.issues 20 ∧ 32 ≤ s.chip.loam.queue.length) ∧
    (∃ (s : State) (w : Nat) (at0 : Tick) (at1 : Tick), w = s.chip.fetch ∧ at0 = s.chip.loam.t0 + BitVec.setWidth 64 (s.chip.lreg (iB w)) ∧ at1 = at0 + BitVec.ofInt 64 (sext (iImm w) 16) ∧ s.chip.inBank ∧ s.issues 21 ∧ s.chip.loam.queue.length < 32 ∧ s.chip.reached (act at1 0 (iX w) 0 false 0).tick = false) ∧
    (∃ (s : State) (w : Nat) (at0 : Tick) (at1 : Tick), w = s.chip.fetch ∧ at0 = s.chip.loam.t0 + BitVec.setWidth 64 (s.chip.lreg (iB w)) ∧ at1 = at0 + BitVec.ofInt 64 (sext (iImm w) 16) ∧ s.chip.inBank ∧ s.issues 21 ∧ s.chip.loam.queue.length < 32 ∧ s.chip.reached (act at1 0 (iX w) 0 false 0).tick = true) ∧
    (∃ (s : State) (w : Nat) (at0 : Tick) (at1 : Tick), w = s.chip.fetch ∧ at0 = s.chip.loam.t0 + BitVec.setWidth 64 (s.chip.lreg (iB w)) ∧ at1 = at0 + BitVec.ofInt 64 (sext (iImm w) 16) ∧ s.chip.inBank ∧ s.issues 21 ∧ 32 ≤ s.chip.loam.queue.length) ∧
    (∃ (s : State) (w : Nat) (at0 : Tick) (at1 : Tick), w = s.chip.fetch ∧ at0 = s.chip.loam.t0 + BitVec.setWidth 64 (s.chip.lreg (iB w)) ∧ at1 = at0 + BitVec.ofInt 64 (sext (iImm w) 16) ∧ s.chip.inBank ∧ s.issues 22 ∧ s.chip.loam.queue.length < 32 ∧ s.chip.reached (act at0 2 0 (BitVec.ofNat 8 (iImm w)) (iX w == 1) 0).tick = false) ∧
    (∃ (s : State) (w : Nat) (at0 : Tick) (at1 : Tick), w = s.chip.fetch ∧ at0 = s.chip.loam.t0 + BitVec.setWidth 64 (s.chip.lreg (iB w)) ∧ at1 = at0 + BitVec.ofInt 64 (sext (iImm w) 16) ∧ s.chip.inBank ∧ s.issues 22 ∧ s.chip.loam.queue.length < 32 ∧ s.chip.reached (act at0 2 0 (BitVec.ofNat 8 (iImm w)) (iX w == 1) 0).tick = true) ∧
    (∃ (s : State) (w : Nat) (at0 : Tick) (at1 : Tick), w = s.chip.fetch ∧ at0 = s.chip.loam.t0 + BitVec.setWidth 64 (s.chip.lreg (iB w)) ∧ at1 = at0 + BitVec.ofInt 64 (sext (iImm w) 16) ∧ s.chip.inBank ∧ s.issues 22 ∧ 32 ≤ s.chip.loam.queue.length) ∧
    (∃ (s : State) (w : Nat) (at0 : Tick) (at1 : Tick), w = s.chip.fetch ∧ at0 = s.chip.loam.t0 + BitVec.setWidth 64 (s.chip.lreg (iB w)) ∧ at1 = at0 + BitVec.ofInt 64 (sext (iImm w) 16) ∧ s.chip.inBank ∧ s.issues 23 ∧ s.chip.loam.queue.length < 32 ∧ s.chip.reached (act at0 3 (iX w) 0 false 0).tick = false) ∧
    (∃ (s : State) (w : Nat) (at0 : Tick) (at1 : Tick), w = s.chip.fetch ∧ at0 = s.chip.loam.t0 + BitVec.setWidth 64 (s.chip.lreg (iB w)) ∧ at1 = at0 + BitVec.ofInt 64 (sext (iImm w) 16) ∧ s.chip.inBank ∧ s.issues 23 ∧ s.chip.loam.queue.length < 32 ∧ s.chip.reached (act at0 3 (iX w) 0 false 0).tick = true) ∧
    (∃ (s : State) (w : Nat) (at0 : Tick) (at1 : Tick), w = s.chip.fetch ∧ at0 = s.chip.loam.t0 + BitVec.setWidth 64 (s.chip.lreg (iB w)) ∧ at1 = at0 + BitVec.ofInt 64 (sext (iImm w) 16) ∧ s.chip.inBank ∧ s.issues 23 ∧ 32 ≤ s.chip.loam.queue.length) ∧
    (∃ (s : State) (w : Nat) (at0 : Tick) (at1 : Tick), w = s.chip.fetch ∧ at0 = s.chip.loam.t0 + BitVec.setWidth 64 (s.chip.lreg (iB w)) ∧ at1 = at0 + BitVec.ofInt 64 (sext (iImm w) 16) ∧ s.chip.inBank ∧ s.issues 24 ∧ s.chip.loam.queue.length < 32 ∧ s.chip.reached (act at0 5 (iImm w) 0 false 0).tick = false) ∧
    (∃ (s : State) (w : Nat) (at0 : Tick) (at1 : Tick), w = s.chip.fetch ∧ at0 = s.chip.loam.t0 + BitVec.setWidth 64 (s.chip.lreg (iB w)) ∧ at1 = at0 + BitVec.ofInt 64 (sext (iImm w) 16) ∧ s.chip.inBank ∧ s.issues 24 ∧ s.chip.loam.queue.length < 32 ∧ s.chip.reached (act at0 5 (iImm w) 0 false 0).tick = true) ∧
    (∃ (s : State) (w : Nat) (at0 : Tick) (at1 : Tick), w = s.chip.fetch ∧ at0 = s.chip.loam.t0 + BitVec.setWidth 64 (s.chip.lreg (iB w)) ∧ at1 = at0 + BitVec.ofInt 64 (sext (iImm w) 16) ∧ s.chip.inBank ∧ s.issues 24 ∧ 32 ≤ s.chip.loam.queue.length) ∧
    (∃ (s : State) (w : Nat) (at0 : Tick) (at1 : Tick), w = s.chip.fetch ∧ at0 = s.chip.loam.t0 + BitVec.setWidth 64 (s.chip.lreg (iB w)) ∧ at1 = at0 + BitVec.ofInt 64 (sext (iImm w) 16) ∧ s.chip.inBank ∧ s.issues 25 ∧ iX w ≠ 0 ∧ s.chip.loam.queue.length < 32 ∧ s.chip.reached (act at0 4 (iImm w) 0 false (iX w)).tick = false) ∧
    (∃ (s : State) (w : Nat) (at0 : Tick) (at1 : Tick), w = s.chip.fetch ∧ at0 = s.chip.loam.t0 + BitVec.setWidth 64 (s.chip.lreg (iB w)) ∧ at1 = at0 + BitVec.ofInt 64 (sext (iImm w) 16) ∧ s.chip.inBank ∧ s.issues 25 ∧ iX w ≠ 0 ∧ s.chip.loam.queue.length < 32 ∧ s.chip.reached (act at0 4 (iImm w) 0 false (iX w)).tick = true) ∧
    (∃ (s : State) (w : Nat) (at0 : Tick) (at1 : Tick), w = s.chip.fetch ∧ at0 = s.chip.loam.t0 + BitVec.setWidth 64 (s.chip.lreg (iB w)) ∧ at1 = at0 + BitVec.ofInt 64 (sext (iImm w) 16) ∧ s.chip.inBank ∧ s.issues 25 ∧ iX w ≠ 0 ∧ 32 ≤ s.chip.loam.queue.length) ∧
    (∃ (s : State) (w : Nat) (at0 : Tick) (at1 : Tick), w = s.chip.fetch ∧ at0 = s.chip.loam.t0 + BitVec.setWidth 64 (s.chip.lreg (iB w)) ∧ at1 = at0 + BitVec.ofInt 64 (sext (iImm w) 16) ∧ s.chip.inBank ∧ s.issues 25 ∧ iX w = 0) ∧
    (∃ (s : State) (c : Capture), s.chip.cc.cap = some c ∧ s.issues 19 ∧ s.chip.inBank ∧ c.strata ≤ iX s.chip.fetch) ∧
    (∃ (s : State) (c : Capture), s.chip.cc.cap = some c ∧ s.issues 19 ∧ s.chip.inBank ∧ iX s.chip.fetch < c.strata ∧ s.chip.loam.queue.length ≤ 27 ∧ (∀ a ∈ s.chip.strActions c (iX s.chip.fetch), s.chip.reached a.tick = false)) ∧
    (∃ (s : State) (acts : List Action), s.chip.loam.wait = some (LoamWait.queue acts) ∧ s.chip.inBank ∧ s.chip.pw.core = true ∧ s.chip.loam.queue.length + acts.length ≤ 32 ∧ s.chip.loam.haltPend = 0 ∧ s.chip.loam.stepping = false) :=
  ⟨⟨lu (iw 0x14 0 4 0 1 0), _, _, _, rfl, rfl, rfl, inBank_of (by decide +kernel), issues_of (by decide +kernel), by decide +kernel⟩,
   ⟨on (atT (lu (iw 0x14 0 4 0 1 0)).chip 5000), _, _, _, rfl, rfl, rfl, inBank_of (by decide +kernel), issues_of (by decide +kernel), by decide +kernel⟩,
   ⟨full (lu (iw 0x14 0 4 0 1 0)) 32, _, _, _, rfl, rfl, rfl, inBank_of (by decide +kernel), issues_of (by decide +kernel), by decide +kernel⟩,
   ⟨lu (iw 0x15 0 4 0 3 5), _, _, _, rfl, rfl, rfl, inBank_of (by decide +kernel), issues_of (by decide +kernel), by decide +kernel⟩,
   ⟨on (atT (lu (iw 0x15 0 4 0 3 5)).chip 5000), _, _, _, rfl, rfl, rfl, inBank_of (by decide +kernel), issues_of (by decide +kernel), by decide +kernel⟩,
   ⟨full (lu (iw 0x15 0 4 0 3 5)) 32, _, _, _, rfl, rfl, rfl, inBank_of (by decide +kernel), issues_of (by decide +kernel), by decide +kernel⟩,
   ⟨lu (iw 0x16 0 4 0 1 0xA5), _, _, _, rfl, rfl, rfl, inBank_of (by decide +kernel), issues_of (by decide +kernel), by decide +kernel⟩,
   ⟨on (atT (lu (iw 0x16 0 4 0 1 0xA5)).chip 5000), _, _, _, rfl, rfl, rfl, inBank_of (by decide +kernel), issues_of (by decide +kernel), by decide +kernel⟩,
   ⟨full (lu (iw 0x16 0 4 0 1 0xA5)) 32, _, _, _, rfl, rfl, rfl, inBank_of (by decide +kernel), issues_of (by decide +kernel), by decide +kernel⟩,
   ⟨lu (iw 0x17 0 4 0 3 0), _, _, _, rfl, rfl, rfl, inBank_of (by decide +kernel), issues_of (by decide +kernel), by decide +kernel⟩,
   ⟨on (atT (lu (iw 0x17 0 4 0 3 0)).chip 5000), _, _, _, rfl, rfl, rfl, inBank_of (by decide +kernel), issues_of (by decide +kernel), by decide +kernel⟩,
   ⟨full (lu (iw 0x17 0 4 0 3 0)) 32, _, _, _, rfl, rfl, rfl, inBank_of (by decide +kernel), issues_of (by decide +kernel), by decide +kernel⟩,
   ⟨lu (iw 0x18 0 4 0 0 7), _, _, _, rfl, rfl, rfl, inBank_of (by decide +kernel), issues_of (by decide +kernel), by decide +kernel⟩,
   ⟨on (atT (lu (iw 0x18 0 4 0 0 7)).chip 5000), _, _, _, rfl, rfl, rfl, inBank_of (by decide +kernel), issues_of (by decide +kernel), by decide +kernel⟩,
   ⟨full (lu (iw 0x18 0 4 0 0 7)) 32, _, _, _, rfl, rfl, rfl, inBank_of (by decide +kernel), issues_of (by decide +kernel), by decide +kernel⟩,
   ⟨lu (iw 0x19 0 4 0 1 31), _, _, _, rfl, rfl, rfl, inBank_of (by decide +kernel), issues_of (by decide +kernel), by decide +kernel⟩,
   ⟨on (atT (lu (iw 0x19 0 4 0 1 31)).chip 5000), _, _, _, rfl, rfl, rfl, inBank_of (by decide +kernel), issues_of (by decide +kernel), by decide +kernel⟩,
   ⟨full (lu (iw 0x19 0 4 0 1 31)) 32, _, _, _, rfl, rfl, rfl, inBank_of (by decide +kernel), issues_of (by decide +kernel), by decide +kernel⟩,
   ⟨lu (iw 0x19 0 4 0 0 1), _, _, _, rfl, rfl, rfl, inBank_of (by decide +kernel), issues_of (by decide +kernel), by decide +kernel⟩,
   ⟨lu (iw 0x13 0 0 0 3 0), _, rfl, issues_of (by decide +kernel), inBank_of (by decide +kernel), by decide +kernel⟩,
   ⟨lu (iw 0x13 0 0 0 0 0), _, rfl, issues_of (by decide +kernel), inBank_of (by decide +kernel), by decide +kernel⟩,
   ⟨on (let m := (full (lu 0) 31).chip; { m with loam := { m.loam with wait := some (.queue [act 88888 5 0 0 false 0]) } }), _, rfl, inBank_of (by decide +kernel), by decide +kernel⟩⟩

end LoamTiming

namespace LoamReadout
def cD : Capture := { cap1 with words := [(0,0x1013),(2,0x8100),(0x32,200),(0x11,2),(0xC2,48)].foldl (fun (b : Bank) (x : Nat × Word) => Bank.put b (key spCtx x.1) x.2) [] }
def cC : Capture := { cap1 with words := modeW capW 0x1012 }
def cS : Capture := { cap1 with words := Bank.put capW (key spCtx 4) 0x0008 }
/-- States and operands that meet the hypotheses of `Obligations.LoamReadout`, clause by clause. -/
theorem test_LoamReadout_hypotheses :
    (∃ (s : State) (c : Capture), s.chip.cc.cap = some c ∧ s.issues 26 ∧ s.chip.inBank ∧ c.interleaved = false ∧ iX s.chip.fetch < c.strata ∧ s.chip.readpReady = false) ∧
    (∃ (s : State) (c : Capture), s.chip.cc.cap = some c ∧ s.issues 26 ∧ s.chip.inBank ∧ c.interleaved = false ∧ iX s.chip.fetch < c.strata ∧ s.chip.readpReady = true ∧ s.chip.pipe.inline.length < 8) ∧
    (∃ (s : State) (c : Capture) (row : Nat), s.chip.cc.cap = some c ∧ row = BitVec.toNat (s.chip.lreg (iB s.chip.fetch)) ∧ s.issues 27 ∧ s.chip.inBank ∧ s.chip.loam.rom = false ∧ c.mode = 3 ∧ tst (c.word 192) 15 = false ∧ iX s.chip.fetch = 0 ∧ iImm s.chip.fetch = c.depth ∧ row % 2 = 0 ∧ 48 ≤ row ∧ row + c.depth ≤ 3888 ∧ s.chip.cc.drift.readb = none ∧ s.chip.cc.drift.ending = false) ∧
    (∃ (s : State), s.chip.inBank ∧ s.issues 28) ∧
    (∃ (s : State), s.chip.inBank ∧ s.issues 31 ∧ tst (s.chip.rd 0 50) 12 = true ∧ (∀ i : Nat, i < 4 → (tst (s.chip.rd spLoam (12296 + i)) 15 = false))) ∧
    (∃ (s : State), s.chip.inBank ∧ s.issues 18 ∧ iX s.chip.fetch = 0) ∧
    (∃ (s : State) (c : Capture), s.chip.cc.cap = some c ∧ s.chip.inBank ∧ s.issues 18 ∧ iX s.chip.fetch ≠ 0 ∧ c.mode ≠ 2) ∧
    (∃ (s : State) (c : Capture), s.chip.cc.cap = some c ∧ s.chip.inBank ∧ s.issues 18 ∧ iX s.chip.fetch ≠ 0 ∧ c.mode = 2 ∧ s.chip.rowsIdle = true ∧ s.chip.baseEnds c = false ∧ s.chip.baseYields = false) ∧
    (∃ (s : State) (c : Capture), s.chip.cc.cap = some c ∧ s.chip.inBank ∧ s.issues 18 ∧ iX s.chip.fetch ≠ 0 ∧ c.mode = 2 ∧ (s.chip.rowsIdle = false ∨ s.chip.baseEnds c = true ∧ s.chip.endReady = false)) ∧
    (∃ (s : State) (c : Capture), s.chip.cc.cap = some c ∧ s.chip.inBank ∧ s.issues 29 ∧ iImm s.chip.fetch ≠ 1 ∧ iImm s.chip.fetch ≠ 2 ∧ iImm s.chip.fetch ≠ 51) ∧
    (∃ (s : State) (c : Capture), s.chip.cc.cap = some c ∧ s.chip.inBank ∧ s.issues 29 ∧ (iImm s.chip.fetch = 1 ∨ iImm s.chip.fetch = 2 ∨ iImm s.chip.fetch = 51) ∧ c.streamOf (iX s.chip.fetch) = none) ∧
    (∃ (s : State) (c : Capture) (st : Nat), s.chip.cc.cap = some c ∧ c.streamOf (iX s.chip.fetch) = some st ∧ s.chip.inBank ∧ s.issues 29 ∧ iImm s.chip.fetch = 51 ∧ (s.chip.stream st).act = false) :=
  ⟨⟨on (withCap (lu (iw 0x1A 0 0 0 0 0)).chip { cap1 with todo := [⟨0,48⟩] }), _, rfl, issues_of (by decide +kernel), inBank_of (by decide +kernel), by decide +kernel⟩,
   ⟨lu (iw 0x1A 0 0 0 0 0), _, rfl, issues_of (by decide +kernel), inBank_of (by decide +kernel), by decide +kernel⟩,
   ⟨on (let m := withCap (lm up (iw 0x1B 0 4 0 0 1)) cD; m), _, _, rfl, rfl, issues_of (by decide +kernel), inBank_of (by decide +kernel), by decide +kernel⟩,
   ⟨on (let m := (lu (iw 0x1C 0 0 0 0 0)).chip; { m with cc := { m.cc with nodes := 3, heldTrig := [4] }, loam := { m.loam with queue := [act 5 5 0 0 false 0, act 6 0 0 0 false 0, act 7 2 0 0 false 0, act 7 3 0 0 false 0] } }), inBank_of (by decide +kernel), issues_of (by decide +kernel)⟩,
   ⟨on (poke (lu (iw 0x1F 0 0 0 0 0)).chip [(0,0x32,0x1000)]), inBank_of (by decide +kernel), issues_of (by decide +kernel), by decide +kernel⟩,
   ⟨lu (iw 0x12 0 5 0 0 0), inBank_of (by decide +kernel), issues_of (by decide +kernel), by decide +kernel⟩,
   ⟨lu (iw 0x12 0 5 0 1 0), _, rfl, inBank_of (by decide +kernel), issues_of (by decide +kernel), by decide +kernel⟩,
   ⟨on (withCap (lm up (iw 0x12 0 5 0 1 0)) cC), _, rfl, inBank_of (by decide +kernel), issues_of (by decide +kernel), by decide +kernel⟩,
   ⟨on (withCap (lm up (iw 0x12 0 5 0 1 0)) { cC with todo := [⟨0,48⟩] }), _, rfl, inBank_of (by decide +kernel), issues_of (by decide +kernel), by decide +kernel⟩,
   ⟨lu (iw 0x1D 0 0 0 1 0x22), _, rfl, inBank_of (by decide +kernel), issues_of (by decide +kernel), by decide +kernel⟩,
   ⟨lu (iw 0x1D 0 0 0 1 1), _, rfl, inBank_of (by decide +kernel), issues_of (by decide +kernel), by decide +kernel⟩,
   ⟨on (withCap (lm up (iw 0x1D 0 0 0 0 0x33)) cS), _, _, rfl, rfl, inBank_of (by decide +kernel), issues_of (by decide +kernel), by decide +kernel⟩⟩

end LoamReadout

namespace QueuedActions
def q (m : Chip) (l : List Action) : Chip := { m with loam := { m.loam with queue := l } }
def cS : Capture := { cap1 with words := [(0x34,0x00FF),(0x38,0x123),(0x3F,0x345),(0x44,0x0F03),(0x48,5)].foldl (fun (b : Bank) (x : Nat × Word) => Bank.put b (key spCtx x.1) x.2) capW }
/-- States and operands that meet the hypotheses of `Obligations.QueuedActions`, clause by clause. -/
theorem test_QueuedActions_hypotheses :
    (∃ (s : State) (a : Action), s.chip.dueAction 1 = some a) ∧
    (∃ (s : State) (a : Action), s.chip.dueAction 0 = some a) ∧
    (∃ (s : State) (a : Action), s.chip.dueAction 2 = some a) ∧
    (∃ (s : State) (a : Action) (c : Capture), s.chip.dueAction 3 = some a ∧ s.chip.cc.cap = some c) ∧
    (∃ (s : State) (a : Action), s.chip.dueAction 4 = some a) ∧
    (∃ (s : State) (a : Action), s.chip.dueAction 5 = some a) ∧
    (∃ (s : State) (a : Action) (c : Capture), s.acts 1 a ∧ (∀ (x : Tick), c.lastClose = some x → BitVec.toNat x + 100 ≤ BitVec.toNat a.tick) ∧ s.chip.cc.cap = some c ∧ c.opened = none) ∧
    (∃ (s : State) (a : Action) (c : Capture) (x : Tick), s.acts 0 a ∧ s.chip.cc.cap = some c ∧ c.opened = some (a.arg, x) ∧ BitVec.toNat x + 200 ≤ BitVec.toNat a.tick) ∧
    (∃ (s : State) (c : Capture) (k : Nat) (x : Tick), s.chip.cc.cap = some c ∧ c.opened = some (k, x) ∧ s.chip.moversOff ∧ s.chip.pw.core = true ∧ s.chip.reached (x + 100000000) = true ∧ s.chip.loam.wait = none ∧ (∀ a ∈ s.chip.loam.queue, a.kind = 0 → a.arg = k → BitVec.toNat x + 100000000 < BitVec.toNat a.tick)) ∧
    (∃ (s : State) (a : Action), s.chip.shaped ∧ s.acts 2 a ∧ a.rise = false) ∧
    (∃ (s : State) (a : Action), s.chip.shaped ∧ s.acts 2 a ∧ a.rise = true ∧ (∀ (k : Capture), s.chip.cc.cap = some k → k.dark = false)) ∧
    (∃ (s : State) (a : Action) (c : Capture), s.chip.cc.cap = some c ∧ s.chip.shaped ∧ s.acts 3 a) ∧
    (∃ (s : State) (a : Action), s.chip.shaped ∧ s.acts 4 a ∧ s.chip.fsel a.arg = 1 ∧ s.chip.cyc.drives = []) ∧
    (∃ (s : State) (a : Action), s.chip.shaped ∧ s.acts 5 a ∧ a.arg < 8 ∧ s.chip.slotSrc a.arg = 6 ∧ tst (s.chip.rd spHkc (slotOff a.arg 0)) 15 = true ∧ s.chip.slotsOn = true ∧ tst (s.chip.rd 0 18) 1 = false ∧ s.chip.slotReq a.arg = none) :=
  ⟨⟨on (atT (q (withCap up cap1) [act 100 1 0 0 false 0, act 5000 0 0 0 false 0]) 100), _, rfl⟩,
   ⟨on (atT (q (withCap up {cap1 with opened := some (0,100)}) [act 300 0 0 0 false 0]) 300), _, rfl⟩,
   ⟨on (atT (q up [act 5 2 0 0xA5 false 0]) 6), _, rfl⟩,
   ⟨on (atT (q (withCap up cS) [act 5 3 0 0 true 0]) 6), _, _, rfl, rfl⟩,
   ⟨on (atT (q (poke up [(spPin,pinOff 31 0,1)]) [act 5 4 31 0 true 1]) 6), _, rfl⟩,
   ⟨on (atT (q { poke up [(spHkc,0,0x8000),(spHkc,slotOff 7 0,0x8000),(spHkc,slotOff 7 1,0x6000)] with hkc := {up.hkc with act := true} } [act 5 5 7 0 true 3]) 6), _, rfl⟩,
   ⟨on (atT (q (withCap up cap1) [act 100 1 0 0 false 0, act 5000 0 0 0 false 0]) 100), act 100 1 0 0 false 0, cap1, acts_of (by decide +kernel), nofun, by decide +kernel⟩,
   ⟨on (atT (q (withCap up {cap1 with opened := some (0,100)}) [act 300 0 0 0 false 0]) 300), act 300 0 0 0 false 0, {cap1 with opened := some (0,100)}, 100, acts_of (by decide +kernel), by decide +kernel⟩,
   ⟨on (atT (withCap up {cap1 with opened := some (3,5)}) 100000005), _, _, _, rfl, rfl, moversOff_of (by decide +kernel), by decide +kernel⟩,
   ⟨on (atT (q up [act 5 2 0 0xA5 false 0]) 6), act 5 2 0 0xA5 false 0, shaped_of (by decide +kernel), acts_of (by decide +kernel), by decide +kernel⟩,
   ⟨on (atT (q up [act 5 2 0 0xA5 true 0]) 6), act 5 2 0 0xA5 true 0, shaped_of (by decide +kernel), acts_of (by decide +kernel), by decide +kernel⟩,
   ⟨on (atT (q (withCap up cS) [act 5 3 0 0 true 0]) 6), act 5 3 0 0 true 0, _, rfl, shaped_of (by decide +kernel), acts_of (by decide +kernel)⟩,
   ⟨on (atT (q (poke up [(spPin,pinOff 31 0,1)]) [act 5 4 31 0 true 1]) 6), act 5 4 31 0 true 1, shaped_of (by decide +kernel), acts_of (by decide +kernel), by decide +kernel⟩,
   ⟨on (atT (q { poke up [(spHkc,0,0x8000),(spHkc,slotOff 7 0,0x8000),(spHkc,slotOff 7 1,0x6000)] with hkc := {up.hkc with act := true} } [act 5 5 7 0 true 3]) 6), act 5 5 7 0 true 3, shaped_of (by decide +kernel), acts_of (by decide +kernel), by decide +kernel⟩⟩

end QueuedActions

namespace RowEngine
def pf : PFrame := { src := 0, id := 1, fn := 5, prof := 0, pipe := [], words := [], depth := 0, rgb := false, inline := true, start := 0, rows := [], next := [], asked := false, ended := false, partial_ := false, lost := false, illum := 0, cal := [], img := none, stat := none, seeded := List.replicate 4 false, lumBl := List.replicate 4 none, white := false }
/-- States and operands that meet the hypotheses of `Obligations.RowEngine`, clause by clause. -/
theorem test_RowEngine_hypotheses :
    (∃ (s : State) (c : Capture) (a : RowTodo) (rest : List RowTodo) (f : PFrame), (∀ h ∈ s.chip.cal.hist, h.force = []) ∧ (∀ (g : Nat), s.chip.windowDue g = false) ∧ s.chip.pw.array = true ∧ s.chip.cc.cap = some c ∧ c.todo = a :: rest ∧ c.opened = none ∧ c.pausedPool = false ∧ c.pausedPace = false ∧ s.chip.rowDue c = true ∧ a.row ≠ 47 ∧ s.chip.loam.wait = none ∧ List.find? (fun f => f.is 0 (c.ctx.val) c.fn) s.chip.pipe.frames = some f ∧ f.lost = false ∧ f.inline = true) ∧
    (∃ (s : State) (c : Capture), s.chip.cc.cap = some c ∧ s.chip.pw.pipe = true ∧ (∀ x ∈ s.chip.streams, x.held = [])) ∧
    (∃ (s : State) (c : Capture), s.chip.cc.cap = some c ∧ s.chip.pw.pipe = true ∧ s.chip.pipe.inline.length < 8) :=
  ⟨⟨on (withCap { up with pipe := {up.pipe with frames := [pf]}} {cap1 with todo := [⟨0,40⟩,⟨0,41⟩]}), {cap1 with todo := [⟨0,40⟩,⟨0,41⟩]}, ⟨0,40⟩, [⟨0,41⟩], pf, nofun, fun _ => rfl, by decide +kernel⟩,
   ⟨on (withCap { up with pipe := {up.pipe with frames := [pf]}} {cap1 with todo := [⟨0,40⟩,⟨0,41⟩]}), _, rfl, by decide +kernel⟩,
   ⟨on (withCap { up with pipe := {up.pipe with frames := [pf]}} {cap1 with todo := [⟨0,40⟩,⟨0,41⟩]}), _, rfl, by decide +kernel⟩⟩

end RowEngine

namespace LoamDebug

/-- States and operands that meet the hypotheses of `Obligations.LoamDebug`, clause by clause. -/
theorem test_LoamDebug_hypotheses :
    (∃ (s : State) (v : Word), s.reaches 0 50 ∧ 1 < b2n (tst v 15) + b2n (tst v 14) + b2n (tst v 13)) ∧
    (∃ (s : State) (v : Word), s.reaches 0 50 ∧ tst v 15 = true ∧ tst v 14 = false ∧ tst v 13 = false ∧ tst v 12 = true ∧ s.chip.loam.halted = false ∧ s.chip.loam.wait = none ∧ (s.chip.loam.running && s.chip.cc.cap.isSome && s.chip.atBreak) = false) ∧
    (∃ (s : State) (v : Word), s.reaches 0 50 ∧ tst v 15 = false ∧ tst v 14 = true ∧ tst v 13 = false ∧ s.chip.loam.halted = true ∧ s.chip.cc.susp = []) ∧
    (∃ (s : State) (v : Word), s.reaches 0 50 ∧ tst v 15 = false ∧ tst v 14 = false ∧ tst v 13 = true ∧ s.chip.loam.halted = true ∧ s.chip.cc.cap.isSome = true) ∧
    (∃ (s : State) (v : Word), s.reaches 0 50 ∧ tst v 15 = false ∧ tst v 14 = false ∧ tst v 13 = true ∧ s.chip.loam.halted = true ∧ s.chip.cc.cap = none) ∧
    (∃ (s : State) (v : Word), s.reaches 0 50 ∧ tst v 15 = true ∧ tst v 14 = false ∧ tst v 13 = false ∧ tst v 12 = true ∧ s.chip.loam.running = true ∧ s.chip.loam.halted = false ∧ s.chip.loam.wait = none ∧ s.chip.cc.cap.isSome = true ∧ s.chip.atBreak = true) ∧
    (∃ (s : State), s.chip.pw.core = true ∧ s.chip.loam.running = true ∧ s.chip.loam.halted = false ∧ s.chip.loam.wait = none ∧ s.chip.cc.cap.isSome = true ∧ s.chip.atBreak = true ∧ tst (s.chip.rd 0 50) 12 = true) ∧
    (∃ (s : State), s.chip.pw.core = true ∧ s.chip.loam.running = true ∧ s.chip.loam.halted = false ∧ s.chip.cc.cap.isSome = true ∧ s.chip.rd spLoam 12290 ≠ 0 ∧ 100000 * BitVec.toNat (s.chip.rd spLoam 12290) < s.chip.loam.watch ∧ s.chip.cc.susp = []) ∧
    (∃ (s : State) (off : Nat), s.opens spLoam off ∧ off < 8192 ∧ (s.chip.loam.running && !s.chip.loam.rom && !s.chip.loam.halted) = false) ∧
    (∃ (s : State) (off : Nat), s.opens spLoam off ∧ off < 8192 ∧ (s.chip.loam.running && !s.chip.loam.rom && !s.chip.loam.halted) = true) :=
  ⟨⟨on up, 0xffff, reaches_of (by decide +kernel), by decide +kernel⟩,
   ⟨on up, 0x9000, reaches_of (by decide +kernel), by decide +kernel⟩,
   ⟨on { up with loam := {up.loam with halted := true}}, 0x4000, reaches_of (by decide +kernel), by decide +kernel⟩,
   ⟨on { withCap up cap1 with loam := {up.loam with halted := true, running := true}}, 0x2000, reaches_of (by decide +kernel), by decide +kernel⟩,
   ⟨on { up with loam := {up.loam with halted := true}}, 0x2000, reaches_of (by decide +kernel), by decide +kernel⟩,
   ⟨on (poke (lu 0).chip [(0,0x32,0x1000),(spLoam,0x3008,0x8003)]), 0x9000, reaches_of (by decide +kernel), by decide +kernel⟩,
   ⟨on (poke (lu 0).chip [(0,0x32,0x1000),(spLoam,0x3008,0x8003)]), by decide +kernel⟩,
   ⟨on (let m := poke (lu 0).chip [(spLoam,0x3002,1)]; { m with loam := {m.loam with watch := 100001}}), by decide +kernel⟩,
   ⟨on up, 0, opens_of (by decide +kernel), by decide +kernel⟩,
   ⟨on (poke (lu 0).chip [(0,0x32,0x1000),(spLoam,0x3008,0x8003)]), 0, opens_of (by decide +kernel), by decide +kernel⟩⟩

end LoamDebug

namespace DriftDocument
def cD : Capture := { cap1 with words := [(0,0x1013),(2,0x8100),(0x30,50),(0x32,200),(0x11,2),(0xC0,0x2000),(0xC2,48),(0xC3,7),(0xC6,1)].foldl (fun (b : Bank) (x : Nat × Word) => Bank.put b (key spCtx x.1) x.2) [] }
def dm (c : Capture) (f : Drift → Drift) : Chip := let m := withCap up c; { m with cc := { m.cc with drift := f m.cc.drift } }
def d1 : DStep := { num := 3, ts := 500, acc := 0, psc := 65536, stratum := 0, openAt := 600, closeAt := 800, bandFrom := 900, bandTo := 1000, row := 48, lit := false }
/-- States and operands that meet the hypotheses of `Obligations.DriftDocument`, clause by clause. -/
theorem test_DriftDocument_hypotheses :
    (∃ (s : State) (c : Capture), s.chip.driftCap = some c ∧ s.chip.pw.array = true ∧ s.chip.cc.drift.readb.isSome = true ∧ s.chip.cc.drift.outstanding ≠ [] ∧ s.chip.cc.drift.ending = false) ∧
    (∃ (s : State) (c : Capture) (x : DStep), s.chip.driftCap = some c ∧ s.chip.nextLit c = some x ∧ s.chip.pw.array = true ∧ s.chip.dueAction 2 = none) ∧
    (∃ (s : State) (c : Capture) (x : DStep), s.chip.driftCap = some c ∧ s.chip.cc.drift.exposing = some x ∧ s.chip.pw.array = true ∧ s.chip.reached x.closeAt = true) ∧
    (∃ (s : State) (c : Capture) (x : DStep) (rest : List DStep), s.chip.driftCap = some c ∧ s.chip.cc.drift.outstanding = x :: rest ∧ s.chip.pw.array = true ∧ s.chip.cc.drift.readb.isSome = true ∧ s.chip.cc.drift.ending = false ∧ s.chip.loam.wait = none ∧ s.chip.cc.drift.lastClose = none ∧ s.chip.cc.drift.bandEnd = []) ∧
    (∃ (s : State) (c : Capture) (x : DStep) (rest : List DStep), s.chip.driftCap = some c ∧ s.chip.cc.drift.taken = x :: rest ∧ s.chip.pw.array = true ∧ s.chip.cc.drift.exposing = none ∧ x.lit = false ∧ s.chip.dueAction 2 = none ∧ s.chip.reached (x.openAt - BitVec.ofNat 64 (c.leadT x.stratum)) = true) ∧
    (∃ (s : State) (c : Capture) (x : DStep) (rest : List DStep), s.chip.driftCap = some c ∧ s.chip.cc.drift.taken = x :: rest ∧ s.chip.pw.array = true ∧ s.chip.cc.drift.exposing = none ∧ x.lit = true ∧ s.chip.reached x.openAt = true) ∧
    (∃ (s : State) (c : Capture) (x : DStep) (rest : List DStep), s.chip.driftCap = some c ∧ s.chip.cc.drift.closed = x :: rest ∧ s.chip.pw.array = true ∧ s.chip.cc.drift.reading = none ∧ s.chip.reached x.bandFrom = true) ∧
    (∃ (s : State) (c : Capture) (x : DStep), s.chip.driftCap = some c ∧ s.chip.cc.drift.reading = some x ∧ s.chip.pw.array = true ∧ s.chip.reached x.bandTo = true ∧ s.chip.loam.wait = none) ∧
    (∃ (s : State) (c : Capture) (r : Bool) (e : Nat), s.chip.driftCap = some c ∧ e = fld (c.word 193) 5 2 ∧ s.chip.pw.core = true ∧ fld (c.word 192) 12 2 ≠ 0 ∧ s.chip.cc.drift.tail = none ∧ s.chip.cc.drift.ending = false ∧ (e = 2 ∨ e = 0 ∧ r = true ∨ e = 1 ∧ r = false)) ∧
    (∃ (s : State) (c : Capture) (r : Bool) (e : Nat), s.chip.driftCap = some c ∧ e = fld (c.word 193) 5 2 ∧ s.chip.pw.core = true ∧ fld (c.word 192) 12 2 ≠ 0 ∧ s.chip.cc.drift.tail = none ∧ s.chip.cc.drift.ending = false ∧ (¬(e = 2 ∨ e = 0 ∧ r = true ∨ e = 1 ∧ r = false))) ∧
    (∃ (s : State) (c : Capture), s.chip.driftCap = some c ∧ s.chip.pw.core = true ∧ s.chip.cc.drift.ending = false ∧ s.chip.loam.wait = none ∧ s.chip.cc.drift.tail = some 0) ∧
    (∃ (s : State) (c : Capture), s.chip.driftCap = some c ∧ s.chip.pw.core = true ∧ s.chip.cc.drift.ending = false ∧ s.chip.loam.wait = none ∧ BitVec.toNat (c.word 198) ≠ 0 ∧ BitVec.toNat s.chip.cc.drift.lastStep + 100000 * BitVec.toNat (c.word 198) ≤ BitVec.toNat s.chip.tb.stb) :=
  ⟨⟨on (atT (dm cD (fun d => {d with readb := some (0,48,1), outstanding := [d1]})) 550), _, rfl, by decide +kernel⟩,
   ⟨on (atT (dm cD (fun d => {d with taken := [d1]})) 600), _, _, rfl, rfl, by decide +kernel⟩,
   ⟨on (atT (dm cD (fun d => {d with exposing := some d1})) 800), _, _, rfl, rfl, by decide +kernel⟩,
   ⟨on (atT (dm cD (fun d => {d with readb := some (0,48,1), outstanding := [d1]})) 550), _, _, _, rfl, rfl, by decide +kernel⟩,
   ⟨on (atT (dm cD (fun d => {d with taken := [d1]})) 600), _, _, _, rfl, rfl, by decide +kernel⟩,
   ⟨on (atT (dm cD (fun d => {d with taken := [{d1 with lit := true}]})) 600), _, _, _, rfl, rfl, by decide +kernel⟩,
   ⟨on (atT (dm cD (fun d => {d with closed := [d1]})) 900), _, _, _, rfl, rfl, by decide +kernel⟩,
   ⟨on (atT (dm cD (fun d => {d with reading := some d1})) 1000), _, _, rfl, rfl, by decide +kernel⟩,
   ⟨on (atT (dm cD (fun d => {d with readb := some (0,48,1), outstanding := [d1]})) 550), _, true, _, rfl, rfl, by decide +kernel⟩,
   ⟨on (atT (dm cD (fun d => {d with readb := some (0,48,1), outstanding := [d1]})) 550), _, false, _, rfl, rfl, by decide +kernel⟩,
   ⟨on (dm cD (fun d => {d with tail := some 0})), _, rfl, by decide +kernel⟩,
   ⟨on (atT (dm cD (fun d => {d with lastStep := 5})) 100005), _, rfl, by decide +kernel⟩⟩

end DriftDocument

namespace PipelineWork
def pr (n : Nat) : PRow := { src := 0, id := 1, fn := 5, plane := 0, row := 48, stamp := 0, vals := List.replicate n 1, left := n, bl := [], store := none }
def dl (n : Nat) : DLine := { num := 0, stratum := 0, repeated := false, stamp := 0, fn := 5, pixels := 1, bl := 0, vals := List.replicate n 1, left := n }
def pp (f : Pipe → Pipe) : State := on { up with pipe := f up.pipe }
def bk : Bank := [(key spStat 0xF0, 3), (key spStat 0x100, 7)]
/-- States and operands that meet the hypotheses of `Obligations.PipelineWork`, clause by clause. -/
theorem test_PipelineWork_hypotheses :
    (∃ (s : State) (l : DLine) (rest : List DLine), s.chip.pipe.lines = l :: rest ∧ s.chip.pw.pipe = true ∧ 256 < l.left) ∧
    (∃ (s : State) (r : PRow) (rest : List PRow), s.chip.pipe.inline = r :: rest ∧ s.chip.pw.pipe = true ∧ s.chip.pipe.lines = [] ∧ 256 < r.left) ∧
    (∃ (s : State) (r : PRow) (rest : List PRow), s.chip.pipe.inline = r :: rest ∧ s.chip.pw.pipe = true ∧ s.chip.pipe.lines = [] ∧ r.left ≤ 256 ∧ r.store = none ∧ List.find? (fun f => f.is r.src r.id r.fn) s.chip.pipe.frames = none) ∧
    (∃ (s : State) (r : PRow) (rest : List PRow), s.chip.pipe.memory = r :: rest ∧ s.chip.pw.pipe = true ∧ s.chip.pipe.lines = [] ∧ s.chip.pipe.inline = [] ∧ 256 < r.left) ∧
    (∃ (s : State), s.chip.pw.pipe = true ∧ s.chip.sourceOpen = false) ∧
    (∃ (s : State), s.chip.pw.pipe = true ∧ s.chip.sourceOpen = true) ∧
    (∃ (s : State) (v : Word) (b : Bank), s.chip.pipe.waiting = some b ∧ s.opens spStat 0 ∧ tst v 15 = false ∧ s.chip.statHeld = false ∧ b.wf = true ∧ (∀ c ∈ b, key spStat 240 ≤ c.1 ∧ c.1 < key spStat 20480)) :=
  ⟨⟨pp (fun p => {p with lines := [dl 257, dl 5]}), _, _, rfl, by decide +kernel⟩,
   ⟨pp (fun p => {p with inline := [pr 257, pr 5]}), _, _, rfl, by decide +kernel⟩,
   ⟨pp (fun p => {p with inline := [pr 256, pr 5]}), _, _, rfl, by decide +kernel⟩,
   ⟨pp (fun p => {p with memory := [pr 257]}), _, _, rfl, by decide +kernel⟩,
   ⟨pp (fun p => {p with lines := [dl 257, dl 5]}), by decide +kernel⟩,
   ⟨on (withCap up cap1), by decide +kernel⟩,
   ⟨on { poke up [(spStat,0,0x8000),(spStat,0x100,9),(spStat,0x4FFF,9)] with pipe := {up.pipe with waiting := some bk}}, 0x1234, _, rfl, opens_of (by decide +kernel), by decide +kernel⟩⟩

end PipelineWork

namespace Slices
def gh (g : Nat) (f : GroupHist → GroupHist) : List GroupHist := [f (GroupHist.fresh g)]
def cW : Capture := { cap1 with words := Bank.put capW (key spCtx 0x11) 64 }
/-- States and operands that meet the hypotheses of `Obligations.Slices`, clause by clause. -/
theorem test_Slices_hypotheses :
    (∃ (s : State) (g : Fin 162) (x : Fin 2), s.chip.pw.array = true ∧ 256 ≤ (s.chip.hist g.val).conv ∧ groupState (s.chip.gstat g.val) = 0 ∧ fld (s.chip.gstat g.val) 2 1 = x.val) ∧
    (∃ (s : State) (g : Fin 162) (x : Fin 2), s.chip.pw.array = true ∧ 256 ≤ (s.chip.hist g.val).conv ∧ groupState (s.chip.gstat g.val) = 0 ∧ s.chip.cal.group ≠ some g.val ∧ fld (s.chip.gstat g.val) 2 2 = x.val ∧ (s.chip.hist g.val).warned = false ∧ (s.chip.hist g.val).deferred = none ∧ windowFails (windowDiffs (s.chip.hist g.val).pairs) = false) ∧
    (∃ (s : State) (g : Fin 162) (x : Fin 2), s.chip.pw.array = true ∧ 256 ≤ (s.chip.hist g.val).conv ∧ groupState (s.chip.gstat g.val) = 0 ∧ s.chip.cal.group ≠ some g.val ∧ fld (s.chip.gstat g.val) 2 2 = x.val ∧ (s.chip.hist g.val).warned = true) ∧
    (∃ (s : State) (g : Fin 162) (v : Word) (p : Nat), p = fld v 0 2 ∧ s.opens spCal 512 ∧ p ≠ 3 ∧ tst v 15 = false ∧ tst v 14 = true ∧ tst (s.chip.gstat g.val) (6 + p) = false ∧ s.chip.cc.cap.isSome = true) ∧
    (∃ (s : State) (g : Fin 162) (v : Word) (p : Nat), p = fld v 0 2 ∧ s.opens spCal 512 ∧ s.chip.moversOff ∧ p ≠ 3 ∧ tst v 15 = false ∧ tst v 14 = true ∧ tst (s.chip.gstat g.val) (6 + p) = false ∧ s.chip.cc.cap = none ∧ (s.chip.hist g.val).force = [] ∧ roleOf (s.chip.gstat g.val) p ≤ 1 ∧ groupState (s.chip.gstat g.val) = 0) ∧
    (∃ (s : State) (g : Fin 162) (v : Word) (p : Nat), p = fld v 0 2 ∧ s.opens spCal 512 ∧ p ≠ 3 ∧ tst v 15 = true ∧ tst v 14 = false ∧ s.chip.capBusy = false ∧ tst (s.chip.gstat g.val) (6 + p) = true ∧ groupState (s.chip.gstat g.val) = 1) ∧
    (∃ (s : State) (v : Word) (p : Nat), p = fld v 0 2 ∧ s.opens spCal 512 ∧ p ≠ 3 ∧ tst v 15 = true ∧ s.chip.capBusy = true) :=
  ⟨⟨on { up with cal := {up.cal with hist := gh 0 (fun h => {h with conv := 256})}}, 0, 0, by decide +kernel⟩,
   ⟨on { up with cal := {up.cal with hist := gh 0 (fun h => {h with conv := 256})}}, 0, 0, by decide +kernel⟩,
   ⟨on { up with cal := {up.cal with hist := gh 0 (fun h => {h with conv := 256, warned := true})}}, 0, 0, by decide +kernel⟩,
   ⟨on (withCap up cW), 0, 0x4000, _, rfl, opens_of (by decide +kernel), by decide +kernel⟩,
   ⟨on { up with cal := {up.cal with hist := gh 0 (fun h => {h with conv := 256})}}, 0, 0x4000, _, rfl, opens_of (by decide +kernel), moversOff_of (by decide +kernel), by decide +kernel⟩,
   ⟨on (poke up [(spCal,0x100,0x7850),(spCal,0x105,0x3450)]), 0, 0x8000, _, rfl, opens_of (by decide +kernel), by decide +kernel⟩,
   ⟨on (withCap up cW), 0x8000, _, rfl, opens_of (by decide +kernel), by decide +kernel⟩⟩

end Slices

namespace Trimming

/-- States and operands that meet the hypotheses of `Obligations.Trimming`, clause by clause. -/
theorem test_Trimming_hypotheses :
    (∃ (s : State) (g : Nat), s.chip.cal.group = some g ∧ s.chip.moversOff ∧ s.chip.pw.core = true ∧ s.chip.dwellFull = true ∧ tst (s.chip.rd 0 52) 15 = false) ∧
    (∃ (s : State) (g : Fin 162) (p : Fin 3) (i : Fin 4), s.chip.pw.core = true ∧ s.chip.mayWalk g.val p.val i.val = true) ∧
    (∃ (s : State) (g : Fin 162) (p : Fin 3) (i : Fin 4), s.chip.pw.core = true ∧ groupState (s.chip.gstat g.val) = 1 ∧ s.chip.pinned g.val p.val i.val = false) ∧
    (∃ (s : State) (g : Fin 162) (p : Fin 3) (i : Fin 4), s.chip.pw.core = true ∧ s.chip.mayWalk g.val p.val i.val = false) ∧
    (∃ (s : State) (i : Fin 6), s.chip.shaped ∧ s.chip.pw.core = true ∧ 256 ≤ nth s.chip.hkc.sinceStep i.val ∧ (s.chip.hkcApplied i.val).toInt ≠ sext (BitVec.toNat (s.chip.rd spHkc (768 + i.val))) 8) ∧
    (∃ (s : State), s.opens spCal 0) ∧
    (∃ (s : State) (v : Word), s.reaches 0 52 ∧ tst v 10 = false ∧ tst v 11 = false ∧ tst v 12 = false ∧ tst v 15 = false ∧ s.chip.cal.group.isSome = true) ∧
    (∃ (s : State) (v : Word), s.reaches 0 52 ∧ tst v 10 = false ∧ tst v 11 = false ∧ tst v 12 = true) :=
  ⟨⟨on { poke up [(0,0x34,0)] with cal := {up.cal with group := some 3, dwell := {up.cal.dwell with winA := 768, winB := 800}}}, _, rfl, moversOff_of (by decide +kernel), by decide +kernel⟩,
   ⟨on (poke up [(spCal,trimOff 161 2 0,0x0705),(spCal,trimOff 161 2 2,0x0FFF)]), 161, 2, 0, by decide +kernel⟩,
   ⟨on (poke up [(spCal,0x100,0x0010)]), 0, 0, 0, by decide +kernel⟩,
   ⟨on (poke up [(spCal,0x100,0x0010)]), 0, 0, 0, by decide +kernel⟩,
   ⟨on (poke up [(spHkc,0x300,0x0080),(spHkc,0x305,0x007F)]), 0, shaped_of (by decide +kernel), by decide +kernel⟩,
   ⟨on (poke up [(spCal,0x100,0x0010)]), opens_of (by decide +kernel)⟩,
   ⟨on { poke up [(0,0x34,0)] with cal := {up.cal with group := some 3, dwell := {up.cal.dwell with winA := 768, winB := 800}}}, 0, reaches_of (by decide +kernel), by decide +kernel⟩,
   ⟨on (poke up [(spCal,0x100,0x0010)]), 0x1234, reaches_of (by decide +kernel), by decide +kernel⟩⟩

end Trimming

namespace CalibrationRuns
def run (r : CalRun) : Chip := { up with cal := {up.cal with run := r} }

def wf (lit : Bool) : PFrame := { src := 0, id := 1, fn := 5, prof := 0, pipe := [(key spPipe 0x100, 0)], words := if lit then Bank.put capW (key spCtx 0x34) 1 else capW, depth := 0, rgb := false, inline := true, start := 0, rows := [], next := [], asked := true, ended := true, partial_ := false, lost := false, illum := 0, cal := [], img := none, stat := none, seeded := [], lumBl := [], white := true }
def wrun (x lit : Bool) (v : Word) : Chip := { poke (run (.white 1 2 2 x)) [(spCal,3,v)] with pipe := {up.pipe with white := [wf lit, wf lit]} }
theorem wf_dark (l : Bool) (o : List (Nat × Nat × Nat)) (r c : Nat) : (wf l).whiteAt o 0 r c = 0 := by
  have on : ∀ b, b < 8 → (wf l).on b = false := by cases l <;> decide +kernel
  have hr : ∀ w k y x, (wf l).raw w k y x = 0 := by
    intro w k y x
    simp [PFrame.raw, PFrame.rowAt, wf]
  have h1 : ∀ w k y x, (wf l).w1 w k y x = 0 := by
    intro w k y x
    have ha : (wf l).array = true := by cases l <;> rfl
    have hb : (wf l).by_ = 1 := by cases l <;> decide +kernel
    have hp : (wf l).pixels = 1 := by cases l <;> decide +kernel
    simp [PFrame.w1, ha, hr, on, hb, hp]
    cases (wf l).ten <;> decide +kernel
  have h2 : ∀ w k y x, ((wf l).w2 o w k y x).1 = 0 := by
    intro w k y x
    simp [PFrame.w2, PFrame.w2s, PFrame.fixed, PFrame.bad, on, h1]
  simp [PFrame.whiteAt, PFrame.w3, PFrame.w3a, PFrame.merged, PFrame.hdrOn, PFrame.subbed, on, h2]
  intros
  decide +kernel
theorem wf_block (t : Nat) (l : Bool) (o : List (Nat × Nat × Nat)) : nodeOk t ((wf l).block o 0 0 0 0) ((wf l).block o 0 0 0 0) = false := by
  have h : (blockPixels 0 0 0).length ≠ 0 := by decide +kernel
  have hs : ((wf l).block o 0 0 0 0).1 = 0 := by simp [PFrame.block, wf_dark]
  have hl : ((wf l).block o 0 0 0 0).2.1 = (blockPixels 0 0 0).length := rfl
  simp only [nodeOk, hs, hl]
  have : ¬ ((6400 * ((blockPixels 0 0 0).length : Int)) ≤ 0) := by omega
  simp [this]
theorem wf_mem (l : Bool) (o : List (Nat × Nat × Nat)) : ((wf l).block o 0 0 0 0, (wf l).block o 0 0 0 0) ∈
    ((wf l).blocks o 0).zip ((wf l).blocks o 0) := by
  simp only [PFrame.blocks, List.zip_map']
  refine List.mem_map.2 ⟨0, List.mem_range.2 (by omega), ?_⟩
  simp only [Nat.zero_div, Nat.zero_mod]
/-- States and operands that meet the hypotheses of `Obligations.CalibrationRuns`, clause by clause. -/
theorem test_CalibrationRuns_hypotheses :
    (∃ (s : State) (v : Word), s.reaches 0 52 ∧ tst v 11 = false ∧ tst v 12 = false ∧ tst v 10 = true ∧ fld v 8 2 = 1 ∧ s.chip.cal.run = CalRun.none) ∧
    (∃ (s : State) (v : Word), s.reaches 0 52 ∧ tst v 11 = false ∧ tst v 12 = false ∧ tst v 10 = true ∧ fld v 8 2 = 2 ∧ s.chip.cal.run = CalRun.none ∧ s.chip.whiteRefused (fld v 0 4) = true) ∧
    (∃ (s : State) (v : Word), s.reaches 0 52 ∧ tst v 11 = false ∧ tst v 12 = false ∧ tst v 10 = true ∧ fld v 8 2 = 2 ∧ s.chip.cal.run = CalRun.none ∧ s.chip.whiteRefused (fld v 0 4) = false ∧ s.chip.cc.heldTrig ≠ []) ∧
    (∃ (s : State) (v : Word), s.reaches 0 52 ∧ tst v 11 = false ∧ tst v 12 = false ∧ tst v 10 = true ∧ s.chip.cal.run ≠ CalRun.none ∧ (fld v 8 2 = 1 ∨ fld v 8 2 = 2)) ∧
    (∃ (s : State) (v : Word), s.reaches 0 52 ∧ tst v 10 = false ∧ tst v 11 = true ∧ tst v 12 = false ∧ s.chip.cal.run ≠ CalRun.none) ∧
    (∃ (s : State) (x : Bool) (n : Nat) (sums : List Nat), s.chip.pw.core = true ∧ s.chip.cal.run = CalRun.vref x n sums ∧ BitVec.toNat s.chip.cal.runStart + 10000000 ≤ BitVec.toNat s.chip.tb.stb) ∧
    (∃ (s : State) (x : Bool) (n : Nat) (sums : List Nat), (x = true ∨ ∃ i, i < 12 ∧ vrefOf sums i = none) ∧ s.chip.pw.core = true ∧ s.chip.cal.run = CalRun.vref x n sums ∧ n = 3072) ∧
    (∃ (s : State) (x : Bool) (n : Nat) (sums : List Nat), n = 3072 ∧ x = false ∧ s.chip.pw.core = true ∧ s.chip.cal.run = CalRun.vref x n sums ∧ (∀ i : Nat, i < 12 → (vrefOf sums i ≠ none))) ∧
    (∃ (s : State) (k : Fin 16) (a : Nat) (b : Nat) (x : Bool), s.chip.pw.core = true ∧ s.chip.cal.run = CalRun.white k a b x ∧ BitVec.toNat s.chip.cal.runStart + 1000000000 ≤ BitVec.toNat s.chip.tb.stb) ∧
    (∃ (s : State) (k : Fin 16) (a : Nat) (b : Nat) (x : Bool), s.chip.pw.core = true ∧ s.chip.cal.run = CalRun.white k a b x ∧ a = b ∧ b < 2 ∧ s.chip.cc.heldTrig = [] ∧ s.chip.arrayBusy = false ∧ (s.chip.armCheck (s.chip.latchCtx k.val)).1 = 0) ∧
    (∃ (s : State) (k : Fin 16) (a : Nat) (b : Nat) (x : Bool) (f : PFrame) (g : PFrame), a = 2 ∧ b = 2 ∧ x = true ∧ s.chip.pipe.white = [f, g] ∧ s.chip.pw.core = true ∧ s.chip.cal.run = CalRun.white k a b x) ∧
    (∃ (s : State) (k : Fin 16) (a : Nat) (b : Nat) (x : Bool) (f : PFrame) (g : PFrame) (j : Nat) (bf : Block) (bg : Block), (bf, bg) ∈ (f.blocks s.chip.otpMap j).zip (g.blocks s.chip.otpMap j) ∧ nodeOk (fld (s.chip.rd spCal 2) 0 12) bf bg = false ∧ s.chip.pw.core = true ∧ s.chip.cal.run = CalRun.white k a b x ∧ a = 2 ∧ b = 2 ∧ s.chip.pipe.white = [f, g] ∧ j ∈ List.filter (ctxLit f.words) (ctxStrata f.words)) ∧
    (∃ (s : State) (k : Fin 16) (a : Nat) (b : Nat) (x : Bool) (f : PFrame) (g : PFrame), a = 2 ∧ b = 2 ∧ x = false ∧ s.chip.pipe.white = [f, g] ∧ s.chip.pw.core = true ∧ s.chip.cal.run = CalRun.white k a b x ∧ tst (s.chip.rd spCal 3) 15 = false ∧ (∀ j ∈ List.filter (ctxLit f.words) (ctxStrata f.words), ∀ p ∈ (f.blocks s.chip.otpMap j).zip (g.blocks s.chip.otpMap j), nodeOk (fld (s.chip.rd spCal 2) 0 12) p.1 p.2 = true)) :=
  ⟨⟨on up, 0x0500, reaches_of (by decide +kernel), by decide +kernel⟩,
   ⟨on up, 0x0600, reaches_of (by decide +kernel), by decide +kernel⟩,
   ⟨on { poke up (armW 1 8 ++ [(spCtx,0x111,5184),(spCtx,0x113,3912),(spCtx,0x134,0x0001),(spCtx,0x135,0x0000)]) with cc := {up.cc with heldTrig := [5]}}, 0x0601, reaches_of (by decide +kernel), by decide +kernel⟩,
   ⟨on (run (.vref false 3072 vgood)), 0x0500, reaches_of (by decide +kernel), by decide +kernel⟩,
   ⟨on (run (.vref false 3072 vgood)), 0x0800, reaches_of (by decide +kernel), by decide +kernel⟩,
   ⟨on (atT (run (.vref false 5 [])) 10000000), false, 5, [], by decide +kernel⟩,
   ⟨on (run (.vref true 3072 [])), true, 3072, [], Or.inl rfl, by decide +kernel⟩,
   ⟨on (run (.vref false 3072 vgood)), _, _, vgood, rfl, rfl, by decide +kernel⟩,
   ⟨on (atT (run (.white 1 1 0 false)) 1000000000), 1, 1, 0, false, by decide +kernel⟩,
   ⟨on { poke up (armW 1 8) with cal := {up.cal with run := .white 1 1 1 false}}, 1, 1, 1, false, by decide +kernel⟩,
   ⟨on (wrun true false 0), 1, _, _, _, _, _, rfl, rfl, rfl, rfl, by decide +kernel⟩,
   ⟨on (wrun false true 0), 1, 2, 2, false, wf true, wf true, 0, (wf true).block (wrun false true 0).otpMap 0 0 0 0, (wf true).block (wrun false true 0).otpMap 0 0 0 0, wf_mem _ _, wf_block _ _ _, by decide +kernel⟩,
   ⟨on (wrun false false 0), 1, _, _, _, _, _, rfl, rfl, rfl, rfl, by decide +kernel⟩⟩

end CalibrationRuns

namespace Stores
def stc (f : Stores → Stores) : Chip := { up with st := f up.st }
/-- States and operands that meet the hypotheses of `Obligations.Stores`, clause by clause. -/
theorem test_Stores_hypotheses :
    (∃ (s : State) (v : Word), s.reaches 0 54 ∧ tst v 14 = true ∧ tst v 15 = false ∧ tst v 12 = false ∧ tst v 11 = false ∧ s.chip.nvmBusy = false) ∧
    (∃ (s : State) (v : Word), s.reaches 0 54 ∧ tst v 15 = true ∧ tst v 14 = false ∧ tst v 12 = false ∧ tst v 11 = false ∧ s.chip.nvmBusy = false ∧ s.chip.st.staging = false ∧ s.chip.st.stgValid = false) ∧
    (∃ (s : State) (v : Word) (n : Nat), s.chip.commitTarget = some n ∧ s.reaches 0 54 ∧ tst v 15 = true ∧ tst v 14 = false ∧ tst v 12 = false ∧ tst v 11 = false ∧ s.chip.nvmBusy = false ∧ s.chip.st.staging = false ∧ s.chip.st.stgValid = true ∧ s.chip.intervalLeft = 0 ∧ s.chip.st.flush = none) ∧
    (∃ (s : State) (v : Word), s.reaches 0 54 ∧ tst v 12 = true ∧ tst v 15 = false ∧ tst v 14 = false ∧ tst v 11 = false ∧ s.chip.slotInForce = none) ∧
    (∃ (s : State) (v : Word), s.reaches 0 54 ∧ tst v 11 = true ∧ tst v 15 = false ∧ tst v 14 = false ∧ tst v 12 = false ∧ s.chip.nvmBusy = true) ∧
    (∃ (s : State) (v : Word) (p : Nat), s.chip.nextPage = some p ∧ s.reaches 0 54 ∧ tst v 11 = true ∧ tst v 15 = false ∧ tst v 14 = false ∧ tst v 12 = false ∧ s.chip.nvmBusy = false ∧ s.chip.st.flush = none) ∧
    (∃ (s : State) (v : Word), s.opens spNvm 2 ∧ s.chip.moversOff ∧ tst v 15 = true ∧ s.chip.nvmBusy = false ∧ s.chip.slotRetired (fld v 0 5) = false) ∧
    (∃ (s : State) (v : Word), s.opens spNvm 2 ∧ tst v 15 = true ∧ s.chip.nvmBusy = false ∧ s.chip.slotRetired (fld v 0 5) = true) ∧
    (∃ (s : State), s.steady ∧ s.chip.pw.core = true ∧ s.chip.st.staging = true ∧ s.chip.st.boundaryHeld = false ∧ s.chip.st.waiting = none) ∧
    (∃ (s : State) (c : Commit), s.chip.st.commit = some c ∧ s.steady ∧ s.chip.pw.core = true ∧ s.chip.st.flushDue = false ∧ s.chip.st.waiting = none ∧ s.chip.st.retryDue = false ∧ c.pages = 128 ∧ c.stop = false) ∧
    (∃ (s : State) (c : Commit), s.chip.st.commit = some c ∧ s.steady ∧ s.chip.moversOff ∧ s.chip.pw.core = true ∧ s.chip.st.flushDue = false ∧ s.chip.st.waiting = none ∧ s.chip.st.retryDue = false) ∧
    (∃ (s : State) (p : Nat) (again : Bool), s.chip.st.flush = some (p, again) ∧ s.steady ∧ s.chip.pw.core = true ∧ s.chip.st.waiting = none ∧ s.chip.st.retryDue = false ∧ s.chip.st.flushDue = false) ∧
    (∃ (s : State), BitVec.toNat s.chip.st.lastFlush + 117964800 * fld (s.chip.rd spNvm 1) 0 8 ≤ BitVec.toNat s.chip.tb.aon ∧ s.chip.st.flush = none ∧ s.chip.pw.core = false) ∧
    (∃ (s : State) (p : Nat), s.chip.nextPage = some p ∧ BitVec.toNat s.chip.st.lastFlush + 117964800 * fld (s.chip.rd spNvm 1) 0 8 ≤ BitVec.toNat s.chip.tb.aon ∧ s.chip.st.flush = none ∧ s.chip.pw.core = true ∧ s.chip.nvmBusy = false) ∧
    (∃ (s : State), 117964800 ≤ s.chip.st.hourTicks ∧ s.chip.st.incr.length = 8 ∧ nth s.chip.st.base 7 + nth s.chip.st.incr 7 < 281474976710655) :=
  ⟨⟨on { poke up [(spNvm,1,0x00FF)] with st := {up.st with lastFlush := 0} }, 0x4000, reaches_of (by decide +kernel), by decide +kernel⟩,
   ⟨on { poke up [(spNvm,1,0x00FF)] with st := {up.st with lastFlush := 0} }, 0x8000, reaches_of (by decide +kernel), by decide +kernel⟩,
   ⟨on (stc (fun s => {s with stgValid := true})), 0x8000, _, rfl, reaches_of (by decide +kernel), by decide +kernel⟩,
   ⟨on (stc (fun s => {s with commit := some ⟨3,4,5,false,0,0,3,false⟩})), 0x1234, reaches_of (by decide +kernel), by decide +kernel⟩,
   ⟨on (stc (fun s => {s with commit := some ⟨3,4,5,false,0,0,3,false⟩})), 0x0800, reaches_of (by decide +kernel), by decide +kernel⟩,
   ⟨on { poke up [(spNvm,1,0x00FF)] with st := {up.st with lastFlush := 0} }, 0x0800, _, rfl, reaches_of (by decide +kernel), by decide +kernel⟩,
   ⟨on { poke up [(spNvm,1,0x00FF)] with st := {up.st with lastFlush := 0} }, 0xffff, opens_of (by decide +kernel), moversOff_of (by decide +kernel), by decide +kernel⟩,
   ⟨on (poke up [(spOtp,0xC14,0x0008)]), 0x8003, opens_of (by decide +kernel), by decide +kernel⟩,
   ⟨on (stc (fun s => {s with staging := true})), steady_of (by decide +kernel), by decide +kernel⟩,
   ⟨on (stc (fun s => {s with commit := some ⟨3,4,5,false,0,0,128,false⟩})), _, rfl, steady_of (by decide +kernel), by decide +kernel⟩,
   ⟨on (stc (fun s => {s with commit := some ⟨3,4,5,false,0,0,3,false⟩})), _, rfl, steady_of (by decide +kernel), moversOff_of (by decide +kernel), by decide +kernel⟩,
   ⟨on (stc (fun s => {s with flush := some (4,false), incr := [1,2,3,4,5,6,7,8], base := [1,1,1,1,1,1,1,1]})), _, _, rfl, steady_of (by decide +kernel), by decide +kernel⟩,
   ⟨on { wk with tb := {wk.tb with aon := 117964800*24}}, by decide +kernel⟩,
   ⟨on { up with tb := {up.tb with aon := 117964800*24}}, _, rfl, by decide +kernel⟩,
   ⟨on (stc (fun s => {s with hourTicks := 117964800})), by decide +kernel⟩⟩

end Stores

namespace OneTimeProgramming
def otp (o : OtpOp) : State := on { up with st := {up.st with otp := some o}}
/-- States and operands that meet the hypotheses of `Obligations.OneTimeProgramming`, clause by clause. -/
theorem test_OneTimeProgramming_hypotheses :
    (∃ (s : State) (v : Word), s.reaches 0 62 ∧ 1 < b2n (tst v 15) + b2n (tst v 14) + b2n (tst v 13)) ∧
    (∃ (s : State) (v : Word), s.reaches 0 62 ∧ s.chip.st.otp = none ∧ tst v 15 = true ∧ tst v 14 = false ∧ tst v 13 = false ∧ s.chip.otpLocked (fld (s.chip.rd spOtp 4096) 0 12) = false ∧ s.chip.warn = false) ∧
    (∃ (s : State) (v : Word), s.reaches 0 62 ∧ s.chip.moversOff ∧ s.chip.st.otp = none ∧ tst v 15 = true ∧ tst v 14 = false ∧ tst v 13 = false ∧ s.chip.otpLocked (fld (s.chip.rd spOtp 4096) 0 12) = true) ∧
    (∃ (s : State) (v : Word), s.reaches 0 62 ∧ s.chip.moversOff ∧ s.chip.st.otp = none ∧ tst v 15 = false ∧ tst v 14 = true ∧ tst v 13 = false ∧ (tst (s.chip.rd spOtp 3088) (fld v 4 1) = true ∨ tst (s.chip.rd spOtp 3089) (fld v 4 1) = true)) ∧
    (∃ (s : State) (v : Word), s.reaches 0 62 ∧ s.chip.st.otp = none ∧ tst v 15 = false ∧ tst v 14 = true ∧ tst v 13 = false ∧ tst (s.chip.rd spOtp 3088) (fld v 4 1) = false ∧ tst (s.chip.rd spOtp 3089) (fld v 4 1) = false) ∧
    (∃ (s : State) (v : Word), s.reaches 0 62 ∧ s.chip.st.otp = none ∧ tst v 15 = false ∧ tst v 14 = false ∧ tst v 13 = true) ∧
    (∃ (s : State) (v : Word), s.reaches 0 63 ∧ s.chip.st.otp = none ∧ v &&& 3 &&& ~~~s.chip.rd spOtp 3089 ≠ 0) ∧
    (∃ (s : State) (v : Word), s.reaches 0 63 ∧ s.chip.st.otp = none ∧ v &&& 3 &&& ~~~s.chip.rd spOtp 3089 = 0) ∧
    (∃ (s : State) (o : OtpOp), s.chip.st.otp = some o ∧ s.chip.pw.core = true) ∧
    (∃ (s : State) (w : Nat) (v : Word), s.chip.pw.core = true ∧ s.chip.st.otp = some (OtpOp.prog w v false)) ∧
    (∃ (s : State) (g : Nat), s.chip.st.otp = some (OtpOp.glock g) ∧ s.chip.pw.core = true) ∧
    (∃ (s : State) (b : Word), s.chip.st.otp = some (OtpOp.keylock b) ∧ s.chip.pw.core = true) :=
  ⟨⟨on (poke up [(spOtp,0xC10,0x0001)]), 0xffff, reaches_of (by decide +kernel), by decide +kernel⟩,
   ⟨on (poke up [(spOtp,0x1000,0x0400),(spOtp,0x1001,0x55AA),(spOtp,0x400,0x1111)]), 0x8000, reaches_of (by decide +kernel), by decide +kernel⟩,
   ⟨on (poke up [(spOtp,0xC10,0x0001)]), 0x8000, reaches_of (by decide +kernel), moversOff_of (by decide +kernel), by decide +kernel⟩,
   ⟨on (poke up [(spOtp,0xC10,0x0001)]), 0x4000, reaches_of (by decide +kernel), moversOff_of (by decide +kernel), by decide +kernel⟩,
   ⟨on up, 0x4000, reaches_of (by decide +kernel), by decide +kernel⟩,
   ⟨on (poke up [(spOtp,0xC10,0x0001)]), 0x2000, reaches_of (by decide +kernel), by decide +kernel⟩,
   ⟨on (poke up [(spOtp,0xC10,0x0001)]), 0xffff, reaches_of (by decide +kernel), by decide +kernel⟩,
   ⟨on (poke up [(spOtp,0xC10,0x0001)]), 0x1234, reaches_of (by decide +kernel), by decide +kernel⟩,
   ⟨otp (.prog 0x400 0x55AA false), _, rfl, by decide +kernel⟩,
   ⟨otp (.prog 0x400 0x55AA false), 1024, 0x55aa, by decide +kernel⟩,
   ⟨otp (.glock 3), _, rfl, by decide +kernel⟩,
   ⟨otp (.keylock 3), _, rfl, by decide +kernel⟩⟩

end OneTimeProgramming

namespace WaveInput
def port (m : Chip) (p : Nat) (f : WavePort → WavePort) : Chip := m.mapPort p f
def wv (p : Nat) (f : WavePort → WavePort) : State := on (port up p (fun w => f { w with act := true, lock := true, hist := List.replicate 8 [] }))
/-- States and operands that meet the hypotheses of `Obligations.WaveInput`, clause by clause. -/
theorem test_WaveInput_hypotheses :
    (∃ (s : State) (p : Fin 2), s.chip.pw.core = true ∧ (s.chip.port p.val).act = true ∧ (s.chip.port p.val).shut = false ∧ s.chip.frameOpens p.val = true) ∧
    (∃ (s : State) (p : Fin 2) (w : WavePort), w = s.chip.port p.val ∧ s.chip.shaped ∧ s.chip.pw.core = true ∧ w.act = true ∧ w.shut = false ∧ w.closing = false ∧ s.chip.frameOpens p.val = true ∧ w.phase + 1 < w.ratio) ∧
    (∃ (s : State) (p : Fin 2) (w : WavePort), w = s.chip.port p.val ∧ s.chip.shaped ∧ s.chip.pw.core = true ∧ w.act = true ∧ w.shut = false ∧ w.closing = false ∧ s.chip.frameOpens p.val = true ∧ w.ratio ≤ w.phase + 1 ∧ w.block.length + 1 < BitVec.toNat w.blklen) ∧
    (∃ (s : State) (p : Fin 2) (w : WavePort), w = s.chip.port p.val ∧ s.chip.shaped ∧ s.chip.pw.core = true ∧ w.act = true ∧ w.shut = false ∧ w.closing = false ∧ s.chip.frameOpens p.val = true ∧ w.ratio ≤ w.phase + 1 ∧ BitVec.toNat w.blklen ≤ w.block.length + 1 ∧ s.chip.blockWaits p.val = false) ∧
    (∃ (s : State) (p : Fin 2) (w : WavePort), w = s.chip.port p.val ∧ s.chip.shaped ∧ s.chip.pw.core = true ∧ w.act = true ∧ s.chip.follows = false ∧ w.lock = true ∧ w.master p.val = false ∧ w.block = []) ∧
    (∃ (s : State) (p : Fin 2) (w : WavePort), w = s.chip.port p.val ∧ s.chip.shaped ∧ s.chip.pw.core = true ∧ w.act = true ∧ s.chip.follows = false ∧ w.lock = false) ∧
    (∃ (s : State) (p : Fin 3), s.chip.pw.core = true ∧ (s.chip.port p.val).act = true ∧ (s.chip.port p.val).lock = false ∧ (p.val = 1 → s.chip.follows = false)) ∧
    (∃ (s : State), s.chip.shaped ∧ s.chip.pw.core = true ∧ s.chip.follows = true ∧ (s.chip.port 0).master 0 = false ∧ (s.chip.port 0).lock = true ∧ (s.chip.port 0).block = [] ∧ (s.chip.port 1).block = []) ∧
    (∃ (s : State), s.chip.shaped ∧ s.chip.pw.core = true ∧ s.chip.follows = true ∧ (s.chip.port 0).master 0 = false ∧ (s.chip.port 0).lock = false ∧ (s.chip.port 1).lock = false) ∧
    (∃ (s : State), s.chip.shaped ∧ s.chip.pw.core = true ∧ (s.chip.port 2).act = true ∧ (s.chip.port 2).master 2 = false) :=
  ⟨⟨on (port (port up 0 (fun w => {w with act := true, lock := true, fmt := 0})) 1 (fun w => {w with act := true, lock := true, fmt := 4})), 0, by decide +kernel⟩,
   ⟨wv 0 (fun w => {w with dec := 2}), 0, _, rfl, shaped_of (by decide +kernel), by decide +kernel⟩,
   ⟨on (port (port up 0 (fun w => {w with act := true, lock := true, fmt := 0})) 1 (fun w => {w with act := true, lock := true, fmt := 4})), 0, _, rfl, shaped_of (by decide +kernel), by decide +kernel⟩,
   ⟨wv 1 (fun w => {w with blklen := 1}), 1, _, rfl, shaped_of (by decide +kernel), by decide +kernel⟩,
   ⟨wv 0 (fun w => {w with dec := 2}), 0, _, rfl, shaped_of (by decide +kernel), by decide +kernel⟩,
   ⟨wv 1 (fun w => {w with lock := false}), 1, _, rfl, shaped_of (by decide +kernel), by decide +kernel⟩,
   ⟨on (port (port up 0 (fun w => {w with act := true, lock := false, fmt := 0})) 1 (fun w => {w with act := true, lock := false, fmt := 4})), 0, by decide +kernel⟩,
   ⟨on (port (port up 0 (fun w => {w with act := true, lock := true, fmt := 0})) 1 (fun w => {w with act := true, lock := true, fmt := 4})), shaped_of (by decide +kernel), by decide +kernel⟩,
   ⟨on (port (port up 0 (fun w => {w with act := true, lock := false, fmt := 0})) 1 (fun w => {w with act := true, lock := false, fmt := 4})), shaped_of (by decide +kernel), by decide +kernel⟩,
   ⟨wv 2 id, shaped_of (by decide +kernel), by decide +kernel⟩⟩

end WaveInput

namespace WaveControl
def port (m : Chip) (p : Nat) (f : WavePort → WavePort) : Chip := m.mapPort p f
def wv (p : Nat) (f : WavePort → WavePort) : Chip := port up p (fun w => f { w with act := true, lock := true, hist := List.replicate 8 [] })
/-- States and operands that meet the hypotheses of `Obligations.WaveControl`, clause by clause. -/
theorem test_WaveControl_hypotheses :
    (∃ (s : State) (v : Word) (p : Fin 3), s.reaches 0 60 ∧ s.chip.shaped ∧ tst v 4 = false ∧ tst v 5 = false ∧ tst v 9 = false ∧ tst v 10 = false ∧ tst v 15 = false ∧ tst v p.val = true ∧ tst (s.chip.rd 0 60) p.val = false ∧ (s.chip.port p.val).act = false ∧ s.chip.portValid p.val = true) ∧
    (∃ (s : State) (v : Word) (p : Fin 3), s.reaches 0 60 ∧ s.chip.shaped ∧ tst v 4 = false ∧ tst v 5 = false ∧ tst v 9 = false ∧ tst v 10 = false ∧ tst v 15 = false ∧ tst v p.val = true ∧ tst (s.chip.rd 0 60) p.val = false ∧ (s.chip.port p.val).act = false ∧ s.chip.portValid p.val = false) ∧
    (∃ (s : State) (v : Word) (p : Fin 3), s.reaches 0 60 ∧ s.chip.shaped ∧ tst v 4 = false ∧ tst v 5 = false ∧ tst v 9 = false ∧ tst v 10 = false ∧ tst v 15 = false ∧ tst v p.val = false ∧ tst (s.chip.rd 0 60) p.val = true ∧ (s.chip.port p.val).act = true) ∧
    (∃ (s : State) (v : Word) (p : Fin 2), s.reaches 0 60 ∧ s.chip.shaped ∧ tst v (4 + p.val) = true ∧ tst v p.val = tst (s.chip.rd 0 60) p.val ∧ (s.chip.port p.val).act = true ∧ (s.chip.port p.val).lock = true) ∧
    (∃ (s : State) (v : Word), s.reaches 0 60 ∧ s.chip.shaped ∧ tst v 2 = tst (s.chip.rd 0 60) 2 ∧ (s.chip.port 2).act = true ∧ tst v 15 = false ∧ tst v 9 = true ∧ tst v 10 = false ∧ s.chip.wave.playing = false ∧ s.chip.rd spWave 162 ≠ 0 ∧ BitVec.toNat (s.chip.rd spWave 161) + BitVec.toNat (s.chip.rd spWave 162) * s.chip.wp2Slots.length ≤ 16384) ∧
    (∃ (s : State) (v : Word), s.reaches 0 60 ∧ s.chip.shaped ∧ tst v 2 = tst (s.chip.rd 0 60) 2 ∧ (s.chip.port 2).act = true ∧ tst v 15 = false ∧ tst v 9 = true ∧ tst v 10 = false ∧ s.chip.wave.playing = false ∧ s.chip.rd spWave 162 = 0) ∧
    (∃ (s : State) (v : Word), s.reaches 0 60 ∧ s.chip.shaped ∧ tst v 2 = tst (s.chip.rd 0 60) 2 ∧ (s.chip.port 2).act = true ∧ tst v 15 = false ∧ tst v 10 = true ∧ tst v 9 = false) ∧
    (∃ (s : State) (v : Word), s.reaches 0 60 ∧ s.chip.shaped ∧ tst v 15 = true) ∧
    (∃ (s : State) (p : Fin 3), s.chip.shaped ∧ s.chip.pw.core = true ∧ s.chip.portIdle p.val = true ∧ (s.chip.port p.val).pend = false ∧ (p.val = 0 → s.chip.follows = false)) ∧
    (∃ (s : State) (p : Fin 3), s.chip.shaped ∧ s.chip.pw.core = true ∧ s.chip.portIdle p.val = true ∧ (s.chip.port p.val).pend = true) ∧
    (∃ (s : State), s.chip.pw.core = true ∧ (s.chip.port 2).act = true ∧ s.chip.frameOpens 2 = true ∧ s.chip.wave.armed = true ∧ (tst (s.chip.rd spWave 160) 15 = false ∨ s.chip.pstart ≤ BitVec.toNat s.chip.tb.stb)) ∧
    (∃ (s : State), s.chip.pw.core = true ∧ (s.chip.port 2).act = true ∧ s.chip.frameOpens 2 = true ∧ s.chip.wave.playing = false) ∧
    (∃ (s : State), s.chip.pw.core = true ∧ (s.chip.port 2).act = true ∧ s.chip.frameOpens 2 = true ∧ s.chip.wave.playing = true ∧ s.chip.wave.stopAsked = true) ∧
    (∃ (s : State), s.chip.pw.core = true ∧ (s.chip.port 2).act = true ∧ s.chip.frameOpens 2 = true ∧ s.chip.wave.playing = true ∧ s.chip.wave.stopAsked = false ∧ (s.chip.port 2).closing = false ∧ s.chip.wave.frame + 1 < BitVec.toNat (s.chip.rd spWave 162)) ∧
    (∃ (s : State) (c : Fin 8), s.opens spWave 0 ∧ s.chip.shaped ∧ (s.chip.wpChan c.val).muted = false ∧ (s.chip.wpChan c.val).ramping = false ∧ (s.chip.wpChan c.val).newMute = none) ∧
    (∃ (s : State) (c : Fin 8), s.opens spWave 0 ∧ s.chip.shaped ∧ (s.chip.wpChan c.val).muted = true) ∧
    (∃ (s : State) (c : Fin 8) (x : WpChan) (g : Word), x = s.chip.wpChan c.val ∧ x.newGain = some g ∧ s.chip.shaped ∧ s.chip.pw.core = true ∧ (s.chip.port 2).act = true ∧ s.chip.zcOut true x.gainSince = true ∧ (x.newMute = none ∨ s.chip.zcOut true x.muteSince = false)) ∧
    (∃ (s : State) (c : Fin 8) (x : WpChan) (b : Bool), x = s.chip.wpChan c.val ∧ x.newMute = some b ∧ s.chip.shaped ∧ s.chip.pw.core = true ∧ (s.chip.port 2).act = true ∧ s.chip.zcOut true x.muteSince = true ∧ (x.newGain = none ∨ s.chip.zcOut true x.gainSince = false)) ∧
    (∃ (s : State) (c : Fin 8) (x : WpChan) (g : Word) (b : Bool), x = s.chip.wpChan c.val ∧ x.newGain = some g ∧ x.newMute = some b ∧ s.chip.shaped ∧ s.chip.pw.core = true ∧ (s.chip.port 2).act = true ∧ s.chip.zcOut true x.gainSince = true ∧ s.chip.zcOut true x.muteSince = true) :=
  ⟨⟨on (poke up [(spWave,waveOff 0 1,1),(spWave,waveOff 1 1,1),(spWave,waveOff 2 1,1)]), 0x0001, 0, reaches_of (by decide +kernel), shaped_of (by decide +kernel), by decide +kernel⟩,
   ⟨on (poke (port up 0 (fun w => {w with act := true, pend := true, lock := false})) []), 0x0002, 1, reaches_of (by decide +kernel), shaped_of (by decide +kernel), by decide +kernel⟩,
   ⟨on (poke (wv 0 id) [(0,0x3C,1)]), 0, 0, reaches_of (by decide +kernel), shaped_of (by decide +kernel), by decide +kernel⟩,
   ⟨on (poke (wv 0 id) [(0,0x3C,1)]), 0xffff, 0, reaches_of (by decide +kernel), shaped_of (by decide +kernel), by decide +kernel⟩,
   ⟨on (poke (wv 2 id) [(0,0x3C,4),(spWave,0xA2,16)]), 0x1234, reaches_of (by decide +kernel), shaped_of (by decide +kernel), by decide +kernel⟩,
   ⟨on { atT (wv 2 id) 99999999 with wave := { (wv 2 id).wave with chans := (wv 2 id).wave.chans.map (fun c => {c with newMute := some true}) }}, 0x0200, reaches_of (by decide +kernel), shaped_of (by decide +kernel), by decide +kernel⟩,
   ⟨on { atT (wv 2 id) 99999999 with wave := { (wv 2 id).wave with chans := (wv 2 id).wave.chans.map (fun c => {c with newMute := some true}) }}, 0x0400, reaches_of (by decide +kernel), shaped_of (by decide +kernel), by decide +kernel⟩,
   ⟨on (poke (port up 0 (fun w => {w with act := true, pend := true, lock := false})) []), 0xffff, reaches_of (by decide +kernel), shaped_of (by decide +kernel), by decide +kernel⟩,
   ⟨on { atT (wv 2 id) 99999999 with wave := { (wv 2 id).wave with chans := (wv 2 id).wave.chans.map (fun c => {c with newMute := some true}) }}, 2, shaped_of (by decide +kernel), by decide +kernel⟩,
   ⟨on (poke (port up 0 (fun w => {w with act := true, pend := true, lock := false})) []), 0, shaped_of (by decide +kernel), by decide +kernel⟩,
   ⟨on { poke (wv 2 id) [(0,0x3C,4),(spWave,0xA2,16)] with wave := { (wv 2 id).wave with armed := true }}, by decide +kernel⟩,
   ⟨on { atT (wv 2 id) 99999999 with wave := { (wv 2 id).wave with chans := (wv 2 id).wave.chans.map (fun c => {c with newMute := some true}) }}, by decide +kernel⟩,
   ⟨on { poke (wv 2 id) [(0,0x3C,4),(spWave,0xA2,16)] with wave := { (wv 2 id).wave with playing := true, stopAsked := true }}, by decide +kernel⟩,
   ⟨on { poke (wv 2 id) [(0,0x3C,4),(spWave,0xA2,16)] with wave := { (wv 2 id).wave with playing := true }}, by decide +kernel⟩,
   ⟨on (poke (port up 0 (fun w => {w with act := true, pend := true, lock := false})) []), 0, opens_of (by decide +kernel), shaped_of (by decide +kernel), by decide +kernel⟩,
   ⟨on { wv 2 id with wave := { (wv 2 id).wave with chans := (wv 2 id).wave.chans.map (fun c => {c with muted := true}) }}, 0, opens_of (by decide +kernel), shaped_of (by decide +kernel), by decide +kernel⟩,
   ⟨on { atT (wv 2 id) 99999999 with wave := { (wv 2 id).wave with chans := (wv 2 id).wave.chans.map (fun c => {c with newGain := some 0x2000}) }}, 0, _, _, rfl, rfl, shaped_of (by decide +kernel), by decide +kernel⟩,
   ⟨on { atT (wv 2 id) 99999999 with wave := { (wv 2 id).wave with chans := (wv 2 id).wave.chans.map (fun c => {c with newMute := some true}) }}, 0, _, _, rfl, rfl, shaped_of (by decide +kernel), by decide +kernel⟩,
   ⟨on { atT (wv 2 id) 99999999 with wave := { (wv 2 id).wave with chans := (wv 2 id).wave.chans.map (fun c => {c with newMute := some true, newGain := some 0x2000}) }}, 0, _, _, _, rfl, rfl, rfl, shaped_of (by decide +kernel), by decide +kernel⟩⟩

end WaveControl

namespace CameraFrames
def cf (vc : Nat) : CamFrame := { vc := vc, csiFn := 3, stamp := 9, route := none, fn := 0, len := none, lines := 0, dt := 0, cfg := 0, stat := none, spilled := false }
def cm (p : Nat) (f : CamPort → CamPort) : Chip := { poke up [(spCsi,portOff p 0,0x8000)] with cams := upd up.cams p (fun c => f {c with act := true}) }
def cfr : CamFrame := { cf 2 with route := some (some 4), len := some 4, dt := 0x2B }
def pfc : PFrame := { src := 1, id := 4, fn := 0, prof := 0, pipe := [], words := [], depth := 10, rgb := false, inline := true, start := 0, rows := [], next := [], asked := false, ended := false, partial_ := false, lost := false, illum := 0, cal := [], img := none, stat := none, seeded := List.replicate 4 false, lumBl := List.replicate 4 none, white := false }
/-- States and operands that meet the hypotheses of `Obligations.CameraFrames`, clause by clause. -/
theorem test_CameraFrames_hypotheses :
    (∃ (s : State) (p : Fin 2) (vc : Fin 16), s.chip.shaped ∧ s.chip.pw.pipe = true ∧ s.chip.pw.core = true ∧ s.chip.camAccepts p.val = true ∧ s.chip.camFrame p.val vc.val = none ∧ s.chip.pipe.act ≠ p.val + 1) ∧
    (∃ (s : State) (p : Fin 2) (vc : Fin 16) (f : CamFrame), s.chip.camFrame p.val vc.val = some f ∧ s.chip.shaped ∧ s.chip.pw.pipe = true ∧ s.chip.pw.core = true ∧ s.chip.camAccepts p.val = true) ∧
    (∃ (s : State) (p : Fin 2) (vc : Fin 16) (f : CamFrame) (dt : Nat), s.chip.camFrame p.val vc.val = some f ∧ s.chip.shaped ∧ s.chip.pw.pipe = true ∧ s.chip.pw.core = true ∧ (s.chip.cam p.val).act = true ∧ (imageType dt = true ∨ dt = 18)) ∧
    (∃ (s : State) (p : Fin 2) (vc : Fin 16) (dt : Nat), s.chip.shaped ∧ s.chip.pw.pipe = true ∧ s.chip.pw.core = true ∧ (s.chip.cam p.val).act = true ∧ s.chip.camFrame p.val vc.val = none ∧ imageType dt = true) ∧
    (∃ (s : State) (p : Fin 2) (dt : Nat), s.chip.shaped ∧ s.chip.pw.pipe = true ∧ s.chip.pw.core = true ∧ (s.chip.cam p.val).act = true ∧ imageType dt = false ∧ dt ≠ 18) ∧
    (∃ (s : State) (p : Fin 2) (vc : Fin 16) (dt : Nat) (r : Nat) (payload : List Byte) (f : CamFrame) (vals : List Nat), s.chip.shaped ∧ vals = csiValues dt payload ∧ s.chip.pw.pipe = true ∧ (s.chip.cam p.val).act = true ∧ s.chip.camFrame p.val vc.val = some f ∧ f.route = some (some r) ∧ imageType dt = true ∧ f.passes dt = false ∧ f.len = some vals.length ∧ s.chip.camInline p.val f r = true ∧ s.chip.pipe.inline.length < 8 ∧ (s.chip.pipe.frames.any fun g => g.is (p.val + 1) r f.fn) = true ∧ (s.chip.pipe.frames.any fun g => g.is (p.val + 1) r f.fn && g.lost) = false) :=
  ⟨⟨on (cm 0 id), 0, 0, shaped_of (by decide +kernel), by decide +kernel⟩,
   ⟨on { cm 0 (fun c => {c with frames := [cfr]}) with pipe := {up.pipe with act := 1, frames := [pfc]}}, 0, 2, _, rfl, shaped_of (by decide +kernel), by decide +kernel⟩,
   ⟨on { cm 0 (fun c => {c with frames := [cfr]}) with pipe := {up.pipe with act := 1, frames := [pfc]}}, 0, 2, _, 42, rfl, shaped_of (by decide +kernel), by decide +kernel⟩,
   ⟨on { cm 0 (fun c => {c with frames := [cfr]}) with pipe := {up.pipe with act := 1, frames := [pfc]}}, 0, 0, 42, shaped_of (by decide +kernel), by decide +kernel⟩,
   ⟨on { cm 0 (fun c => {c with frames := [cfr]}) with pipe := {up.pipe with act := 1, frames := [pfc]}}, 0, 0, shaped_of (by decide +kernel), by decide +kernel⟩,
   ⟨on { cm 0 (fun c => {c with frames := [cfr]}) with pipe := {up.pipe with act := 1, frames := [pfc]}}, 0, 2, 43, 4, [1, 2, 3, 4, 5], cfr, _, shaped_of (by decide +kernel), rfl, by decide +kernel⟩⟩

end CameraFrames

namespace CameraPorts
def cf (vc : Nat) : CamFrame := { vc := vc, csiFn := 3, stamp := 9, route := none, fn := 0, len := none, lines := 0, dt := 0, cfg := 0, stat := none, spilled := false }
def cm (p : Nat) (f : CamPort → CamPort) : Chip := { poke up [(spCsi,portOff p 0,0x8000)] with cams := upd up.cams p (fun c => f {c with act := true}) }
def pc (f : CamPort → CamPort) : Chip := poke (cm 2 f) ((List.range 16).map (fun n => (spPin,pinOff (16+n) 0,7)) ++ [(spPin,pinOff 28 0,7)])
/-- States and operands that meet the hypotheses of `Obligations.CameraPorts`, clause by clause. -/
theorem test_CameraPorts_hypotheses :
    (∃ (s : State), s.chip.shaped ∧ s.chip.pcamOn = true ∧ s.chip.pw.core = true ∧ s.chip.camAccepts 2 = true ∧ (s.chip.cam 2).frames = [] ∧ s.chip.pipe.act ≠ 3) ∧
    (∃ (s : State) (f : CamFrame), s.chip.camFrame 2 0 = some f ∧ s.chip.shaped ∧ s.chip.pcamOn = true ∧ s.chip.pw.core = true ∧ f.route = some none) ∧
    (∃ (s : State) (f : CamFrame) (r : Nat), s.chip.camFrame 2 0 = some f ∧ f.route = some (some r) ∧ s.chip.shaped ∧ s.chip.pcamOn = true ∧ s.chip.pw.core = true) ∧
    (∃ (s : State) (p : Fin 3) (v : Word), s.opens spCsi 0 ∧ s.chip.shaped ∧ (s.chip.cam p.val).act = false ∧ tst v 15 = true ∧ (p.val < 2 → (s.chip.plainWrite spCsi (portOff p.val 0) v).laneTwice p.val = false)) ∧
    (∃ (s : State) (p : Fin 3) (v : Word), s.opens spCsi 0 ∧ s.chip.shaped ∧ (s.chip.cam p.val).act = false ∧ tst v 15 = true ∧ p.val < 2 ∧ (s.chip.plainWrite spCsi (portOff p.val 0) v).laneTwice p.val = true) ∧
    (∃ (s : State) (p : Fin 3) (v : Word), s.opens spCsi 0 ∧ s.chip.shaped ∧ (s.chip.cam p.val).act = true ∧ s.chip.camEn p.val = true ∧ tst v 15 = false ∧ (s.chip.cam p.val).pend = false) ∧
    (∃ (s : State) (p : Fin 3), s.chip.shaped ∧ s.chip.pw.pipe = true ∧ s.chip.camIdle p.val = true ∧ (s.chip.cam p.val).frames = [] ∧ (s.chip.cam p.val).pend = false) :=
  ⟨⟨on (pc id), shaped_of (by decide +kernel), by decide +kernel⟩,
   ⟨on (pc (fun c => {c with frames := [{cf 0 with route := some none}]})), _, rfl, shaped_of (by decide +kernel), by decide +kernel⟩,
   ⟨on (pc (fun c => {c with frames := [{cf 0 with route := some (some 4), len := some 1}]})), _, _, rfl, rfl, shaped_of (by decide +kernel), by decide +kernel⟩,
   ⟨on (pc id), 0, 0xffff, opens_of (by decide +kernel), shaped_of (by decide +kernel), by decide +kernel⟩,
   ⟨on (poke up [(spCsi,1,0x0010),(spCsi,portOff 1 1,0x3210)]), 0, 0xffff, opens_of (by decide +kernel), shaped_of (by decide +kernel), by decide +kernel⟩,
   ⟨on (pc id), 2, 0x1234, opens_of (by decide +kernel), shaped_of (by decide +kernel), by decide +kernel⟩,
   ⟨on (poke (cm 0 id) [(spCsi,0,0)]), 0, shaped_of (by decide +kernel), by decide +kernel⟩⟩

end CameraPorts

namespace PoolAndMover
def rc1 : Rec := { dt := 0x31, fn := 1, ctx := 15, src := 7, stratum := 0, window := 0, odt := 0, lineStart := [], payload := [1,2], framed := false, sent := 0, buf := 0, chan := none }
def sm (j : Nat) (f : Stream → Stream) : Chip := poke (up.mapStream j (fun t => f {t with act := true})) [(0,0x3B,BitVec.ofNat 16 (2^j))]
def ob (u : Nat) (t : Stream) : Stream := { t with bufs := [⟨0,1,u,1⟩], nextBuf := 1, recs := [rc1] }
def mv (c : Word) (f : Mover → Mover) (m : Chip) : Chip := { poke m [(spPool,moverOff 1 0,c)] with movers := upd m.movers 1 (fun x => f {x with act := true}) }
/-- States and operands that meet the hypotheses of `Obligations.PoolAndMover`, clause by clause. -/
theorem test_PoolAndMover_hypotheses :
    (∃ (s : State) (j : Fin 8) (hx : Rec × Tick × Bool × Bool) (rest : List (Rec × Tick × Bool × Bool)), (s.chip.stream j.val).held = hx :: rest ∧ s.chip.shaped ∧ s.chip.pw.pipe = true ∧ s.chip.pw.core = true ∧ hx.2.2.2 = false) ∧
    (∃ (s : State) (j : Fin 8) (hx : Rec × Tick × Bool × Bool) (rest : List (Rec × Tick × Bool × Bool)) (b : Buf), (s.chip.stream j.val).held = hx :: rest ∧ (s.chip.stream j.val).bufs.getLast? = some b ∧ s.chip.shaped ∧ s.chip.pw.pipe = true ∧ s.chip.pw.core = true ∧ hx.2.2.2 = false ∧ hx.1.chan = none ∧ b.weight = 1 ∧ b.used + hx.1.bytes ≤ 16384 ∧ hx.1.dt ≠ 0 ∧ hx.1.dt ≠ 2 ∧ hx.1.src ≠ 5 ∧ hx.1.src ≠ 6) ∧
    (∃ (s : State) (j : Fin 8) (hx : Rec × Tick × Bool × Bool) (rest : List (Rec × Tick × Bool × Bool)), (s.chip.stream j.val).held = hx :: rest ∧ s.chip.shaped ∧ s.chip.pw.pipe = true ∧ s.chip.pw.core = true ∧ hx.2.2.2 = false ∧ hx.1.chan = none ∧ (s.chip.mapStream j.val fun t => { act := t.act, pend := t.pend, recs := t.recs, bufs := t.bufs, nextBuf := t.nextBuf, ring := t.ring, held := rest, frames := t.frames, pseq := t.pseq, credits := t.credits, inf := t.inf }).place j.val hx.1.bytes = none) ∧
    (∃ (s : State) (j : Fin 8) (hx : Rec × Tick × Bool × Bool) (rest : List (Rec × Tick × Bool × Bool)), s.chip.shaped ∧ s.chip.pw.pipe = true ∧ s.chip.pw.core = true ∧ (s.chip.stream j.val).held = hx :: rest ∧ hx.2.2.1 = false ∧ hx.2.2.2 = false ∧ 100 * BitVec.toNat (s.chip.rd spPool (streamOff j.val 3)) ≤ BitVec.toNat hx.2.1) ∧
    (∃ (s : State), s.reaches 0 59 ∧ s.chip.shaped) ∧
    (∃ (s : State) (c : Fin 4) (cfg : Word), cfg = s.chip.rd spPool (moverOff c.val 0) ∧ s.chip.shaped ∧ tst cfg 15 = true ∧ (s.chip.mover c.val).pend = false ∧ (s.chip.mover c.val).act = true ∧ s.chip.pw.pipe = true ∧ (s.chip.mover c.val).busy = true ∧ (s.chip.mover c.val).heldReq = false) ∧
    (∃ (s : State) (c : Fin 4) (cfg : Word), cfg = s.chip.rd spPool (moverOff c.val 0) ∧ s.chip.shaped ∧ tst cfg 15 = true ∧ (s.chip.mover c.val).pend = false ∧ (s.chip.mover c.val).act = true ∧ s.chip.pw.pipe = true ∧ (s.chip.mover c.val).busy = true ∧ (s.chip.mover c.val).heldReq = true) ∧
    (∃ (s : State) (c : Fin 4) (cfg : Word) (b : Buf), cfg = s.chip.rd spPool (moverOff c.val 0) ∧ (s.chip.stream (fld cfg 8 3)).bufs.getLast? = some b ∧ s.chip.shaped ∧ tst cfg 15 = true ∧ (s.chip.mover c.val).pend = false ∧ (s.chip.mover c.val).act = true ∧ s.chip.pw.pipe = true ∧ (s.chip.mover c.val).busy = false ∧ fld cfg 12 2 = 0 ∧ fld cfg 0 7 ≠ 0 ∧ s.chip.hkc.queue ≠ [] ∧ (s.chip.stream (fld cfg 8 3)).act = true ∧ (s.chip.stream (fld cfg 8 3)).pend = false ∧ s.chip.streamEn (fld cfg 8 3) = true ∧ (s.chip.stream (fld cfg 8 3)).held = [] ∧ (s.chip.stream (fld cfg 8 3)).frames = [] ∧ b.weight = 1 ∧ b.used + 12 * min (fld cfg 0 7) s.chip.hkc.queue.length + 64 ≤ 16384) ∧
    (∃ (s : State) (c : Fin 4) (cfg : Word), cfg = s.chip.rd spPool (moverOff c.val 0) ∧ s.chip.shaped ∧ tst cfg 15 = true ∧ (s.chip.mover c.val).pend = false ∧ (s.chip.mover c.val).busy = true ∧ s.chip.moverOwes c.val = false ∧ s.chip.pipe.waiting = none ∧ (s.chip.mover c.val).heldReq = false) :=
  ⟨⟨on (sm 3 (fun t => {ob 66 t with held := [(rc1,0,false,false),(rc1,0,false,false)]})), 3, _, _, rfl, shaped_of (by decide +kernel), by decide +kernel⟩,
   ⟨on (sm 3 (fun t => {ob 66 t with held := [(rc1,0,false,false),(rc1,0,false,false)]})), 3, _, _, _, rfl, rfl, shaped_of (by decide +kernel), by decide +kernel⟩,
   ⟨on (poke (sm 3 (fun t => {ob 16380 t with held := [(rc1,0,false,false)]})) [(spPool,streamOff 3 2,0)]), 3, _, _, rfl, shaped_of (by decide +kernel), by decide +kernel⟩,
   ⟨on (sm 3 (fun t => {ob 66 t with held := [(rc1,0x7fffffff,false,false)]})), 3, (rc1,0x7fffffff,false,false), [], shaped_of (by decide +kernel), by decide +kernel⟩,
   ⟨on (sm 3 (fun t => {ob 66 t with held := [(rc1,0,false,false),(rc1,0,false,false)]})), reaches_of (by decide +kernel), shaped_of (by decide +kernel)⟩,
   ⟨on (mv 0x8308 (fun x => {x with busy := true}) up), 1, _, rfl, shaped_of (by decide +kernel), by decide +kernel⟩,
   ⟨on (mv 0x8308 (fun x => {x with busy := true, heldReq := true}) up), 1, _, rfl, shaped_of (by decide +kernel), by decide +kernel⟩,
   ⟨on { mv 0x8302 id (sm 3 (ob 66)) with hkc := {up.hkc with queue := [(1,2,3),(4,5,6),(7,8,9)]}}, 1, _, _, rfl, rfl, shaped_of (by decide +kernel), by decide +kernel⟩,
   ⟨on (mv 0x8308 (fun x => {x with busy := true}) up), 1, _, rfl, shaped_of (by decide +kernel), by decide +kernel⟩⟩

end PoolAndMover

namespace LinkControl
def lk (f : Link → Link) : Chip := { poke up [(0,0x38,0x800F)] with link := f {up.link with act := true} }
def fl : Flight := { stream := 0, bytes := List.replicate 24 7, dt := 0x31, buf := 0, final := true, src := 7, ctx := 15, fn := 1, framed := false, chan := none }
def la (l : List LaneState) : List Lane := l.map (fun s => {Lane.reset with st := s})
/-- States and operands that meet the hypotheses of `Obligations.LinkControl`, clause by clause. -/
theorem test_LinkControl_hypotheses :
    (∃ (s : State) (v : Word), s.reaches 0 56 ∧ s.chip.shaped ∧ tst v 14 = true ∧ tst v 13 = true) ∧
    (∃ (s : State) (v : Word), s.reaches 0 56 ∧ s.chip.shaped ∧ tst v 14 = false ∧ tst v 13 = false ∧ tst v 15 = true ∧ s.chip.link.act = false ∧ s.chip.pw.link = true ∧ s.chip.link.flight = none ∧ s.chip.link.offAfter = false ∧ 4 ≤ s.chip.st.gen) ∧
    (∃ (s : State) (v : Word), s.reaches 0 56 ∧ s.chip.shaped ∧ tst v 14 = false ∧ tst v 13 = false ∧ tst v 15 = false ∧ s.chip.link.act = true ∧ s.chip.linkEn = true ∧ s.chip.link.flight = none) ∧
    (∃ (s : State) (v : Word), s.reaches 0 56 ∧ s.chip.shaped ∧ tst v 14 = false ∧ tst v 13 = false ∧ tst v 15 = false ∧ s.chip.link.act = true ∧ s.chip.linkEn = true ∧ s.chip.link.flight.isSome = true) ∧
    (∃ (s : State) (v : Word), s.reaches 0 56 ∧ s.chip.shaped ∧ tst v 14 = true ∧ tst v 13 = false ∧ tst v 15 = true ∧ s.chip.link.act = true ∧ s.chip.linkEn = true ∧ s.chip.link.offAfter = false ∧ s.chip.link.flight = none ∧ s.chip.pw.link = true ∧ 4 ≤ s.chip.st.gen) ∧
    (∃ (s : State) (v : Word), s.reaches 0 56 ∧ s.chip.shaped ∧ tst v 14 = true ∧ tst v 13 = false ∧ tst v 15 = true ∧ s.chip.link.act = true ∧ s.chip.linkEn = true ∧ s.chip.link.offAfter = false ∧ s.chip.link.flight.isSome = true) ∧
    (∃ (s : State) (v : Word) (act : BitVec 4) (new : BitVec 4), new = 0 ∧ act = BitVec.ofNat 4 (s.chip.lanesIn LaneState.active) ∧ s.reaches 0 56 ∧ s.chip.shaped ∧ tst v 13 = true ∧ tst v 14 = false ∧ tst v 15 = s.chip.linkEn ∧ s.chip.link.act = true ∧ new = BitVec.ofNat 4 (fld v 4 4) &&& act) ∧
    (∃ (s : State) (v : Word) (act : BitVec 4) (new : BitVec 4), act = BitVec.ofNat 4 (s.chip.lanesIn LaneState.active) ∧ new = BitVec.ofNat 4 (fld v 4 4) &&& act ∧ s.reaches 0 56 ∧ s.chip.shaped ∧ tst v 13 = true ∧ tst v 14 = false ∧ tst v 15 = s.chip.linkEn ∧ s.chip.link.act = true ∧ new ≠ 0 ∧ (s.chip.link.retire ||| new) &&& act ≠ act) ∧
    (∃ (s : State) (v : Word) (act : BitVec 4) (new : BitVec 4), act = BitVec.ofNat 4 (s.chip.lanesIn LaneState.active) ∧ new = BitVec.ofNat 4 (fld v 4 4) &&& act ∧ s.reaches 0 56 ∧ s.chip.shaped ∧ tst v 13 = true ∧ tst v 14 = false ∧ tst v 15 = s.chip.linkEn ∧ s.chip.link.act = true ∧ new ≠ 0 ∧ (s.chip.link.retire ||| new) &&& act = act) :=
  ⟨⟨on { lk (fun l => {l with st := 2, lanes := la [.active,.active,.active,.active]}) with st := {up.st with gen := 7} }, 0xffff, reaches_of (by decide +kernel), shaped_of (by decide +kernel), by decide +kernel⟩,
   ⟨on up, 0x8000, reaches_of (by decide +kernel), shaped_of (by decide +kernel), by decide +kernel⟩,
   ⟨on { lk (fun l => {l with st := 2, lanes := la [.active,.active,.active,.active]}) with st := {up.st with gen := 7} }, 0x1234, reaches_of (by decide +kernel), shaped_of (by decide +kernel), by decide +kernel⟩,
   ⟨on (lk (fun l => {l with st := 2, lanes := la [.active,.active,.active,.active], flight := some fl})), 0x1234, reaches_of (by decide +kernel), shaped_of (by decide +kernel), by decide +kernel⟩,
   ⟨on { lk (fun l => {l with st := 2, lanes := la [.active,.active,.active,.active]}) with st := {up.st with gen := 7} }, 0xc0ff, reaches_of (by decide +kernel), shaped_of (by decide +kernel), by decide +kernel⟩,
   ⟨on (lk (fun l => {l with st := 2, lanes := la [.active,.active,.active,.active], flight := some fl})), 0xc0ff, reaches_of (by decide +kernel), shaped_of (by decide +kernel), by decide +kernel⟩,
   ⟨on { lk (fun l => {l with st := 2, lanes := la [.active,.active,.active,.active]}) with st := {up.st with gen := 7} }, 0xa00f, _, _, rfl, rfl, reaches_of (by decide +kernel), shaped_of (by decide +kernel), by decide +kernel⟩,
   ⟨on { lk (fun l => {l with st := 2, lanes := la [.active,.active,.active,.active]}) with st := {up.st with gen := 7} }, 0xa01f, _, _, rfl, rfl, reaches_of (by decide +kernel), shaped_of (by decide +kernel), by decide +kernel⟩,
   ⟨on (lk (fun l => {l with st := 2, lanes := la [.active,.active,.retired,.retired]})), 0xa03f, _, _, rfl, rfl, reaches_of (by decide +kernel), shaped_of (by decide +kernel), by decide +kernel⟩⟩

end LinkControl

namespace LinkEvents
def lk (f : Link → Link) : Chip := { poke up [(0,0x38,0x800F)] with link := f {up.link with act := true} }
def fl : Flight := { stream := 0, bytes := List.replicate 24 7, dt := 0x31, buf := 0, final := true, src := 7, ctx := 15, fn := 1, framed := false, chan := none }
def la (l : List LaneState) : List Lane := l.map (fun s => {Lane.reset with st := s})
/-- States and operands that meet the hypotheses of `Obligations.LinkEvents`, clause by clause. -/
theorem test_LinkEvents_hypotheses :
    (∃ (s : State) (f : Tick), s.chip.link.trainFrom = some f ∧ s.chip.pw.link = true ∧ s.chip.pw.core = true ∧ s.chip.link.st = 1 ∧ s.chip.rd spLink 16 ≠ 0 ∧ BitVec.toNat f + 100000 * BitVec.toNat (s.chip.rd spLink 16) ≤ BitVec.toNat s.chip.tb.stb) ∧
    (∃ (s : State), s.chip.pw.link = true ∧ s.chip.pw.core = true ∧ s.chip.link.rxSync = true) ∧
    (∃ (s : State), s.chip.pw.link = true ∧ s.chip.pw.core = true ∧ s.chip.link.rxSync = false ∧ s.chip.inSession = true ∧ BitVec.toNat s.chip.link.lostAt + 100000 * fld (s.chip.rd spLink 17) 0 8 ≤ BitVec.toNat s.chip.tb.stb ∧ s.chip.link.flight = none ∧ s.chip.link.act = true ∧ s.chip.linkEn = true) ∧
    (∃ (s : State), s.chip.pw.link = true ∧ s.chip.pw.core = true ∧ s.chip.link.rxSync = false ∧ s.chip.inSession = true ∧ BitVec.toNat s.chip.link.lostAt + 100000 * fld (s.chip.rd spLink 17) 0 8 ≤ BitVec.toNat s.chip.tb.stb ∧ s.chip.link.flight.isSome = true) ∧
    (∃ (s : State) (fill : Nat), s.chip.pw.link = true ∧ s.chip.pw.core = true ∧ 20 < fill) ∧
    (∃ (s : State) (fill : Nat), s.chip.pw.link = true ∧ s.chip.pw.core = true ∧ fill < 12) ∧
    (∃ (s : State) (fill : Nat), s.chip.pw.link = true ∧ s.chip.pw.core = true ∧ 12 ≤ fill ∧ fill ≤ 20) ∧
    (∃ (s : State), s.chip.pw.link = true ∧ s.chip.pw.core = true ∧ s.chip.senders ≠ [] ∧ 16383 ≤ s.chip.link.sinceAlign) ∧
    (∃ (s : State), s.chip.pw.link = true ∧ s.chip.pw.core = true ∧ s.chip.senders ≠ [] ∧ s.chip.link.sinceAlign < 16383) ∧
    (∃ (s : State) (n : Fin 4), s.chip.shaped ∧ s.chip.pw.link = true ∧ s.chip.pw.core = true ∧ (s.chip.lane n.val).st ≠ LaneState.active) ∧
    (∃ (s : State) (n : Fin 4), s.chip.shaped ∧ s.chip.moversOff ∧ s.chip.pw.link = true ∧ s.chip.pw.core = true ∧ (s.chip.lane n.val).st = LaneState.active ∧ s.chip.link.flight = none ∧ s.chip.link.offAfter = false ∧ s.chip.link.trainAfter = false) ∧
    (∃ (s : State) (act : BitVec 4) (go : BitVec 4), act = BitVec.ofNat 4 (s.chip.lanesIn LaneState.active) ∧ go = s.chip.link.retire &&& act ∧ s.chip.shaped ∧ s.chip.pw.link = true ∧ s.chip.pw.core = true ∧ s.chip.inSession = true ∧ s.chip.link.flight = none ∧ s.chip.retireDue = true ∧ go ≠ 0 ∧ go ≠ act) ∧
    (∃ (s : State) (act : BitVec 4) (go : BitVec 4), act = BitVec.ofNat 4 (s.chip.lanesIn LaneState.active) ∧ go = s.chip.link.retire &&& act ∧ s.chip.shaped ∧ s.chip.pw.link = true ∧ s.chip.pw.core = true ∧ s.chip.inSession = true ∧ s.chip.link.flight = none ∧ s.chip.retireDue = true ∧ go ≠ 0 ∧ go = act) ∧
    (∃ (s : State), s.chip.link.retire ≠ 0 ∧ BitVec.toNat s.chip.link.retireAt + 100000 * BitVec.toNat (s.chip.rd spLink 18) ≤ BitVec.toNat s.chip.tb.stb) :=
  ⟨⟨on (atT (poke (lk (fun l => {l with st := 1, trainFrom := some 0})) [(spLink,16,1)]) 200000), _, rfl, by decide +kernel⟩,
   ⟨on (lk (fun l => {l with rxSync := true})), by decide +kernel⟩,
   ⟨on (atT (lk (fun l => {l with st := 2, lanes := la [.active,.active,.active,.active], lostAt := 0})) 0x7fffffff), by decide +kernel⟩,
   ⟨on (atT (lk (fun l => {l with st := 2, lanes := la [.active,.active,.active,.active], lostAt := 0, flight := some fl})) 0x7fffffff), by decide +kernel⟩,
   ⟨on (atT (poke (lk (fun l => {l with st := 1, trainFrom := some 0})) [(spLink,16,1)]) 200000), 48, by decide +kernel⟩,
   ⟨on (atT (poke (lk (fun l => {l with st := 1, trainFrom := some 0})) [(spLink,16,1)]) 200000), 0, by decide +kernel⟩,
   ⟨on (atT (poke (lk (fun l => {l with st := 1, trainFrom := some 0})) [(spLink,16,1)]) 200000), 12, by decide +kernel⟩,
   ⟨on (lk (fun l => {l with st := 2, lanes := la [.active,.active,.active,.active], sinceAlign := 16383})), by decide +kernel⟩,
   ⟨on (atT (lk (fun l => {l with st := 2, lanes := la [.active,.active,.active,.active], lostAt := 0})) 0x7fffffff), by decide +kernel⟩,
   ⟨on (atT (poke (lk (fun l => {l with st := 1, trainFrom := some 0})) [(spLink,16,1)]) 200000), 0, shaped_of (by decide +kernel), by decide +kernel⟩,
   ⟨on (atT (lk (fun l => {l with st := 2, lanes := la [.active,.active,.active,.active], lostAt := 0})) 0x7fffffff), 0, shaped_of (by decide +kernel), moversOff_of (by decide +kernel), by decide +kernel⟩,
   ⟨on (lk (fun l => {l with st := 2, lanes := la [.active,.active,.active,.retired], retire := 1, retireNow := true, mcount := 0xFFFFFF})), _, _, rfl, rfl, shaped_of (by decide +kernel), by decide +kernel⟩,
   ⟨on (lk (fun l => {l with st := 2, lanes := la [.active,.active,.retired,.retired], retire := 3, retireEdge := true})), _, _, rfl, rfl, shaped_of (by decide +kernel), by decide +kernel⟩,
   ⟨on (atT (lk (fun l => {l with st := 2, lanes := la [.active,.active,.active,.active], retire := 1, retireAt := 0})) 0x7fffffffff), by decide +kernel⟩⟩

end LinkEvents

namespace Packets
def lk (f : Link → Link) : Chip := { poke up [(0,0x38,0x800F)] with link := f {up.link with act := true} }
def fl : Flight := { stream := 3, bytes := List.replicate 24 7, dt := 0x31, buf := 0, final := true, src := 7, ctx := 15, fn := 1, framed := false, chan := none }
def la (l : List LaneState) : List Lane := l.map (fun s => {Lane.reset with st := s})
def rc1 : Rec := { dt := 0x31, fn := 1, ctx := 15, src := 7, stratum := 0, window := 0, odt := 0, lineStart := [], payload := [1,2], framed := false, sent := 0, buf := 0, chan := none }
def sm (m : Chip) (j : Nat) (f : Stream → Stream) : Chip := poke (m.mapStream j (fun t => f {t with act := true})) [(0,0x3B,BitVec.ofNat 16 (2^j))]
def ob (u : Nat) (t : Stream) : Stream := { t with bufs := [⟨0,1,u,1⟩], nextBuf := 1, recs := [rc1], credits := 1 }
def ses : Chip := lk (fun l => {l with st := 2, lanes := la [.active,.active,.retired,.retired]})
/-- States and operands that meet the hypotheses of `Obligations.Packets`, clause by clause. -/
theorem test_Packets_hypotheses :
    (∃ (s : State) (n : Nat) (r : Rec) (rest : List Rec), s.chip.nextStream = some n ∧ (s.chip.stream n).recs = r :: rest ∧ s.chip.shaped ∧ s.chip.packetBoundary = true ∧ (tst (s.chip.rd spSeal (16 + n)) 15 = false ∨ r.dt ≠ 1)) ∧
    (∃ (s : State) (x : Flight), s.chip.link.flight = some x ∧ s.chip.shaped ∧ s.chip.pw.link = true ∧ x.framed = false ∧ x.chan = none ∧ s.chip.link.offAfter = false ∧ s.chip.link.trainAfter = false ∧ x.stream < 8 ∧ x.final = true) ∧
    (∃ (s : State) (x : Flight), s.chip.link.flight = some x ∧ s.chip.shaped ∧ s.chip.pw.link = true ∧ x.framed = false ∧ x.chan = none ∧ s.chip.link.offAfter = false ∧ s.chip.link.trainAfter = false ∧ x.stream < 8 ∧ x.final = false) :=
  ⟨⟨on (sm ses 3 (ob 66)), _, _, _, rfl, rfl, shaped_of (by decide +kernel), by decide +kernel⟩,
   ⟨on (sm { ses with link := {ses.link with flight := some fl}} 3 (ob 66)), _, rfl, shaped_of (by decide +kernel), by decide +kernel⟩,
   ⟨on (sm { ses with link := {ses.link with flight := some {fl with final := false}}} 3 (ob 66)), _, rfl, shaped_of (by decide +kernel), by decide +kernel⟩⟩

end Packets

namespace Messages
def lk (f : Link → Link) : Chip := { poke up [(0,0x38,0x800F)] with link := f {up.link with act := true, rxSync := true} }
def la (l : List LaneState) : List Lane := l.map (fun s => {Lane.reset with st := s})
def rc1 : Rec := { dt := 0x31, fn := 1, ctx := 15, src := 7, stratum := 0, window := 0, odt := 0, lineStart := [], payload := [1,2], framed := false, sent := 0, buf := 0, chan := none }
def sm (m : Chip) (j : Nat) (f : Stream → Stream) : Chip := poke (m.mapStream j (fun t => f {t with act := true})) [(0,0x3B,BitVec.ofNat 16 (2^j))]
def ob (u : Nat) (t : Stream) : Stream := { t with bufs := [⟨0,1,u,1⟩], nextBuf := 1, recs := [rc1], credits := 1 }
def ses : Chip := lk (fun l => {l with st := 2, lanes := la [.active,.active,.active,.retired]})
/-- States and operands that meet the hypotheses of `Obligations.Messages`, clause by clause. -/
theorem test_Messages_hypotheses :
    (∃ (s : State) (a : Bool), s.chip.shaped ∧ s.quiet a ∧ s.chip.link.st ≠ 1) ∧
    (∃ (s : State) (a : Bool) (lanes : BitVec 4), s.chip.shaped ∧ s.quiet a ∧ s.chip.link.st = 1 ∧ lanes &&& BitVec.ofNat 4 (s.chip.lanesIn LaneState.train) ≠ 0 ∧ s.chip.pw.core = true) ∧
    (∃ (s : State) (a : Bool), s.chip.shaped ∧ s.quiet a ∧ s.chip.inSession = false) ∧
    (∃ (s : State) (a : Bool), s.chip.shaped ∧ s.quiet a ∧ s.chip.inSession = true) ∧
    (∃ (s : State) (a : Bool) (k : Fin 16), s.chip.shaped ∧ s.quiet a ∧ tst (s.chip.rd spCtx (256 * k.val + 1)) 2 = true ∧ s.chip.cyc.triggered = 0 ∧ s.chip.armed k.val = false) ∧
    (∃ (s : State) (a : Bool) (k : Fin 16), s.chip.shaped ∧ s.quiet a ∧ tst (s.chip.rd spCtx (256 * k.val + 1)) 2 = true ∧ s.chip.cyc.triggered = 0 ∧ s.chip.armed k.val = true ∧ s.chip.cc.checking = none ∧ s.chip.cc.susp = [] ∧ s.chip.pw.cur = Mode.run ∧ (∀ (c : Capture), s.chip.cc.cap = some c → c.ctx ≠ k) ∧ s.chip.cc.cap.isSome = true ∧ k ∉ s.chip.cc.heldTrig ∧ tst (s.chip.rd spCtx (256 * k.val)) 3 = false) ∧
    (∃ (s : State) (a : Bool) (lanes : BitVec 4) (act : BitVec 4) (new : BitVec 4), act = BitVec.ofNat 4 (s.chip.lanesIn LaneState.active) ∧ new = lanes &&& act ∧ s.chip.shaped ∧ s.quiet a ∧ new ≠ 0 ∧ (s.chip.link.retire ||| new) &&& act ≠ act) ∧
    (∃ (s : State) (a : Bool) (lanes : BitVec 4) (act : BitVec 4) (new : BitVec 4), act = BitVec.ofNat 4 (s.chip.lanesIn LaneState.active) ∧ new = lanes &&& act ∧ s.chip.shaped ∧ s.quiet a ∧ new ≠ 0 ∧ (s.chip.link.retire ||| new) &&& act = act) ∧
    (∃ (s : State) (a : Bool) (n : Fin 4), s.chip.shaped ∧ s.quiet a ∧ (s.chip.lane n.val).st ≠ LaneState.active) ∧
    (∃ (s : State) (a : Bool) (n : Fin 4), s.chip.shaped ∧ s.quiet a ∧ s.chip.moversOff ∧ (s.chip.lane n.val).st = LaneState.active ∧ s.chip.link.flight = none ∧ s.chip.link.offAfter = false ∧ s.chip.link.trainAfter = false) ∧
    (∃ (s : State) (k : Nat) (b : Buf), k = fld (s.chip.rd spSeal 1) 0 3 ∧ (s.chip.stream k).bufs.getLast? = some b ∧ s.chip.shaped ∧ s.chip.rxOn = true ∧ s.chip.inSession = true ∧ tst (s.chip.rd spSeal 1) 3 = true ∧ (s.chip.stream k).act = true ∧ (s.chip.stream k).pend = false ∧ s.chip.streamEn k = true ∧ (s.chip.stream k).held = [] ∧ (s.chip.stream k).frames = [] ∧ b.weight = 1 ∧ b.used + 80 ≤ 16384) :=
  ⟨⟨on (lk id), false, shaped_of (by decide +kernel), quiet_of (by decide +kernel), by decide +kernel⟩,
   ⟨on (lk (fun l => {l with st := 1, lanes := la [.train,.train,.retired,.unused]})), false, 0x1, shaped_of (by decide +kernel), quiet_of (by decide +kernel), by decide +kernel⟩,
   ⟨on (lk id), false, shaped_of (by decide +kernel), quiet_of (by decide +kernel), by decide +kernel⟩,
   ⟨on ses, false, shaped_of (by decide +kernel), quiet_of (by decide +kernel), by decide +kernel⟩,
   ⟨on (poke ses [(spCtx,0x201,4)]), false, 2, shaped_of (by decide +kernel), quiet_of (by decide +kernel), by decide +kernel⟩,
   ⟨on (withCap (poke ses (armW 2 4)) cap1), false, 2, shaped_of (by decide +kernel), quiet_of (by decide +kernel), by decide +kernel⟩,
   ⟨on ses, false, 0x1, _, _, rfl, rfl, shaped_of (by decide +kernel), quiet_of (by decide +kernel), by decide +kernel⟩,
   ⟨on ses, false, 0x7, _, _, rfl, rfl, shaped_of (by decide +kernel), quiet_of (by decide +kernel), by decide +kernel⟩,
   ⟨on (lk id), false, 0, shaped_of (by decide +kernel), quiet_of (by decide +kernel), by decide +kernel⟩,
   ⟨on ses, false, 0, shaped_of (by decide +kernel), quiet_of (by decide +kernel), moversOff_of (by decide +kernel), by decide +kernel⟩,
   ⟨on (poke (sm ses 3 (ob 16304)) [(spSeal,1,0x000B)]), _, _, rfl, rfl, shaped_of (by decide +kernel), by decide +kernel⟩⟩

end Messages

/-! ## A sealed slot -/

/-- A bit step of the CRC-32 is one to one at zero. -/
theorem crc32Bit_zero {c : BitVec 32} (h : crc32Bit c = 0) : c = 0 := by
  have e : c.toNat < 2 ^ 32 := c.isLt
  unfold crc32Bit at h
  split at h
  · rename_i hb
    have h31 : (((c >>> 1) ^^^ 0xEDB88320 : BitVec 32)).getLsbD 31 = false := by rw [h]; rfl
    simp at h31
  · rename_i hb
    have hb : c.getLsbD 0 = false := by simpa using hb
    apply BitVec.eq_of_getLsbD_eq
    intro i hi
    rcases i with _ | i
    · simpa using hb
    · have : (c >>> 1).getLsbD i = false := by rw [h]; simp
      rw [BitVec.getLsbD_ushiftRight] at this
      rw [Nat.add_comm, this]; simp

theorem crc32Byte_zero {c : BitVec 32} {b : Byte} (h : crc32Byte c b = 0) : c = b.setWidth 32 := by
  have := crc32Bit_zero (crc32Bit_zero (crc32Bit_zero (crc32Bit_zero (crc32Bit_zero (crc32Bit_zero (crc32Bit_zero (crc32Bit_zero h)))))))
  exact BitVec.xor_eq_zero_iff.mp this

/-- Slot 0 SEALED, but for its check word: its last word before that is `w`. -/
def body (w : Word) : Chip := (up.wr spNvm 0x100000 0x5A5A).wr spNvm (0x100000 + 0x7FFD) w
/-- Slot 0 with the check word of its own bytes. -/
def sealSlot (w : Word) : Chip :=
  ((body w).wr spNvm (0x100000 + 0x7FFE) (BitVec.ofNat 16 (crc32 ((body w).slotBytes 0 0x7FFE)).toNat)).wr spNvm (0x100000 + 0x7FFF)
    (BitVec.ofNat 16 ((crc32 ((body w).slotBytes 0 0x7FFE)).toNat / 65536))

theorem rd_body (w : Word) (o : Nat) (h : o ≠ 0x7FFD) : (body w).rd spNvm (0x100000 + o) = (body 0).rd spNvm (0x100000 + o) := by
  have hk : key spNvm (0x100000 + o) ≠ key spNvm (0x100000 + 0x7FFD) := by
    simp only [key]; omega
  exact (Chip.rd_wr_ne _ _ hk).trans (Chip.rd_wr_ne _ _ hk).symm

theorem rd_seal (w : Word) (o : Nat) (h : o < 0x7FFE ∨ 0x8000 ≤ o) : (sealSlot w).rd spNvm (0x100000 + o) = (body w).rd spNvm (0x100000 + o) := by
  unfold sealSlot
  rw [Chip.rd_wr_ne, Chip.rd_wr_ne] <;> simp only [key] <;> omega

theorem slotBytes_congr {m m' : Chip} (s n : Nat) (h : ∀ w, w < n → m.slotWord s w = m'.slotWord s w) : m.slotBytes s n = m'.slotBytes s n := by
  unfold Chip.slotBytes
  induction n with
  | zero => rfl
  | succ n ih =>
    rw [List.range_succ, List.flatMap_append, List.flatMap_append, ih (fun w hw => h w (by omega))]
    simp [h n (by omega)]

theorem crc_last (m : Chip) (s n : Nat) :
    crc32 (m.slotBytes s (n + 1)) =
      crc32Byte (crc32Byte ((m.slotBytes s n).foldl crc32Byte 0xFFFFFFFF) ((m.slotWord s n).setWidth 8)) ((m.slotWord s n >>> 8).setWidth 8) ^^^
        0xFFFFFFFF := by
  unfold Chip.slotBytes crc32
  rw [List.range_succ, List.flatMap_append, List.foldl_append]
  rfl

/-- For one of two last words the check word is not 0xFFFFFFFF. -/
theorem check_free : ∃ w : Word, crc32 ((body w).slotBytes 0 0x7FFE) ≠ 0xFFFFFFFF := by
  have hw : ∀ w, (body w).slotWord 0 0x7FFD = w := fun w => by
    unfold Chip.slotWord body
    exact Chip.rd_wr_same _ _ _ _
  have hs : ∀ w, (body w).slotBytes 0 0x7FFD = (body 0).slotBytes 0 0x7FFD := fun w =>
    slotBytes_congr 0 _ (fun o ho => by
      unfold Chip.slotWord
      exact rd_body w o (by omega))
  have key : ∀ w : Word, w = 0 ∨ w = 0x0100 → crc32 ((body w).slotBytes 0 0x7FFE) = 0xFFFFFFFF →
      crc32Byte (((body 0).slotBytes 0 0x7FFD).foldl crc32Byte 0xFFFFFFFF) 0 = ((w >>> 8).setWidth 8 : Byte).setWidth 32 := by
    intro w h0 h
    rw [show (0x7FFE : Nat) = 0x7FFD + 1 from rfl, crc_last, hw, hs] at h
    have h : crc32Byte (crc32Byte (((body 0).slotBytes 0 0x7FFD).foldl crc32Byte 0xFFFFFFFF) (w.setWidth 8)) ((w >>> 8).setWidth 8) = 0 := by
      generalize crc32Byte (crc32Byte (((body 0).slotBytes 0 0x7FFD).foldl crc32Byte 0xFFFFFFFF) (w.setWidth 8)) ((w >>> 8).setWidth 8) = x at h
      have : x ^^^ 0xFFFFFFFF ^^^ 0xFFFFFFFF = 0xFFFFFFFF ^^^ 0xFFFFFFFF := by rw [h]
      rw [BitVec.xor_assoc] at this
      simpa using this
    have e : (w.setWidth 8 : Byte) = 0 := by rcases h0 with rfl | rfl <;> rfl
    rw [e] at h
    exact crc32Byte_zero h
  by_contra hn
  simp only [not_exists, not_not] at hn
  have a := key 0 (.inl rfl) (hn 0)
  have b := key 0x0100 (.inr rfl) (hn 0x0100)
  rw [a] at b
  exact absurd b (by decide)

theorem retired_seal (w : Word) (s : Nat) (h : s < 32) : (sealSlot w).slotRetired s = up.slotRetired s := by
  have : ∀ o, (sealSlot w).rd spOtp o = up.rd spOtp o ∨ 0x100000 ≤ o := fun o => by
    by_cases ho : o < 0x100000
    · left
      unfold sealSlot body
      rw [Chip.rd_wr_ne, Chip.rd_wr_ne, Chip.rd_wr_ne, Chip.rd_wr_ne] <;> simp only [key, spOtp, spNvm] <;> omega
    · right; omega
  unfold Chip.slotRetired
  rcases this (0xC14 + s / 16) with h | h
  · rw [h]
  · omega

theorem erased_seal (w : Word) (s : Nat) (h : 0 < s) : (sealSlot w).slotState s = if up.slotWord s 0 = 0xFFFF then 0 else (sealSlot w).slotState s := by
  split
  · rename_i hu
    have : (sealSlot w).slotWord s 0 = 0xFFFF := by
      rw [← hu]
      unfold Chip.slotWord sealSlot body
      rw [Chip.rd_wr_ne, Chip.rd_wr_ne, Chip.rd_wr_ne, Chip.rd_wr_ne] <;> simp only [key, spNvm] <;> omega
    simp [Chip.slotState, this]
  · rfl

/-- A state whose slot 0 is in force: the hypotheses of the LOAD clause of `Obligations.Stores`. -/
theorem test_Stores_load : ∃ (s : State) (v : Word) (n : Nat), s.reaches 0 0x36 ∧ tst v 12 = true ∧ tst v 15 = false ∧ tst v 14 = false ∧
    tst v 11 = false ∧ s.chip.slotInForce = some n := by
  obtain ⟨w, hw⟩ := check_free
  refine ⟨on (sealSlot w), 0x1000, 0, ⟨rfl, rfl⟩, by decide, by decide, by decide, by decide, ?_⟩
  have hb : (sealSlot w).slotBytes 0 0x7FFE = (body w).slotBytes 0 0x7FFE := slotBytes_congr 0 _ (fun o ho => by
    unfold Chip.slotWord
    exact rd_seal w o (.inl ho))
  have h2 : (sealSlot w).slotState 0 = 2 := by
    have h0 : (sealSlot w).slotWord 0 0 = 0x5A5A := by
      unfold Chip.slotWord
      rw [rd_seal w _ (.inl (by omega))]
      unfold body
      rw [Chip.rd_wr_ne _ _ (by simp only [key]; omega)]
      exact Chip.rd_wr_same _ _ _ _
    have hc : (sealSlot w).slotCheck 0 = (crc32 ((body w).slotBytes 0 0x7FFE)).toNat := by
      have h1 : (sealSlot w).slotWord 0 0x7FFF = BitVec.ofNat 16 ((crc32 ((body w).slotBytes 0 0x7FFE)).toNat / 65536) := by
        unfold Chip.slotWord sealSlot
        exact Chip.rd_wr_same _ _ _ _
      have h3 : (sealSlot w).slotWord 0 0x7FFE = BitVec.ofNat 16 (crc32 ((body w).slotBytes 0 0x7FFE)).toNat := by
        unfold Chip.slotWord sealSlot
        rw [Chip.rd_wr_ne _ _ (by simp only [key]; omega)]
        exact Chip.rd_wr_same _ _ _ _
      unfold Chip.slotCheck
      rw [h1, h3]
      have := (crc32 ((body w).slotBytes 0 0x7FFE)).isLt
      generalize (crc32 ((body w).slotBytes 0 0x7FFE)).toNat = x at *
      simp only [BitVec.toNat_ofNat]
      omega
    have hn : (crc32 ((body w).slotBytes 0 0x7FFE)).toNat ≠ 0xFFFFFFFF := fun h => hw (BitVec.eq_of_toNat_eq h)
    unfold Chip.slotState
    rw [h0, hc, hb]
    simp [hn]
  have hf : (List.range 32).filter (fun s => !(sealSlot w).slotRetired s && (sealSlot w).slotState s == 2) = [0] := by
    have : ∀ s ∈ List.range 32, (!(sealSlot w).slotRetired s && (sealSlot w).slotState s == 2) = (s == 0) := by
      intro s hs
      have hs : s < 32 := List.mem_range.mp hs
      rw [retired_seal w s hs]
      rcases s with _ | s
      · rw [h2]; decide +kernel
      · have hu : ∀ k, k < 31 → up.slotWord (k + 1) 0 = 0xFFFF := by decide +kernel
        rw [erased_seal w _ (by omega), if_pos (hu s (by omega))]
        simp
    rw [List.filter_congr this]
    decide
  show (sealSlot w).slotInForce = some 0
  unfold Chip.slotInForce
  rw [hf]
  rfl

end Sys2Proof.Tests
end

section
/-! PROOFS. The window when its pointer names no space (R44): what an access then does to the chip, and the statement of
O9. -/

namespace Sys2Proof.Machine

/-! ## Answers, and which words a command changes -/

/-- A meaning that answers through `done` answers the settled chip. -/
theorem answers_of_done {c : Instr} {s : State} {m : Chip} {P : Chip → Prop} (h : exec c s = done s m) (hP : P m.settle) :
    Answers c s P :=
  ⟨{ s with chip := m.settle }, h, rfl, hP⟩

/-- Setting bits of a word leaves every other word. -/
theorem Chip.get_orBits_ne (m : Chip) (sp off : Nat) (b : Word) {k : Nat} (h : k ≠ key sp off) :
    Bank.get (m.orBits sp off b).regs k = Bank.get m.regs k := by
  simp [Chip.orBits, Chip.get_wr, h]

/-- The chips that differ in stored words, the record of the cycle and IRQ_N alone, by the new values of these. -/
theorem onlyWords_iff {m t : Chip} :
    OnlyWords m t ↔ ∃ r c i, t = { m with regs := r, cyc := c, pins := { m.pins with irq := i } } := by
  constructor
  · exact fun h => ⟨_, _, _, h⟩
  · rintro ⟨r, c, i, rfl⟩
    rfl

/-- That a source acts changes only the record of the cycle. -/
theorem onlyThese_begin (m : Chip) (src : Nat) (ws : List (Nat × Nat)) : OnlyThese m (m.begin src) ws :=
  ⟨rfl, fun _ _ => rfl⟩

/-- Setting bits of a listed word changes only listed words. -/
theorem OnlyThese.orBits {m t : Chip} {ws : List (Nat × Nat)} {sp off : Nat} (h : OnlyThese m t ws) (b : Word)
    (hw : (sp, off) ∈ ws) : OnlyThese m (t.orBits sp off b) ws := by
  obtain ⟨ht, hk⟩ := h
  refine ⟨?_, fun k hne => (Chip.get_orBits_ne t sp off b (hne (sp, off) hw)).trans (hk k hne)⟩
  obtain ⟨r, c, i, rfl⟩ := onlyWords_iff.mp ht
  exact onlyWords_iff.mpr ⟨_, _, _, rfl⟩

/-- Evaluating IRQ_N changes no word. -/
theorem OnlyThese.settle {m t : Chip} {ws : List (Nat × Nat)} (h : OnlyThese m t ws) : OnlyThese m t.settle ws := by
  obtain ⟨ht, hk⟩ := h
  refine ⟨?_, hk⟩
  obtain ⟨r, c, i, rfl⟩ := onlyWords_iff.mp ht
  exact onlyWords_iff.mpr ⟨_, _, _, rfl⟩

/-- What a read drives on HD is apart from the words that a command changes. -/
theorem OnlyThese.drive {m t : Chip} {ws : List (Nat × Nat)} (h : OnlyThese m t ws) (v : Word) :
    OnlyThese (m.drive v) (t.drive v) ws := by
  obtain ⟨ht, hk⟩ := h
  refine ⟨?_, hk⟩
  obtain ⟨r, c, i, rfl⟩ := onlyWords_iff.mp ht
  rfl

/-! ## The window with nothing held or staged -/

/-- No held write, nothing to complete (R36). -/
theorem Chip.heldDone_of_none {m : Chip} (h : m.win.heldWrite = none) : m.heldDone = m := by
  simp [Chip.heldDone, h]

/-- No staged word, nothing to take effect (R48). -/
theorem Chip.stagedAlone_of_none {m : Chip} (h : m.win.staged = none) : m.stagedAlone = m := by
  simp [Chip.stagedAlone, h]

/-- A WINDATA read under a pointer that names no space returns 0x0000 and sets SPERR (R44). -/
theorem Chip.windowRead_of_unknown {m : Chip} (hs : m.win.staged = none) (hh : m.win.heldWrite = none)
    (hsp : spaceKnown m.ptrSpace = false) : m.windowRead = (m.orBits 0 0x21 0x0200).drive 0 := by
  have hf : m.windowFirst = m := by
    rw [Chip.windowFirst, Chip.heldDone_of_none hh, Chip.stagedAlone_of_none hs]
  simp [Chip.windowRead, hf, hsp]

/-- A WINDATA write under a pointer that names no space is discarded and sets SPERR (R44). -/
theorem Chip.windowWrite_of_unknown {m : Chip} (v : Word) (hs : m.win.staged = none)
    (hsp : spaceKnown m.ptrSpace = false) : m.windowWrite v = m.orBits 0 0x21 0x0200 := by
  simp [Chip.windowWrite, hs, Chip.stagedAlone_of_none hs, hsp]

/-- Under a pointer that names no space a stretched write is not held either: there is no target to stretch it (R36, R44). -/
theorem Chip.windowAccess_of_unknown {m : Chip} (v : Word) (held : Bool) (hs : m.win.staged = none)
    (hh : m.win.heldWrite = none) (hsp : spaceKnown m.ptrSpace = false) :
    m.windowAccess v held = m.orBits 0 0x21 0x0200 := by
  simp [Chip.windowAccess, Chip.heldDone_of_none hh, hsp, Chip.windowWrite_of_unknown v hs hsp]

/-! ## The obligation -/

/-- Settles O9: read and write both come down to setting SPERR on the chip as the host's access finds it. -/
theorem unknownSpace : Obligations.UnknownSpace := by
  intro s ⟨hbus, hown⟩ hs hh hsp
  have sperr : OnlyThese s.chip (s.host.orBits 0 0x21 0x0200) [(0, 0x21)] :=
    (onlyThese_begin s.chip 0 _).orBits _ (List.mem_singleton_self _)
  have value : (s.host.orBits 0 0x21 0x0200).rd 0 0x21 = s.chip.rd 0 0x21 ||| 0x0200 := Chip.rd_orBits_same ..
  constructor
  · have hread : exec .windataRead s = done s ((s.host.orBits 0 0x21 0x0200).drive 0) := by
      rw [← Chip.windowRead_of_unknown (m := s.host) hs hh hsp]
      exact hostRead_on s 0 0x20 (·.windowRead) hbus hown
    exact answers_of_done hread ⟨rfl, value, (sperr.drive 0).settle⟩
  · intro v held
    have hwrite : exec (.windataWrite v held) s = done s (s.host.orBits 0 0x21 0x0200) := by
      rw [← Chip.windowAccess_of_unknown (m := s.host) v held hs hh hsp]
      exact hostWrite_on s 0 0x20 (·.windowAccess v held) hbus hown
    exact answers_of_done hwrite ⟨value, sperr.settle⟩

end Sys2Proof.Machine
end

section
/-! PROOFS. The alarm's words (R112): what a write of an ALM word and a write of ALMCTL do to the chip, and the statement of
O14. -/

namespace Sys2Proof.Machine

/-! ## Bits of words -/

/-- A bit of a word that a mask was cleared from: the word's bit where the mask has none. -/
theorem tst_and_not (w x : Word) {i : Nat} (h : i < 16) : tst (w &&& ~~~x) i = (tst w i && !tst x i) := by
  simp [tst, h]

/-- With no bit to write, a merge keeps the old word (R8). -/
@[simp] theorem merge_zero (old v : Word) : merge old 0 v = old := by
  have hkeep : old &&& ~~~(0 : Word) = old := BitVec.and_allOnes
  have hnone : v &&& (0 : Word) = 0 := BitVec.and_zero
  rw [merge, hkeep, hnone]
  exact BitVec.or_zero

/-! ## Which words a store changes -/

/-- Storing a listed word changes only listed words. -/
theorem OnlyThese.wr {m t : Chip} {ws : List (Nat × Nat)} {sp off : Nat} (h : OnlyThese m t ws) (v : Word)
    (hw : (sp, off) ∈ ws) : OnlyThese m (t.wr sp off v) ws := by
  obtain ⟨ht, hk⟩ := h
  refine ⟨?_, fun k hne => (Bank.get_put_ne t.regs v (hne (sp, off) hw)).trans (hk k hne)⟩
  obtain ⟨r, c, i, rfl⟩ := onlyWords_iff.mp ht
  exact onlyWords_iff.mpr ⟨_, _, _, rfl⟩

/-- A plain write of a listed word changes only listed words. -/
theorem OnlyThese.plainWrite {m t : Chip} {ws : List (Nat × Nat)} {sp off : Nat} (h : OnlyThese m t ws) (v : Word)
    (hw : (sp, off) ∈ ws) : OnlyThese m (t.plainWrite sp off v) ws := by
  unfold Chip.plainWrite
  split
  · exact h
  · exact h.wr _ hw

/-! ## A write of an ALM word -/

/-- The TMR words from 0x10 to 0x12 are the alarm's. -/
theorem Chip.writeSpace_alm (m : Chip) {w : Nat} (v : Word) (h : w < 3) :
    m.writeSpace spTmr (0x10 + w) v = m.writeAlm w v := by
  have hw : 0x10 + w < 0x13 := by omega
  simp [Chip.writeSpace, Chip.writeTmr, hw]

/-- ALM0 and ALM1 are held (R112). -/
theorem Chip.writeAlm_held (m : Chip) {w : Nat} (v : Word) (h : w < 2) : m.writeAlm w v = m.wrHeld spTmr (0x10 + w) v := by
  simp [Chip.writeAlm, h]

/-- ALM2 loads the two held words and its own, and sets ARMED (R112): the stored words after the load. -/
theorem Chip.get_writeAlm_load (m : Chip) (v : Word) (k : Nat) :
    Bank.get (m.writeAlm 2 v).regs k =
      if k = key spTmr 0x13 then m.rd spTmr 0x13 ||| 0x8000
      else if k = key spTmr 0x12 then v
      else if k = key spTmr 0x11 then m.rdHeld spTmr 0x11
      else if k = key spTmr 0x10 then m.rdHeld spTmr 0x10
      else Bank.get m.regs k := by
  simp [Chip.writeAlm, Chip.wrList, Chip.orBits, Chip.rd, Chip.get_wr, key_eq_iff]

/-- Besides the stamp of the load, ALM2 changes the alarm's three words and ALMCTL only. -/
theorem onlyThese_writeAlm_load (m : Chip) (v : Word) :
    OnlyThese { m with pw := { m.pw with alarmAt := m.tb.aon } } (m.writeAlm 2 v)
      [(spTmr, 0x10), (spTmr, 0x11), (spTmr, 0x12), (spTmr, 0x13)] := by
  refine ⟨rfl, fun k hne => ?_⟩
  have h0 : k ≠ key spTmr 0x10 := hne (spTmr, 0x10) (by simp)
  have h1 : k ≠ key spTmr 0x11 := hne (spTmr, 0x11) (by simp)
  have h2 : k ≠ key spTmr 0x12 := hne (spTmr, 0x12) (by simp)
  have h3 : k ≠ key spTmr 0x13 := hne (spTmr, 0x13) (by simp)
  simp [Chip.get_writeAlm_load, h0, h1, h2, h3]

/-! ## A write of ALMCTL -/

/-- Of a written ALMCTL, bit 14 (FIRED) clears where a 1 is written, unless the cycle has set it (R10). -/
theorem Chip.rd_plainWrite_almctl (m : Chip) (v : Word) :
    (m.plainWrite spTmr 0x13 v).rd spTmr 0x13 =
      m.rd spTmr 0x13 &&& ~~~(v &&& 0x4000 &&& ~~~m.fresh spTmr 0x13) := by
  have hrow : regRow spTmr 0x13 = some ⟨0x0013, 1, 1, 1, 0, 0, 0x4000, 0⟩ := by decide
  rw [Chip.rd_plainWrite_same m spTmr 0x13 v _ hrow, merge_zero]

/-- With DISARM, the write then clears ARMED (R112). -/
theorem Chip.writeAlmctl_disarm (m : Chip) {v : Word} (h : tst v 0 = true) :
    m.writeAlmctl v = (m.plainWrite spTmr 0x13 v).clrBits spTmr 0x13 0x8000 := by
  simp [Chip.writeAlmctl, h]

/-- ARMED after a write with DISARM. -/
theorem Chip.armed_writeAlmctl (m : Chip) {v : Word} (h : tst v 0 = true) :
    tst ((m.writeAlmctl v).rd spTmr 0x13) 15 = false := by
  have hbit : tst 0x8000 15 = true := by decide
  rw [Chip.writeAlmctl_disarm m h, Chip.rd_clrBits_same, tst_and_not _ _ (by decide), hbit, Bool.not_true, Bool.and_false]

/-- FIRED after a write with DISARM. -/
theorem Chip.fired_writeAlmctl (m : Chip) {v : Word} (h : tst v 0 = true) :
    tst ((m.writeAlmctl v).rd spTmr 0x13) 14 =
      (tst (m.rd spTmr 0x13) 14 && !(tst v 14 && !tst (m.fresh spTmr 0x13) 14)) := by
  have hbit : tst 0x8000 14 = false := by decide
  have hmask : tst (v &&& 0x4000) 14 = tst v 14 := by simp [tst]
  rw [Chip.writeAlmctl_disarm m h, Chip.rd_clrBits_same, Chip.rd_plainWrite_almctl]
  simp only [tst_and_not, Nat.reduceLT, hbit, hmask, Bool.not_false, Bool.and_true]

/-- A write of ALMCTL changes no other word. -/
theorem OnlyThese.writeAlmctl {m t : Chip} {ws : List (Nat × Nat)} (h : OnlyThese m t ws) (v : Word)
    (hw : (spTmr, 0x13) ∈ ws) : OnlyThese m (t.writeAlmctl v) ws := by
  have hp : OnlyThese m (t.plainWrite spTmr 0x13 v) ws := h.plainWrite v hw
  unfold Chip.writeAlmctl
  split
  · exact hp.wr _ hw
  · exact hp

/-! ## The obligation -/

/-- A write of ALM0 or ALM1 as the command of a register write. -/
theorem exec_registerWrite_alm {s : State} (i : Fin 2) (v : Word) (h : s.opens spTmr (0x10 + i.val)) :
    exec (.registerWrite spTmr (0x10 + i.val) v) s = done s (s.host.wrHeld spTmr (0x10 + i.val) v) := by
  have hw : exec (.registerWrite spTmr (0x10 + i.val) v) s = hostWindow s spTmr (0x10 + i.val) v := rfl
  rw [hw, hostWindow_opens s _ _ v h, Chip.writeSpace_alm _ v (by omega), Chip.writeAlm_held _ v i.isLt]

/-- Settles O14: ALM0 and ALM1 reach the shadow words alone; ALM2 loads and arms; DISARM is the plain write of ALMCTL, which
clears FIRED where a 1 is written, with ARMED cleared after it. -/
theorem alarmLoad : Obligations.AlarmLoad := by
  refine ⟨fun s i v hopen => ?held, fun s v hbus => ⟨fun hown => ?almRule, fun hown => ?ctlRule⟩, fun s v hopen => ?load,
    fun s v hopen hdis => ?disarm⟩
  case held =>
    refine answers_of_done (exec_registerWrite_alm i v hopen) ⟨Chip.rdHeld_wrHeld_same .., rfl, fun k hk => ?_, rfl⟩
    exact Bank.get_put_ne _ v hk
  case almRule => exact hostWindow_on s spTmr 0x12 v hbus hown
  case ctlRule => exact hostWindow_on s spTmr 0x13 v hbus hown
  case load =>
    have word (k : Nat) := Chip.get_writeAlm_load s.host v k
    refine answers_of_done (hostWindow_opens s spTmr 0x12 v hopen) ⟨?_, ?_, ?_, ?_, ?_⟩
    · exact word (key spTmr 0x10)
    · exact word (key spTmr 0x11)
    · exact word (key spTmr 0x12)
    · exact word (key spTmr 0x13)
    · exact (onlyThese_writeAlm_load s.host v).settle
  case disarm =>
    have fired := Chip.fired_writeAlmctl s.host hdis
    refine answers_of_done (hostWindow_opens s spTmr 0x13 v hopen) ⟨Chip.armed_writeAlmctl s.host hdis, ?_, ?_, ?_⟩
    · intro h1 hf
      have hf' : tst (s.host.fresh spTmr 0x13) 14 = false := hf
      exact fired.trans (by simp [h1, hf'])
    · intro h0
      have hrd : s.host.rd spTmr 0x13 = s.chip.rd spTmr 0x13 := rfl
      exact fired.trans (by simp [h0, hrd])
    · exact ((onlyThese_begin s.chip 0 _).writeAlmctl v (List.mem_singleton_self _)).settle

end Sys2Proof.Machine
end

section
/-! PROOFS. Which instruction word Loam refuses to execute: what `issue` does with a word that has an unused bit set (R238) and
with a program counter outside its bank (R240), that every instruction of Loam is executed by it, and the statement of O36. -/

namespace Sys2Proof.Machine

/-! ## The refusals of `issue` -/

/-- A word of the opcode with a 1 in a bit that the opcode does not use faults, whatever the instruction does (R238). -/
theorem issue_unusedBit {s : State} {op : Nat} (f : Nat → Chip → Chip) (hm : s.chip.mayIssue = true)
    (hin : s.chip.outside = false) (hop : iOp s.chip.fetch = op) (hw : wordOk s.chip.fetch = false) :
    issue s op f = done s (s.chip.loamFault 0x04) := by
  simp [issue, hm, hin, hop, hw]

/-- Outside the bank there is no word to execute: the fault comes whatever the opcode (R240). -/
theorem issue_outside {s : State} (op : Nat) (f : Nat → Chip → Chip) (hm : s.chip.mayIssue = true)
    (hout : s.chip.outside = true) : issue s op f = done s (s.chip.loamFault 0x03) := by
  simp [issue, hm, hout]

/-! ## The instructions of Loam -/

/-- Every instruction of Loam is executed by `issue`, under its opcode of the table. -/
theorem exec_loamTable {p : Instr × Nat} (hp : p ∈ loamTable) (s : State) : ∃ f, exec p.1 s = issue s p.2 f := by
  unfold exec
  fin_cases hp
  all_goals exact ⟨_, rfl⟩

/-! ## The obligation -/

/-- Settles O36: every instruction of the table is executed by `issue`, which refuses both words before it looks at the
instruction's own effect. -/
theorem loamUnusedBits : Obligations.LoamUnusedBits := by
  refine ⟨fun p hp s hm hin hop hw => ?unused, fun p hp s hm hout => ?bank⟩
  all_goals obtain ⟨f, hf⟩ := exec_loamTable hp s
  case unused => exact hf.trans (issue_unusedBit f hm hin hop hw)
  case bank => exact hf.trans (issue_outside p.2 f hm hout)

end Sys2Proof.Machine
end

section
/-! PROOFS. EVVEC (R559): which event it names, when it reads NONE, what a write of it does to EVSTAT, and the statement of
O21. -/

namespace Sys2Proof.Machine

/-! ## The event that EVVEC names -/

/-- The top event is the first of the 32 that is both pending and enabled. -/
theorem Chip.topEvent_eq_some_iff (m : Chip) (n : Nat) :
    m.topEvent = some n ↔
      (tst (m.rd 0 (0x13 + n / 16)) (n % 16) = true ∧ tst (m.rd 0 (0x15 + n / 16)) (n % 16) = true) ∧ n < 32 ∧
        ∀ k < n, tst (m.rd 0 (0x13 + k / 16)) (k % 16) = false ∨ tst (m.rd 0 (0x15 + k / 16)) (k % 16) = false := by
  simp [Chip.topEvent, List.find?_range_eq_some]

/-- There is no top event exactly when none of the 32 is both pending and enabled. -/
theorem Chip.topEvent_eq_none_iff (m : Chip) :
    m.topEvent = none ↔
      ∀ n < 32, tst (m.rd 0 (0x13 + n / 16)) (n % 16) = true → tst (m.rd 0 (0x15 + n / 16)) (n % 16) = false := by
  simp [Chip.topEvent]

/-- Words with no bit in common: a bit of the one is none of the other. -/
theorem tst_eq_false_of_and_eq_zero {a b : Word} (h : a &&& b = 0) {i : Nat} (ha : tst a i = true) : tst b i = false := by
  have hand : (tst a i && tst b i) = false := by
    simpa [tst] using congrArg (·.getLsbD i) h
  simpa [ha] using hand

/-- No event asks for IRQ_N exactly when each EVSTAT word has no bit in common with its EVEN word. -/
theorem Chip.irqWanted_eq_false_iff (m : Chip) :
    m.irqWanted = false ↔ m.rd 0 0x13 &&& m.rd 0 0x15 = 0 ∧ m.rd 0 0x14 &&& m.rd 0 0x16 = 0 := by
  simp [Chip.irqWanted]

/-- With no event asking for IRQ_N there is no top event: an event lies in the low or in the high word of its pair. -/
theorem Chip.topEvent_of_not_irqWanted {m : Chip} (h : m.irqWanted = false) : m.topEvent = none := by
  obtain ⟨hlo, hhi⟩ := m.irqWanted_eq_false_iff.mp h
  refine m.topEvent_eq_none_iff.mpr fun n hn => ?_
  obtain hword | hword : n / 16 = 0 ∨ n / 16 = 1 := by omega
  all_goals rw [hword]
  · exact tst_eq_false_of_and_eq_zero hlo
  · exact tst_eq_false_of_and_eq_zero hhi

/-- EVVEC reads the number of the top event (R559). -/
theorem Chip.peekDirect_evvec_of_some {m : Chip} {n : Nat} (h : m.topEvent = some n) : m.peekDirect 0x17 = wd n := by
  simp [Chip.peekDirect, Chip.evvec, h]

/-- EVVEC reads NONE where there is no top event (R559). -/
theorem Chip.peekDirect_evvec_of_none {m : Chip} (h : m.topEvent = none) : m.peekDirect 0x17 = 0x8000 := by
  simp [Chip.peekDirect, Chip.evvec, h]

/-! ## A write of EVVEC -/

/-- A W1C clear of a listed word changes only listed words. -/
theorem OnlyThese.w1c {m t : Chip} {ws : List (Nat × Nat)} {sp off : Nat} (h : OnlyThese m t ws) (b : Word)
    (hw : (sp, off) ∈ ws) : OnlyThese m (t.w1c sp off b) ws :=
  h.wr _ hw

/-- A write of an event's number is the W1C clear of its EVSTAT bit (R559). -/
theorem Chip.writeEvvec_event (m : Chip) {v : Word} (h : v.toNat < 32) :
    m.writeEvvec v = m.w1c 0 (0x13 + v.toNat / 16) (bitW (v.toNat % 16)) :=
  if_pos h

/-- A write of any other value is discarded (R559). -/
theorem Chip.writeEvvec_other (m : Chip) {v : Word} (h : 32 ≤ v.toNat) : m.writeEvvec v = m :=
  if_neg (Nat.not_lt.mpr h)

/-- A write of EVVEC that is reached acts on the chip as the host's access finds it. -/
theorem exec_evvecWrite {s : State} (v : Word) (h : s.reaches 0 0x17) :
    exec (.evvecWrite v) s = done s (s.host.writeEvvec v) :=
  hostWrite_on s 0 0x17 (·.writeEvvec v) h.1 h.2

/-! ## The obligation -/

/-- Settles O21: a read turns on the top event, which is the first pending and enabled one; a write of an event's number is
a W1C clear, which leaves what the cycle has set, and any other write leaves the chip as the host's access found it. -/
theorem eventVector : Obligations.EventVector := by
  refine ⟨fun m n hn hstat heven hleast => ?lowest, fun m hirq => ?noEvent,
    fun s v hreach => ⟨fun hv => ?clears, fun hv => ?discarded⟩⟩
  case lowest => exact Chip.peekDirect_evvec_of_some ((m.topEvent_eq_some_iff n).mpr ⟨⟨hstat, heven⟩, hn, hleast⟩)
  case noEvent => exact Chip.peekDirect_evvec_of_none (Chip.topEvent_of_not_irqWanted hirq)
  case clears =>
    have hexec := exec_evvecWrite v hreach
    rw [Chip.writeEvvec_event _ hv] at hexec
    refine answers_of_done hexec ⟨Chip.rd_w1c_same .., ?_⟩
    exact ((onlyThese_begin s.chip 0 _).w1c _ (List.mem_singleton_self _)).settle
  case discarded =>
    have hexec := exec_evvecWrite v hreach
    rw [Chip.writeEvvec_other _ hv] at hexec
    exact answers_of_done hexec rfl

end Sys2Proof.Machine
end


section
/-! PROOFS. Every command answers through `done`: what that says of a step's end, and the statements of O3 and O4. -/

namespace Sys2Proof.Machine

/-! ## Every meaning is an answer -/

/-- The outcome is the answer of some chip. -/
def IsDone (s : State) (o : Host.Outcome State Fault Refusal) : Prop := ∃ m, o = done s m

/-- An answer is one, whichever chip it is of; so is every guarded, host or Loam meaning, which unfold to it. -/
theorem isDone_done (s : State) (m : Chip) : IsDone s (done s m) := ⟨m, rfl⟩

/-- The effect of a command always is the answer of some chip. -/
theorem isDone_exec (c : Instr) (s : State) : IsDone s (exec c s) := by
  cases c
  all_goals unfold exec
  case hkcResult | waittReached | waiteEvent | actionQueueStallEnd | rowRead | stratumOpen | stratumClose |
    stratumMaxClose | isetApply | pinAction | hktAction | stepTakeUp | strbEdge | driftExposureOpen |
    driftExposureClose | bandReadStart | bandReadEnd | driftEndPin | driftTailExpiry | driftStall |
    marlDwellEnd | vrefRunComplete | vrefRunTimeout | whiteRunComplete | whiteRunTimeout | otpOpComplete |
    wpSyncLoss | pcamLine | pcamVsyncClose | pcamPclkTimeout | packetStart | packetComplete | commitComplete |
    ledgerFlushComplete | registerWrite | domainOffRead | programRamWrite | trimTargetWrite | commitStagedPins
    | stageDiscard =>
    simp only [execHkcResult, execWaittReached, execWaiteEvent, execActionQueueStallEnd, execRowRead,
      execStratumOpen, execStratumClose, execStratumMaxClose, execIsetApply, execPinAction, execHktAction,
      execStepTakeUp, execStrbEdge, execDriftExposureOpen, execDriftExposureClose, execBandReadStart,
      execBandReadEnd, execDriftEndPin, execDriftTailExpiry, execDriftStall, execMarlDwellEnd,
      execVrefRunComplete, execVrefRunTimeout, execWhiteRunComplete, execWhiteRunTimeout, execOtpOpComplete,
      execWpSyncLoss, execPcamLine, execPcamVsyncClose, execPcamPclkTimeout, execPacketStart,
      execPacketComplete, execCommitComplete, execLedgerFlushComplete, execRegisterWrite, execDomainOffRead,
      execProgramRamWrite, execTrimTargetWrite, execCommitStagedPins, execStageDiscard]
    repeat' split
    all_goals exact isDone_done s _
  all_goals exact isDone_done s _

/-- So is a step, of a queue with a command and of an empty one; the queue it keeps is the rest. -/
theorem isDone_step (s : State) : IsDone { s with pending := s.pending.tail } (step s) := by
  unfold step
  split
  next hnil =>
    have hs : ({ s with pending := s.pending.tail } : State) = s := by
      obtain ⟨p, m⟩ := s
      cases hnil
      rfl
    rw [hs]
    exact isDone_done s _
  next c rest hcons =>
    rw [hcons]
    exact isDone_exec c _

/-- What a step that answers leaves: the rest of the queue, and IRQ_N evaluated. -/
theorem step_inv {s t : State} (h : step s = .next t) : t.pending = s.pending.tail ∧ ∃ m : Chip, t.chip = m.settle := by
  obtain ⟨m, hm⟩ := isDone_step s
  obtain ⟨hchip, hpending⟩ := done_inv (hm.symm.trans h)
  exact ⟨hpending, m, hchip⟩

/-! ## The obligations -/

/-- Settles O3: every meaning is the answer of a chip, so no command and no step stops. -/
theorem everyCommandAnswers : Obligations.EveryCommandAnswers := by
  refine ⟨fun c s => ?command, fun s => ⟨?safe, fun t ht => (step_inv ht).1⟩⟩
  case command =>
    obtain ⟨m, hm⟩ := isDone_exec c s
    exact ⟨_, hm, rfl⟩
  case safe =>
    obtain ⟨m, hm⟩ := isDone_step s
    exact ⟨_, hm⟩

/-- Settles O4: a step ends with the evaluation of IRQ_N. -/
theorem irqFollowsEveryStep : Obligations.IrqFollowsEveryStep := by
  intro s t ht
  obtain ⟨-, m, hm⟩ := step_inv ht
  unfold State.irqTrue
  rw [hm]
  exact m.settle_irq

end Sys2Proof.Machine
end


section
/-! PROOFS. Every operation keeps the number of every unit of the chip: one lemma per operation, in the order of the
definitions, and the statement of O5. -/

namespace Sys2Proof.Machine

-- The proofs are many and short: one after the other they need few threads.
set_option Elab.async false

/-! ## Parts of the shape -/

theorem Chip.shaped.chans {m : Chip} (h : m.shaped) : m.chans.length = 8 := h.1
theorem Chip.shaped.reqs {m : Chip} (h : m.shaped) : m.hkc.reqs.length = 8 := h.2.1
theorem Chip.shaped.regs {m : Chip} (h : m.shaped) : m.loam.regs.length = 8 := h.2.2.1
theorem Chip.shaped.susp {m : Chip} (h : m.shaped) : ∀ x ∈ m.cc.susp, x.loam.regs.length = 8 := h.2.2.2.1
theorem Chip.shaped.streams {m : Chip} (h : m.shaped) : m.streams.length = 8 := h.2.2.2.2.1
theorem Chip.shaped.movers {m : Chip} (h : m.shaped) : m.movers.length = 4 := h.2.2.2.2.2.1
theorem Chip.shaped.cams {m : Chip} (h : m.shaped) : m.cams.length = 3 := h.2.2.2.2.2.2.1
theorem Chip.shaped.lanes {m : Chip} (h : m.shaped) : m.link.lanes.length = 4 := h.2.2.2.2.2.2.2.1
theorem Chip.shaped.ports {m : Chip} (h : m.shaped) : m.wave.ports.length = 3 := h.2.2.2.2.2.2.2.2.1
theorem Chip.shaped.wchans {m : Chip} (h : m.shaped) : m.wave.chans.length = 8 := h.2.2.2.2.2.2.2.2.2.1
theorem Chip.shaped.slp {m : Chip} (h : m.shaped) : m.pins.slp.length = 32 := h.2.2.2.2.2.2.2.2.2.2.1
theorem Chip.shaped.applied {m : Chip} (h : m.shaped) : m.hkc.applied.length = 6 := h.2.2.2.2.2.2.2.2.2.2.2

/-- A chip with as many of every unit as a shaped one is shaped; parts that stand as they did need no proof. -/
theorem Chip.shaped.update {m t : Chip} (h : m.shaped) (chans : t.chans.length = m.chans.length := by rfl)
    (reqs : t.hkc.reqs.length = m.hkc.reqs.length := by rfl) (regs : t.loam.regs.length = m.loam.regs.length := by rfl)
    (susp : ∀ x ∈ t.cc.susp, x ∈ m.cc.susp ∨ x.loam.regs.length = 8 := by exact fun _ hx => .inl hx)
    (streams : t.streams.length = m.streams.length := by rfl) (movers : t.movers.length = m.movers.length := by rfl)
    (cams : t.cams.length = m.cams.length := by rfl) (lanes : t.link.lanes.length = m.link.lanes.length := by rfl)
    (ports : t.wave.ports.length = m.wave.ports.length := by rfl)
    (wchans : t.wave.chans.length = m.wave.chans.length := by rfl)
    (slp : t.pins.slp.length = m.pins.slp.length := by rfl)
    (applied : t.hkc.applied.length = m.hkc.applied.length := by rfl) : t.shaped := by
  obtain ⟨hchans, hreqs, hregs, hsusp, hstreams, hmovers, hcams, hlanes, hports, hwchans, hslp, happlied⟩ := h
  refine ⟨chans.trans hchans, reqs.trans hreqs, regs.trans hregs, fun x hx => ?_, streams.trans hstreams,
    movers.trans hmovers, cams.trans hcams, lanes.trans hlanes, ports.trans hports, wchans.trans hwchans,
    slp.trans hslp, applied.trans happlied⟩
  exact (susp x hx).elim (hsusp x) id

/-- Either chip is shaped, so the one that a condition takes is. -/
theorem Chip.shaped.ite {c : Prop} [Decidable c] {a b : Chip} (ha : a.shaped) (hb : b.shaped) :
    (if c then a else b).shaped := by
  split
  · exact ha
  · exact hb

/-- A list of operations that each keep the shape keeps it. -/
theorem Chip.shaped.foldl {α : Type} {l : List α} {m : Chip} {f : Chip → α → Chip} (h : m.shaped)
    (hf : ∀ m a, m.shaped → (f m a).shaped) : (l.foldl f m).shaped := by
  induction l generalizing m with
  | nil => exact h
  | cons a r ih => exact ih (hf m a h)

/-- So does one that carries a value along with the chip. -/
theorem foldl_fst {α β : Type} {l : List α} {a : Chip × β} {f : Chip × β → α → Chip × β} (h : a.1.shaped)
    (hf : ∀ a x, a.1.shaped → (f a x).1.shaped) : (l.foldl f a).1.shaped := by
  induction l generalizing a with
  | nil => exact h
  | cons x r ih => exact ih (hf a x h)

/-- The chip after a power-on reset has every unit. -/
theorem chip_reset_shaped : Chip.reset.shaped := by
  refine ⟨?_, ?_, ?_, ?_, ?_, ?_, ?_, ?_, ?_, ?_, ?_, ?_⟩
  case refine_4 => exact fun x hx => absurd hx List.not_mem_nil
  all_goals rfl

/-! ## The operations -/

theorem Chip.shaped.wr {m : Chip} {sp off : Nat} {v : Word} (h : m.shaped) : (m.wr sp off v).shaped := h

theorem Chip.shaped.wrList {m : Chip} {sp off : Nat} {l : List Word} (h : m.shaped) : (m.wrList sp off l).shaped := by
  induction l generalizing m off with
  | nil => exact h
  | cons v r ih => exact ih h.wr

theorem Chip.shaped.wrHeld {m : Chip} {sp off : Nat} {v : Word} (h : m.shaped) : (m.wrHeld sp off v).shaped := h

theorem Chip.shaped.wr32 {m : Chip} {sp off v : Nat} (h : m.shaped) : (m.wr32 sp off v).shaped := by
  unfold Chip.wr32
  exact h.wr.wr

theorem Chip.shaped.wr64 {m : Chip} {sp off v : Nat} (h : m.shaped) : (m.wr64 sp off v).shaped := by
  unfold Chip.wr64
  exact h.wr32.wr32

theorem Chip.shaped.orBits {m : Chip} {sp off : Nat} {b : Word} (h : m.shaped) : (m.orBits sp off b).shaped := by
  unfold Chip.orBits
  exact .wr h.update

theorem Chip.shaped.clrBits {m : Chip} {sp off : Nat} {b : Word} (h : m.shaped) : (m.clrBits sp off b).shaped := by
  unfold Chip.clrBits
  exact h.wr

theorem Chip.shaped.bump {m : Chip} {sp off n : Nat} (h : m.shaped) : (m.bump sp off n).shaped := by
  unfold Chip.bump
  exact .wr h.update

theorem Chip.shaped.w1c {m : Chip} {sp off : Nat} {b : Word} (h : m.shaped) : (m.w1c sp off b).shaped := by
  unfold Chip.w1c
  exact h.clrBits

theorem Chip.shaped.plainWrite {m : Chip} {sp off : Nat} {v : Word} (h : m.shaped) :
    (m.plainWrite sp off v).shaped := by
  unfold Chip.plainWrite
  split
  · exact h
  · exact h.wr

theorem Chip.shaped.begin {m : Chip} {src : Nat} (h : m.shaped) : (m.begin src).shaped := h

theorem Chip.shaped.takeFree {m : Chip} (h : m.shaped) : m.takeFree.2.shaped := h

theorem Chip.shaped.takeFreeNat {m : Chip} (h : m.shaped) : m.takeFreeNat.2.shaped := h

theorem Chip.shaped.ledger {m : Chip} {i n : Nat} (h : m.shaped) : (m.ledger i n).shaped := h

theorem Chip.shaped.raise {m : Chip} {n : Nat} (h : m.shaped) : (m.raise n).shaped := by
  unfold Chip.raise
  exact .ite h.orBits h.update

theorem Chip.shaped.raiseIf {m : Chip} {c : Bool} {n : Nat} (h : m.shaped) : (m.raiseIf c n).shaped := by
  unfold Chip.raiseIf
  exact .ite h.raise h

theorem Chip.shaped.settle {m : Chip} (h : m.shaped) : m.settle.shaped := h

theorem Chip.shaped.busErr {m : Chip} (h : m.shaped) : m.busErr.shaped := by
  unfold Chip.busErr
  exact h.orBits

theorem Chip.shaped.advance {m : Chip} (h : m.shaped) : m.advance.shaped := by
  unfold Chip.advance
  refine .ite ?_ h
  extract_lets
  exact h.wr.wr

theorem Chip.shaped.clearRc {m : Chip} {sp off : Nat} (h : m.shaped) : (m.clearRc sp off).shaped := by
  unfold Chip.clearRc
  split
  · exact .ite h h.wr
  · exact h

theorem Chip.shaped.noteDup {m : Chip} {f : Nat → Bool} (h : m.shaped) : (m.noteDup f).shaped := by
  unfold Chip.noteDup
  extract_lets
  exact .ite h.orBits h

theorem Chip.shaped.driveOut {m : Chip} {rank : Nat} {set clr tgl : BitVec 32} (h : m.shaped) :
    (m.driveOut rank set clr tgl).shaped := by
  unfold Chip.driveOut
  extract_lets
  exact h

theorem Chip.shaped.drivePin {m : Chip} {rank n op : Nat} (h : m.shaped) : (m.drivePin rank n op).shaped := by
  unfold Chip.drivePin
  refine .ite ?_ h
  extract_lets
  exact h.driveOut

theorem Chip.shaped.gpioSet {m : Chip} {hi : Bool} {v : Word} (h : m.shaped) : (m.gpioSet hi v).shaped := by
  unfold Chip.gpioSet
  exact .ite h.update h.driveOut

theorem Chip.shaped.gpioClr {m : Chip} {hi : Bool} {v : Word} (h : m.shaped) : (m.gpioClr hi v).shaped := by
  unfold Chip.gpioClr
  exact .ite h.update h.driveOut

theorem Chip.shaped.gpioTgl {m : Chip} {hi : Bool} {v : Word} (h : m.shaped) : (m.gpioTgl hi v).shaped := by
  unfold Chip.gpioTgl
  exact .ite h.update h.driveOut

theorem Chip.shaped.dropStaged {m : Chip} (h : m.shaped) : m.dropStaged.shaped := h

theorem Chip.shaped.commitPins {m : Chip} (h : m.shaped) : m.commitPins.shaped := by
  unfold Chip.commitPins
  exact h.driveOut.dropStaged

theorem Chip.shaped.writeGpstg {m : Chip} {v : Word} (h : m.shaped) : (m.writeGpstg v).shaped := by
  unfold Chip.writeGpstg
  extract_lets m1
  have h1 : m1.shaped := .ite h.commitPins (.ite h h.dropStaged)
  exact h1.plainWrite

theorem Chip.shaped.writePcfg {m : Chip} {n : Nat} {v : Word} (h : m.shaped) : (m.writePcfg n v).shaped := by
  unfold Chip.writePcfg
  refine .ite ?_ h.orBits
  extract_lets m1
  have h1 : m1.shaped := h.plainWrite
  split
  · exact h1
  · exact .ite h1.orBits h1

theorem Chip.shaped.writePad {m : Chip} {n : Nat} {v : Word} (h : m.shaped) : (m.writePad n v).shaped := by
  unfold Chip.writePad
  exact .ite h.orBits h.plainWrite

theorem Chip.shaped.writeSlp {m : Chip} {n : Nat} {v : Word} (h : m.shaped) : (m.writeSlp n v).shaped := by
  unfold Chip.writeSlp
  refine .ite h.orBits ?_
  extract_lets m1 _
  have h1 : m1.shaped := h.plainWrite
  clear_value m1
  exact h1.update (slp := by simp [upd, h1.slp])

theorem Chip.shaped.writeThcfg {m : Chip} {v : Word} (h : m.shaped) : (m.writeThcfg v).shaped := by
  unfold Chip.writeThcfg
  exact .ite h h.plainWrite

theorem Chip.shaped.writePin {m : Chip} {off : Nat} {v : Word} (h : m.shaped) : (m.writePin off v).shaped := by
  unfold Chip.writePin
  refine .ite ?_ (.ite h.writeGpstg (.ite h.writeThcfg h.plainWrite))
  split
  · exact h.writePcfg
  · exact h.writePad
  · exact h.writeSlp
  · exact h

theorem Chip.shaped.pinsSleep {m : Chip} (h : m.shaped) : m.pinsSleep.shaped := h

theorem Chip.shaped.clearEvents {m : Chip} {hi : Bool} {v : Word} (h : m.shaped) : (m.clearEvents hi v).shaped := by
  unfold Chip.clearEvents
  exact h.w1c

theorem Chip.shaped.writeEvvec {m : Chip} {v : Word} (h : m.shaped) : (m.writeEvvec v).shaped := by
  unfold Chip.writeEvvec
  exact .ite h.w1c h

theorem Chip.shaped.mapStream {m : Chip} {s : Nat} {f : Stream → Stream} (h : m.shaped) : (m.mapStream s f).shaped := by
  unfold Chip.mapStream
  exact h.update (streams := by simp [upd, h.streams])

theorem Chip.shaped.lowCheck {before after : Chip} (_ : before.shaped) (h1 : after.shaped) :
    (before.lowCheck after).shaped := by
  unfold Chip.lowCheck
  extract_lets
  exact h1.raiseIf

theorem Chip.shaped.peak {m : Chip} {s : Nat} (h : m.shaped) : (m.peak s).shaped := by
  unfold Chip.peak
  extract_lets
  exact h.wr

theorem Chip.shaped.newGroup {m t : Chip} {s sz g : Nat} (h : m.shaped) (hg : m.newGroup s sz = some (t, g)) :
    t.shaped := by
  unfold Chip.newGroup at hg
  extract_lets at hg
  split at hg
  · cases hg
    exact (h.lowCheck h.mapStream).peak
  · cases hg

theorem Chip.shaped.place {m t : Chip} {s sz g : Nat} (h : m.shaped) (hg : m.place s sz = some (t, g)) : t.shaped := by
  unfold Chip.place at hg
  split at hg
  · split at hg
    · cases hg
      exact h.mapStream
    · exact h.newGroup hg
  · exact h.newGroup hg

theorem Chip.shaped.streamIdle {m : Chip} {s : Nat} (h : m.shaped) : (m.streamIdle s).shaped := by
  unfold Chip.streamIdle
  extract_lets
  exact .ite h.mapStream h

theorem Chip.shaped.streamsIdle {m : Chip} (h : m.shaped) : m.streamsIdle.shaped := by
  unfold Chip.streamsIdle
  exact h.foldl (fun _ _ h => h.streamIdle)

theorem Chip.shaped.freeRec {m : Chip} {s g : Nat} (h : m.shaped) : (m.freeRec s g).shaped := by
  unfold Chip.freeRec
  exact h.mapStream.streamIdle

theorem Chip.shaped.mapFrames {m : Chip} {s : Nat} {p : Frame → Bool} {g : Frame → Frame} (h : m.shaped) :
    (m.mapFrames s p g).shaped := by
  unfold Chip.mapFrames
  exact h.mapStream

theorem Chip.shaped.flagFrame {m : Chip} {s : Nat} {r : Rec} {bits : Word} (h : m.shaped) :
    (m.flagFrame s r bits).shaped := by
  unfold Chip.flagFrame
  exact h.mapFrames

theorem Chip.shaped.moverTaken {m : Chip} {c src : Nat} (h : m.shaped) : (m.moverTaken c src).shaped := by
  unfold Chip.moverTaken
  refine .ite h.update ?_
  extract_lets m1
  have h1 : m1.shaped := h.bump
  clear_value m1
  exact h1.update (movers := by simp [upd, h1.movers])

theorem Chip.shaped.frameEndCheck {m : Chip} {r : Rec} (h : m.shaped) : (m.frameEndCheck r).shaped := by
  unfold Chip.frameEndCheck
  extract_lets
  exact h.raiseIf

theorem Chip.shaped.accepted {m : Chip} {s : Nat} {r : Rec} (h : m.shaped) : (m.accepted s r).shaped := by
  unfold Chip.accepted
  extract_lets _ m1 m2
  have h1 : m1.shaped := .ite h.update h.mapStream.frameEndCheck
  have h2 : m2.shaped := by
    unfold m2
    split
    · exact .ite h1.moverTaken h1
    · exact h1
  exact .ite h2.raiseIf h2

theorem Chip.shaped.dropRec {m : Chip} {s : Nat} {r : Rec} (h : m.shaped) : (m.dropRec s r).shaped := by
  unfold Chip.dropRec
  exact h.raise.orBits.bump.flagFrame

theorem Chip.shaped.refuse {m : Chip} {s : Nat} {r : Rec} {w : Refused} (h : m.shaped) : (m.refuse s r w).shaped := by
  unfold Chip.refuse
  extract_lets m1 m2 _
  have h1 : m1.shaped := h.raise.orBits.bump
  have h2 : m2.shaped := h1.mapStream
  split
  · exact h2
  · clear_value m2
    exact h2.update
  · exact .ite h1.dropRec h2

theorem Chip.shaped.offer {m : Chip} {s : Nat} {r : Rec} {w : Refused} (h : m.shaped) : (m.offer s r w).shaped := by
  unfold Chip.offer
  refine .ite (.ite h (.ite ?_ h.refuse)) h.bump
  split
  next hp => exact (h.place hp).accepted
  next => exact h.refuse

theorem Chip.shaped.openFrame {m : Chip} {s : Nat} {f : Frame} {r : Rec} (h : m.shaped) :
    (m.openFrame s f r).shaped := by
  unfold Chip.openFrame
  extract_lets
  exact .ite h.mapStream.offer h.bump

theorem Chip.shaped.endFrame {m : Chip} {s : Nat} {f : Frame} (h : m.shaped) : (m.endFrame s f).shaped := by
  unfold Chip.endFrame
  extract_lets
  exact h.mapFrames.offer

theorem Chip.shaped.dropHeld {m : Chip} {s : Nat} {p : Rec × Tick × Bool × Bool → Bool} (h : m.shaped) :
    (m.dropHeld s p).shaped := by
  unfold Chip.dropHeld
  split
  · exact h
  · exact h.mapStream.dropRec.streamIdle

theorem Chip.shaped.grantHead {m : Chip} {s : Nat} (h : m.shaped) : (m.grantHead s).shaped := by
  unfold Chip.grantHead
  split
  next => exact h
  next =>
    refine .ite h.mapStream.streamIdle ?_
    split
    next hp => exact (h.mapStream.place hp).accepted
    next => exact h.raise.orBits

theorem Chip.shaped.setFront {m : Chip} {b : Bank} (h : m.shaped) : (m.setFront b).shaped := h

theorem Chip.shaped.frontUpdate {m : Chip} (h : m.shaped) : m.frontUpdate.shaped := by
  unfold Chip.frontUpdate
  split
  · refine .ite h ?_
    extract_lets m1 _
    have h1 : m1.shaped := h.setFront
    clear_value m1
    exact h1.update
  · exact h

theorem Chip.shaped.mapMover {m : Chip} {c : Nat} {f : Mover → Mover} (h : m.shaped) : (m.mapMover c f).shaped := by
  unfold Chip.mapMover
  exact h.update (movers := by simp [upd, h.movers])

theorem Chip.shaped.moverStart {m : Chip} {c : Nat} (h : m.shaped) : (m.moverStart c).shaped := by
  unfold Chip.moverStart
  extract_lets _ m1 _
  have h1 : m1.shaped := h.foldl (fun _ _ h => h.offer)
  exact h1.mapMover

theorem Chip.shaped.moverRequest {m : Chip} {c : Nat} (h : m.shaped) : (m.moverRequest c).shaped := by
  unfold Chip.moverRequest
  extract_lets
  exact .ite (.ite (.ite h.bump h.mapMover) h.moverStart) h

theorem Chip.shaped.moverDone {m : Chip} {c : Nat} (h : m.shaped) : (m.moverDone c).shaped := by
  unfold Chip.moverDone
  extract_lets m1 _
  have h1 : m1.shaped := h.mapMover.frontUpdate
  exact .ite h1.mapMover (.ite h1.mapMover.moverStart h1)

theorem Chip.shaped.thrTrig {m : Chip} {kind : Nat} (h : m.shaped) : (m.thrTrig kind).shaped := by
  unfold Chip.thrTrig
  exact h.foldl (fun _ _ h => (.ite h.moverRequest h))

theorem Chip.shaped.writeRes {m : Chip} {s : Nat} {v : Word} (h : m.shaped) : (m.writeRes s v).shaped := by
  unfold Chip.writeRes
  exact .ite h.orBits h.plainWrite

theorem Chip.shaped.writeMax {m : Chip} {s : Nat} {v : Word} (h : m.shaped) : (m.writeMax s v).shaped := by
  unfold Chip.writeMax
  exact .ite h.orBits h.plainWrite

theorem Chip.shaped.writeMcfg {m : Chip} {c : Nat} {v : Word} (h : m.shaped) : (m.writeMcfg c v).shaped := by
  unfold Chip.writeMcfg
  refine .ite h ?_
  extract_lets _ _ m1
  have h1 : m1.shaped := h.plainWrite
  exact h1.mapMover

theorem Chip.shaped.writePool {m : Chip} {off : Nat} {v : Word} (h : m.shaped) : (m.writePool off v).shaped := by
  unfold Chip.writePool
  refine .ite ?_ (.ite ?_ h.plainWrite)
  · split
    · exact h.writeRes
    · exact h.writeMax
    · exact .ite h h.plainWrite
    · exact h.plainWrite
  · split
    · exact h.writeMcfg
    · exact .ite h.moverRequest h
    · exact h.plainWrite

theorem Chip.shaped.writeStreamen {m : Chip} {v : Word} (h : m.shaped) : (m.writeStreamen v).shaped := by
  unfold Chip.writeStreamen
  extract_lets _ m1
  have h1 : m1.shaped := h.plainWrite
  refine h1.foldl ?_
  intro m a h
  extract_lets
  exact h.mapStream.streamIdle

theorem Chip.shaped.moveRecord {m : Chip} {q : Nat} (h : m.shaped) : (m.moveRecord q).shaped := by
  unfold Chip.moveRecord
  exact h.wrList

theorem Chip.shaped.writeRecordFn {m : Chip} {code : Nat} {detail : List Byte} {late : Bool} {fn : Nat} (h : m.shaped) :
    (m.writeRecordFn code detail late fn).shaped := by
  unfold Chip.writeRecordFn
  extract_lets _ _ _ _ _ m1 _ m2 m3 m4 m5 m6
  have h1 : m1.shaped := h.foldl (fun _ _ h => h.moveRecord)
  clear_value m1
  have h2 : m2.shaped := h1.update
  have h3 : m3.shaped := h2.wrList
  have h4 : m4.shaped := h3.wr
  have h5 : m5.shaped := h4.wr32
  have h6 : m6.shaped := .ite h5.wr.orBits.bump h5
  exact h6.thrTrig

theorem Chip.shaped.writeRecord {m : Chip} {code : Nat} {detail : List Byte} {late : Bool} (h : m.shaped) :
    (m.writeRecord code detail late).shaped := by
  unfold Chip.writeRecord
  exact h.writeRecordFn

theorem Chip.shaped.fault {m : Chip} {code : Nat} {detail : List Byte} (h : m.shaped) :
    (m.fault code detail).shaped := by
  unfold Chip.fault
  exact .ite h.writeRecord h.update

theorem Chip.shaped.lockViolation {m : Chip} {sp off : Nat} {lo hi : Word} {item : Bool} (h : m.shaped) :
    (m.lockViolation sp off lo hi item).shaped := by
  unfold Chip.lockViolation
  exact h.fault.raise

theorem Chip.shaped.writeFack {m : Chip} {v : Word} (h : m.shaped) : (m.writeFack v).shaped := by
  unfold Chip.writeFack
  exact .ite h h.wr

theorem Chip.shaped.mapCap {m : Chip} {f : Capture → Capture} (h : m.shaped) : (m.mapCap f).shaped := h

theorem Chip.shaped.missSlot {m : Chip} {s : Nat} (h : m.shaped) : (m.missSlot s).shaped := by
  unfold Chip.missSlot
  exact h.foldl (fun _ _ h => (.ite h.bump h))

theorem Chip.shaped.dropSlot {m : Chip} {s : Nat} (h : m.shaped) : (m.dropSlot s).shaped := by
  unfold Chip.dropSlot
  exact h.bump.raise.missSlot

theorem Chip.shaped.setReq {m : Chip} {s : Nat} {r : Option HkcReq} (h : m.shaped) : (m.setReq s r).shaped := by
  unfold Chip.setReq
  exact h.update (reqs := by simp [upd, h.reqs])

theorem Chip.shaped.slotEvent {m : Chip} {s : Nat} {t0 : Tick} (h : m.shaped) : (m.slotEvent s t0).shaped := by
  unfold Chip.slotEvent
  extract_lets
  refine .ite (.ite h.missSlot ?_) h
  split
  · exact h.dropSlot
  · exact h.setReq

theorem Chip.shaped.sourceEvent {m : Chip} {src sel : Nat} {t0 : Tick} (h : m.shaped) :
    (m.sourceEvent src sel t0).shaped := by
  unfold Chip.sourceEvent
  exact h.foldl (fun _ _ h => (.ite h.slotEvent h))

theorem Chip.shaped.targetEvent {m : Chip} {src s : Nat} {t0 : Tick} (h : m.shaped) :
    (m.targetEvent src s t0).shaped := by
  unfold Chip.targetEvent
  exact .ite h.slotEvent h

theorem Chip.shaped.stepEvent {m : Chip} {t0 : Tick} (h : m.shaped) : (m.stepEvent t0).shaped := by
  unfold Chip.stepEvent
  exact h.foldl (fun _ _ h => (.ite h.slotEvent h))

theorem Chip.shaped.mapChan {m : Chip} {c : Nat} {f : Channel → Channel} (h : m.shaped) : (m.mapChan c f).shaped := by
  unfold Chip.mapChan
  exact h.update (chans := by simp [upd, h.chans])

theorem Chip.shaped.regApply {m : Chip} {c : Nat} (h : m.shaped) : (m.regApply c).shaped := by
  unfold Chip.regApply
  exact h.mapChan

theorem Chip.shaped.regStart {m : Chip} {c : Nat} (h : m.shaped) : (m.regStart c).shaped := by
  unfold Chip.regStart
  extract_lets
  exact h.mapChan.regApply

theorem Chip.shaped.regIdle {m : Chip} {c : Nat} (h : m.shaped) : (m.regIdle c).shaped := by
  unfold Chip.regIdle
  extract_lets
  exact .ite (.ite h.regStart h.mapChan) h

theorem Chip.shaped.regsIdle {m : Chip} (h : m.shaped) : m.regsIdle.shaped := by
  unfold Chip.regsIdle
  exact h.foldl (fun _ _ h => h.regIdle)

theorem Chip.shaped.boundsApply {m : Chip} {c : Nat} {lo hi : Option (BitVec 10)} (h : m.shaped) :
    (m.boundsApply c lo hi).shaped := by
  unfold Chip.boundsApply
  extract_lets m1 m2 _ _ _
  have h1 : m1.shaped := by
    unfold m1
    split
    · exact h.wr
    · exact h
  have h2 : m2.shaped := by
    unfold m2
    split
    · exact h1.wr
    · exact h1
  exact h2.mapChan

theorem Chip.shaped.strobeFall {m : Chip} {c : Nat} {t : Tick} (h : m.shaped) : (m.strobeFall c t).shaped := by
  unfold Chip.strobeFall
  extract_lets _ m1 m2 m3
  have h1 : m1.shaped := h.mapChan
  have h2 : m2.shaped := .ite h1.mapChan h1
  have h3 : m3.shaped := .ite h2.boundsApply h2
  exact .ite h3.sourceEvent h

theorem Chip.shaped.strobeRise {m : Chip} {c : Nat} {t : Tick} (h : m.shaped) : (m.strobeRise c t).shaped := by
  unfold Chip.strobeRise
  refine .ite h ?_
  extract_lets
  exact h.mapChan.sourceEvent

theorem Chip.shaped.strobeDrive {m : Chip} {c : Nat} {on : Bool} {t : Tick} (h : m.shaped) :
    (m.strobeDrive c on t).shaped := by
  unfold Chip.strobeDrive
  extract_lets _ m1
  have h1 : m1.shaped := h.mapChan
  exact .ite (.ite h1 h1.strobeRise) h1.strobeFall

theorem Chip.shaped.captureStrobe {m : Chip} {mask : BitVec 8} {on : Bool} {t : Tick} (h : m.shaped) :
    (m.captureStrobe mask on t).shaped := by
  unfold Chip.captureStrobe
  extract_lets
  exact h.foldl (fun _ _ h => (.ite h.strobeDrive h))

theorem Chip.shaped.timerStrobe {m : Chip} {rank c op : Nat} (h : m.shaped) : (m.timerStrobe rank c op).shaped := by
  unfold Chip.timerStrobe
  refine .ite ?_ h
  extract_lets
  exact .strobeDrive h.update

theorem Chip.shaped.strobesLow {m : Chip} (h : m.shaped) : m.strobesLow.shaped := by
  unfold Chip.strobesLow
  exact h.foldl (fun _ _ h => h.strobeDrive)

theorem Chip.shaped.captureLow {m : Chip} (h : m.shaped) : m.captureLow.shaped := by
  unfold Chip.captureLow
  exact h.captureStrobe

theorem Chip.shaped.isetApply {m : Chip} {cap : Capture} {k : Nat} (h : m.shaped) : (m.isetApply cap k).shaped := by
  unfold Chip.isetApply
  refine h.foldl ?_
  intro m a h
  refine .ite ?_ h
  extract_lets
  exact h.mapChan

theorem Chip.shaped.flagIllum {m : Chip} {strata : BitVec 4} (h : m.shaped) : (m.flagIllum strata).shaped := by
  unfold Chip.flagIllum
  refine .ite h ?_
  extract_lets _ _ m1
  have h1 : m1.shaped := h.update
  exact h1.mapCap.orBits

theorem Chip.shaped.setFlt {m : Chip} {c : Nat} (h : m.shaped) : (m.setFlt c).shaped := by
  unfold Chip.setFlt
  extract_lets m1 m2
  have h1 : m1.shaped := h.orBits.raise
  have h2 : m2.shaped := by
    unfold m2
    split
    · exact h1.flagIllum
    · exact h1
  exact .ite h2.strobeFall h2

theorem Chip.shaped.illumAtStart {m : Chip} (h : m.shaped) : m.illumAtStart.shaped := by
  unfold Chip.illumAtStart
  split
  · extract_lets m1
    have h1 : m1.shaped := .ite h.flagIllum h
    exact h1.foldl (fun _ _ h => (.ite h.flagIllum h))
  · exact h

theorem Chip.shaped.regStep {m : Chip} {c sample : Nat} (h : m.shaped) : (m.regStep c sample).shaped := by
  unfold Chip.regStep
  extract_lets _ _ m1 _ _ _ _ _ _ m2 m3
  have h1 : m1.shaped := h.wr
  have h2 : m2.shaped := h1.wr
  have h3 : m3.shaped := .ite h2.bump h2
  exact .ite h1 h3.raiseIf.mapChan.regApply

theorem Chip.shaped.regResult {m : Chip} {s sample : Nat} {t : Tick} (h : m.shaped) :
    (m.regResult s sample t).shaped := by
  unfold Chip.regResult
  exact h.foldl (fun _ _ h => (.ite (.ite h.regStep h.bump) h))

theorem Chip.shaped.writeRegctl {m : Chip} {c : Nat} {v : Word} (h : m.shaped) : (m.writeRegctl c v).shaped := by
  unfold Chip.writeRegctl
  extract_lets _ _ m1
  have h1 : m1.shaped := h.plainWrite.mapChan
  exact .ite h1.regStart h1.regIdle

theorem Chip.shaped.writeIsetval {m : Chip} {c : Nat} {v : Word} (h : m.shaped) : (m.writeIsetval c v).shaped := by
  unfold Chip.writeIsetval
  exact .ite h.bump h.mapChan

theorem Chip.shaped.writeBound {m : Chip} {c : Nat} {hi : Bool} {v : Word} (h : m.shaped) :
    (m.writeBound c hi v).shaped := by
  unfold Chip.writeBound
  extract_lets
  exact .ite h.orBits (.ite h.mapChan h.boundsApply)

theorem Chip.shaped.writeStrbcfg {m : Chip} {c : Nat} {v : Word} (h : m.shaped) : (m.writeStrbcfg c v).shaped := by
  unfold Chip.writeStrbcfg
  extract_lets m1
  have h1 : m1.shaped := h.plainWrite
  exact .ite h1.strobeFall h1

theorem Chip.shaped.writeIllum {m : Chip} {off : Nat} {v : Word} (h : m.shaped) : (m.writeIllum off v).shaped := by
  unfold Chip.writeIllum
  refine .ite ?_ h.plainWrite
  extract_lets
  split
  · exact h.writeStrbcfg
  · exact h.writeIsetval
  · exact h.writeRegctl
  · exact h.writeBound
  · exact h.writeBound
  · exact h.plainWrite

theorem Chip.shaped.calmodeTake {m : Chip} (h : m.shaped) : m.calmodeTake.shaped := by
  unfold Chip.calmodeTake
  extract_lets
  exact .ite h.update h

theorem Chip.shaped.sampleTaken {m : Chip} (h : m.shaped) : m.sampleTaken.2.2.shaped := by
  unfold Chip.sampleTaken
  extract_lets m1 _ m2
  have h1 : m1.shaped := h.calmodeTake
  have h2 : m2.shaped := .ite h1.update h1
  clear_value m2
  exact h2.update

theorem Chip.shaped.convert {m : Chip} {s : Nat} {r : HkcReq} (h : m.shaped) : (m.convert s r).shaped := by
  unfold Chip.convert
  extract_lets _ m1 _ _ m2 _
  have h1 : m1.shaped := h.sampleTaken
  have h2 : m2.shaped := h1.setReq
  clear_value m2
  exact h2.update

theorem Chip.shaped.dropReq {m : Chip} {s : Nat} (h : m.shaped) : (m.dropReq s).shaped := by
  unfold Chip.dropReq
  exact h.setReq.dropSlot.regsIdle

theorem Chip.shaped.serve {m : Chip} {s : Nat} (h : m.shaped) : (m.serve s).shaped := by
  unfold Chip.serve
  split
  · exact h
  · exact .ite h (.ite h.dropReq (.ite h.convert (.ite h.dropReq h.setReq)))

theorem Chip.shaped.enqueue {m : Chip} {c : HkcConv} {code : Nat} {lim clip : Bool} (h : m.shaped) :
    (m.enqueue c code lim clip).shaped := by
  unfold Chip.enqueue
  refine .ite ?_ ?_
  · extract_lets m1 _
    have h1 : m1.shaped := h.bump.orBits
    clear_value m1
    exact h1.update
  · extract_lets _ _ m1
    have h1 : m1.shaped := h.update
    exact .ite h1.raise.thrTrig h1

theorem Chip.shaped.popHkq {m : Chip} (h : m.shaped) : m.popHkq.2.shaped := by
  unfold Chip.popHkq
  split
  all_goals exact h.update

theorem Chip.shaped.limits {m : Chip} {s code : Nat} (h : m.shaped) : (m.limits s code).2.shaped := by
  unfold Chip.limits
  dsimp only
  split
  · exact .ite h.update.orBits.raiseIf h.update
  · exact h.update

theorem Chip.shaped.driverFaults {m : Chip} {s : Nat} (h : m.shaped) : (m.driverFaults s).shaped := by
  unfold Chip.driverFaults
  refine h.foldl ?_
  intro m a h
  extract_lets
  exact .ite h.setFlt h

theorem Chip.shaped.deliver {m : Chip} {c : HkcConv} {raw : Nat} (h : m.shaped) : (m.deliver c raw).shaped := by
  unfold Chip.deliver
  split
  next code clip _ =>
    split
    next lim m' he =>
      have h' : m'.shaped := by
        have hp := Chip.shaped.limits (s := c.slot) (code := code) h
        rwa [he] at hp
      extract_lets m1 m2 m3 m4 m5
      have h3 : m3.shaped := .ite h'.wr.wr32.enqueue h'.wr.wr32
      have h5 : m5.shaped := .ite h3.regResult.driverFaults h3.regResult
      exact h5.regsIdle

theorem Chip.shaped.cancelRequests {m : Chip} (h : m.shaped) : m.cancelRequests.shaped := by
  unfold Chip.cancelRequests
  exact .regsIdle (h.update (reqs := by simp [h.reqs]))

theorem Chip.shaped.writeHkcctl {m : Chip} {v : Word} (h : m.shaped) : (m.writeHkcctl v).shaped := by
  unfold Chip.writeHkcctl
  refine .ite h ?_
  extract_lets _ m1 _ m2
  have h1 : m1.shaped := h.plainWrite
  clear_value m1
  have h2 : m2.shaped := h1.update
  exact .calmodeTake (.ite h2.cancelRequests h2)

theorem Chip.shaped.writeSsrc {m : Chip} {off : Nat} {v : Word} (h : m.shaped) : (m.writeSsrc off v).shaped := by
  unfold Chip.writeSsrc
  extract_lets
  exact .ite h h.plainWrite

theorem Chip.shaped.writeHkctrig {m : Chip} {v : Word} (h : m.shaped) : (m.writeHkctrig v).shaped := by
  unfold Chip.writeHkctrig
  exact h.foldl (fun _ _ h => (.ite h.targetEvent h))

theorem Chip.shaped.writeLimflg {m : Chip} {v : Word} (h : m.shaped) : (m.writeLimflg v).shaped := by
  unfold Chip.writeLimflg
  extract_lets m1 _
  have h1 : m1.shaped := h.plainWrite
  clear_value m1
  exact h1.update

theorem Chip.shaped.writeHkc {m : Chip} {off : Nat} {v : Word} (h : m.shaped) : (m.writeHkc off v).shaped := by
  unfold Chip.writeHkc
  exact .ite h.writeHkcctl (.ite h.writeHkctrig (.ite h.writeLimflg (.ite h.writeSsrc (.ite h.plainWrite.orBits h.plainWrite))))

theorem Chip.shaped.setComplete {m : Chip} {f : PFrame} (h : m.shaped) : (m.setComplete f).shaped := by
  unfold Chip.setComplete
  extract_lets _ _ _ _ m1 m2
  have h1 : m1.shaped := h.update
  have h2 : m2.shaped := h1.frontUpdate.raise
  split
  · exact h2.foldl (fun _ _ h => h.offer)
  · exact h2

theorem Chip.shaped.blTrack {m : Chip} {f : PFrame} {r : PRow} (h : m.shaped) : (m.blTrack f r).1.shaped := by
  unfold Chip.blTrack
  dsimp only
  split
  · exact h
  · split
    · exact h
    · exact foldl_fst h fun _ _ h => h.update

theorem Chip.shaped.emitLine {m : Chip} {f : PFrame} {otp : List (Nat × Nat × Nat)} {w k y : Nat} (h : m.shaped) :
    (m.emitLine f otp w k y).shaped := by
  unfold Chip.emitLine
  extract_lets _ _ _ _ _ _ _ _ _ _ m1
  have h1 : m1.shaped := .ite h.update h
  split
  · exact h
  · exact .ite h1.offer h

theorem Chip.shaped.pumpOne {m : Chip} {f : PFrame} {otp : List (Nat × Nat × Nat)} {w k : Nat} (h : m.shaped) :
    (m.pumpOne f otp w k).1.shaped :=
  Chip.shaped.foldl h fun _ _ h => h.emitLine

theorem Chip.shaped.pump {m : Chip} {f : PFrame} (h : m.shaped) : (m.pump f).1.shaped := by
  unfold Chip.pump
  refine foldl_fst h fun a p h => ?_
  split
  · exact h.pumpOne
  · exact h

theorem Chip.shaped.formEnds {m : Chip} (h : m.shaped) : m.formEnds.shaped := by
  unfold Chip.formEnds
  exact h.foldl (fun _ _ h => (h.foldl (fun _ _ h => (.ite h.endFrame h))))

theorem Chip.shaped.finish {m : Chip} {f : PFrame} (h : m.shaped) : (m.finish f).shaped := by
  unfold Chip.finish
  refine .ite ?_ h
  split
  next m' f' he =>
    have h' : m'.shaped := by
      split at he
      · cases he
        exact h
      · have hp := Chip.shaped.pump (f := { f with ended := true }) h
        rwa [he] at hp
    exact (Chip.shaped.ite h'.update (Chip.shaped.setComplete h'.update)).formEnds

theorem Chip.shaped.pipeOpen {m : Chip} {f : PFrame} (h : m.shaped) : (m.pipeOpen f).shaped := by
  unfold Chip.pipeOpen
  extract_lets _ _ m1
  have h1 : m1.shaped := h.update
  exact .ite h1 h1.wr

theorem Chip.shaped.pipeEnd {m : Chip} {src id : Nat} {fn : Long} {cut : Bool} (h : m.shaped) :
    (m.pipeEnd src id fn cut).shaped := by
  unfold Chip.pipeEnd
  extract_lets _ m1
  have h1 : m1.shaped := h.update
  split
  · exact h1.finish
  · exact h1

theorem Chip.shaped.rowDone {m : Chip} {r : PRow} (h : m.shaped) : (m.rowDone r).shaped := by
  unfold Chip.rowDone
  extract_lets m1
  have h1 : m1.shaped := by
    unfold m1
    split
    · exact h.freeRec
    · exact h
  split
  next => exact h1
  next f _ =>
    split
    next m2 f1 he =>
      have h2 : m2.shaped := by
        split at he
        · have hp := Chip.shaped.blTrack (f := f) (r := r) h1
          rwa [he] at hp
        · cases he
          exact h1
      exact (Chip.shaped.update h2.pump).finish

theorem Chip.shaped.driftOverflow {m : Chip} {s k : Nat} (h : m.shaped) : (m.driftOverflow s k).shaped := by
  unfold Chip.driftOverflow
  extract_lets
  exact .ite h.dropHeld h

theorem Chip.shaped.driftDone {m : Chip} {l : DLine} (h : m.shaped) : (m.driftDone l).shaped := by
  unfold Chip.driftDone
  split
  · exact h
  · split
    · exact h.finish
    · extract_lets
      exact h.offer.driftOverflow.finish

theorem Chip.shaped.segment {m : Chip} (h : m.shaped) : m.segment.shaped := by
  unfold Chip.segment
  split
  · exact .ite (.driftDone h.update) h.update
  · split
    · exact .ite (.rowDone h.update) h.update
    · split
      · exact .ite (.rowDone h.update) h.update
      · exact h

theorem Chip.shaped.storeRow {m : Chip} {img : Option Nat} {r : PRow} {w : Refused} (h : m.shaped) :
    (m.storeRow img r w).shaped := by
  unfold Chip.storeRow
  split
  · exact h.update
  · exact h.offer

theorem Chip.shaped.insrcTake {m : Chip} (h : m.shaped) : m.insrcTake.shaped := by
  unfold Chip.insrcTake
  exact .ite h h.update

theorem Chip.shaped.writePipe {m : Chip} {off : Nat} {v : Word} (h : m.shaped) : (m.writePipe off v).shaped := by
  unfold Chip.writePipe
  exact .ite (.ite h h.plainWrite) (.ite (.ite h h.plainWrite.insrcTake) h.plainWrite)

theorem Chip.shaped.writeStat {m : Chip} {off : Nat} {v : Word} (h : m.shaped) : (m.writeStat off v).shaped := by
  unfold Chip.writeStat
  exact .ite h.plainWrite.frontUpdate h

theorem Chip.shaped.setG {m : Chip} {g lo n v : Nat} (h : m.shaped) : (m.setG g lo n v).shaped := by
  unfold Chip.setG
  exact h.wr

theorem Chip.shaped.mapHist {m : Chip} {g : Nat} {f : GroupHist → GroupHist} (h : m.shaped) :
    (m.mapHist g f).shaped := by
  unfold Chip.mapHist
  extract_lets
  exact h

theorem Chip.shaped.clearHist {m : Chip} {g : Nat} (h : m.shaped) : (m.clearHist g).shaped := by
  unfold Chip.clearHist
  extract_lets m1
  have h1 : m1.shaped := h.mapHist
  exact h1.setG.setG

theorem Chip.shaped.dwellClear {m : Chip} (h : m.shaped) : m.dwellClear.shaped := h

theorem Chip.shaped.marlPick {m : Chip} (h : m.shaped) : m.marlPick.shaped := by
  unfold Chip.marlPick
  split
  · refine .ite ?_ h
    extract_lets _ m1 _
    have h1 : m1.shaped := h.dwellClear
    split
    · clear_value m1
      exact h1.update
    · split
      · exact .raiseIf (.orBits h1.update)
      · exact h1
  · exact h

theorem Chip.shaped.marlLeave {m : Chip} {g : Nat} (h : m.shaped) : (m.marlLeave g).shaped := by
  unfold Chip.marlLeave
  exact .ite (.marlPick (.dwellClear h.update)) h

theorem Chip.shaped.addStrip {m : Chip} {fn : Long} {t : Strip} (h : m.shaped) : (m.addStrip fn t).shaped := by
  unfold Chip.addStrip
  extract_lets m1
  have h1 : m1.shaped := h.mapCap
  exact h1.fault

theorem Chip.shaped.addSpans {m : Chip} {g role cause : Nat} {l : List Span} (h : m.shaped) :
    (m.addSpans g role cause l).shaped := by
  unfold Chip.addSpans
  exact h.foldl (fun _ _ h => h.addStrip)

theorem Chip.shaped.restStrips {m : Chip} {g role cause : Nat} (h : m.shaped) : (m.restStrips g role cause).shaped := by
  unfold Chip.restStrips
  split
  · exact h
  · refine .ite ?_ h
    extract_lets
    exact h.foldl (fun _ _ h => h.addStrip)

theorem Chip.shaped.failSlice {m : Chip} {g p cause : Nat} (h : m.shaped) : (m.failSlice g p cause).shaped := by
  unfold Chip.failSlice
  extract_lets _ _ _ _ _ _ m1 m2 m3 m4 m5 m6 m7 m8
  have h1 : m1.shaped := .ite h h.addSpans
  have h2 : m2.shaped := h1.setG.ledger
  have h3 : m3.shaped := .ite h2.setG.setG (.ite h2.setG.setG.setG h2.setG.setG)
  have h4 : m4.shaped := h3.fault
  have h5 : m5.shaped := h4.mapCap
  have h6 : m6.shaped := .ite h4 (.ite h5 h5.restStrips)
  have h7 : m7.shaped := h6.mapHist
  have h8 : m8.shaped := .ite h7.raise h7.raise
  exact .ite h h8.clearHist.marlLeave

theorem Chip.shaped.verdict {m : Chip} {g : Nat} {failed : Bool} (h : m.shaped) : (m.verdict g failed).shaped := by
  unfold Chip.verdict
  extract_lets _ _ _ _ ref m1 m2 declare
  clear_value ref
  have h2 : m2.shaped := h.mapHist.setG.setG
  have hdec (p : Nat) : (declare p).shaped := .ite h2 h2.failSlice
  split
  · exact .ite (hdec _) (hdec _)
  · refine .ite ?_ h2
    split
    · exact hdec _
    · exact hdec _
    · exact h2.mapHist.setG

theorem Chip.shaped.skipWindow {m : Chip} {g : Nat} (h : m.shaped) : (m.skipWindow g).shaped := by
  unfold Chip.skipWindow
  extract_lets _ m1
  have h1 : m1.shaped := h.bump
  exact h1.setG

theorem Chip.shaped.groupRow {m : Chip} {c : Capture} {r : GroupRow} {k row step : Nat} (h : m.shaped) :
    (m.groupRow c r k row step).shaped := by
  unfold Chip.groupRow
  extract_lets _ _ _ _ _ _ _ m1
  have h1 : m1.shaped := h.update
  exact h1.mapHist

theorem Chip.shaped.groupRows {m : Chip} {c : Capture} {codes : List GroupRow} {k row step : Nat} (h : m.shaped) :
    (m.groupRows c codes k row step).shaped := by
  unfold Chip.groupRows
  exact h.foldl (fun _ _ h => h.groupRow)

theorem Chip.shaped.addTests {m : Chip} {c : Capture} {k i : Nat} {r : GroupRow} (h : m.shaped) :
    (m.addTests c k i r).shaped := by
  unfold Chip.addTests
  extract_lets
  exact h.mapCap

theorem Chip.shaped.judge {m : Chip} {k g : Nat} (h : m.shaped) : (m.judge k g).shaped := by
  unfold Chip.judge
  split
  · exact h
  · extract_lets
    refine h.foldl ?_
    intro m a h
    refine .ite (.ite ?_ h.failSlice.setG) h
    extract_lets
    exact h.mapHist

theorem Chip.shaped.applyForce {m : Chip} {g : Nat} (h : m.shaped) : (m.applyForce g).shaped := by
  unfold Chip.applyForce
  extract_lets
  exact h.mapHist.foldl (fun _ _ h => h.failSlice)

theorem Chip.shaped.applyForces {m : Chip} (h : m.shaped) : m.applyForces.shaped := by
  unfold Chip.applyForces
  exact h.foldl (fun _ _ h => h.applyForce)

theorem Chip.shaped.restoreSlice {m : Chip} {g p : Nat} (h : m.shaped) : (m.restoreSlice g p).shaped := by
  unfold Chip.restoreSlice
  extract_lets _ m1 m2
  have h1 : m1.shaped := h.setG
  have h2 : m2.shaped := by
    unfold m2
    split
    · exact h1.setG.setG
    · exact h1.setG.setG
    · exact h1.setG.setG
    · exact h1
  exact .ite h h2.clearHist

theorem Chip.shaped.writeGcmd {m : Chip} {g : Nat} {v : Word} (h : m.shaped) : (m.writeGcmd g v).shaped := by
  unfold Chip.writeGcmd
  extract_lets _ m1
  have h1 : m1.shaped := h.mapHist
  exact .ite h (.ite h.restoreSlice (.ite (.ite h (.ite h1 h1.applyForce)) h))

theorem Chip.shaped.estOr {m : Chip} {e : Est} (h : m.shaped) : (m.estOr e).2.shaped := by
  unfold Chip.estOr
  split
  · exact h
  · exact h.takeFree

theorem Chip.shaped.setTrim {m : Chip} {g p t base : Nat} {v : ℤ} (h : m.shaped) : (m.setTrim g p t base v).shaped := by
  unfold Chip.setTrim
  extract_lets
  exact h.wr

theorem Chip.shaped.moveTarget {m : Chip} {g p t : Nat} {taps : ℤ} (h : m.shaped) :
    (m.moveTarget g p t taps).shaped := by
  unfold Chip.moveTarget
  refine .ite h ?_
  extract_lets _ _ _ _ _ m1 m2
  have h1 : m1.shaped := h.setTrim
  have h2 : m2.shaped := .ite h1.orBits h1
  exact .ite h2.fault h2

theorem Chip.shaped.learn {m : Chip} {g p t tol : Nat} {e1 e2 : Est} (h : m.shaped) :
    (m.learn g p t tol e1 e2).1.shaped := by
  unfold Chip.learn
  extract_lets a b m1
  have h1 : m1.shaped := h.estOr.estOr
  split
  · split
    · exact h1.moveTarget
    · split
      · exact h1.moveTarget
      · exact h1
  · split
    · exact h1.moveTarget
    · exact h1

theorem Chip.shaped.calTime {m : Chip} {c : Nat} {all : Bool} (h : m.shaped) : (m.calTime c all).shaped := by
  unfold Chip.calTime
  extract_lets _ m1 m2
  have h1 : m1.shaped := h.wr32
  have h2 : m2.shaped := h1.wr64
  exact .ite h2.wr32.wr h.bump

theorem Chip.shaped.colTrim {m : Chip} {g : Nat} (h : m.shaped) : (m.colTrim g).shaped := by
  unfold Chip.colTrim
  extract_lets d r
  have hr : r.1.shaped := foldl_fst h fun _ _ h => h.learn
  exact hr.calTime

theorem Chip.shaped.colRef {m : Chip} {g : Nat} (h : m.shaped) : (m.colRef g).shaped := by
  unfold Chip.colRef
  extract_lets ps p r
  split
  · exact h
  · have hr : r.1.shaped := by
      refine foldl_fst h fun a t h => ?_
      dsimp only
      split
      · exact h.learn
      · exact h
    exact hr.calTime

theorem Chip.shaped.dwellEnd {m : Chip} {g : Nat} (h : m.shaped) : (m.dwellEnd g).shaped := by
  unfold Chip.dwellEnd
  exact h.colTrim.colRef.marlLeave

theorem Chip.shaped.dwellAdd {m : Chip} {role : Nat} {rows : List (Nat × List (ℤ × ℤ))} (h : m.shaped) :
    (m.dwellAdd role rows).shaped := by
  unfold Chip.dwellAdd
  extract_lets
  exact .ite h h.update

theorem Chip.shaped.windowEnd {m : Chip} {g : Nat} (h : m.shaped) : (m.windowEnd g).shaped := by
  unfold Chip.windowEnd
  extract_lets role hh stop
  have hstop {m : Chip} (h : m.shaped) : (stop m).shaped := .ite h.mapHist.marlLeave h.mapHist
  exact .ite (hstop h.skipWindow) (hstop (.ite h.verdict.dwellAdd h.verdict))

theorem Chip.shaped.windowsEnd {m : Chip} (h : m.shaped) : m.windowsEnd.shaped := by
  unfold Chip.windowsEnd
  exact h.foldl (fun _ _ h => h.windowEnd)

theorem Chip.shaped.marlWarn {m : Chip} (h : m.shaped) : m.marlWarn.shaped := by
  unfold Chip.marlWarn
  extract_lets
  exact h

theorem Chip.shaped.trimStep {m : Chip} {g p t : Nat} (h : m.shaped) : (m.trimStep g p t).shaped := by
  unfold Chip.trimStep
  extract_lets _ m1 _ _
  have h1 : m1.shaped := h.setTrim
  clear_value m1
  exact h1.update

theorem Chip.shaped.walkAll {m : Chip} {c : Capture} (h : m.shaped) : (m.walkAll c).shaped := by
  unfold Chip.walkAll
  exact h.foldl (fun _ _ h => (h.foldl (fun _ _ h => (h.foldl (fun _ _ h => (.ite h.trimStep h))))))

theorem Chip.shaped.calForce {m : Chip} (h : m.shaped) : m.calForce.shaped := h

theorem Chip.shaped.runEnd {m : Chip} {pass : Bool} (h : m.shaped) : (m.runEnd pass).shaped := by
  unfold Chip.runEnd
  extract_lets m1 _ m2 _
  have h1 : m1.shaped := h.mapCap
  clear_value m1
  have h2 : m2.shaped := h1.update
  clear_value m2
  exact .raiseIf (.raise h2.update)

theorem Chip.shaped.whiteFail {m : Chip} {k : Nat} (h : m.shaped) : (m.whiteFail k).shaped := by
  unfold Chip.whiteFail
  split
  · exact .ite h.runEnd h
  · exact h

theorem Chip.shaped.setArmed {m : Chip} {k : Nat} {b : Bool} (h : m.shaped) : (m.setArmed k b).shaped := by
  unfold Chip.setArmed
  extract_lets _ m1
  have h1 : m1.shaped := .ite h (h.update (susp := fun _ hx => .inl (List.mem_of_mem_filter hx)))
  exact h1.wr

theorem Chip.shaped.overrun {m : Chip} {k : Nat} (h : m.shaped) : (m.overrun k).shaped := by
  unfold Chip.overrun
  exact h.bump.raise

theorem Chip.shaped.dropTrigger {m : Chip} {k : Nat} (h : m.shaped) : (m.dropTrigger k).shaped := by
  unfold Chip.dropTrigger
  exact .ite (.overrun h.update) h

theorem Chip.shaped.setArmErr {m : Chip} {k code item : Nat} (h : m.shaped) : (m.setArmErr k code item).shaped := by
  unfold Chip.setArmErr
  extract_lets _ m1
  have h1 : m1.shaped := h.wr
  exact h1.wr

theorem Chip.shaped.checkEnd {m : Chip} (h : m.shaped) : m.checkEnd.shaped := by
  unfold Chip.checkEnd
  split
  · exact h
  · extract_lets _ _ m1
    have h1 : m1.shaped := .setArmErr h.update
    exact .ite h1.setArmed h1.setArmed.dropTrigger.whiteFail

theorem Chip.shaped.markFrames {m : Chip} {c : Capture} (h : m.shaped) : (m.markFrames c).shaped := by
  unfold Chip.markFrames
  extract_lets
  exact h.update (streams := by simp [h.streams])

theorem Chip.shaped.askEnds {m : Chip} {c : Capture} {p : Nat → Bool} (h : m.shaped) : (m.askEnds c p).shaped := by
  unfold Chip.askEnds
  have h1 : (m.markFrames c).shaped := h.markFrames
  generalize m.markFrames c = m1 at h1
  exact .formEnds (h1.update (streams := by simp [h1.streams]))

theorem Chip.shaped.boundaryNow {m : Chip} (h : m.shaped) : m.boundaryNow.shaped := by
  unfold Chip.boundaryNow
  split
  · exact .calForce h.update
  · exact h.calForce

theorem Chip.shaped.boundaryTake {m : Chip} (h : m.shaped) : m.boundaryTake.shaped := by
  unfold Chip.boundaryTake
  exact .ite h.update h.boundaryNow

theorem Chip.shaped.powerGroups {m : Chip} {c : Capture} (h : m.shaped) : (m.powerGroups c).shaped := by
  unfold Chip.powerGroups
  extract_lets _ m1
  have h1 : m1.shaped := h.foldl (fun _ _ h => h.clearHist)
  split
  · exact .ite h1 h1.marlLeave
  · exact h1

theorem Chip.shaped.frameBegin {m : Chip} (h : m.shaped) : m.frameBegin.shaped := by
  unfold Chip.frameBegin
  split
  · exact h
  · extract_lets m1 _ _ _ m2 _ m3 m4 _ m5 m6
    have h1 : m1.shaped := .ite h.boundaryTake h
    clear_value m1
    have h2 : m2.shaped := h1.update
    have h3 : m3.shaped := h2.pipeOpen.raise.ledger
    have h4 : m4.shaped := .ite h3.orBits h3
    clear_value m4
    have h5 : m5.shaped := h4.update
    have h6 : m6.shaped := h5.powerGroups.marlPick
    exact h6.illumAtStart.isetApply

theorem Chip.shaped.frameOver {m : Chip} {c : Capture} (h : m.shaped) : (m.frameOver c).shaped := by
  unfold Chip.frameOver
  extract_lets m1 _
  have h1 : m1.shaped := h.askEnds.pipeEnd
  clear_value m1
  exact h1.update

theorem Chip.shaped.startCapture {m : Chip} {k : Fin 16} {white : Bool} (h : m.shaped) :
    (m.startCapture k white).shaped := by
  unfold Chip.startCapture
  extract_lets m1 b r m2 act c _ l _ m3 _ _ m4 m5 m6 m7 _ m8
  have h1 : m1.shaped := h.insrcTake
  have h2 : m2.shaped := h1.setArmErr.setArmed.dropTrigger
  clear_value m1
  have h3 : m3.shaped := h1.update (regs := h1.regs.symm)
  have h6 : m6.shaped := .wr32 (.wr h3.update)
  have h7 : m7.shaped := by
    unfold m7
    split
    · exact (h6.lowCheck h6.mapStream).peak
    · exact h6
  have h8 : m8.shaped := .ite (.ite h7.update h7) h3.update
  exact .ite h2.fault.whiteFail h8.frameBegin

theorem Chip.shaped.autorun {m : Chip} (h : m.shaped) : m.autorun.shaped := by
  unfold Chip.autorun
  exact .ite h.update h

theorem Chip.shaped.trigger {m : Chip} {k : Fin 16} (h : m.shaped) : (m.trigger k).1.shaped := by
  unfold Chip.trigger
  extract_lets
  split
  · exact h.bump
  · split
    · split
      · exact h.overrun
      · exact Chip.shaped.autorun h.update
    · exact h.startCapture

theorem Chip.shaped.triggerFrom {m : Chip} {src : Nat} {k : Fin 16} (h : m.shaped) :
    (m.triggerFrom src k).1.shaped := by
  unfold Chip.triggerFrom
  split
  · split
    · exact h
    · exact Chip.shaped.trigger h.update
  · exact h

theorem Chip.shaped.triggerMask {m : Chip} {src : Nat} {mask : Word} (h : m.shaped) :
    (m.triggerMask src mask).1.shaped := by
  unfold Chip.triggerMask
  refine foldl_fst h fun a k h => ?_
  split
  · exact h.triggerFrom
  · exact h

theorem Chip.shaped.releaseHeld {m : Chip} (h : m.shaped) : m.releaseHeld.shaped := by
  unfold Chip.releaseHeld
  split
  · exact .ite h (.startCapture h.update)
  · exact h

theorem Chip.shaped.whiteStart {m : Chip} (h : m.shaped) : m.whiteStart.shaped := by
  unfold Chip.whiteStart
  split
  · exact .ite (.startCapture h.update) h
  · exact h

theorem Chip.shaped.resumeSuspended {m : Chip} (h : m.shaped) : m.resumeSuspended.shaped := by
  unfold Chip.resumeSuspended
  split
  next => exact h
  next x rest hs =>
    have hx : x.loam.regs.length = 8 := h.susp x (hs ▸ List.mem_cons_self)
    have hrest : ∀ y ∈ rest, y.loam.regs.length = 8 := fun y hy => h.susp y (hs ▸ List.mem_cons_of_mem _ hy)
    refine .ite h (.ite (Chip.shaped.frameBegin ?_) (h.update (susp := by simp)))
    exact h.insrcTake.update (regs := hx.trans h.insrcTake.regs.symm) (susp := fun y hy => .inr (hrest y hy))

theorem Chip.shaped.nodesClear {m : Chip} (h : m.shaped) : m.nodesClear.shaped := h

theorem Chip.shaped.nodeClosed {m : Chip} {k : Nat} (h : m.shaped) : (m.nodeClosed k).shaped := h

theorem Chip.shaped.rowCleared {m : Chip} {k r : Nat} (h : m.shaped) : (m.rowCleared k r).shaped := by
  unfold Chip.rowCleared
  exact .ite h.update h

theorem Chip.shaped.captureEnd {m : Chip} (h : m.shaped) : m.captureEnd.shaped := by
  unfold Chip.captureEnd
  split
  · exact h
  · extract_lets m1 _ _ _ _ m2 m3 m4 _ m5
    have h1 : m1.shaped := h.frameOver
    clear_value m1
    have h2 : m2.shaped := .nodesClear h1.update
    have h3 : m3.shaped := by
      unfold m3
      refine .ite ?_ h2
      split
      · exact h2.mapStream.streamIdle
      · exact h2
    have h4 : m4.shaped := .ite h3.orBits h3
    have h5 : m5.shaped := by
      unfold m5
      split
      · clear_value m4
        exact .ite h4.runEnd (.ite h4.update h4)
      · exact h4
    exact h5.applyForces.resumeSuspended

theorem Chip.shaped.drainNodes {m : Chip} (h : m.shaped) : m.drainNodes.shaped := by
  unfold Chip.drainNodes
  exact h.mapCap.nodesClear

theorem Chip.shaped.abortCapture {m : Chip} (h : m.shaped) : m.abortCapture.shaped := by
  unfold Chip.abortCapture
  refine .ite ?_ h
  extract_lets m1
  have h1 : m1.shaped := h.strobesLow.drainNodes.mapCap
  exact h1.orBits.captureEnd

theorem Chip.shaped.disarmCtx {m : Chip} {k : Nat} (h : m.shaped) : (m.disarmCtx k).shaped := by
  unfold Chip.disarmCtx
  extract_lets m1 _ m2
  have h1 : m1.shaped := h.setArmed.dropTrigger
  clear_value m1
  have h2 : m2.shaped := .ite h1.update h1
  exact h2.whiteFail

theorem Chip.shaped.writeCapctl {m : Chip} {v : Word} (h : m.shaped) : (m.writeCapctl v).shaped := by
  unfold Chip.writeCapctl
  extract_lets _ m1 m2 _
  have h1 : m1.shaped := h.plainWrite
  have h2 : m2.shaped := h1.checkEnd
  clear_value m2
  exact .ite h (.ite h2.update (.ite h1.disarmCtx (.ite h1.abortCapture h1)))

theorem Chip.shaped.writeCapstat {m : Chip} {v : Word} (h : m.shaped) : (m.writeCapstat v).shaped := by
  unfold Chip.writeCapstat
  exact .ite h h.plainWrite

theorem Chip.shaped.writeCtx {m : Chip} {off : Nat} {v : Word} (h : m.shaped) : (m.writeCtx off v).shaped := by
  unfold Chip.writeCtx
  extract_lets
  exact .ite h h.plainWrite

theorem Chip.shaped.takePlane {m : Chip} {k : Nat} (h : m.shaped) : (m.takePlane k).shaped := by
  unfold Chip.takePlane
  exact h.mapCap

theorem Chip.shaped.paceCheck {m : Chip} (h : m.shaped) : m.paceCheck.shaped := by
  unfold Chip.paceCheck
  split
  · exact .ite h.mapCap.bump.orBits h
  · exact h

theorem Chip.shaped.deliverRow {m : Chip} {c : Capture} {r : PRow} (h : m.shaped) : (m.deliverRow c r).shaped := by
  unfold Chip.deliverRow
  split
  · exact h
  · exact .ite h (.ite h.update h.storeRow)

theorem Chip.shaped.readRow {m : Chip} {codes : List GroupRow} (h : m.shaped) : (m.readRow codes).shaped := by
  unfold Chip.readRow
  split
  · exact h
  · split
    · exact h
    · extract_lets m1 _ _ _ m2 m3 _ m4 m5 _ m6
      have h1 : m1.shaped := h.windowsEnd.applyForces
      have h2 : m2.shaped := .ite (h1.foldl (fun _ _ h => h.addTests)) h1
      have h3 : m3.shaped := h2.groupRows
      have h4 : m4.shaped := h3.mapCap
      have h5 : m5.shaped := h4.rowCleared
      clear_value m5
      have h6 : m6.shaped := .ite h5.update h5
      exact h6.deliverRow.paceCheck

theorem Chip.shaped.colref {m : Chip} {k : Nat} (h : m.shaped) : (m.colref k).shaped := by
  unfold Chip.colref
  split
  · extract_lets
    split
    · exact .ite h h.update
    · exact h
  · exact h

theorem Chip.shaped.testsDone {m : Chip} {k : Nat} (h : m.shaped) : (m.testsDone k).shaped := by
  unfold Chip.testsDone
  split
  · exact h
  · extract_lets m1 m2
    have h1 : m1.shaped := h.colref
    have h2 : m2.shaped := h1.foldl (fun _ _ h => h.judge)
    exact h2.mapCap

theorem Chip.shaped.setL {m : Chip} {i : Nat} {v : Long} (h : m.shaped) : (m.setL i v).shaped := by
  unfold Chip.setL
  exact h.update (regs := by simp [upd, h.regs])

theorem Chip.shaped.haltNow {m : Chip} {cause : Nat} (h : m.shaped) : (m.haltNow cause).shaped := by
  unfold Chip.haltNow
  extract_lets _ _ m1 m2
  have h1 : m1.shaped := h.update
  have h2 : m2.shaped := h1.raise
  exact .ite h2 h2.abortCapture

theorem Chip.shaped.boundary {m : Chip} (h : m.shaped) : m.boundary.shaped := by
  unfold Chip.boundary
  exact .ite h.haltNow (.ite h.haltNow h)

theorem Chip.shaped.faultAt {m : Chip} {code addr : Nat} (h : m.shaped) : (m.faultAt code addr).shaped := by
  unfold Chip.faultAt
  extract_lets m1 m2 _ _ m3 _ m4
  have h1 : m1.shaped := h.wr
  have h2 : m2.shaped := h1.fault
  clear_value m2
  have h3 : m3.shaped := h2.update
  clear_value m3
  have h4 : m4.shaped := .ite h3 (.raise h3.update)
  exact h4.abortCapture

theorem Chip.shaped.loamFault {m : Chip} {code : Nat} (h : m.shaped) : (m.loamFault code).shaped := by
  unfold Chip.loamFault
  exact h.faultAt

theorem Chip.shaped.jumpTo {m : Chip} {n : Nat} (h : m.shaped) : (m.jumpTo n).shaped := by
  unfold Chip.jumpTo
  exact .ite h.loamFault (.boundary h.update)

theorem Chip.shaped.next {m : Chip} (h : m.shaped) : m.next.shaped := by
  unfold Chip.next
  extract_lets
  exact .ite (.faultAt h.update) h.jumpTo

theorem Chip.shaped.jumpIf {m : Chip} {c : Bool} {w : Nat} (h : m.shaped) : (m.jumpIf c w).shaped := by
  unfold Chip.jumpIf
  exact .ite h.jumpTo h.next

theorem Chip.shaped.enqueueAll {m : Chip} {acts : List Action} (h : m.shaped) : (m.enqueueAll acts).shaped := by
  unfold Chip.enqueueAll
  refine h.foldl ?_
  intro m a h
  extract_lets _ _ _ m2
  have h2 : m2.shaped := h.update
  exact .ite h2.orBits.bump h2

theorem Chip.shaped.schedule {m : Chip} {acts : List Action} (h : m.shaped) : (m.schedule acts).shaped := by
  unfold Chip.schedule
  exact .ite h.enqueueAll.next h.update

theorem Chip.shaped.waitFor {m : Chip} {x : LoamWait} (h : m.shaped) : (m.waitFor x).shaped := h

theorem Chip.shaped.waitDone {m : Chip} {sel : Nat} (h : m.shaped) : (m.waitDone sel).shaped := by
  unfold Chip.waitDone
  extract_lets
  exact .next (.ite h.update h)

theorem Chip.shaped.progress {m : Chip} (h : m.shaped) : m.progress.shaped := h

theorem Chip.shaped.readp {m : Chip} {k : Nat} (h : m.shaped) : (m.readp k).shaped := by
  unfold Chip.readp
  exact h.takePlane.paceCheck.progress.next

theorem Chip.shaped.readb {m : Chip} {x depth row : Nat} (h : m.shaped) : (m.readb x depth row).shaped := by
  unfold Chip.readb
  extract_lets
  exact .next h.update

theorem Chip.shaped.drain {m : Chip} (h : m.shaped) : m.drain.shaped := by
  unfold Chip.drain
  extract_lets m1 _ _ _
  have h1 : m1.shaped := h.captureLow.drainNodes
  clear_value m1
  exact h1.update

theorem Chip.shaped.emitStart {m : Chip} {c : Capture} {s : Nat} (h : m.shaped) : (m.emitStart c s).shaped := by
  unfold Chip.emitStart
  extract_lets
  exact .ite h.offer h.openFrame

theorem Chip.shaped.emitEnd {m : Chip} {c : Capture} {x s : Nat} (h : m.shaped) : (m.emitEnd c x s).shaped := by
  unfold Chip.emitEnd
  extract_lets m1
  have h1 : m1.shaped := .ite h.pipeEnd h
  exact .ite h1.askEnds h1.bump

theorem Chip.shaped.emitEvent {m : Chip} {c : Capture} {s : Nat} {lb : Long} (h : m.shaped) :
    (m.emitEvent c s lb).shaped := by
  unfold Chip.emitEvent
  extract_lets
  exact h.offer

theorem Chip.shaped.endNow {m : Chip} (h : m.shaped) : m.endNow.shaped := by
  unfold Chip.endNow
  extract_lets _ _ m1 _ m2
  have h1 : m1.shaped := h.update
  clear_value m1
  have h2 : m2.shaped := .ite h1 (.raise h1.update)
  exact h2.captureEnd

theorem Chip.shaped.suspend {m : Chip} {c : Capture} (h : m.shaped) : (m.suspend c).shaped := by
  unfold Chip.suspend
  extract_lets cause halt _ m1 m2 x _ _ _ m3 m4
  have hhalt {m : Chip} (h : m.shaped) : (halt m).shaped := .ite h h.haltNow
  have h1 : m1.shaped := Chip.shaped.next h.update
  have h2 : m2.shaped := h1.frameOver
  clear_value m1 m2
  have hx : x.loam.regs.length = 8 := h2.regs
  clear_value x
  have h3 : m3.shaped := by
    refine .nodesClear (h2.update (susp := fun y hy => ?_))
    rcases List.mem_cons.mp hy with rfl | hy
    · exact .inr hx
    · exact .inl hy
  have h4 : m4.shaped := .ite h3.whiteStart h3.releaseHeld
  exact .ite (hhalt h1) (hhalt h4.resumeSuspended)

theorem Chip.shaped.nextFrame {m : Chip} {c : Capture} {lb : Long} (h : m.shaped) : (m.nextFrame c lb).shaped := by
  unfold Chip.nextFrame
  extract_lets _ _ _ m1 _ _ m2 m3
  have h1 : m1.shaped := h.frameOver.nodesClear
  clear_value m1
  have h2 : m2.shaped := h1.update
  have h3 : m3.shaped := .ite h2.orBits h2
  exact h3.frameBegin.next

theorem Chip.shaped.baseFrame {m : Chip} {lb : Long} (h : m.shaped) : (m.baseFrame lb).shaped := by
  unfold Chip.baseFrame
  split
  · exact h
  · exact .ite h.waitFor (.ite (.ite h.endNow h.waitFor) (.ite (.ite h.suspend h.waitFor) h.nextFrame))

theorem Chip.shaped.advanceLoam {m : Chip} (h : m.shaped) : m.advanceLoam.shaped := by
  unfold Chip.advanceLoam
  split
  · exact .ite h.readp h
  · exact .ite h.readb h
  · exact .ite h.endNow h
  · exact h.baseFrame
  · exact h

theorem Chip.shaped.takeAction {m : Chip} {a : Action} (h : m.shaped) : (m.takeAction a).shaped := h

theorem Chip.shaped.guardMove {m : Chip} {a : Action} {tick : Tick} {kind : Nat} (h : m.shaped) :
    (m.guardMove a tick kind).shaped := by
  unfold Chip.guardMove
  extract_lets _ m1
  have h1 : m1.shaped := h.update
  exact h1.orBits.fault

theorem Chip.shaped.openStratum {m : Chip} {c : Capture} {k : Nat} {t : Tick} (h : m.shaped) :
    (m.openStratum c k t).shaped := by
  unfold Chip.openStratum
  extract_lets m1 _ m2
  have h1 : m1.shaped := h.mapCap
  clear_value m1
  have h2 : m2.shaped := .ite h1.update h1
  exact h2.sourceEvent

theorem Chip.shaped.closeStratum {m : Chip} {c : Capture} {k : Nat} {t : Tick} (h : m.shaped) :
    (m.closeStratum c k t).shaped := by
  unfold Chip.closeStratum
  extract_lets _ m1 m2 _ m3
  have h1 : m1.shaped := h.mapCap
  have h2 : m2.shaped := h1.nodeClosed
  clear_value m2
  have h3 : m3.shaped := .ite h2.update h2
  exact h3.raiseIf

theorem Chip.shaped.doOpen {m : Chip} {a : Action} (h : m.shaped) : (m.doOpen a).shaped := by
  unfold Chip.doOpen
  split
  · exact h
  · refine .ite h.loamFault ?_
    split
    · exact .ite h.guardMove h.openStratum
    · exact h.openStratum

theorem Chip.shaped.doClose {m : Chip} {a : Action} (h : m.shaped) : (m.doClose a).shaped := by
  unfold Chip.doClose
  split
  · exact h
  · split
    · exact .ite h.loamFault (.ite h.guardMove h.closeStratum)
    · exact h.loamFault

theorem Chip.shaped.maxClose {m : Chip} {c : Capture} {k : Nat} {t : Tick} (h : m.shaped) :
    (m.maxClose c k t).shaped := by
  unfold Chip.maxClose
  extract_lets
  split
  · exact h.takeAction.closeStratum.orBits.fault
  · exact h.takeFreeNat.closeStratum.orBits.fault

theorem Chip.shaped.askHalt {m : Chip} {cause : Nat} (h : m.shaped) : (m.askHalt cause).shaped := by
  unfold Chip.askHalt
  extract_lets _ _ m1
  have h1 : m1.shaped := h.update
  refine .ite (.ite h.update h) ?_
  split
  · exact h1
  · exact h1
  · exact h1
  · exact h.haltNow
  · exact h.haltNow

theorem Chip.shaped.resumeLoam {m : Chip} (h : m.shaped) : m.resumeLoam.shaped := by
  unfold Chip.resumeLoam
  exact .ite (.resumeSuspended h.update) h

theorem Chip.shaped.stepLoam {m : Chip} (h : m.shaped) : m.stepLoam.shaped := by
  unfold Chip.stepLoam
  exact .ite (.ite h.update (.raise h.update)) h

theorem Chip.shaped.writeLoamctl {m : Chip} {v : Word} {cause : Nat} (h : m.shaped) :
    (m.writeLoamctl v cause).shaped := by
  unfold Chip.writeLoamctl
  refine .ite h ?_
  extract_lets m1
  have h1 : m1.shaped := h.plainWrite
  exact .ite h1.askHalt (.ite h1.resumeLoam (.ite h1.stepLoam h1))

theorem Chip.shaped.writeLoampc {m : Chip} {v : Word} (h : m.shaped) : (m.writeLoampc v).shaped := by
  unfold Chip.writeLoampc
  exact .ite h.update h

theorem Chip.shaped.writeProgram {m : Chip} {off : Nat} {v : Word} (h : m.shaped) : (m.writeProgram off v).shaped := by
  unfold Chip.writeProgram
  exact .ite h.orBits h.wr.wr

theorem Chip.shaped.writeLoam {m : Chip} {off : Nat} {v : Word} {cause : Nat} (h : m.shaped) :
    (m.writeLoam off v cause).shaped := by
  unfold Chip.writeLoam
  exact .ite h.writeProgram (.ite (.ite h.setL h) (.ite h.writeLoamctl (.ite h.writeLoampc h.plainWrite)))

theorem Chip.shaped.mapDrift {m : Chip} {f : Drift → Drift} (h : m.shaped) : (m.mapDrift f).shaped := h

theorem Chip.shaped.stepIn {m : Chip} {c : Capture} {x : DStep} (h : m.shaped) : (m.stepIn c x).shaped := by
  unfold Chip.stepIn
  extract_lets _ m1 m2
  have h1 : m1.shaped := h.mapDrift
  have h2 : m2.shaped := .ite h1.wr h1
  exact h2.stepEvent

theorem Chip.shaped.stepDrop {m : Chip} {c : Capture} {x : DStep} (h : m.shaped) : (m.stepDrop c x).shaped := by
  unfold Chip.stepDrop
  exact h.mapDrift.bump.raise

theorem Chip.shaped.driftStep {m : Chip} {n : Nat} (h : m.shaped) : (m.driftStep n).shaped := by
  unfold Chip.driftStep
  split
  · exact h
  · refine .ite h ?_
    extract_lets _ _ _ m1
    have h1 : m1.shaped := h.mapDrift
    exact .ite h1.stepEvent (.ite h1.stepDrop h1.stepIn)

theorem Chip.shaped.driftEdge {m : Chip} {n : Nat} (h : m.shaped) : (m.driftEdge n).shaped := by
  unfold Chip.driftEdge
  split
  · exact h
  · exact .ite h.mapDrift h

theorem Chip.shaped.driftCapture {m : Chip} {n : Nat} (h : m.shaped) : (m.driftCapture n).shaped := by
  unfold Chip.driftCapture
  split
  · exact h
  · exact .ite h.mapDrift h

theorem Chip.shaped.takeUp {m : Chip} {c : Capture} (h : m.shaped) : (m.takeUp c).shaped := by
  unfold Chip.takeUp
  split
  · exact h
  · extract_lets _ m1
    have h1 : m1.shaped := h.mapDrift
    exact h1.isetApply.advanceLoam

theorem Chip.shaped.lightStep {m : Chip} {c : Capture} {x : DStep} (h : m.shaped) : (m.lightStep c x).shaped := by
  unfold Chip.lightStep
  exact .ite h h.captureStrobe.mapDrift

theorem Chip.shaped.openStep {m : Chip} {c : Capture} (h : m.shaped) : (m.openStep c).shaped := by
  unfold Chip.openStep
  split
  · exact h
  · extract_lets m1
    have h1 : m1.shaped := h.lightStep
    exact h1.mapDrift.sourceEvent

theorem Chip.shaped.closeStep {m : Chip} {c : Capture} (h : m.shaped) : (m.closeStep c).shaped := by
  unfold Chip.closeStep
  split
  · exact h
  · extract_lets m1
    have h1 : m1.shaped := h.mapDrift.nodeClosed
    exact h1.captureStrobe

theorem Chip.shaped.accumulate {m : Chip} {k u : Nat} {vals : List Nat} (h : m.shaped) :
    (m.accumulate k u vals).shaped := by
  unfold Chip.accumulate
  extract_lets
  exact h.mapDrift

theorem Chip.shaped.lineOut {m : Chip} {c : Capture} {k l : Nat} (h : m.shaped) : (m.lineOut c k l).2.shaped := by
  unfold Chip.lineOut
  dsimp only
  split
  all_goals exact h

theorem Chip.shaped.lineStamp {m : Chip} {l : Nat} (h : m.shaped) : (m.lineStamp l).2.shaped := by
  unfold Chip.lineStamp
  dsimp only
  split
  · exact h
  · exact h.takeFreeNat

theorem Chip.shaped.lineSend {m : Chip} {c : Capture} {x : DLine} (h : m.shaped) : (m.lineSend c x).shaped := by
  unfold Chip.lineSend
  split
  · exact h
  · exact .ite h h.update

theorem Chip.shaped.emitDrift {m : Chip} {c : Capture} {k n : Nat} {repeated : Bool} {stamp : Tick} (h : m.shaped) :
    (m.emitDrift c k n repeated stamp).shaped := by
  unfold Chip.emitDrift
  extract_lets _ _ _ _ _ _ m1
  have h1 : m1.shaped := h.lineOut.mapDrift
  exact .ite h.lineSend h1.lineSend

theorem Chip.shaped.emitRow {m : Chip} {c : Capture} {n : Nat} {repeated : Bool} (h : m.shaped) :
    (m.emitRow c n repeated).shaped := by
  unfold Chip.emitRow
  extract_lets _ m1
  have h1 : m1.shaped := by
    unfold m1
    refine h.lineStamp.foldl ?_
    intro m a h
    extract_lets m2
    have h2 : m2.shaped := h.emitDrift
    exact .ite h2.bump h2
  exact h1.wr32

theorem Chip.shaped.completeLines {m : Chip} {c : Capture} {x16 : Nat} {repeated : Bool} (h : m.shaped) :
    (m.completeLines c x16 repeated).shaped := by
  unfold Chip.completeLines
  extract_lets _ _ m1 _
  have h1 : m1.shaped := h.foldl (fun _ _ h => h.emitRow)
  exact h1.mapDrift

theorem Chip.shaped.noteMid {m : Chip} {c : Capture} {x : DStep} {dropped : Bool} {x16 : Nat} (h : m.shaped) :
    (m.noteMid c x dropped x16).shaped := by
  unfold Chip.noteMid
  exact h.mapDrift

theorem Chip.shaped.passSteps {m : Chip} {c : Capture} {p : DStep → Bool} (h : m.shaped) :
    (m.passSteps c p).shaped := by
  unfold Chip.passSteps
  extract_lets _ m1
  have h1 : m1.shaped := h.mapDrift
  refine h1.foldl ?_
  intro m a h
  extract_lets
  exact h.noteMid.completeLines

theorem Chip.shaped.passDropped {m : Chip} {c : Capture} (h : m.shaped) : (m.passDropped c).shaped := by
  unfold Chip.passDropped
  extract_lets
  exact h.passSteps

theorem Chip.shaped.docFinish {m : Chip} {c : Capture} (h : m.shaped) : (m.docFinish c).shaped := by
  unfold Chip.docFinish
  exact h.passDropped.mapDrift.orBits

theorem Chip.shaped.docEnd {m : Chip} {c : Capture} (h : m.shaped) : (m.docEnd c).shaped := by
  unfold Chip.docEnd
  refine .ite h ?_
  extract_lets m1
  have h1 : m1.shaped := h.captureLow.mapDrift
  exact .ite h1.docFinish.advanceLoam h1

theorem Chip.shaped.lineLimit {m : Chip} {c : Capture} (h : m.shaped) : (m.lineLimit c).shaped := by
  unfold Chip.lineLimit
  exact .ite h.docEnd h

theorem Chip.shaped.tickDrift {m : Chip} (h : m.shaped) : m.tickDrift.shaped := by
  unfold Chip.tickDrift
  split
  · exact h
  · exact .ite h h.passDropped.lineLimit

theorem Chip.shaped.bandBlack {m : Chip} {c : Capture} {k row : Nat} {vals : List Nat} (h : m.shaped) :
    (m.bandBlack c k row vals).shaped := by
  unfold Chip.bandBlack
  split
  · exact h
  · extract_lets _ m1 _
    have h1 : m1.shaped := h.blTrack
    clear_value m1
    exact h1.update

theorem Chip.shaped.bandRow {m : Chip} {c : Capture} {x : DStep} {x16 j : Nat} {codes : List GroupRow} (h : m.shaped) :
    (m.bandRow c x x16 j codes).shaped := by
  unfold Chip.bandRow
  extract_lets _ m1 m2 _ m3 _
  have h1 : m1.shaped := h.windowsEnd.applyForces
  have h2 : m2.shaped := .ite h1 h1.walkAll
  have h3 : m3.shaped := h2.groupRows.bandBlack
  exact h3.accumulate

theorem Chip.shaped.growStrips {m : Chip} {x : DStep} (h : m.shaped) : (m.growStrips x).shaped := by
  unfold Chip.growStrips
  exact h.mapCap

theorem Chip.shaped.bandEnd {m : Chip} {c : Capture} {x : DStep} {rows : List (List GroupRow)} (h : m.shaped) :
    (m.bandEnd c x rows).shaped := by
  unfold Chip.bandEnd
  extract_lets m1 _ m2 m3 m4 _ m5 m6 m7 m8
  have h1 : m1.shaped := h.passSteps
  have h2 : m2.shaped := h1.foldl (fun _ _ h => h.bandRow)
  have h3 : m3.shaped := h2.growStrips
  have h4 : m4.shaped := h3.mapDrift
  clear_value m4
  have h5 : m5.shaped := h4.update
  have h6 : m6.shaped := h5.noteMid.completeLines
  have h7 : m7.shaped := h6.passDropped.progress
  have h8 : m8.shaped := .ite h7.docFinish h7.lineLimit
  exact h8.advanceLoam

theorem Chip.shaped.tmSet {m : Chip} {n i : Nat} {b : Bool} (h : m.shaped) : (m.tmSet n i b).shaped := by
  unfold Chip.tmSet
  exact h.wr

theorem Chip.shaped.startTimer {m : Chip} {n : Nat} (h : m.shaped) : (m.startTimer n).shaped := by
  unfold Chip.startTimer
  exact .ite h h.tmSet

theorem Chip.shaped.stopTimer {m : Chip} {n : Nat} (h : m.shaped) : (m.stopTimer n).shaped := by
  unfold Chip.stopTimer
  exact .tmSet h.update

theorem Chip.shaped.doAction {m : Chip} {rank : Nat} {w : Word} (h : m.shaped) : (m.doAction rank w).shaped := by
  unfold Chip.doAction
  extract_lets a t
  clear_value a t
  split
  · exact h.targetEvent
  · exact h.moverRequest
  · exact h.startTimer
  · exact h.stopTimer
  · exact h.triggerFrom
  · exact .ite (.ite h.drivePin h.timerStrobe) h

theorem Chip.shaped.cmpNext {m : Chip} {n k : Nat} (h : m.shaped) : (m.cmpNext n k).shaped := by
  unfold Chip.cmpNext
  extract_lets
  exact .ite h.clrBits h.wr64

theorem Chip.shaped.noteActed {m : Chip} {n : Nat} (h : m.shaped) : (m.noteActed n).shaped := by
  unfold Chip.noteActed
  exact .ite h.update h

theorem Chip.shaped.cmpAct {m : Chip} {n : Nat} (h : m.shaped) : (m.cmpAct n).shaped := by
  unfold Chip.cmpAct
  extract_lets
  exact .ite h h.noteActed.doAction.orBits.raiseIf

theorem Chip.shaped.cmpFire {m : Chip} {n : Nat} (h : m.shaped) : (m.cmpFire n).shaped := by
  unfold Chip.cmpFire
  exact h.cmpAct.cmpNext

theorem Chip.shaped.cmpMiss {m : Chip} {n : Nat} (h : m.shaped) : (m.cmpMiss n).shaped := by
  unfold Chip.cmpMiss
  extract_lets _ m1 m2
  have h1 : m1.shaped := h.bump.orBits.raise
  have h2 : m2.shaped := .ite h1 h1.cmpAct.orBits
  exact h2.cmpNext

theorem Chip.shaped.cmpFirst {m : Chip} {n : Nat} (h : m.shaped) : (m.cmpFirst n).shaped := by
  unfold Chip.cmpFirst
  exact .ite h.cmpFire h

theorem Chip.shaped.writeMatch {m : Chip} {n w : Nat} {v : Word} (h : m.shaped) : (m.writeMatch n w v).shaped := by
  unfold Chip.writeMatch
  refine .ite h.wrHeld ?_
  extract_lets m1 _ m2
  have h1 : m1.shaped := h.cmpFirst
  have h2 : m2.shaped := h1.wrList
  exact .ite h2.cmpMiss h2

theorem Chip.shaped.writeCmpCtl {m : Chip} {n : Nat} {v : Word} (h : m.shaped) : (m.writeCmpCtl n v).shaped := by
  unfold Chip.writeCmpCtl
  refine .ite ?_ h
  extract_lets m1 _ m2
  have h1 : m1.shaped := h.cmpFirst
  have h2 : m2.shaped := h1.plainWrite
  exact .ite h2.cmpMiss h2

theorem Chip.shaped.missFrom {m : Chip} {old : Tick} (h : m.shaped) : (m.missFrom old).shaped := by
  unfold Chip.missFrom
  exact h.foldl (fun _ _ h => (.ite h.cmpMiss h))

theorem Chip.shaped.timerMatch {m : Chip} {n : Nat} (h : m.shaped) : (m.timerMatch n).shaped := by
  unfold Chip.timerMatch
  extract_lets _ _ m1
  have h1 : m1.shaped := h.update
  exact h1.doAction.orBits.raiseIf

theorem Chip.shaped.timerTerminal {m : Chip} {n : Nat} (h : m.shaped) : (m.timerTerminal n).shaped := by
  unfold Chip.timerTerminal
  extract_lets _ _ m1
  have h1 : m1.shaped := h.update
  exact h1.driftStep.doAction.orBits.raiseIf

theorem Chip.shaped.timerFlush {m : Chip} {n : Nat} (h : m.shaped) : (m.timerFlush n).shaped := by
  unfold Chip.timerFlush
  extract_lets m1
  have h1 : m1.shaped := .ite h.timerMatch h
  exact .ite h1.timerTerminal h1

theorem Chip.shaped.countOnce {m : Chip} {n : Nat} (h : m.shaped) : (m.countOnce n).1.shaped := by
  unfold Chip.countOnce
  dsimp only
  split
  · split
    · exact h.tmSet.tmSet
    · exact h.wr32
  · exact h.wr32

theorem Chip.shaped.sourceEdge {m : Chip} {n : Nat} (h : m.shaped) : (m.sourceEdge n).shaped := by
  unfold Chip.sourceEdge
  extract_lets m1 _ _ _ _ m2 _
  have h1 : m1.shaped := h.timerFlush.driftEdge
  have h2 : m2.shaped := h1.wr32.countOnce
  clear_value m2
  exact .ite h2.update h1.wr32

theorem Chip.shaped.writeTstart {m : Chip} {v : Word} (h : m.shaped) : (m.writeTstart v).shaped := by
  unfold Chip.writeTstart
  exact h.foldl (fun _ _ h => (.ite (.ite h.stopTimer h.startTimer) h))

theorem Chip.shaped.writeTmCmd {m : Chip} {n : Nat} {v : Word} (h : m.shaped) : (m.writeTmCmd n v).shaped := by
  unfold Chip.writeTmCmd
  exact .ite h.wr32.tmSet h

theorem Chip.shaped.writeTcap {m : Chip} {n : Nat} {v : Word} (h : m.shaped) : (m.writeTcap n v).shaped := by
  unfold Chip.writeTcap
  extract_lets _ m1 m2 _
  have h1 : m1.shaped := h.plainWrite
  have h2 : m2.shaped := h1.tmSet.tmSet
  clear_value m2
  exact .ite h2.update h1

theorem Chip.shaped.writePsc {m : Chip} {n v : Nat} (h : m.shaped) : (m.writePsc n v).shaped := by
  unfold Chip.writePsc
  exact .ite h.tmSet h.wr32

theorem Chip.shaped.writeTm {m : Chip} {n o : Nat} {v : Word} (h : m.shaped) : (m.writeTm n o v).shaped := by
  unfold Chip.writeTm
  split
  · exact .ite h.tmSet h.plainWrite
  · exact .ite h.tmSet h.plainWrite
  · exact h.writePsc
  · exact h.writePsc
  · exact .ite h h.plainWrite
  · exact .ite h.plainWrite h
  · exact .ite h.plainWrite h
  · exact h.writeTcap
  · exact h.writeTmCmd
  · exact h.plainWrite

theorem Chip.shaped.timerCap {m : Chip} {n : Nat} {rising : Bool} (h : m.shaped) : (m.timerCap n rising).shaped := by
  unfold Chip.timerCap
  extract_lets _ _ _ _ _ m1 m2 _ m3 m4 _ m5 m6
  have h1 : m1.shaped := .ite h.wr32.tmSet h
  have h2 : m2.shaped := h1.wr32
  have h3 : m3.shaped := .ite h.wr32.tmSet h
  clear_value m2
  have h4 : m4.shaped := .ite h2.update h3.wr32
  have h5 : m5.shaped := h4.wr.orBits
  have h6 : m6.shaped := h5.raiseIf
  exact .ite h6.driftCapture h6

theorem Chip.shaped.writeAlm {m : Chip} {w : Nat} {v : Word} (h : m.shaped) : (m.writeAlm w v).shaped := by
  unfold Chip.writeAlm
  refine .ite h.wrHeld ?_
  extract_lets m1 _
  have h1 : m1.shaped := h.wrList
  clear_value m1
  exact .orBits h1.update

theorem Chip.shaped.writeAlmctl {m : Chip} {v : Word} (h : m.shaped) : (m.writeAlmctl v).shaped := by
  unfold Chip.writeAlmctl
  extract_lets m1
  have h1 : m1.shaped := h.plainWrite
  exact .ite h1.clrBits h1

theorem Chip.shaped.fireAlarm {m : Chip} (h : m.shaped) : m.fireAlarm.shaped := by
  unfold Chip.fireAlarm
  exact h.clrBits.orBits

theorem Chip.shaped.makeUpTimer {m : Chip} {n e : Nat} (h : m.shaped) : (m.makeUpTimer n e).shaped := by
  unfold Chip.makeUpTimer
  extract_lets psc total c m1 count tc mt up _ within r
  have h1 : m1.shaped := h.wr32
  have hr : r.1.shaped := by
    unfold r
    split
    · exact h1.wr32.tmSet.tmSet
    · split
      all_goals exact h1.wr32
  exact .ite hr hr.bump.orBits.raise

theorem Chip.shaped.makeUpTimers {m : Chip} {mk n : Nat} (h : m.shaped) : (m.makeUpTimers mk n).shaped := by
  unfold Chip.makeUpTimers
  refine h.foldl ?_
  intro m a h
  extract_lets
  refine .ite ?_ h
  split
  · exact h.makeUpTimer
  · exact h.makeUpTimer
  · exact h.makeUpTimer
  · exact h.makeUpTimer
  · exact h

theorem Chip.shaped.stbResume {m : Chip} {slept : Bool} (h : m.shaped) : (m.stbResume slept).shaped := by
  unfold Chip.stbResume
  split
  · extract_lets _ _ _ _ m1 _ m2
    have h1 : m1.shaped := h.update
    have h2 : m2.shaped := h1.wr64.wr
    exact h2.makeUpTimers.missFrom
  · exact .orBits h.update

theorem Chip.shaped.writeSyncctl {m : Chip} {v : Word} (h : m.shaped) : (m.writeSyncctl v).shaped := by
  unfold Chip.writeSyncctl
  refine .ite h ?_
  extract_lets _ m1 m2 _
  have h1 : m1.shaped := h.plainWrite
  have h2 : m2.shaped := .ite h1.clrBits h1
  clear_value m2
  exact .ite h1 h2.update

theorem Chip.shaped.planSlews {m : Chip} {k : ℤ} {left : Nat} (h : m.shaped) : (m.planSlews k left).shaped := by
  unfold Chip.planSlews
  extract_lets _ _ _ m1
  have h1 : m1.shaped := h.update
  refine h1.foldl ?_
  intro m a h
  extract_lets _ m3 _
  have h3 : m3.shaped := h.takeFreeNat
  clear_value m3
  exact h3.update

theorem Chip.shaped.stbStep {m : Chip} {t : Tick} (h : m.shaped) : (m.stbStep t).shaped := by
  unfold Chip.stbStep
  extract_lets _ _ m1
  have h1 : m1.shaped := h.update
  exact h1.missFrom

theorem Chip.shaped.bumpField {m : Chip} {sp off lo n : Nat} (h : m.shaped) : (m.bumpField sp off lo n).shaped := by
  unfold Chip.bumpField
  extract_lets
  exact .wr h.update

theorem Chip.shaped.countStep {m : Chip} {run : Nat} (h : m.shaped) : (m.countStep run).shaped := by
  unfold Chip.countStep
  extract_lets m1 m2 _
  have h1 : m1.shaped := h.bumpField
  have h2 : m2.shaped := .ite h1.orBits h1
  clear_value m2
  exact h2.update

theorem Chip.shaped.syncAccept {m : Chip} {v : AonTick} {elapsed : Nat} (h : m.shaped) :
    (m.syncAccept v elapsed).shaped := by
  unfold Chip.syncAccept
  extract_lets base mark lock stepTo left m1 _ e n d _ _ m2 m3 _ m4
  have hstep {m : Chip} (h : m.shaped) : (stepTo m).shaped := h.stbStep.update
  have h1 : m1.shaped := (hstep h).orBits
  have h2 : m2.shaped := by
    unfold m2
    split
    · exact .update (m := m.wr spTmr 3 (ppmWord d)) h.wr
    · exact h
  have h3 : m3.shaped := (hstep h2).countStep.orBits
  clear_value m1 m2 m3
  exact .ite (.planSlews h1.update) (.ite h3.planSlews (.planSlews h2.update))

theorem Chip.shaped.crcErr {m : Chip} (h : m.shaped) : m.crcErr.shaped := by
  unfold Chip.crcErr
  exact h.bumpField

theorem Chip.shaped.syncReceive {m : Chip} {start : Nat} {pulses : List Nat} {elapsed : Nat} (h : m.shaped) :
    (m.syncReceive start pulses elapsed).shaped := by
  unfold Chip.syncReceive
  extract_lets
  split
  · exact .ite h.syncAccept h.crcErr
  · exact h.crcErr

theorem Chip.shaped.syncLose {m : Chip} (h : m.shaped) : m.syncLose.shaped := by
  unfold Chip.syncLose
  exact .fault (.orBits (.clrBits h.update))

theorem Chip.shaped.writeTmr {m : Chip} {off : Nat} {v : Word} (h : m.shaped) : (m.writeTmr off v).shaped := by
  unfold Chip.writeTmr
  refine .ite h.writeSyncctl (.ite h.writeAlm (.ite h.writeAlmctl (.ite ?_ (.ite h.writeTm h.plainWrite))))
  extract_lets
  exact .ite h.writeMatch (.ite h.writeCmpCtl h.plainWrite)

theorem Chip.shaped.hkcMove {m : Chip} {i : Nat} {dir : ℤ} (h : m.shaped) : (m.hkcMove i dir).shaped := by
  unfold Chip.hkcMove
  refine .ite h ?_
  extract_lets
  exact h.wr

theorem Chip.shaped.setWin {m : Chip} {x : Nat} {w : List (Nat × Nat) × Nat × Bool} (h : m.shaped) :
    (m.setWin x w).shaped := h

theorem Chip.shaped.setPrev {m : Chip} {x : Nat} {e : Option (ℤ × Nat × ℤ × Nat)} (h : m.shaped) :
    (m.setPrev x e).shaped := h

theorem Chip.shaped.hkcJudge {m : Chip} {x : Nat} {l : List (Nat × Nat)} (h : m.shaped) : (m.hkcJudge x l).shaped := by
  unfold Chip.hkcJudge
  extract_lets
  exact .ite h.orBits.raise.fault h

theorem Chip.shaped.hkcLearn {m : Chip} {x : Nat} {o g : ℤ × Nat} (h : m.shaped) : (m.hkcLearn x o g).shaped := by
  unfold Chip.hkcLearn
  split
  · exact h
  · refine .ite h ?_
    extract_lets _ _ m1 m2
    have h1 : m1.shaped := .ite h.hkcMove h
    have h2 : m2.shaped := .ite h1.hkcMove h1
    exact h2.calTime

theorem Chip.shaped.hkcWindow {m : Chip} {x : Nat} (h : m.shaped) : (m.hkcWindow x).shaped := by
  unfold Chip.hkcWindow
  extract_lets _ m1 m2 _ _ _
  have h1 : m1.shaped := h.setWin
  have h2 : m2.shaped := h1.hkcJudge
  exact .ite h1.setPrev (.ite h2.setPrev h2.estOr.estOr.hkcLearn.setPrev)

theorem Chip.shaped.hkcPair {m : Chip} {x raw spare : Nat} {supply : Bool} (h : m.shaped) :
    (m.hkcPair x raw spare supply).shaped := by
  unfold Chip.hkcPair
  extract_lets m1 _
  have h1 : m1.shaped := .ite h.hkcWindow h
  exact h1.setWin

theorem Chip.shaped.vrefSample {m : Chip} {raw : Nat} (h : m.shaped) : (m.vrefSample raw).shaped := by
  unfold Chip.vrefSample
  split
  · extract_lets
    exact h.update
  · exact h

theorem Chip.shaped.ownConversion {m : Chip} {raw spare : Nat} (h : m.shaped) : (m.ownConversion raw spare).shaped := by
  unfold Chip.ownConversion
  refine .ite ?_ h
  extract_lets _ m1
  have h1 : m1.shaped := .ite h.sampleTaken.hkcPair h.sampleTaken
  exact h1.vrefSample

theorem Chip.shaped.writeHkcEn {m : Chip} {v : Word} (h : m.shaped) : (m.writeHkcEn v).shaped := by
  unfold Chip.writeHkcEn
  extract_lets _ m1
  have h1 : m1.shaped := h.writeHkcctl
  split
  · exact .ite h1.runEnd h1
  · exact h1

theorem Chip.shaped.hkcTrimStep {m : Chip} {i : Nat} (h : m.shaped) : (m.hkcTrimStep i).shaped := by
  unfold Chip.hkcTrimStep
  extract_lets
  exact h.update (applied := by simp [upd, h.applied])

theorem Chip.shaped.writeTrim {m : Chip} {off : Nat} {v : Word} (h : m.shaped) : (m.writeTrim off v).shaped := by
  unfold Chip.writeTrim
  extract_lets _ _ _ m1
  have h1 : m1.shaped := h.plainWrite
  split
  · exact h1.orBits
  · exact h1.orBits
  · exact h1.orBits
  · exact h1

theorem Chip.shaped.unpinAll {m : Chip} (h : m.shaped) : m.unpinAll.shaped := by
  unfold Chip.unpinAll
  exact .clrBits (h.foldl (fun _ _ h => h.clrBits))

theorem Chip.shaped.runStart {m : Chip} {cls k : Nat} (h : m.shaped) : (m.runStart cls k).shaped := by
  unfold Chip.runStart
  extract_lets _ m1
  have h1 : m1.shaped := h.update
  exact .ite h1 (.ite (.ite h.update h1) (.ite h1 (.whiteStart h.update)))

theorem Chip.shaped.writeCalctl {m : Chip} {v : Word} (h : m.shaped) : (m.writeCalctl v).shaped := by
  unfold Chip.writeCalctl
  extract_lets _ _ m1 _ m2 m3 m4 m5
  have h1 : m1.shaped := h.plainWrite
  clear_value m1
  have h2 : m2.shaped := h1.update
  have h3 : m3.shaped := h2.marlPick
  have h4 : m4.shaped := .ite h3.unpinAll h3
  have h5 : m5.shaped := .ite h4.runEnd h4
  exact .ite h (.ite h5.runStart h5)

theorem Chip.shaped.refWords {m : Chip} {t : Option Nat} (h : m.shaped) : (m.refWords t).2.shaped := by
  unfold Chip.refWords
  dsimp only
  split
  · exact h
  · exact h.takeFree

theorem Chip.shaped.vrefEnd {m : Chip} {sums : List Nat} {spoiled : Bool} (h : m.shaped) :
    (m.vrefEnd sums spoiled).shaped := by
  unfold Chip.vrefEnd
  extract_lets _ m1 _
  have h1 : m1.shaped := by
    unfold m1
    refine h.foldl ?_
    intro m a h
    split
    · exact h.wrList
    · exact h
  exact .ite h.runEnd h1.refWords.wrList.runEnd

theorem Chip.shaped.whiteEnd {m : Chip} {f g : PFrame} {spoiled : Bool} (h : m.shaped) :
    (m.whiteEnd f g spoiled).shaped := by
  unfold Chip.whiteEnd
  extract_lets _ _ _ _ _ _ _ _ m1 _ _
  have h1 : m1.shaped := h.refWords
  clear_value m1
  exact .ite h.runEnd (.runEnd h1.update)

theorem Chip.shaped.writeCal {m : Chip} {off : Nat} {v : Word} (h : m.shaped) : (m.writeCal off v).shaped := by
  unfold Chip.writeCal
  exact .ite (.ite h h.plainWrite) (.ite (.ite h h.plainWrite) (.ite h.writeGcmd (.ite h.writeTrim (.ite h.plainWrite.orBits h.plainWrite))))

theorem Chip.shaped.copyStaging {m : Chip} (h : m.shaped) : m.copyStaging.shaped := by
  unfold Chip.copyStaging
  exact h.update

theorem Chip.shaped.loseStaging {m : Chip} (h : m.shaped) : m.loseStaging.shaped := h

theorem Chip.shaped.nvmFail {m : Chip} {cause : Nat} (h : m.shaped) : (m.nvmFail cause).shaped := by
  unfold Chip.nvmFail
  exact .raise h.update

theorem Chip.shaped.eraseSlot {m : Chip} {s : Nat} (h : m.shaped) : (m.eraseSlot s).shaped := by
  unfold Chip.eraseSlot
  extract_lets
  exact h

theorem Chip.shaped.startCommit {m : Chip} {again : Bool} (h : m.shaped) : (m.startCommit again).shaped := by
  unfold Chip.startCommit
  split
  · extract_lets
    exact .eraseSlot h.update
  · exact .nvmFail h.update

theorem Chip.shaped.tryCommit {m : Chip} {force : Bool} (h : m.shaped) : (m.tryCommit force).shaped := by
  unfold Chip.tryCommit
  extract_lets _ m1 _
  have h1 : m1.shaped := h.update
  clear_value m1
  exact .ite h1.nvmFail (.ite h1.nvmFail (.ite h1.nvmFail (.ite h1.update h1.startCommit)))

theorem Chip.shaped.programPage {m : Chip} {c : Commit} {k : Nat} (h : m.shaped) : (m.programPage c k).shaped := by
  unfold Chip.programPage
  exact h.wrList

theorem Chip.shaped.programCheck {m : Chip} {c : Commit} (h : m.shaped) : (m.programCheck c).shaped := by
  unfold Chip.programCheck
  exact h.wrList

theorem Chip.shaped.startFlush {m : Chip} {again : Bool} (h : m.shaped) : (m.startFlush again).shaped := by
  unfold Chip.startFlush
  refine .ite h.update (.ite h ?_)
  split
  · exact h.update
  · exact h.update

theorem Chip.shaped.storesNext {m : Chip} (h : m.shaped) : m.storesNext.shaped := by
  unfold Chip.storesNext
  exact .ite h (.ite h.startCommit (.ite h.startCommit (.ite h.startFlush h)))

theorem Chip.shaped.flushDone {m : Chip} {p : Nat} (h : m.shaped) : (m.flushDone p).shaped := by
  unfold Chip.flushDone
  extract_lets
  exact .storesNext h.update

theorem Chip.shaped.flushFail {m : Chip} {p : Nat} {again : Bool} (h : m.shaped) : (m.flushFail p again).shaped := by
  unfold Chip.flushFail
  extract_lets m1 _ m2 _ m3 _
  have h1 : m1.shaped := h.orBits.fault
  clear_value m1
  have h2 : m2.shaped := h1.update
  clear_value m2
  have h3 : m3.shaped := h2.update
  clear_value m3
  exact .storesNext (.ite h3 h3.update)

theorem Chip.shaped.ledgerBoot {m : Chip} (h : m.shaped) : m.ledgerBoot.shaped := by
  unfold Chip.ledgerBoot
  extract_lets
  split
  · exact h.update
  · exact h.update

theorem Chip.shaped.retireSlot {m : Chip} {s cause page : Nat} (h : m.shaped) : (m.retireSlot s cause page).shaped := by
  unfold Chip.retireSlot
  extract_lets
  exact h.orBits.fault

theorem Chip.shaped.commitOver {m : Chip} {c : Commit} (h : m.shaped) : (m.commitOver c).shaped := h

theorem Chip.shaped.commitDone {m : Chip} {c : Commit} (h : m.shaped) : (m.commitDone c).shaped := by
  have h2 {m : Chip} (h : m.shaped) : ({ m with st := { m.st with commit := none } } : Chip).shaped := h.update
  unfold Chip.commitDone
  exact (h2 h.programCheck).ledger.raise.storesNext

theorem Chip.shaped.spoilWords {m : Chip} {s w n : Nat} (h : m.shaped) : (m.spoilWords s w n).shaped := by
  unfold Chip.spoilWords
  extract_lets m1
  have h1 : m1.shaped := h.wrList
  clear_value m1
  exact h1.update

theorem Chip.shaped.spoilStep {m : Chip} {c : Commit} (h : m.shaped) : (m.spoilStep c).shaped := by
  unfold Chip.spoilStep
  exact .ite h.spoilWords (.ite h.spoilWords h.spoilWords)

theorem Chip.shaped.commitVerify {m : Chip} {c : Commit} (h : m.shaped) : (m.commitVerify c).shaped := by
  unfold Chip.commitVerify
  extract_lets m1
  have h1 : m1.shaped := h.spoilStep.commitOver
  exact h1.nvmFail.retireSlot.storesNext

theorem Chip.shaped.commitCut {m : Chip} {c : Commit} (h : m.shaped) : (m.commitCut c).shaped := by
  unfold Chip.commitCut
  exact h.spoilStep.commitOver

theorem Chip.shaped.commitStop {m : Chip} {c : Commit} (h : m.shaped) : (m.commitStop c).shaped := by
  unfold Chip.commitStop
  extract_lets m1 _
  have h1 : m1.shaped := h.commitOver.nvmFail
  clear_value m1
  exact .storesNext h1.update

theorem Chip.shaped.tickCommit {m : Chip} (h : m.shaped) : m.tickCommit.shaped := by
  unfold Chip.tickCommit
  split
  · exact h
  · extract_lets _ m1 _ _ m2
    have h1 : m1.shaped := .ite h.programPage h
    clear_value m1
    have h2 : m2.shaped := h1.update
    exact .ite h2.commitStop h2

theorem Chip.shaped.storesWarn {m : Chip} (h : m.shaped) : m.storesWarn.shaped := by
  unfold Chip.storesWarn
  extract_lets _ m1 _ m2 _ m3 _
  have h1 : m1.shaped := .nvmFail h.update
  have h2 : m2.shaped := by
    unfold m2
    split
    · exact h.update
    · clear_value m1
      exact .ite h1.update h
  clear_value m2
  have h3 : m3.shaped := .ite h2.update h2
  split
  · clear_value m3
    exact .orBits h3.update
  · exact h3

theorem Chip.shaped.storesGood {m : Chip} (h : m.shaped) : m.storesGood.shaped := by
  unfold Chip.storesGood
  exact .storesNext h.update

theorem Chip.shaped.burn {m : Chip} {w : Nat} {v : Word} (h : m.shaped) : (m.burn w v).shaped := by
  unfold Chip.burn
  exact h.orBits

theorem Chip.shaped.burnList {m : Chip} {w : Nat} {l : List Word} (h : m.shaped) : (m.burnList w l).shaped := by
  induction l generalizing m w with
  | nil => exact h
  | cons v r ih => exact ih h.burn

theorem Chip.shaped.clearKeystg {m : Chip} (h : m.shaped) : m.clearKeystg.shaped := by
  unfold Chip.clearKeystg
  exact h.wrList

theorem Chip.shaped.otpProg {m : Chip} (h : m.shaped) : m.otpProg.shaped := by
  unfold Chip.otpProg
  extract_lets
  exact .ite h.orBits h.update

theorem Chip.shaped.otpKeyprog {m : Chip} {v : Word} (h : m.shaped) : (m.otpKeyprog v).shaped := by
  unfold Chip.otpKeyprog
  extract_lets
  exact .clearKeystg h.update

theorem Chip.shaped.writeOtpctl {m : Chip} {v : Word} (h : m.shaped) : (m.writeOtpctl v).shaped := by
  unfold Chip.writeOtpctl
  extract_lets _ m1 _
  have h1 : m1.shaped := h.plainWrite
  clear_value m1
  exact .ite h (.ite (.ite h.lockViolation h.lockViolation) (.ite h1.otpProg (.ite h1.otpKeyprog (.ite h1.update h1))))

theorem Chip.shaped.writeKeylock {m : Chip} {v : Word} (h : m.shaped) : (m.writeKeylock v).shaped := by
  unfold Chip.writeKeylock
  extract_lets
  exact .ite h h.update

theorem Chip.shaped.otpDone {m : Chip} {op : OtpOp} (h : m.shaped) : (m.otpDone op).shaped := by
  unfold Chip.otpDone
  extract_lets _ m1 _
  have h1 : m1.shaped := h.update
  split
  · extract_lets _ m2 _
    have h2 : m2.shaped := .ite h1.takeFree.burn h1.burn
    exact .ite h2 h2.orBits.fault
  · extract_lets m2
    have h2 : m2.shaped := h1.burn.burnList
    exact h2.burn
  · exact h1.burn
  · exact h1.burn

theorem Chip.shaped.otpCut {m : Chip} (h : m.shaped) : m.otpCut.shaped := by
  unfold Chip.otpCut
  split
  · exact h
  · extract_lets _ m1 _ _
    have h1 : m1.shaped := h.update
    split
    · exact h1.takeFree.burn
    · exact .ite h1.takeFree.takeFree.burn.burnList h1.takeFree.takeFree
    · exact h1.takeFree.burn
    · exact h1.takeFree.burn

theorem Chip.shaped.storesReset {m : Chip} (h : m.shaped) : m.storesReset.shaped := by
  unfold Chip.storesReset
  extract_lets m1 m2 m3 _
  have h1 : m1.shaped := by
    unfold m1
    split
    · exact h.commitCut
    · exact h
  have h2 : m2.shaped := h1.otpCut.loseStaging
  have h3 : m3.shaped := h2.clrBits
  clear_value m3
  exact .storesNext h3.update

theorem Chip.shaped.writeNvmctl {m : Chip} {v : Word} (h : m.shaped) : (m.writeNvmctl v).shaped := by
  unfold Chip.writeNvmctl
  extract_lets _ _ m1 _ m2 _ m3 _ m4
  have h1 : m1.shaped := by
    unfold m1
    refine .ite ?_ h
    split
    · exact h.update
    · exact h
  clear_value m1
  have h2 : m2.shaped := .ite h1.update h1
  clear_value m2
  have h3 : m3.shaped := h2.update
  clear_value m3
  have h4 : m4.shaped := .ite (.ite h3.update h3.tryCommit) h2
  exact .ite h4.startFlush h4

theorem Chip.shaped.writeNvm {m : Chip} {off : Nat} {v : Word} (h : m.shaped) : (m.writeNvm off v).shaped := by
  unfold Chip.writeNvm
  exact .ite (.ite h h.plainWrite) (.ite (.ite h h.plainWrite) (.ite (.ite h.retireSlot h) (.ite (.ite h (.plainWrite h.update)) h.plainWrite)))

theorem Chip.shaped.writeOtp {m : Chip} {off : Nat} {v : Word} (h : m.shaped) : (m.writeOtp off v).shaped := by
  unfold Chip.writeOtp
  exact h.plainWrite

theorem Chip.shaped.mapPort {m : Chip} {p : Nat} {f : WavePort → WavePort} (h : m.shaped) : (m.mapPort p f).shaped := by
  unfold Chip.mapPort
  exact h.update (ports := by simp [upd, h.ports])

theorem Chip.shaped.takeTaps {m : Chip} {p : Nat} (h : m.shaped) : (m.takeTaps p).shaped := by
  unfold Chip.takeTaps
  exact h.foldl (fun _ _ h => h.wrHeld)

theorem Chip.shaped.resyncPort {m : Chip} {p : Nat} (h : m.shaped) : (m.resyncPort p).shaped := by
  unfold Chip.resyncPort
  extract_lets m1
  have h1 : m1.shaped := h.takeTaps
  exact h1.mapPort

theorem Chip.shaped.frameTaken {m : Chip} {p : Nat} (h : m.shaped) : (m.frameTaken p).shaped := by
  unfold Chip.frameTaken
  exact h.mapPort

theorem Chip.shaped.tickPort {m : Chip} {p : Nat} (h : m.shaped) : (m.tickPort p).shaped := by
  unfold Chip.tickPort
  extract_lets
  exact .ite h.mapPort h

theorem Chip.shaped.tickWave {m : Chip} (h : m.shaped) : m.tickWave.shaped := by
  unfold Chip.tickWave
  extract_lets m1 _
  have h1 : m1.shaped := h.tickPort.tickPort.tickPort
  exact .ite h1.mapPort h1

theorem Chip.shaped.syncGain {m : Chip} {p : Nat} (h : m.shaped) : (m.syncGain p).shaped := by
  unfold Chip.syncGain
  exact h.resyncPort.mapPort

theorem Chip.shaped.syncWith {m : Chip} (h : m.shaped) : m.syncWith.shaped := by
  unfold Chip.syncWith
  exact .ite h.syncGain h

theorem Chip.shaped.startPort {m : Chip} {p : Nat} (h : m.shaped) : (m.startPort p).shaped := by
  unfold Chip.startPort
  extract_lets m1 m2 m3 _
  have h1 : m1.shaped := h.resyncPort
  have h2 : m2.shaped := h1.mapPort
  have h3 : m3.shaped := h2.syncWith
  clear_value m3
  exact .ite (h3.update (wchans := by simp [h3.wchans])) h3

theorem Chip.shaped.forgetBlock {m : Chip} {p : Nat} (h : m.shaped) : (m.forgetBlock p).shaped := by
  unfold Chip.forgetBlock
  exact .streamsIdle (h.update (streams := by simp [h.streams]))

theorem Chip.shaped.dropWaiting {m : Chip} {p : Nat} (h : m.shaped) : (m.dropWaiting p).shaped := by
  unfold Chip.dropWaiting
  refine .ite ?_ h
  extract_lets m1 m2
  have h1 : m1.shaped := h.forgetBlock
  have h2 : m2.shaped := h1.bump.orBits.raise
  exact h2.mapPort

theorem Chip.shaped.blockEnd {m : Chip} {p : Nat} {short : Bool} (h : m.shaped) : (m.blockEnd p short).shaped := by
  unfold Chip.blockEnd
  extract_lets m1 _ _ _ m2 _ _ _ _ _ m3 m4
  have h1 : m1.shaped := h.dropWaiting
  have h2 : m2.shaped := .ite h1.takeFreeNat h1
  have h3 : m3.shaped := h2.wr32
  have h4 : m4.shaped := h3.mapPort
  exact h4.offer.takeTaps

theorem Chip.shaped.inputFrame {m : Chip} {p : Nat} {slots : List (BitVec 32)} (h : m.shaped) :
    (m.inputFrame p slots).shaped := by
  unfold Chip.inputFrame
  extract_lets _ _ _ _ _ _ _ _ m1
  have h1 : m1.shaped := h.mapPort
  exact .ite h.mapPort (.ite h1.blockEnd.mapPort (.ite h1.blockEnd h1))

theorem Chip.shaped.syncLoss {m : Chip} {p : Nat} {clockLost : Bool} (h : m.shaped) :
    (m.syncLoss p clockLost).shaped := by
  unfold Chip.syncLoss
  extract_lets m1 m2
  have h1 : m1.shaped := .ite h h.blockEnd
  have h2 : m2.shaped := h1.bump.orBits
  exact h2.mapPort.raise

theorem Chip.shaped.playLoss {m : Chip} (h : m.shaped) : m.playLoss.shaped := by
  unfold Chip.playLoss
  extract_lets m1 m2 _
  have h1 : m1.shaped := h.bump.orBits
  have h2 : m2.shaped := h1.mapPort
  clear_value m2
  exact .raise h2.update

theorem Chip.shaped.mapWp {m : Chip} {c : Nat} {f : WpChan → WpChan} (h : m.shaped) : (m.mapWp c f).shaped := by
  unfold Chip.mapWp
  exact h.update (wchans := by simp [upd, h.wchans])

theorem Chip.shaped.outputFrame {m : Chip} (h : m.shaped) : m.outputFrame.shaped := by
  unfold Chip.outputFrame
  exact Chip.shaped.update (foldl_fst h fun _ _ h => .ite h.mapWp.bump h.mapWp)

theorem Chip.shaped.playEnd {m : Chip} (h : m.shaped) : m.playEnd.shaped := by
  unfold Chip.playEnd
  extract_lets _ m1
  have h1 : m1.shaped := h.update
  exact h1.orBits.raiseIf

theorem Chip.shaped.wp2Frame {m : Chip} (h : m.shaped) : m.wp2Frame.shaped := by
  unfold Chip.wp2Frame
  refine .ite (.ite h.playEnd.outputFrame ?_) h.outputFrame
  extract_lets m1 _ _ _ _
  have h1 : m1.shaped := h.outputFrame
  clear_value m1
  exact .ite h1.update (.ite h1.playEnd h1.update)

theorem Chip.shaped.playAsk {m : Chip} (h : m.shaped) : m.playAsk.shaped := by
  unfold Chip.playAsk
  extract_lets
  exact .ite h.orBits (.ite h h.update)

theorem Chip.shaped.playStart {m : Chip} (h : m.shaped) : m.playStart.shaped := by
  unfold Chip.playStart
  exact .wr64 h.update

theorem Chip.shaped.closePort {m : Chip} {p : Nat} (h : m.shaped) : (m.closePort p).shaped := by
  unfold Chip.closePort
  extract_lets m1 _ _ _
  have h1 : m1.shaped := h.mapPort
  clear_value m1
  exact .ite (h1.update (wchans := by simp [h1.wchans])) h1

theorem Chip.shaped.stopPort {m : Chip} {p : Nat} (h : m.shaped) : (m.stopPort p).shaped := by
  unfold Chip.stopPort
  refine .ite h.startPort ?_
  extract_lets _ m1 m2 _
  have h1 : m1.shaped := h.mapPort
  have h2 : m2.shaped := .ite h1.syncLoss h1
  clear_value m2
  exact .ite h2.update h2

theorem Chip.shaped.writePortEn {m : Chip} {p : Nat} {old new : Bool} (h : m.shaped) :
    (m.writePortEn p old new).shaped := by
  unfold Chip.writePortEn
  refine .ite h.clrBits.orBits ?_
  extract_lets _ _ m1 m2
  have h1 : m1.shaped := h.mapPort
  have h2 : m2.shaped := .ite h1.startPort h1
  exact .ite h2.closePort h2

theorem Chip.shaped.writeMutes {m : Chip} {v : Word} (h : m.shaped) : (m.writeMutes v).shaped := by
  unfold Chip.writeMutes
  extract_lets _ _ m1
  have h1 : m1.shaped := h.plainWrite
  exact h1.foldl (fun _ _ h => h.mapWp)

theorem Chip.shaped.writeWpctl {m : Chip} {v : Word} (h : m.shaped) : (m.writeWpctl v).shaped := by
  unfold Chip.writeWpctl
  extract_lets _ m1 m2 m3 m4 m5 _
  have h1 : m1.shaped := h.plainWrite
  have h2 : m2.shaped := h1.foldl (fun _ _ h => h.writePortEn)
  have h3 : m3.shaped := h2.foldl (fun _ _ h => (.ite h.resyncPort h))
  have h4 : m4.shaped := .ite h3.writeMutes h3
  have h5 : m5.shaped := .ite h4.playAsk h4
  clear_value m5
  exact .ite h5.update (.ite h5.update h5)

theorem Chip.shaped.wavesSleep {m : Chip} (h : m.shaped) : m.wavesSleep.shaped := by
  unfold Chip.wavesSleep
  extract_lets m1 m2 _
  have h1 : m1.shaped := by
    unfold m1
    refine h.foldl ?_
    intro m a h
    extract_lets _ m2
    have h2 : m2.shaped := .ite h.bump h
    exact h2.mapPort
  have h2 : m2.shaped := h1.mapPort
  clear_value m2
  exact h2.update

theorem Chip.shaped.wavesStart {m : Chip} (h : m.shaped) : m.wavesStart.shaped := by
  unfold Chip.wavesStart
  exact h.foldl (fun _ _ h => (.ite h.startPort h))

theorem Chip.shaped.writeWave {m : Chip} {off : Nat} {v : Word} (h : m.shaped) : (m.writeWave off v).shaped := by
  unfold Chip.writeWave
  refine .ite (.ite h h.plainWrite.noteDup) (.ite ?_ (.ite h.wrHeld (.ite h.wrList (.ite ?_ (.ite h.writeMutes h.plainWrite)))))
  · extract_lets
    exact .ite h h.plainWrite
  · extract_lets
    exact h.plainWrite.mapWp

theorem Chip.shaped.mapCam {m : Chip} {p : Nat} {f : CamPort → CamPort} (h : m.shaped) : (m.mapCam p f).shaped := by
  unfold Chip.mapCam
  exact h.update (cams := by simp [upd, h.cams])

theorem Chip.shaped.setCamFrame {m : Chip} {p : Nat} {f : CamFrame} (h : m.shaped) : (m.setCamFrame p f).shaped := by
  unfold Chip.setCamFrame
  exact h.mapCam

theorem Chip.shaped.csiError {m : Chip} {p i : Nat} {bit : Option Nat} (h : m.shaped) :
    (m.csiError p i bit).shaped := by
  unfold Chip.csiError
  extract_lets m1
  have h1 : m1.shaped := h.bump
  split
  · exact h1
  · exact h1.orBits.raiseIf

theorem Chip.shaped.flagCam {m : Chip} {p : Nat} {f : CamFrame} {bits : Word} (h : m.shaped) :
    (m.flagCam p f bits).shaped := by
  unfold Chip.flagCam
  split
  · exact h.update (streams := by simp [h.streams])
  · exact h

theorem Chip.shaped.bindCam {m : Chip} {p : Nat} {f : CamFrame} {dt : Nat} (h : m.shaped) :
    (m.bindCam p f dt).1.shaped := by
  unfold Chip.bindCam
  split
  · exact h.csiError.setCamFrame
  · exact h.wr32.setCamFrame.openFrame

theorem Chip.shaped.camOverflow {m : Chip} {p s : Nat} (h : m.shaped) : (m.camOverflow p s).shaped := by
  unfold Chip.camOverflow
  refine h.foldl ?_
  intro m a h
  refine .ite ?_ h
  split
  · exact h
  · exact h.flagFrame.dropHeld.csiError

theorem Chip.shaped.passLine {m : Chip} {p : Nat} {f : CamFrame} {r dt width : Nat} {payload : List Byte} (h : m.shaped) :
    (m.passLine p f r dt width payload).shaped := by
  unfold Chip.passLine
  exact h.offer.camOverflow

theorem Chip.shaped.camPipe {m : Chip} {p : Nat} {f : CamFrame} {r dt : Nat} (h : m.shaped) :
    (m.camPipe p f r dt).shaped := by
  unfold Chip.camPipe
  exact .ite h h.pipeOpen

theorem Chip.shaped.camRow {m : Chip} {p : Nat} {f : CamFrame} {r : Nat} {vals : List Nat} (h : m.shaped) :
    (m.camRow p f r vals).shaped := by
  unfold Chip.camRow
  extract_lets _ _ _ m1 m2
  have h1 : m1.shaped := .ite h.orBits.bump h
  have h2 : m2.shaped := h1.setCamFrame
  exact .ite h (.ite h.update h2.storeRow.camOverflow)

theorem Chip.shaped.camLine {m : Chip} {p : Nat} {f : CamFrame} {r dt : Nat} {vals : List Nat} {payload : List Byte} (h : m.shaped) :
    (m.camLine p f r dt vals payload).shaped := by
  unfold Chip.camLine
  extract_lets _ m1 _ m2
  have h1 : m1.shaped := .ite h h.flagCam
  have h2 : m2.shaped := .ite h1.passLine h1.camPipe.camRow
  split
  · exact h2.setCamFrame
  · exact h2

theorem Chip.shaped.camPacket {m : Chip} {p : Nat} {f : CamFrame} {dt : Nat} {vals : List Nat} {payload : List Byte}
    {ok : Bool} (h : m.shaped) : (m.camPacket p f dt vals payload ok).shaped := by
  unfold Chip.camPacket
  extract_lets b m1 f1
  have hb : b.1.shaped := by
    unfold b
    split
    · exact h.bindCam
    · exact h
  have h1 : m1.shaped := .ite hb hb.flagCam.csiError
  split
  · exact .ite h1.camLine (.ite h1.passLine h1)
  · exact h1

theorem Chip.shaped.openCam {m : Chip} {p vc : Nat} {fn : Word} (h : m.shaped) : (m.openCam p vc fn).shaped := by
  unfold Chip.openCam
  extract_lets m1
  have h1 : m1.shaped := .ite h.boundaryTake h
  exact h1.mapCam

theorem Chip.shaped.closeCam {m : Chip} {p : Nat} {f : CamFrame} {bits : Word} (h : m.shaped) :
    (m.closeCam p f bits).shaped := by
  unfold Chip.closeCam
  extract_lets m1
  have h1 : m1.shaped := h.flagCam.mapCam
  split
  · extract_lets m2
    clear_value m1
    have h2 : m2.shaped := h1.update (streams := by simp [m2, h1.streams])
    exact h2.pipeEnd.formEnds.insrcTake
  · exact h1.insrcTake

theorem Chip.shaped.closeCams {m : Chip} {p : Nat} (h : m.shaped) : (m.closeCams p).shaped := by
  unfold Chip.closeCams
  exact h.foldl (fun _ _ h => h.closeCam)

theorem Chip.shaped.startCam {m : Chip} {p : Nat} (h : m.shaped) : (m.startCam p).shaped := by
  unfold Chip.startCam
  refine .ite h.mapCam.orBits ?_
  extract_lets m1
  have h1 : m1.shaped := h.foldl (fun _ _ h => h.wrHeld)
  exact h1.mapCam

theorem Chip.shaped.writePctl {m : Chip} {p : Nat} {v : Word} (h : m.shaped) : (m.writePctl p v).shaped := by
  unfold Chip.writePctl
  extract_lets _ _ m1 _ m2
  have h1 : m1.shaped := h.plainWrite
  have h2 : m2.shaped := h1.mapCam
  exact .ite h2.startCam h2

theorem Chip.shaped.stopCam {m : Chip} {p : Nat} (h : m.shaped) : (m.stopCam p).shaped := by
  unfold Chip.stopCam
  extract_lets m1
  have h1 : m1.shaped := h.closeCams
  exact .ite h1.startCam h1.mapCam

theorem Chip.shaped.camsSleep {m : Chip} (h : m.shaped) : m.camsSleep.shaped := by
  unfold Chip.camsSleep
  exact h.foldl (fun _ _ h => h.closeCams.mapCam)

theorem Chip.shaped.camsStart {m : Chip} (h : m.shaped) : m.camsStart.shaped := by
  unfold Chip.camsStart
  exact h.foldl (fun _ _ h => (.ite h.startCam h))

theorem Chip.shaped.writeCsi {m : Chip} {off : Nat} {v : Word} (h : m.shaped) : (m.writeCsi off v).shaped := by
  unfold Chip.writeCsi
  exact .ite h.writePctl (.ite h h.plainWrite)

theorem Chip.shaped.pcamError {m : Chip} (h : m.shaped) : m.pcamError.shaped := by
  unfold Chip.pcamError
  exact h.bump.raise

theorem Chip.shaped.mapLink {m : Chip} {f : Link → Link} (h : m.shaped)
    (hf : (f m.link).lanes.length = m.link.lanes.length := by rfl) : (m.mapLink f).shaped := by
  unfold Chip.mapLink
  exact h.update (lanes := hf)

theorem Chip.shaped.mapLane {m : Chip} {n : Nat} {f : Lane → Lane} (h : m.shaped) : (m.mapLane n f).shaped := by
  unfold Chip.mapLane
  exact h.mapLink (hf := by simp [upd])

theorem Chip.shaped.sendColumn {m : Chip} {f : Nat → Nat → Bool × List Byte} (h : m.shaped) :
    (m.sendColumn f).shaped := by
  unfold Chip.sendColumn
  exact .mapLink (foldl_fst h fun _ _ h => h.mapLane)

theorem Chip.shaped.alignCol {m : Chip} {reconf : Bool} (h : m.shaped) : (m.alignCol reconf).shaped := by
  unfold Chip.alignCol
  exact h.sendColumn

theorem Chip.shaped.markerCol {m : Chip} (h : m.shaped) : m.markerCol.shaped := by
  unfold Chip.markerCol
  exact h.mapLink.alignCol.mapLink

theorem Chip.shaped.idleCol {m : Chip} (h : m.shaped) : m.idleCol.shaped := by
  unfold Chip.idleCol
  exact h.sendColumn.mapLink

theorem Chip.shaped.packetColumn {m : Chip} {f : Nat → Nat → Bool × List Byte} (h : m.shaped) :
    (m.packetColumn f).shaped := by
  unfold Chip.packetColumn
  extract_lets m1 m2
  have h1 : m1.shaped := .ite h.markerCol h
  have h2 : m2.shaped := .ite h1.idleCol h1
  exact h2.sendColumn

theorem Chip.shaped.sessionEnd {m : Chip} (h : m.shaped) : m.sessionEnd.shaped := by
  unfold Chip.sessionEnd
  exact .mapLink (h.update (streams := by simp [h.streams]))

theorem Chip.shaped.trainLane {m : Chip} {rate n : Nat} (h : m.shaped) : (m.trainLane rate n).shaped := by
  unfold Chip.trainLane
  refine .ite h ?_
  extract_lets _ _ _ m1
  have h1 : m1.shaped := h.mapLane
  exact .ite h1.orBits h1

theorem Chip.shaped.train {m : Chip} (h : m.shaped) : m.train.shaped := by
  unfold Chip.train
  extract_lets m1 _ _ m2
  have h1 : m1.shaped := h.mapLink
  have h2 : m2.shaped := h1.sessionEnd.mapLink
  exact .ite (h2.foldl (fun _ _ h => h.trainLane)) h1

theorem Chip.shaped.requestTrain {m : Chip} (h : m.shaped) : m.requestTrain.shaped := by
  unfold Chip.requestTrain
  exact .ite h.mapLink h.train

theorem Chip.shaped.lanesOff {m : Chip} (h : m.shaped) : m.lanesOff.shaped := by
  unfold Chip.lanesOff
  exact h.sessionEnd.mapLink (hf := by simp)

theorem Chip.shaped.linkOff {m : Chip} (h : m.shaped) : m.linkOff.shaped := by
  unfold Chip.linkOff
  extract_lets _ m1
  have h1 : m1.shaped := h.lanesOff.mapLink
  exact .ite h1.train h1

theorem Chip.shaped.linkBoundary {m : Chip} (h : m.shaped) : m.linkBoundary.shaped := by
  unfold Chip.linkBoundary
  exact .ite h (.ite h.linkOff (.ite h.train h))

theorem Chip.shaped.discardFrame {m : Chip} {s : Nat} {f : Frame} (h : m.shaped) : (m.discardFrame s f).shaped := by
  unfold Chip.discardFrame
  extract_lets _ _ m1
  have h1 : m1.shaped := h.mapStream
  exact h1.foldl (fun _ _ h => h.freeRec)

theorem Chip.shaped.cutFrame {m : Chip} {s : Nat} {f : Frame} {bits : Word} (h : m.shaped) :
    (m.cutFrame s f bits).shaped := by
  unfold Chip.cutFrame
  exact h.discardFrame.mapFrames

theorem Chip.shaped.endFlight {m : Chip} {bits : Word} (h : m.shaped) : (m.endFlight bits).shaped := by
  unfold Chip.endFlight
  split
  · exact h
  · extract_lets m1
    have h1 : m1.shaped := h.mapLink
    split
    · exact h1.cutFrame
    · exact h1.mapStream.freeRec

theorem Chip.shaped.retireLane {m : Chip} {n cause : Nat} (h : m.shaped) : (m.retireLane n cause).shaped := by
  unfold Chip.retireLane
  exact h.mapLane.ledger

theorem Chip.shaped.laneFault {m : Chip} {n cause : Nat} (h : m.shaped) : (m.laneFault n cause).1.shaped := by
  unfold Chip.laneFault
  split
  · extract_lets x m1 m2 rest detail fn m3 m4
    have h1 : m1.shaped := .ite h.endFlight.bump h
    have h3 : m3.shaped := h1.retireLane.writeRecordFn.raise
    have h4 : m4.shaped := .ite h3.sessionEnd.mapLink h3.alignCol
    exact h4.raise.linkBoundary
  · exact h

theorem Chip.shaped.retireRequest {m : Chip} {mask : BitVec 4} (h : m.shaped) : (m.retireRequest mask).1.shaped := by
  unfold Chip.retireRequest
  dsimp only
  split
  · exact h
  · split
    · exact h.orBits
    · exact h.mapLink

theorem Chip.shaped.applyRetire {m : Chip} (h : m.shaped) : m.applyRetire.shaped := by
  unfold Chip.applyRetire
  extract_lets _ _ m1
  have h1 : m1.shaped := h.mapLink
  exact .ite h1 (.ite h1.orBits (.raise (.alignCol (h1.foldl (fun _ _ h => h.retireLane)))))

theorem Chip.shaped.restoreLanes {m : Chip} {sel : Nat} (h : m.shaped) : (m.restoreLanes sel).shaped := by
  unfold Chip.restoreLanes
  exact h.mapLink (hf := by simp [h.lanes])

theorem Chip.shaped.writeLinkctl {m : Chip} {v : Word} (h : m.shaped) : (m.writeLinkctl v).shaped := by
  unfold Chip.writeLinkctl
  refine .ite h ?_
  extract_lets _ m1 m2 m3 m4
  have h1 : m1.shaped := h.plainWrite
  have h2 : m2.shaped := h1.mapLink
  have h3 : m3.shaped := .ite h2.restoreLanes h2
  have h4 : m4.shaped := .ite (.ite h3.mapLink h3.linkOff) (.ite h3.requestTrain h3)
  exact .ite h4.retireRequest h4

theorem Chip.shaped.writeLink {m : Chip} {off : Nat} {v : Word} (h : m.shaped) : (m.writeLink off v).shaped := by
  unfold Chip.writeLink
  exact .ite h (.ite h (.ite h (.ite h h.plainWrite)))

theorem Chip.shaped.linkWake {m : Chip} (h : m.shaped) : m.linkWake.shaped := by
  unfold Chip.linkWake
  exact .ite h.mapLink.train h

theorem Chip.shaped.linkSleep {m : Chip} (h : m.shaped) : m.linkSleep.shaped := by
  unfold Chip.linkSleep
  extract_lets _ m1
  have h1 : m1.shaped := h.lanesOff.mapLink
  exact .ite h1.mapLink h1

theorem Chip.shaped.resetLnkphy {m : Chip} (h : m.shaped) : m.resetLnkphy.shaped := by
  unfold Chip.resetLnkphy
  extract_lets m1 m2 _ m3
  have h1 : m1.shaped := h.wrList.clrBits
  have h2 : m2.shaped := .ite h1.endFlight.bump h1
  have h3 : m3.shaped := h2.lanesOff.mapLink
  exact .ite h3.mapLink.train h3.train

theorem Chip.shaped.latchSeal {m : Chip} {s : Nat} {f : Frame} (h : m.shaped) : (m.latchSeal s f).shaped := by
  unfold Chip.latchSeal
  extract_lets
  exact .ite h (.ite h.mapFrames h.mapFrames.bump.fault)

theorem Chip.shaped.sendRest {m : Chip} {bytes : List Byte} {k : Nat} (h : m.shaped) : (m.sendRest bytes k).shaped := by
  induction k generalizing m bytes with
  | zero => exact h
  | succ k ih => exact .ite h (ih h.packetColumn)

theorem Chip.shaped.startPacket {m : Chip} {s : Nat} (h : m.shaped) : (m.startPacket s).shaped := by
  unfold Chip.startPacket
  split
  · exact h
  · extract_lets m1 _ _ _ _ m2
    have h1 : m1.shaped := by
      unfold m1
      split
      · exact h.latchSeal
      · exact h
    have h2 : m2.shaped := h1.mapStream
    clear_value m2
    exact h2.packetColumn.mapLink

theorem Chip.shaped.frameSent {m : Chip} {s : Nat} {f : Frame} (h : m.shaped) : (m.frameSent s f).shaped := by
  unfold Chip.frameSent
  extract_lets m1 _ m2
  have h1 : m1.shaped := h.mapStream
  have h2 : m2.shaped := .ite h1.wr32 h1
  exact .ite h2 h2.mapLink

theorem Chip.shaped.packetSent {m : Chip} {x : Flight} (h : m.shaped) : (m.packetSent x).shaped := by
  unfold Chip.packetSent
  extract_lets _ m1 _ _ m2 m3 m4 m5
  have h1 : m1.shaped := h.sendRest.mapLink
  have h2 : m2.shaped := by
    unfold m2
    split
    · exact h1.mapFrames
    · exact h1
  have h3 : m3.shaped := h2.mapStream.freeRec
  have h4 : m4.shaped := by
    unfold m4
    refine .ite ?_ h2.mapStream
    split
    · exact h3.frameSent
    · exact h3
  have h5 : m5.shaped := by
    unfold m5
    split
    · exact h4.bump
    · exact h4
  exact h5.streamIdle.linkBoundary

theorem Chip.shaped.linkup {m : Chip} {mask : BitVec 4} (h : m.shaped) : (m.linkup mask).1.shaped := by
  unfold Chip.linkup
  dsimp only
  split
  · exact h
  · have hl : m.link.lanes.length = 4 := h.lanes
    have h1 := h.update (t := m.mapLink fun l => { l with
      st := 2, trainFrom := none, lanes := (l.lanes.zip [0, 1, 2, 3]).map (fun p =>
        if p.1.st = .train then
          { p.1 with st := if (mask &&& BitVec.ofNat 4 (m.lanesIn .train)).getLsbD p.2 then .active else .unused }
        else p.1) })
      (lanes := by simp [Chip.mapLink, hl])
    exact (Chip.shaped.wr (h1.update (streams := by simp))).alignCol.raise

theorem Chip.shaped.giveCredit {m : Chip} {s : Nat} {inf : Bool} {n : Nat} (h : m.shaped) :
    (m.giveCredit s inf n).shaped := by
  unfold Chip.giveCredit
  exact h.mapStream

theorem Chip.shaped.writeSeallock {m : Chip} {v : Word} (h : m.shaped) : (m.writeSeallock v).shaped := by
  unfold Chip.writeSeallock
  extract_lets
  exact h

theorem Chip.shaped.writeSeal {m : Chip} {off : Nat} {v : Word} (h : m.shaped) : (m.writeSeal off v).shaped := by
  unfold Chip.writeSeal
  exact .ite h.writeSeallock (.ite h.lockViolation h.plainWrite)

theorem Chip.shaped.sealRestore {m : Chip} (h : m.shaped) : m.sealRestore.shaped := by
  unfold Chip.sealRestore
  exact h.foldl (fun _ _ h => (.ite h.wr h))

theorem Chip.shaped.resetLnkpkt {m : Chip} (h : m.shaped) : m.resetLnkpkt.shaped := by
  unfold Chip.resetLnkpkt
  extract_lets m1 m2 m3 m4
  have h1 : m1.shaped := h.endFlight
  have h2 : m2.shaped := by
    unfold m2
    refine h1.foldl ?_
    intro m a h
    extract_lets
    exact h.foldl (fun _ _ h => h.cutFrame)
  clear_value m2
  have h3 : m3.shaped := h2.update (streams := by simp [m3, h2.streams])
  clear_value m3
  have h4 : m4.shaped := h3.update
  exact h4.linkBoundary

theorem Chip.shaped.ackWrite {m : Chip} {s : Nat} {nak : Bool} {fn : Long} (h : m.shaped) :
    (m.ackWrite s nak fn).shaped := by
  unfold Chip.ackWrite
  extract_lets m1
  have h1 : m1.shaped := h.wr32
  exact .ite h1.bump h1

theorem Chip.shaped.bootField {m : Chip} {lo n v : Nat} (h : m.shaped) : (m.bootField lo n v).shaped := by
  unfold Chip.bootField
  exact h.wr

theorem Chip.shaped.coreLoss {m : Chip} (h : m.shaped) : m.coreLoss.shaped :=
  chip_reset_shaped.update (slp := h.slp.trans chip_reset_shaped.slp.symm)

theorem Chip.shaped.pinsDown {m : Chip} (h : m.shaped) : m.pinsDown.shaped := by
  unfold Chip.pinsDown
  exact .ite h h.pinsSleep

theorem Chip.shaped.storesCut {m : Chip} (h : m.shaped) : m.storesCut.shaped := by
  unfold Chip.storesCut
  extract_lets m1 _ m2
  have h1 : m1.shaped := h.otpCut
  clear_value m1
  have h2 : m2.shaped := h1.update
  split
  · exact h2.commitCut
  · exact h2

theorem Chip.shaped.strapOptions {m : Chip} (h : m.shaped) : m.strapOptions.shaped := by
  unfold Chip.strapOptions
  extract_lets m1
  have h1 : m1.shaped := .ite h h.wr
  exact .ite h1 h1.wr

theorem Chip.shaped.sysReset {m : Chip} {cause which : Nat} (h : m.shaped) : (m.sysReset cause which).shaped := by
  unfold Chip.sysReset
  extract_lets m1 _ _ m2 m3 m4 _
  have h1 : m1.shaped := h.strobesLow.pinsDown.storesCut
  have h2 : m2.shaped := h1.coreLoss
  have h3 : m3.shaped := h2.wr.wr.wr.wr.wr
  have h4 : m4.shaped := h3.wr
  clear_value m4
  exact h4.update

theorem Chip.shaped.allLost {m : Chip} : m.allLost.shaped := chip_reset_shaped.update

theorem Chip.shaped.imageSlp {m : Chip} (h : m.shaped) : m.imageSlp.shaped := by
  unfold Chip.imageSlp
  exact h.update (slp := by simp [h.slp])

theorem Chip.shaped.loadImage {m : Chip} (h : m.shaped) : m.loadImage.shaped := by
  unfold Chip.loadImage
  extract_lets m1 m2 _ _
  have h1 : m1.shaped := h.foldl (fun _ _ h => (h.foldl (fun _ _ h => h.wr)))
  have h2 : m2.shaped := .ite h1.orBits h1
  clear_value m2
  exact .noteDup (.imageSlp h2.update)

theorem Chip.shaped.applyTargets {m : Chip} (h : m.shaped) : m.applyTargets.shaped := by
  unfold Chip.applyTargets
  extract_lets _ m1 _
  have h1 : m1.shaped := h.update
  clear_value m1
  exact h1.update (applied := by simp [h1.applied])

theorem Chip.shaped.factorySlice {m : Chip} {g p : Nat} (h : m.shaped) : (m.factorySlice g p).shaped := by
  unfold Chip.factorySlice
  extract_lets
  exact .ite h h.setTrim.setTrim.setTrim.setTrim

theorem Chip.shaped.factoryLoad {m : Chip} (h : m.shaped) : m.factoryLoad.shaped := by
  unfold Chip.factoryLoad
  refine .ite h ?_
  extract_lets m1 m2 m3
  have h1 : m1.shaped := h.foldl (fun _ _ h => (h.foldl (fun _ _ h => h.factorySlice)))
  have h2 : m2.shaped := h1.wrList
  have h3 : m3.shaped := h2.wrList
  exact h3.wrList

theorem Chip.shaped.tablesLoad {m : Chip} {whole : Bool} (h : m.shaped) : (m.tablesLoad whole).shaped := by
  unfold Chip.tablesLoad
  extract_lets m1 m2
  have h1 : m1.shaped := .ite h.factoryLoad h
  have h2 : m2.shaped := by
    unfold m2
    split
    · clear_value m1
      exact .bootField h1.update
    · exact h1.bootField
  exact h2.applyTargets.calForce

theorem Chip.shaped.keepSave {m : Chip} (h : m.shaped) : m.keepSave.shaped := h

theorem Chip.shaped.disarmRam {m : Chip} (h : m.shaped) : m.disarmRam.shaped := by
  unfold Chip.disarmRam
  exact h.foldl (fun _ _ h => (.ite h h.setArmed))

theorem Chip.shaped.keepRestore {m : Chip} {words : Bank} {small : List Nat} (h : m.shaped) :
    (m.keepRestore words small).shaped := by
  unfold Chip.keepRestore
  extract_lets m1 _ _ _ _ _ _ _ m2
  have h1 : m1.shaped := h.update
  clear_value m1
  have h2 : m2.shaped := h1.update (lanes := by simp [m2, h1.lanes]) (chans := by simp [m2, h1.chans])
  exact .disarmRam (h2.foldl (fun _ _ h => h.wrHeld))

theorem Chip.shaped.bootDone {m : Chip} (h : m.shaped) : m.bootDone.shaped := by
  unfold Chip.bootDone
  extract_lets _ _ m1 m2
  have h1 : m1.shaped := h.update
  have h2 : m2.shaped := h1.bootField.bootField.strapOptions
  exact .ite h2.imageSlp h2

theorem Chip.shaped.deferredOut {m : Chip} (h : m.shaped) : m.deferredOut.shaped := by
  unfold Chip.deferredOut
  extract_lets _ _ _ m1 m2 _ m3
  have h1 : m1.shaped := h.update
  have h2 : m2.shaped := h1.orBits.orBits
  have h3 : m3.shaped := h2.foldl (fun _ _ h => h.writeRecord)
  exact h3.raiseIf

theorem Chip.shaped.unitsStart {m : Chip} (h : m.shaped) : m.unitsStart.shaped := by
  unfold Chip.unitsStart
  extract_lets
  exact h.update (movers := by simp [h.movers]) (streams := by simp [h.streams])

theorem Chip.shaped.storesStart {m : Chip} {reset por : Bool} (h : m.shaped) : (m.storesStart reset por).shaped := by
  unfold Chip.storesStart
  extract_lets _ m1
  have h1 : m1.shaped := .ite h.update h
  exact .ite h1.ledgerBoot h1

theorem Chip.shaped.keepStep {m : Chip} (h : m.shaped) : m.keepStep.1.shaped := by
  unfold Chip.keepStep
  split
  · exact h.keepRestore.bootField
  · exact (Chip.shaped.loadImage h.update).orBits.bootField

theorem Chip.shaped.wakeCore {m : Chip} (h : m.shaped) : m.wakeCore.shaped := by
  unfold Chip.wakeCore
  extract_lets _ _ _ m1 _ m2 m3 m4 _ m5 m6 m7
  have h1 : m1.shaped := h.update
  have h2 : m2.shaped := h1.keepStep.strapOptions.tablesLoad
  have h3 : m3.shaped := h2.unitsStart.sealRestore.storesStart
  have h4 : m4.shaped := h3.stbResume
  clear_value m4
  have h5 : m5.shaped := h4.update
  have h6 : m6.shaped := h5.deferredOut.bootField
  have h7 : m7.shaped := h6.storesNext
  exact h7.linkWake

theorem Chip.shaped.warnTrim {m : Chip} (h : m.shaped) : m.warnTrim.shaped := by
  unfold Chip.warnTrim
  exact h.foldl (fun _ _ h => (.ite h h.clrBits))

theorem Chip.shaped.wakeFire {m : Chip} {n : Nat} (h : m.shaped) : (m.wakeFire n).shaped := by
  unfold Chip.wakeFire
  refine .ite ?_ h
  extract_lets _ m1 m2 _ _
  have h1 : m1.shaped := h.orBits
  have h2 : m2.shaped := .ite h1.wr h1
  clear_value m2
  exact h2.update

theorem Chip.shaped.levelWakes {m : Chip} (h : m.shaped) : m.levelWakes.shaped := by
  unfold Chip.levelWakes
  refine h.foldl ?_
  intro m a h
  extract_lets
  exact .ite h.wakeFire h

theorem Chip.shaped.setSeq {m : Chip} {q : Option Seq} (h : m.shaped) : (m.setSeq q).shaped := h

theorem Chip.shaped.pixStart {m : Chip} (h : m.shaped) : m.pixStart.shaped := h

theorem Chip.shaped.runIdleNow {m : Chip} (h : m.shaped) : m.runIdleNow.shaped := by
  unfold Chip.runIdleNow
  extract_lets m1 m2 m3 m4 _
  have h1 : m1.shaped := h.strobesLow.drainNodes
  have h2 : m2.shaped := by
    unfold m2
    split
    · exact h1.marlLeave
    · exact h1
  have h3 : m3.shaped := h2.foldl (fun _ _ h => h.clearHist)
  have h4 : m4.shaped := by
    unfold m4
    split
    · exact h3.runEnd
    · exact h3
  clear_value m4
  exact h4.update

theorem Chip.shaped.runIdleEnd {m : Chip} (h : m.shaped) : m.runIdleEnd.shaped := by
  unfold Chip.runIdleEnd
  exact .bootField (.warnTrim h.update)

theorem Chip.shaped.leaveRun {m : Chip} (h : m.shaped) : m.leaveRun.shaped := by
  unfold Chip.leaveRun
  extract_lets m1
  have h1 : m1.shaped := .ite h.abortCapture h
  exact .ite h1.setSeq h1.runIdleNow

theorem Chip.shaped.dozeEntry {m : Chip} (h : m.shaped) : m.dozeEntry.shaped := by
  unfold Chip.dozeEntry
  extract_lets m1
  have h1 : m1.shaped := .ite h.dropStaged.orBits h
  exact h1.camsSleep.wavesSleep.setSeq

theorem Chip.shaped.clocksBack {m : Chip} (h : m.shaped) : m.clocksBack.shaped := by
  unfold Chip.clocksBack
  extract_lets _ m1 m2 _ m3
  have h1 : m1.shaped := h.update
  have h2 : m2.shaped := h1.stbResume
  clear_value m2
  have h3 : m3.shaped := h2.update
  exact h3.linkWake

theorem Chip.shaped.drainGiveUp {m : Chip} (h : m.shaped) : m.drainGiveUp.shaped := by
  unfold Chip.drainGiveUp
  extract_lets _ m1 _
  have h1 : m1.shaped := h.update
  clear_value m1
  exact .ite h1 (.orBits (h1.update (streams := by simp [h1.streams])))

theorem Chip.shaped.dropHeldTriggers {m : Chip} (h : m.shaped) : m.dropHeldTriggers.shaped := by
  unfold Chip.dropHeldTriggers
  refine .ite h ?_
  extract_lets m1 _ _ _
  have h1 : m1.shaped := h.foldl (fun _ _ h => h.bump)
  clear_value m1
  exact h1.update

theorem Chip.shaped.sleepEntry {m : Chip} (h : m.shaped) : m.sleepEntry.shaped := by
  unfold Chip.sleepEntry
  extract_lets m1 _ m2
  have h1 : m1.shaped := h.clocksBack.dropHeldTriggers.setSeq
  clear_value m1
  have h2 : m2.shaped := h1.update
  exact .ite h2.drainGiveUp h2

theorem Chip.shaped.wakeStart {m : Chip} {bound : Mode} (h : m.shaped) : (m.wakeStart bound).shaped := by
  unfold Chip.wakeStart
  extract_lets
  exact .ite h.sysReset (.bootField h.update)

theorem Chip.shaped.runStartSeq {m : Chip} (h : m.shaped) : m.runStartSeq.shaped := by
  unfold Chip.runStartSeq
  extract_lets
  exact .ite h.sysReset h.pixStart.setSeq

theorem Chip.shaped.modeGo {m : Chip} (h : m.shaped) : m.modeGo.shaped := by
  unfold Chip.modeGo
  refine .ite h ?_
  split
  · exact .ite h h.leaveRun
  · exact .ite h.runStartSeq (.ite h h.dozeEntry)
  · exact .ite h.wakeStart (.ite h.wakeStart (.ite h.sleepEntry h))
  · exact .ite h.wakeStart (.ite h.wakeStart (.ite h.wakeStart h))

theorem Chip.shaped.phaseRecord {m : Chip} (h : m.shaped) : m.phaseRecord.shaped := h

theorem Chip.shaped.dozeReached {m : Chip} (h : m.shaped) : m.dozeReached.shaped := by
  unfold Chip.dozeReached
  extract_lets m1 _ _ m2
  have h1 : m1.shaped := h.cancelRequests.phaseRecord.linkSleep
  clear_value m1
  have h2 : m2.shaped := h1.update
  exact h2.bootField.levelWakes

theorem Chip.shaped.sleepReached {m : Chip} (h : m.shaped) : m.sleepReached.shaped := by
  unfold Chip.sleepReached
  extract_lets m1 _ m2 _ _ m3
  have h1 : m1.shaped := h.dropHeldTriggers.keepSave.pinsDown.phaseRecord
  have h2 : m2.shaped := h1.ledger.coreLoss.strapOptions
  clear_value m2
  have h3 : m3.shaped := h2.update
  exact h3.bootField.warnTrim.levelWakes

theorem Chip.shaped.domainsUp {m : Chip} (h : m.shaped) : m.domainsUp.shaped := by
  unfold Chip.domainsUp
  extract_lets m1 m2 _ m3
  have h1 : m1.shaped := h.clocksBack.deferredOut
  have h2 : m2.shaped := .ite h.wakeCore h1.storesNext
  clear_value m2
  have h3 : m3.shaped := .ite (.storesGood h2.update) h2
  exact h3.camsStart.wavesStart

theorem Chip.shaped.wakeEnd {m : Chip} (h : m.shaped) : m.wakeEnd.shaped := by
  unfold Chip.wakeEnd
  extract_lets m1 _ _
  have h1 : m1.shaped := h.domainsUp
  clear_value m1
  exact .ite (.bootField (.pixStart h1.update)) (.bootField h1.update)

theorem Chip.shaped.upReached {m : Chip} (h : m.shaped) : m.upReached.shaped := by
  unfold Chip.upReached
  exact .bootField h.update

theorem Chip.shaped.seqEnd {m : Chip} (h : m.shaped) : m.seqEnd.shaped := by
  unfold Chip.seqEnd
  split
  · exact h
  · exact h
  · exact h.runIdleEnd
  · exact h.dozeReached
  · exact h.sleepReached
  · exact h.upReached
  · exact h.wakeEnd

theorem Chip.shaped.requestMode {m : Chip} {goal : Mode} (h : m.shaped) : (m.requestMode goal).shaped := by
  unfold Chip.requestMode
  extract_lets m1 m2 m3 _
  have h1 : m1.shaped := .ite h.wakeFire h
  have h2 : m2.shaped := .ite h1.mapCap h1
  have h3 : m3.shaped := .ite h2.abortCapture h2
  clear_value m3
  exact .modeGo h3.update

theorem Chip.shaped.writePwrctl {m : Chip} {v : Word} (h : m.shaped) : (m.writePwrctl v).shaped := by
  unfold Chip.writePwrctl
  refine .ite h (.ite h.sysReset ?_)
  extract_lets _ m1
  have h1 : m1.shaped := h.plainWrite.requestMode
  exact .ite h1.autorun h1

theorem Chip.shaped.autoGo {m : Chip} (h : m.shaped) : m.autoGo.shaped := by
  unfold Chip.autoGo
  exact .ite (.requestMode h.update) h

theorem Chip.shaped.refuseAon {m : Chip} {a : Nat} {v : Word} (h : m.shaped) : (m.refuseAon a v).shaped := by
  unfold Chip.refuseAon
  exact .ite h.lockViolation (.ite h h.update)

theorem Chip.shaped.writeWakeen {m : Chip} {v : Word} (h : m.shaped) : (m.writeWakeen v).shaped := by
  unfold Chip.writeWakeen
  exact .ite h.refuseAon h.plainWrite

theorem Chip.shaped.writeWphrase {m : Chip} {v : Word} (h : m.shaped) : (m.writeWphrase v).shaped := by
  unfold Chip.writeWphrase
  refine .ite h.refuseAon (.ite ?_ (.wr h.update))
  extract_lets
  exact .ite h (.wr h.update)

theorem Chip.shaped.phraseDone {m : Chip} (h : m.shaped) : m.phraseDone.shaped := by
  unfold Chip.phraseDone
  extract_lets _ m1
  have h1 : m1.shaped := h.update
  exact .ite (.ite h1.wakeFire.modeGo h1) h1.orBits

theorem Chip.shaped.phraseJudge {m : Chip} {burst : Bool} {len : Nat} (h : m.shaped) :
    (m.phraseJudge burst len).shaped := by
  unfold Chip.phraseJudge
  extract_lets count k _ setK
  have hset (i : Nat) : (setK i).shaped := h.update
  exact .ite (hset _) (.ite (.ite (.ite h.phraseDone (hset _)) (hset _))
    (.ite h (.ite (.ite h.phraseDone (hset _)) (hset _))))

theorem Chip.shaped.squelch {m : Chip} {isOpen : Bool} (h : m.shaped) : (m.squelch isOpen).shaped := by
  unfold Chip.squelch
  extract_lets _ _ _ m1
  have h1 : m1.shaped := h.update
  exact h1.phraseJudge

theorem Chip.shaped.pixChange {m : Chip} (h : m.shaped) : m.pixChange.shaped := by
  unfold Chip.pixChange
  extract_lets
  exact .ite h.update (.ite h.update h.update)

theorem Chip.shaped.writeSysctl {m : Chip} {v : Word} (h : m.shaped) : (m.writeSysctl v).shaped := by
  unfold Chip.writeSysctl
  refine .ite h ?_
  extract_lets m1 _ m2
  have h1 : m1.shaped := h.plainWrite
  clear_value m1
  have h2 : m2.shaped := .ite h1.update h1
  exact h2.pixChange

theorem Chip.shaped.xtalFail {m : Chip} {cause : Nat} (h : m.shaped) : (m.xtalFail cause).shaped := by
  unfold Chip.xtalFail
  extract_lets _ m1
  have h1 : m1.shaped := h.update
  exact h1.orBits.fault

theorem Chip.shaped.pixTrip {m : Chip} {kHz : Nat} (h : m.shaped) : (m.pixTrip kHz).shaped := by
  unfold Chip.pixTrip
  extract_lets _ m1
  have h1 : m1.shaped := h.update
  exact h1.orBits.fault

theorem Chip.shaped.supplyWarn {m : Chip} {r : Nat} (h : m.shaped) : (m.supplyWarn r).shaped := by
  unfold Chip.supplyWarn
  extract_lets _ m1 m2 m3 m4
  have h1 : m1.shaped := h.update
  have h2 : m2.shaped := h1.orBits.raise.ledger
  have h3 : m3.shaped := .ite h2.mapCap.orBits h2
  clear_value m3
  have h4 : m4.shaped := h3.update (streams := by simp [m4, h3.streams])
  exact .ite h4.storesWarn.marlWarn.modeGo h2

theorem Chip.shaped.supplyReset {m : Chip} {r : Nat} (h : m.shaped) : (m.supplyReset r).shaped := by
  unfold Chip.supplyReset
  extract_lets _ _ m1
  have h1 : m1.shaped := h.update
  exact .ite h1.sysReset h1

theorem Chip.shaped.resetCapt {m : Chip} (h : m.shaped) : m.resetCapt.shaped := by
  unfold Chip.resetCapt
  extract_lets held _ m1 _ m2 m3 m4
  have h1 : m1.shaped := .foldl h.update fun _ _ h => h.bump
  clear_value m1
  have h2 : m2.shaped := .wr (h1.update (susp := fun _ hx => absurd hx List.not_mem_nil))
  have h3 : m3.shaped := .ite (.ite h2.abortCapture h2.orBits) h1
  have h4 : m4.shaped := h3.raiseIf
  clear_value m4
  exact .wr (.wr (h4.update (regs := h4.regs.symm)))

theorem Chip.shaped.resetHkc {m : Chip} (h : m.shaped) : m.resetHkc.shaped := by
  unfold Chip.resetHkc
  extract_lets _ _ _ m1 m2 m3
  have h1 : m1.shaped := h.update (reqs := h.reqs.symm)
  have h2 : m2.shaped := h1.foldl fun _ _ h => h.missSlot
  have h3 : m3.shaped := h2.foldl fun _ _ h => h.wr
  clear_value m3
  exact h3.wr.wr.wr.regsIdle

theorem Chip.shaped.resetIllum {m : Chip} (h : m.shaped) : m.resetIllum.shaped := by
  unfold Chip.resetIllum
  extract_lets m1 m2 m3
  have h1 : m1.shaped := h.strobesLow
  have h2 : m2.shaped := by
    unfold m2
    split
    · exact h1.flagIllum.mapCap
    · exact h1
  have h3 : m3.shaped := h2.wr
  refine h3.foldl ?_
  intro m a h
  extract_lets m5 m6
  have h5 : m5.shaped := h.wrList
  have h6 : m6.shaped := h5.clrBits
  exact .ite (.ite h6.regStart h6) h6.mapChan

theorem Chip.shaped.resetWave {m : Chip} (h : m.shaped) : m.resetWave.shaped := by
  unfold Chip.resetWave
  extract_lets m1 _ m2
  have h1 : m1.shaped := by
    unfold m1
    refine h.foldl ?_
    intro m a h
    extract_lets m2 m3
    have h2 : m2.shaped := h.forgetBlock.wr
    have h3 : m3.shaped := .ite h2.wrList h2.wr
    exact .ite h3 (.ite h3.resyncPort.mapPort h3.mapPort)
  clear_value m1
  have h2 : m2.shaped := h1.update (wchans := by simp [m2, h1.wchans])
  exact h2.wrList.wr

theorem Chip.shaped.resetMarl {m : Chip} (h : m.shaped) : m.resetMarl.shaped := by
  unfold Chip.resetMarl
  extract_lets _ m1 _
  have h1 : m1.shaped := .dwellClear h.update
  clear_value m1
  exact .marlPick (.clrBits h1.update)

theorem Chip.shaped.resetPipe {m : Chip} (h : m.shaped) : m.resetPipe.shaped := by
  unfold Chip.resetPipe
  extract_lets _ _ _ m1 m2
  have h1 : m1.shaped := h.update (streams := by simp [m1, h.streams])
  have h2 : m2.shaped := h1.foldl (fun _ _ h => h.freeRec)
  exact .streamsIdle (h2.foldl (fun _ _ h => h.finish))

theorem Chip.shaped.dropCam {m : Chip} {p : Nat} {f : CamFrame} (h : m.shaped) : (m.dropCam p f).shaped := by
  unfold Chip.dropCam
  split
  · extract_lets _ _ _ _ _ m1
    have h1 : m1.shaped := h.update (streams := by simp [m1, h.streams])
    exact .streamsIdle (h1.foldl (fun _ _ h => h.freeRec))
  · exact h

theorem Chip.shaped.resetCsi {m : Chip} (h : m.shaped) : m.resetCsi.shaped := by
  unfold Chip.resetCsi
  extract_lets m1 m2 m3 m4
  have h1 : m1.shaped := h.foldl (fun _ _ h => (h.foldl (fun _ _ h => h.dropCam)))
  clear_value m1
  have h2 : m2.shaped := h1.update (cams := by simp [m2, h1.cams])
  have h3 : m3.shaped := h2.foldl (fun _ _ h => h.wrList)
  have h4 : m4.shaped := h3.foldl (fun _ _ h => h.wr32)
  exact h4.camsStart.insrcTake

theorem Chip.shaped.resetPool {m : Chip} (h : m.shaped) : m.resetPool.shaped := by
  unfold Chip.resetPool
  extract_lets _ _ _ _ m1 m2 m3
  have h1 : m1.shaped := h.update (movers := by simp [m1, h.movers]) (streams := by simp [m1, h.streams])
  have h2 : m2.shaped := h1.foldl (fun _ _ h => h.wrList)
  have h3 : m3.shaped := h2.foldl (fun _ _ h => h.wrList)
  exact h3.wr.wr.frontUpdate.linkBoundary

theorem Chip.shaped.blockReset {m : Chip} {b : Nat} (h : m.shaped) : (m.blockReset b).shaped := by
  unfold Chip.blockReset
  split
  · exact h.resetCapt
  · exact h.resetHkc
  · exact h.resetIllum
  · exact h.resetWave
  · exact h.resetPipe
  · exact h.resetCsi
  · exact h.resetPool
  · exact h.resetLnkpkt
  · exact h.resetLnkphy
  · exact h.storesReset.modeGo
  · exact h.resetMarl

theorem Chip.shaped.writeBlkrst {m : Chip} {v : Word} (h : m.shaped) : (m.writeBlkrst v).shaped := by
  unfold Chip.writeBlkrst
  exact h.foldl (fun _ _ h => (.ite h (.ite h.busErr (.ite h h.blockReset.orBits))))

theorem Chip.shaped.writeSpace {m : Chip} {sp off : Nat} {v : Word} (h : m.shaped) :
    (m.writeSpace sp off v).shaped := by
  unfold Chip.writeSpace
  split
  · exact h.writeCtx
  · exact h.writeLoam
  · exact h.writeTmr
  · exact .ite h.writeHkcEn h.writeHkc
  · exact h.writeCal
  · exact h.writeNvm
  · exact h.writeOtp
  · exact h.writePipe
  · exact h.writeStat
  · exact h.writePool
  · exact h.writeLink
  · exact h.writeCsi
  · exact h.writeWave
  · exact h.writePin
  · exact h.writeIllum
  · exact .ite h.writeFack h.plainWrite
  · exact h.writeSeal
  · exact h

theorem Chip.shaped.writeItem {m : Chip} {sp off : Nat} {lo hi : Word} (h : m.shaped) :
    (m.writeItem sp off lo hi).shaped := by
  unfold Chip.writeItem
  exact .ite h.writePsc h.writeSpace.writeSpace

theorem Chip.shaped.drive {m : Chip} {v : Word} (h : m.shaped) : (m.drive v).shaped := h

theorem Chip.shaped.writeDirect {m : Chip} {a : Nat} {v : Word} (h : m.shaped) : (m.writeDirect a v).shaped := by
  unfold Chip.writeDirect
  split
  · exact h.writePwrctl
  · exact h.writeWakeen
  · exact h.writeWphrase
  · exact h.orBits
  · exact h.writeSysctl
  · exact h.writeBlkrst
  · exact h.writeEvvec
  · exact h.writeTstart
  · exact h.gpioSet
  · exact h.gpioSet
  · exact h.gpioClr
  · exact h.gpioClr
  · exact h.gpioTgl
  · exact h.gpioTgl
  · exact h.writeCapctl
  · exact h.writeCapstat
  · exact h.triggerMask
  · exact h.writeLoamctl
  · exact h.writeLoampc
  · exact h.writeCalctl
  · exact h.writeNvmctl
  · exact h.writeLinkctl
  · exact h.writeStreamen
  · exact h.writeWpctl
  · exact h.writeOtpctl
  · exact h.writeKeylock
  · exact h.plainWrite

theorem Chip.shaped.stagedAlone {m : Chip} (h : m.shaped) : m.stagedAlone.shaped := by
  unfold Chip.stagedAlone
  split
  · extract_lets _ m1
    have h1 : m1.shaped := h.update
    exact .ite h1.writeSpace h1.busErr
  · exact h

theorem Chip.shaped.windowWrite {m : Chip} {v : Word} (h : m.shaped) : (m.windowWrite v).shaped := by
  unfold Chip.windowWrite
  extract_lets _ _ _ _ m1 _
  have h1 : m1.shaped := h.stagedAlone
  split
  · exact .advance (.writeItem h.update)
  · clear_value m1
    exact .ite h1.orBits (.ite h1.busErr (.ite (.advance h1.update) h1.writeSpace.advance))

theorem Chip.shaped.heldDone {m : Chip} (h : m.shaped) : m.heldDone.shaped := by
  unfold Chip.heldDone
  split
  · exact .modeGo (.windowWrite h.update)
  · exact h

theorem Chip.shaped.windowFirst {m : Chip} (h : m.shaped) : m.windowFirst.shaped := by
  unfold Chip.windowFirst
  exact h.heldDone.stagedAlone

theorem Chip.shaped.windowRead {m : Chip} (h : m.shaped) : m.windowRead.shaped := by
  unfold Chip.windowRead
  extract_lets m1 _ _
  have h1 : m1.shaped := h.windowFirst
  exact .ite h1.orBits.drive (.ite h1.busErr.drive h1.clearRc.drive.advance)

theorem Chip.shaped.windowAccess {m : Chip} {v : Word} {held : Bool} (h : m.shaped) :
    (m.windowAccess v held).shaped := by
  unfold Chip.windowAccess
  extract_lets m1 _
  have h1 : m1.shaped := h.heldDone
  clear_value m1
  exact .ite h1.update h1.windowWrite

theorem Chip.shaped.windowTimeout {m : Chip} {read : Bool} (h : m.shaped) : (m.windowTimeout read).shaped := by
  unfold Chip.windowTimeout
  extract_lets m1 _ m2 m3
  have h1 : m1.shaped := h.stagedAlone
  have h2 : m2.shaped := by
    unfold m2
    split
    · clear_value m1
      exact .modeGo h1.update
    · exact h1
  have h3 : m3.shaped := h2.orBits
  exact .ite h3.drive h3

theorem Chip.shaped.readPlain {m : Chip} {a : Nat} (h : m.shaped) : (m.readPlain a).shaped := by
  unfold Chip.readPlain
  extract_lets m1
  have h1 : m1.shaped := .ite h.windowFirst h
  exact h1.drive

theorem Chip.shaped.tickAon {m : Chip} (h : m.shaped) : m.tickAon.shaped := by
  unfold Chip.tickAon
  extract_lets
  exact .ite h.update h.update

theorem Chip.shaped.tickSupplies {m : Chip} (h : m.shaped) : m.tickSupplies.shaped := h

theorem Chip.shaped.nextEpoch {m : Chip} (h : m.shaped) : m.nextEpoch.shaped := by
  unfold Chip.nextEpoch
  exact .ite h.planSlews h

theorem Chip.shaped.tickStb {m : Chip} (h : m.shaped) : m.tickStb.shaped := by
  unfold Chip.tickStb
  extract_lets m1 _ _ _
  have h1 : m1.shaped := h.nextEpoch
  clear_value m1
  exact h1.update

theorem Chip.shaped.tickSync {m : Chip} (h : m.shaped) : m.tickSync.shaped := by
  unfold Chip.tickSync
  split
  · exact .ite h.update h
  · exact h

theorem Chip.shaped.tickStrobes {m : Chip} (h : m.shaped) : m.tickStrobes.shaped := by
  unfold Chip.tickStrobes
  extract_lets
  exact .ite h.update (.ledger h.update)

theorem Chip.shaped.tickStores {m : Chip} (h : m.shaped) : m.tickStores.shaped := by
  unfold Chip.tickStores
  extract_lets m1
  have h1 : m1.shaped := h.tickCommit
  exact .ite h1.modeGo h1

theorem Chip.shaped.tickHeld {m : Chip} (h : m.shaped) : m.tickHeld.shaped := by
  unfold Chip.tickHeld
  exact h.update (streams := by simp [h.streams])

theorem Chip.shaped.tickCore {m : Chip} (h : m.shaped) : m.tickCore.shaped := by
  unfold Chip.tickCore
  extract_lets m1 m2 _ m3
  have h1 : m1.shaped := h.tickStb.tickSync.tickStrobes.tickWave
  have h2 : m2.shaped := .ite h1.tickHeld h1
  clear_value m2
  have h3 : m3.shaped := .ite h2.update h2
  exact h3.tickDrift.calmodeTake.tickStores

theorem Chip.shaped.tick {m : Chip} (h : m.shaped) : m.tick.shaped := by
  unfold Chip.tick
  refine .ite h ?_
  extract_lets m1
  have h1 : m1.shaped := .tickAon (.tickSupplies h.update)
  exact .autoGo (.ite h1.tickCore h1)

end Sys2Proof.Machine
end


section
/-! PROOFS. The meaning of every command keeps the number of every unit of the chip, and so does a tick: O5. -/

namespace Sys2Proof.Machine

-- The proofs are many and short: one after the other they need few threads.
set_option Elab.async false

/-! ## The outcomes -/

/-- The outcome is the answer of a shaped chip. -/
def Fits (s : State) (o : Host.Outcome State Fault Refusal) : Prop := ∃ m : Chip, o = done s m ∧ m.shaped

theorem fits_done {s : State} {m : Chip} (h : m.shaped) : Fits s (done s m) := ⟨m, rfl, h⟩

/-- A chip that `done` settles fits, in either branch of a guard. -/
theorem fits_guarded {s : State} {c : Bool} {m : Chip} (h : s.chip.shaped) (hm : m.shaped) : Fits s (guarded s c m) :=
  fits_done (.ite hm h)

theorem fits_hostWrite {s : State} {sp off : Nat} {f : Chip → Chip} (h : s.chip.shaped)
    (hf : ∀ {m : Chip}, m.shaped → (f m).shaped) : Fits s (hostWrite s sp off f) :=
  fits_done (.ite (.ite (hf h.begin) h.begin.busErr) h)

theorem fits_hostRead {s : State} {sp off : Nat} {f : Chip → Chip} (h : s.chip.shaped)
    (hf : ∀ {m : Chip}, m.shaped → (f m).shaped) : Fits s (hostRead s sp off f) :=
  fits_done (.ite (.ite (hf h.begin) (h.begin (src := 0)).busErr.update) h)

theorem fits_hostWindow {s : State} {sp off : Nat} {v : Word} (h : s.chip.shaped) : Fits s (hostWindow s sp off v) := by
  have hw : (if (s.chip.begin 0).coreOn then (s.chip.begin 0).windowFirst else s.chip.begin 0).shaped :=
    .ite h.begin.windowFirst h.begin
  exact fits_done (.ite (.ite hw.writeSpace hw.busErr) h)

theorem fits_issue {s : State} {op : Nat} {f : Nat → Chip → Chip} (h : s.chip.shaped)
    (hf : ∀ w, (f w s.chip).shaped) : Fits s (issue s op f) :=
  fits_guarded h (.ite h.loamFault (.ite (hf _) h.loamFault))

/-- A message counts and is acknowledged on a shaped chip. -/
theorem Chip.shaped.messageDone {r : Chip × Bool} {type : Nat} {mseq : Byte} {ack count : Bool} (h : r.1.shaped) :
    (Chip.messageDone r type mseq ack count).shaped := by
  unfold Chip.messageDone
  extract_lets m1 a
  have h1 : m1.shaped := .ite h.bump h
  exact .ite h1.offer h1

/-! ## The commands, in the order of the definitions -/

theorem execGpioset_fits {hi : Bool} {v : Word} {s : State} (h : s.chip.shaped) : Fits s (execGpioset hi v s) :=
  fits_hostWrite h fun h => h.gpioSet

theorem execGpioclr_fits {hi : Bool} {v : Word} {s : State} (h : s.chip.shaped) : Fits s (execGpioclr hi v s) :=
  fits_hostWrite h fun h => h.gpioClr

theorem execGpiotgl_fits {hi : Bool} {v : Word} {s : State} (h : s.chip.shaped) : Fits s (execGpiotgl hi v s) :=
  fits_hostWrite h fun h => h.gpioTgl

theorem execEncAEdge_fits {bHigh : Bool} {s : State} (h : s.chip.shaped) : Fits s (execEncAEdge bHigh s) := by
  unfold execEncAEdge
  refine fits_guarded h ?_
  extract_lets _ m0
  have h0 : m0.shaped := h.wr
  exact .ite h0 h0.bump

theorem execEvstatClear_fits {hi : Bool} {v : Word} {s : State} (h : s.chip.shaped) : Fits s (execEvstatClear hi v s) :=
  fits_hostWrite h fun h => h.clearEvents

theorem execEvenWrite_fits {hi : Bool} {v : Word} {s : State} (h : s.chip.shaped) : Fits s (execEvenWrite hi v s) :=
  fits_hostWrite h fun h => h.plainWrite

theorem execEvvecWrite_fits {v : Word} {s : State} (h : s.chip.shaped) : Fits s (execEvvecWrite v s) :=
  fits_hostWrite h fun h => h.writeEvvec

theorem execThermalSample_fits {t0 t1 : Nat} {s : State} (h : s.chip.shaped) : Fits s (execThermalSample t0 t1 s) := by
  have htemp {m : Chip} (h : m.shaped) :
      ({ m with cal := { m.cal with temp0 := some (t0 % 4096) } } : Chip).shaped := h.update
  exact fits_guarded h (htemp h).wr.raiseIf

theorem execPoolHoldGrant_fits {st : Fin 8} {s : State} (h : s.chip.shaped) : Fits s (execPoolHoldGrant st s) :=
  fits_guarded h h.grantHead

theorem execHoldlimExpiry_fits {st : Fin 8} {s : State} (h : s.chip.shaped) : Fits s (execHoldlimExpiry st s) :=
  fits_guarded h h.dropHeld

theorem execStreamEnWrite_fits {v : Word} {s : State} (h : s.chip.shaped) : Fits s (execStreamEnWrite v s) :=
  fits_hostWrite h fun h => h.writeStreamen

theorem execMoverRequest_fits {m : Fin 4} {s : State} (h : s.chip.shaped) : Fits s (execMoverRequest m s) :=
  fits_done h.moverRequest

theorem execMoverCopyComplete_fits {m : Fin 4} {s : State} (h : s.chip.shaped) : Fits s (execMoverCopyComplete m s) :=
  fits_guarded h h.moverDone

theorem execReadoutResume_fits {s : State} (h : s.chip.shaped) : Fits s (execReadoutResume s) := by
  unfold execReadoutResume
  extract_lets grantAll m waits
  have hall {m : Chip} {st : Nat} (h : m.shaped) : (grantAll m st).shaped := .foldl h fun _ _ h => .ite h.grantHead h
  have hm : m.shaped := .foldl h fun _ _ h => hall h
  clear_value m
  exact fits_guarded h hm.update

theorem execStrbmaxExpiry_fits {c : Fin 8} {s : State} (h : s.chip.shaped) : Fits s (execStrbmaxExpiry c s) :=
  fits_guarded h h.strobeFall.setFlt.fault

theorem execHkcRequestDue_fits {sl : Fin 8} {s : State} (h : s.chip.shaped) : Fits s (execHkcRequestDue sl s) :=
  fits_guarded h h.serve

theorem execHkcWaitExpiry_fits {sl : Fin 8} {s : State} (h : s.chip.shaped) : Fits s (execHkcWaitExpiry sl s) :=
  fits_guarded h h.dropReq

theorem execHkcShutdownDone_fits {s : State} (h : s.chip.shaped) : Fits s (execHkcShutdownDone s) :=
  fits_guarded h h.update

theorem execHkcSpareSettled_fits {s : State} (h : s.chip.shaped) : Fits s (execHkcSpareSettled s) :=
  fits_guarded h h.calmodeTake.update

theorem execPipeSegment_fits {s : State} (h : s.chip.shaped) : Fits s (execPipeSegment s) := fits_guarded h h.segment

theorem execPaceResume_fits {s : State} (h : s.chip.shaped) : Fits s (execPaceResume s) := fits_guarded h h.mapCap

theorem execInsrcSwitch_fits {s : State} (h : s.chip.shaped) : Fits s (execInsrcSwitch s) := fits_guarded h h.insrcTake

theorem execArm_fits {v : Word} {s : State} (h : s.chip.shaped) : Fits s (execArm v s) :=
  fits_hostWrite h fun h => h.writeCapctl

theorem execArmCheckComplete_fits {s : State} (h : s.chip.shaped) : Fits s (execArmCheckComplete s) :=
  fits_guarded h h.checkEnd

theorem execDisarm_fits {v : Word} {s : State} (h : s.chip.shaped) : Fits s (execDisarm v s) :=
  fits_hostWrite h fun h => h.writeCapctl

theorem execAbort_fits {v : Word} {s : State} (h : s.chip.shaped) : Fits s (execAbort v s) :=
  fits_hostWrite h fun h => h.writeCapctl

theorem execPinTrigger_fits {p : Fin 32} {rising : Bool} {s : State} (h : s.chip.shaped) :
    Fits s (execPinTrigger p rising s) :=
  fits_guarded h h.begin.triggerMask

theorem execTrigsw_fits {v : Word} {s : State} (h : s.chip.shaped) : Fits s (execTrigsw v s) :=
  fits_hostWrite h fun h => h.triggerMask

theorem execHeldTriggerRelease_fits {s : State} (h : s.chip.shaped) : Fits s (execHeldTriggerRelease s) :=
  fits_guarded h h.releaseHeld

theorem execLoamNop_fits {s : State} (h : s.chip.shaped) : Fits s (execLoamNop s) := fits_issue h fun _ => h.next

theorem execLoamJmp_fits {s : State} (h : s.chip.shaped) : Fits s (execLoamJmp s) := fits_issue h fun _ => h.jumpIf

theorem execLoamJz_fits {s : State} (h : s.chip.shaped) : Fits s (execLoamJz s) := fits_issue h fun _ => h.jumpIf

theorem execLoamJnz_fits {s : State} (h : s.chip.shaped) : Fits s (execLoamJnz s) := fits_issue h fun _ => h.jumpIf

theorem execLoamDjnz_fits {s : State} (h : s.chip.shaped) : Fits s (execLoamDjnz s) :=
  fits_issue h fun _ => .ite h.loamFault h.setL.jumpIf

theorem execLoamJlt_fits {s : State} (h : s.chip.shaped) : Fits s (execLoamJlt s) := fits_issue h fun _ => h.jumpIf

theorem execLoamCall_fits {s : State} (h : s.chip.shaped) : Fits s (execLoamCall s) :=
  fits_issue h fun _ => .ite h.loamFault (.ite h.loamFault (.jumpTo h.update))

theorem execLoamRet_fits {s : State} (h : s.chip.shaped) : Fits s (execLoamRet s) := by
  unfold execLoamRet
  refine fits_issue h fun _ => ?_
  split
  · exact h.loamFault
  · exact .jumpTo h.update

theorem execLoamLdi_fits {s : State} (h : s.chip.shaped) : Fits s (execLoamLdi s) := fits_issue h fun _ => h.setL.next

theorem execLoamLdih_fits {s : State} (h : s.chip.shaped) : Fits s (execLoamLdih s) := fits_issue h fun _ => h.setL.next

theorem execLoamLdc_fits {s : State} (h : s.chip.shaped) : Fits s (execLoamLdc s) := by
  unfold execLoamLdc
  refine fits_issue h fun _ => ?_
  split
  · exact h.setL.next
  · exact h

theorem execLoamAlu_fits {s : State} (h : s.chip.shaped) : Fits s (execLoamAlu s) := fits_issue h fun _ => h.setL.next

theorem execLoamAddi_fits {s : State} (h : s.chip.shaped) : Fits s (execLoamAddi s) := fits_issue h fun _ => h.setL.next

theorem execLoamGet_fits {s : State} (h : s.chip.shaped) : Fits s (execLoamGet s) := by
  unfold execLoamGet
  refine fits_issue h fun _ => ?_
  split
  · exact .ite h.loamFault h.setL.next
  · exact h

theorem execLoamMem_fits {s : State} (h : s.chip.shaped) : Fits s (execLoamMem s) := by
  unfold execLoamMem
  refine fits_issue h fun _ => ?_
  extract_lets
  exact .ite h.wr32.next h.setL.next

theorem execLoamBreak_fits {s : State} (h : s.chip.shaped) : Fits s (execLoamBreak s) :=
  fits_issue h fun _ => .next h.update

theorem execLoamStr_fits {s : State} (h : s.chip.shaped) : Fits s (execLoamStr s) := by
  unfold execLoamStr
  refine fits_issue h fun _ => ?_
  split
  · exact .ite h.next h.schedule
  · exact h

theorem execLoamOpen_fits {s : State} (h : s.chip.shaped) : Fits s (execLoamOpen s) := fits_issue h fun _ => h.schedule

theorem execLoamClose_fits {s : State} (h : s.chip.shaped) : Fits s (execLoamClose s) :=
  fits_issue h fun _ => h.schedule

theorem execLoamStrb_fits {s : State} (h : s.chip.shaped) : Fits s (execLoamStrb s) := fits_issue h fun _ => h.schedule

theorem execLoamIsetl_fits {s : State} (h : s.chip.shaped) : Fits s (execLoamIsetl s) :=
  fits_issue h fun _ => h.schedule

theorem execLoamHkt_fits {s : State} (h : s.chip.shaped) : Fits s (execLoamHkt s) := fits_issue h fun _ => h.schedule

theorem execLoamPin_fits {s : State} (h : s.chip.shaped) : Fits s (execLoamPin s) :=
  fits_issue h fun _ => .ite h.loamFault h.schedule

theorem execLoamWaitt_fits {s : State} (h : s.chip.shaped) : Fits s (execLoamWaitt s) := by
  unfold execLoamWaitt
  refine fits_issue h fun _ => ?_
  extract_lets
  exact .ite h.next h.waitFor

theorem execLoamWaite_fits {s : State} (h : s.chip.shaped) : Fits s (execLoamWaite s) := by
  unfold execLoamWaite
  refine fits_issue h fun _ => ?_
  extract_lets
  exact .ite h.loamFault (.ite h.waitDone h.waitFor)

theorem execLoamReadp_fits {s : State} (h : s.chip.shaped) : Fits s (execLoamReadp s) := by
  unfold execLoamReadp
  refine fits_issue h fun _ => ?_
  split
  · exact h
  · exact .ite h.progress.next (.ite h.readp h.waitFor)

theorem execLoamReadb_fits {s : State} (h : s.chip.shaped) : Fits s (execLoamReadb s) := by
  unfold execLoamReadb
  refine fits_issue h fun _ => ?_
  split
  · exact h
  · extract_lets
    exact .ite h.loamFault (.ite h.readb h.waitFor)

theorem execLoamDrain_fits {s : State} (h : s.chip.shaped) : Fits s (execLoamDrain s) :=
  fits_issue h fun _ => h.drain.next

theorem execLoamFlag_fits {s : State} (h : s.chip.shaped) : Fits s (execLoamFlag s) :=
  fits_issue h fun _ => h.mapCap.next

theorem execLoamEmit_fits {s : State} (h : s.chip.shaped) : Fits s (execLoamEmit s) := by
  unfold execLoamEmit
  refine fits_issue h fun _ => ?_
  split
  · exact h
  · extract_lets _ m0
    have h0 : m0.shaped := h.progress
    refine .ite h.loamFault ?_
    split
    · exact h.progress.next
    · exact .next (.ite h0.emitStart (.ite h0.emitEnd h0.emitEvent))

theorem execLoamEnd_fits {s : State} (h : s.chip.shaped) : Fits s (execLoamEnd s) :=
  fits_issue h fun _ => .ite h.endNow h.waitFor

theorem execLoamBase_fits {s : State} (h : s.chip.shaped) : Fits s (execLoamBase s) := by
  unfold execLoamBase
  refine fits_issue h fun _ => ?_
  extract_lets
  exact .ite (.next h.update) (.ite h.loamFault h.baseFrame)

theorem execWaittReached_fits {s : State} (h : s.chip.shaped) : Fits s (execWaittReached s) := by
  unfold execWaittReached
  dsimp only
  split
  · exact fits_guarded h h.next
  · exact fits_done h

theorem execWaiteEvent_fits {s : State} (h : s.chip.shaped) : Fits s (execWaiteEvent s) := by
  unfold execWaiteEvent
  dsimp only
  split
  · exact fits_guarded h h.waitDone
  · exact fits_done h

theorem execActionQueueStallEnd_fits {s : State} (h : s.chip.shaped) : Fits s (execActionQueueStallEnd s) := by
  unfold execActionQueueStallEnd
  dsimp only
  split
  · exact fits_guarded h h.schedule
  · exact fits_done h

theorem execLoamWatchdog_fits {s : State} (h : s.chip.shaped) : Fits s (execLoamWatchdog s) :=
  fits_guarded h h.loamFault

theorem execRowRead_fits {codes : List GroupRow} {s : State} (h : s.chip.shaped) : Fits s (execRowRead codes s) := by
  unfold execRowRead
  refine fits_guarded h ?_
  split
  · exact h.readRow.testsDone.advanceLoam
  · exact h.readRow.advanceLoam

theorem execStratumOpen_fits {s : State} (h : s.chip.shaped) : Fits s (execStratumOpen s) := by
  unfold execStratumOpen
  split
  · exact fits_done h.takeAction.doOpen.advanceLoam
  · exact fits_done h

theorem execStratumClose_fits {s : State} (h : s.chip.shaped) : Fits s (execStratumClose s) := by
  unfold execStratumClose
  split
  · exact fits_done h.takeAction.doClose.advanceLoam
  · exact fits_done h

theorem execStratumMaxClose_fits {s : State} (h : s.chip.shaped) : Fits s (execStratumMaxClose s) := by
  unfold execStratumMaxClose
  dsimp only
  split
  · exact fits_done h
  · split
    · exact fits_done h
    · exact fits_guarded h h.maxClose.advanceLoam

theorem execIsetApply_fits {s : State} (h : s.chip.shaped) : Fits s (execIsetApply s) := by
  unfold execIsetApply
  split
  · exact fits_done h.takeAction.isetApply.advanceLoam
  · exact fits_done h

theorem execPinAction_fits {s : State} (h : s.chip.shaped) : Fits s (execPinAction s) := by
  unfold execPinAction
  split
  · exact fits_done h.takeAction.drivePin.advanceLoam
  · exact fits_done h

theorem execHktAction_fits {s : State} (h : s.chip.shaped) : Fits s (execHktAction s) := by
  unfold execHktAction
  split
  · exact fits_done h.takeAction.targetEvent.advanceLoam
  · exact fits_done h

theorem execHalt_fits {v : Word} {s : State} (h : s.chip.shaped) : Fits s (execHalt v s) :=
  fits_hostWrite h fun h => h.writeLoamctl

theorem execResume_fits {v : Word} {s : State} (h : s.chip.shaped) : Fits s (execResume v s) :=
  fits_hostWrite h fun h => h.writeLoamctl

theorem execStep_fits {v : Word} {s : State} (h : s.chip.shaped) : Fits s (execStep v s) :=
  fits_hostWrite h fun h => h.writeLoamctl

theorem execBreakpointHit_fits {s : State} (h : s.chip.shaped) : Fits s (execBreakpointHit s) :=
  fits_guarded h h.haltNow

theorem execStepTakeUp_fits {s : State} (h : s.chip.shaped) : Fits s (execStepTakeUp s) := by
  unfold execStepTakeUp
  dsimp only
  split
  · exact fits_done h
  · exact fits_guarded h h.takeUp

theorem execStrbEdge_fits {s : State} (h : s.chip.shaped) : Fits s (execStrbEdge s) := by
  unfold execStrbEdge
  split
  · exact fits_done h.takeAction.captureStrobe.advanceLoam
  · split
    · split
      · exact fits_done h.lightStep
      · exact fits_done h
    · exact fits_done h

theorem execDriftExposureOpen_fits {s : State} (h : s.chip.shaped) : Fits s (execDriftExposureOpen s) := by
  unfold execDriftExposureOpen
  dsimp only
  split
  · exact fits_guarded h h.openStep
  · exact fits_done h

theorem execDriftExposureClose_fits {s : State} (h : s.chip.shaped) : Fits s (execDriftExposureClose s) := by
  unfold execDriftExposureClose
  dsimp only
  split
  · exact fits_guarded h h.closeStep
  · exact fits_done h

theorem execBandReadStart_fits {s : State} (h : s.chip.shaped) : Fits s (execBandReadStart s) := by
  unfold execBandReadStart
  dsimp only
  split
  · exact fits_guarded h h.mapDrift
  · exact fits_done h

theorem execBandReadEnd_fits {rows : List (List GroupRow)} {s : State} (h : s.chip.shaped) :
    Fits s (execBandReadEnd rows s) := by
  unfold execBandReadEnd
  dsimp only
  split
  · exact fits_guarded h h.bandEnd
  · exact fits_done h

theorem execDriftEndPin_fits {rising : Bool} {s : State} (h : s.chip.shaped) : Fits s (execDriftEndPin rising s) := by
  unfold execDriftEndPin
  dsimp only
  split
  · exact fits_done h
  · exact fits_guarded h h.mapDrift

theorem execDriftTailExpiry_fits {s : State} (h : s.chip.shaped) : Fits s (execDriftTailExpiry s) := by
  unfold execDriftTailExpiry
  dsimp only
  split
  · exact fits_done h
  · exact fits_guarded h h.docEnd

theorem execDriftStall_fits {s : State} (h : s.chip.shaped) : Fits s (execDriftStall s) := by
  unfold execDriftStall
  dsimp only
  split
  · exact fits_done h
  · exact fits_guarded h h.orBits.mapDrift.docEnd

theorem execCmpMatch_fits {n : Fin 16} {s : State} (h : s.chip.shaped) : Fits s (execCmpMatch n s) :=
  fits_guarded h h.begin.cmpFire

theorem execSyncFrameSend_fits {s : State} (h : s.chip.shaped) : Fits s (execSyncFrameSend s) := fits_guarded h h.update

theorem execSyncFrameReceived_fits {start : Nat} {pulses : List Nat} {elapsed : Nat} {s : State} (h : s.chip.shaped) :
    Fits s (execSyncFrameReceived start pulses elapsed s) :=
  fits_guarded h h.syncReceive

theorem execSyncLost_fits {s : State} (h : s.chip.shaped) : Fits s (execSyncLost s) := fits_guarded h h.syncLose

theorem execTimerSourceEdge_fits {e : Fin 8 × ClkSource} {s : State} (h : s.chip.shaped) :
    Fits s (execTimerSourceEdge e s) :=
  fits_guarded h h.begin.sourceEdge

theorem execTimerMatch_fits {n : Fin 8} {s : State} (h : s.chip.shaped) : Fits s (execTimerMatch n s) :=
  fits_guarded h h.begin.timerMatch

theorem execTimerTerminal_fits {n : Fin 8} {s : State} (h : s.chip.shaped) : Fits s (execTimerTerminal n s) :=
  fits_guarded h h.begin.timerFlush

theorem execTstartStart_fits {v : Word} {s : State} (h : s.chip.shaped) : Fits s (execTstartStart v s) :=
  fits_hostWrite h fun h => h.writeTstart

theorem execTstartStop_fits {v : Word} {s : State} (h : s.chip.shaped) : Fits s (execTstartStop v s) :=
  fits_hostWrite h fun h => h.writeTstart

theorem execTimerCapture_fits {n : Fin 8} {rising : Bool} {s : State} (h : s.chip.shaped) :
    Fits s (execTimerCapture n rising s) :=
  fits_guarded h h.timerCap

theorem execShadowWindowEnd_fits {g : Fin 162} {x : Fin 2} {s : State} (h : s.chip.shaped) :
    Fits s (execShadowWindowEnd g x s) :=
  fits_guarded h h.windowEnd

theorem execMarlDwellEnd_fits {s : State} (h : s.chip.shaped) : Fits s (execMarlDwellEnd s) := by
  unfold execMarlDwellEnd
  dsimp only
  split
  · exact fits_guarded h h.dwellEnd
  · exact fits_done h

theorem execHkcResult_fits {codes : Nat × Nat} {s : State} (h : s.chip.shaped) : Fits s (execHkcResult codes s) := by
  unfold execHkcResult
  dsimp only
  split
  · exact fits_guarded h h.ownConversion
  · exact fits_guarded h (.ite (.hkcPair (.deliver h.update)) (.deliver h.update))

theorem execHkcShadowWindowEnd_fits {x : Fin 2} {s : State} (h : s.chip.shaped) : Fits s (execHkcShadowWindowEnd x s) :=
  fits_guarded h h.hkcWindow

theorem execTrimStep_fits {g : Fin 162} {p : Fin 3} {t : Fin 4} {s : State} (h : s.chip.shaped) :
    Fits s (execTrimStep g p t s) :=
  fits_guarded h h.trimStep

theorem execHkcTrimStep_fits {i : Fin 6} {s : State} (h : s.chip.shaped) : Fits s (execHkcTrimStep i s) :=
  fits_guarded h h.hkcTrimStep

theorem execMarlenClear_fits {v : Word} {s : State} (h : s.chip.shaped) : Fits s (execMarlenClear v s) :=
  fits_hostWrite h fun h => h.writeCalctl

theorem execUnpinall_fits {v : Word} {s : State} (h : s.chip.shaped) : Fits s (execUnpinall v s) :=
  fits_hostWrite h fun h => h.writeCalctl

theorem execRunVref_fits {v : Word} {s : State} (h : s.chip.shaped) : Fits s (execRunVref v s) :=
  fits_hostWrite h fun h => h.writeCalctl

theorem execRunWhite_fits {v : Word} {s : State} (h : s.chip.shaped) : Fits s (execRunWhite v s) :=
  fits_hostWrite h fun h => h.writeCalctl

theorem execCancel_fits {v : Word} {s : State} (h : s.chip.shaped) : Fits s (execCancel v s) :=
  fits_hostWrite h fun h => h.writeCalctl

theorem execVrefRunComplete_fits (u₁ : Unit) {s : State} (h : s.chip.shaped) : Fits s (execVrefRunComplete u₁ s) := by
  unfold execVrefRunComplete
  split
  · exact fits_guarded h h.vrefEnd
  · exact fits_done h

theorem execVrefRunTimeout_fits {s : State} (h : s.chip.shaped) : Fits s (execVrefRunTimeout s) := by
  unfold execVrefRunTimeout
  dsimp only
  split
  · exact fits_guarded h h.runEnd
  · exact fits_done h

theorem execWhiteCaptureStart_fits {s : State} (h : s.chip.shaped) : Fits s (execWhiteCaptureStart s) :=
  fits_guarded h h.whiteStart

theorem execWhiteRunComplete_fits (u₁ u₂ : Unit) {s : State} (h : s.chip.shaped) :
    Fits s (execWhiteRunComplete u₁ u₂ s) := by
  unfold execWhiteRunComplete
  split
  · exact fits_guarded h h.whiteEnd
  · exact fits_done h

theorem execWhiteRunTimeout_fits {s : State} (h : s.chip.shaped) : Fits s (execWhiteRunTimeout s) := by
  unfold execWhiteRunTimeout
  dsimp only
  split
  · exact fits_guarded h h.runEnd
  · exact fits_done h

theorem execStage_fits {v : Word} {s : State} (h : s.chip.shaped) : Fits s (execStage v s) :=
  fits_hostWrite h fun h => h.writeNvmctl

theorem execCommit_fits {v : Word} {s : State} (h : s.chip.shaped) : Fits s (execCommit v s) :=
  fits_hostWrite h fun h => h.writeNvmctl

theorem execLoad_fits {v : Word} {s : State} (h : s.chip.shaped) : Fits s (execLoad v s) :=
  fits_hostWrite h fun h => h.writeNvmctl

theorem execLflush_fits {v : Word} {s : State} (h : s.chip.shaped) : Fits s (execLflush v s) :=
  fits_hostWrite h fun h => h.writeNvmctl

theorem execLedgerFlushDue_fits {s : State} (h : s.chip.shaped) : Fits s (execLedgerFlushDue s) :=
  fits_guarded h (.ite h.startFlush h.update)

theorem execLedgerHourTick_fits {s : State} (h : s.chip.shaped) : Fits s (execLedgerHourTick s) :=
  fits_guarded h (.ledger h.update)

theorem execProg_fits {v : Word} {s : State} (h : s.chip.shaped) : Fits s (execProg v s) :=
  fits_hostWrite h fun h => h.writeOtpctl

theorem execKeyprog_fits {v : Word} {s : State} (h : s.chip.shaped) : Fits s (execKeyprog v s) :=
  fits_hostWrite h fun h => h.writeOtpctl

theorem execGlock_fits {v : Word} {s : State} (h : s.chip.shaped) : Fits s (execGlock v s) :=
  fits_hostWrite h fun h => h.writeOtpctl

theorem execKeylockWrite_fits {v : Word} {s : State} (h : s.chip.shaped) : Fits s (execKeylockWrite v s) :=
  fits_hostWrite h fun h => h.writeKeylock

theorem execOtpOpComplete_fits {s : State} (h : s.chip.shaped) : Fits s (execOtpOpComplete s) := by
  unfold execOtpOpComplete
  split
  · exact fits_guarded h h.otpDone
  · exact fits_done h

theorem execWpInputFrame_fits {p : Fin 2} {slots : List (BitVec 32)} {s : State} (h : s.chip.shaped) :
    Fits s (execWpInputFrame p slots s) :=
  fits_guarded h h.frameTaken.inputFrame

theorem execWpSyncLoss_fits {p : Fin 3} {clockLost : Bool} {s : State} (h : s.chip.shaped) :
    Fits s (execWpSyncLoss p clockLost s) := by
  unfold execWpSyncLoss
  dsimp only
  split
  · exact fits_guarded h h.playLoss
  · exact fits_guarded h (.ite h.syncLoss.syncLoss h.syncLoss)

theorem execWpSyncRegained_fits {p : Fin 3} {s : State} (h : s.chip.shaped) : Fits s (execWpSyncRegained p s) := by
  unfold execWpSyncRegained
  refine fits_guarded h ?_
  extract_lets m0
  have h0 : m0.shaped := h.syncGain
  exact .ite h0.syncWith h0

theorem execResync_fits {v : Word} {s : State} (h : s.chip.shaped) : Fits s (execResync v s) :=
  fits_hostWrite h fun h => h.writeWpctl

theorem execWpEnWrite_fits {v : Word} {s : State} (h : s.chip.shaped) : Fits s (execWpEnWrite v s) :=
  fits_hostWrite h fun h => h.writeWpctl

theorem execWpShutdownDone_fits {p : Fin 3} {s : State} (h : s.chip.shaped) : Fits s (execWpShutdownDone p s) :=
  fits_guarded h h.stopPort

theorem execP2play_fits {v : Word} {s : State} (h : s.chip.shaped) : Fits s (execP2play v s) :=
  fits_hostWrite h fun h => h.writeWpctl

theorem execP2stop_fits {v : Word} {s : State} (h : s.chip.shaped) : Fits s (execP2stop v s) :=
  fits_hostWrite h fun h => h.writeWpctl

theorem execMuteall_fits {v : Word} {s : State} (h : s.chip.shaped) : Fits s (execMuteall v s) :=
  fits_hostWrite h fun h => h.writeWpctl

theorem execWp2PlayStart_fits {s : State} (h : s.chip.shaped) : Fits s (execWp2PlayStart s) :=
  fits_guarded h h.playStart

theorem execWp2OutputFrame_fits {s : State} (h : s.chip.shaped) : Fits s (execWp2OutputFrame s) :=
  fits_guarded h h.frameTaken.wp2Frame

theorem execWp2ZeroCrossTimeout_fits {c : Fin 8} {s : State} (h : s.chip.shaped) :
    Fits s (execWp2ZeroCrossTimeout c s) :=
  fits_guarded h h.mapWp.bump

theorem execCsiFrameStart_fits {p : Fin 2} {vc : Fin 16} {fn : Word} {s : State} (h : s.chip.shaped) :
    Fits s (execCsiFrameStart p vc fn s) := by
  unfold execCsiFrameStart
  refine fits_guarded h ?_
  refine .openCam ?_
  split
  · exact h.closeCam.csiError
  · exact h

theorem execCsiLongPacket_fits {p : Fin 2} {vc : Fin 16} {dt : Nat} {payload : List Byte} {crcOk : Bool} {s : State} (h : s.chip.shaped) :
    Fits s (execCsiLongPacket p vc dt payload crcOk s) := by
  unfold execCsiLongPacket
  refine fits_guarded h ?_
  refine .ite h.csiError ?_
  split
  · exact h.camPacket
  · exact h.csiError

theorem execCsiFrameEnd_fits {p : Fin 2} {vc : Fin 16} {s : State} (h : s.chip.shaped) :
    Fits s (execCsiFrameEnd p vc s) := by
  unfold execCsiFrameEnd
  refine fits_guarded h ?_
  split
  · exact h.closeCam
  · exact h.csiError

theorem execCsiPacketError_fits {p : Fin 2} {kind : CsiError} {s : State} (h : s.chip.shaped) :
    Fits s (execCsiPacketError p kind s) := by
  unfold execCsiPacketError
  refine fits_guarded h ?_
  split
  · exact h.csiError
  · exact h.csiError
  · exact h.csiError
  · exact h.csiError

theorem execPcamVsyncOpen_fits {s : State} (h : s.chip.shaped) : Fits s (execPcamVsyncOpen s) :=
  fits_guarded h h.openCam

theorem execPcamLine_fits {vals : List Word} {s : State} (h : s.chip.shaped) : Fits s (execPcamLine vals s) := by
  unfold execPcamLine
  dsimp only
  split
  · exact fits_guarded h h.camPacket
  · exact fits_done h

theorem execPcamVsyncClose_fits {midLine : Bool} {s : State} (h : s.chip.shaped) :
    Fits s (execPcamVsyncClose midLine s) := by
  unfold execPcamVsyncClose
  dsimp only
  split
  · exact fits_guarded h (.ite h.closeCam.pcamError h.closeCam)
  · exact fits_done h

theorem execPcamPclkTimeout_fits {s : State} (h : s.chip.shaped) : Fits s (execPcamPclkTimeout s) := by
  unfold execPcamPclkTimeout
  dsimp only
  split
  · exact fits_guarded h h.closeCam.pcamError
  · exact fits_done h

theorem execCameraPortShutdownDone_fits {p : Fin 3} {s : State} (h : s.chip.shaped) :
    Fits s (execCameraPortShutdownDone p s) :=
  fits_guarded h h.stopCam

theorem execLinkEnWrite_fits {v : Word} {s : State} (h : s.chip.shaped) : Fits s (execLinkEnWrite v s) :=
  fits_hostWrite h fun h => h.writeLinkctl

theorem execRetrain_fits {v : Word} {s : State} (h : s.chip.shaped) : Fits s (execRetrain v s) :=
  fits_hostWrite h fun h => h.writeLinkctl

theorem execRetire_fits {v : Word} {s : State} (h : s.chip.shaped) : Fits s (execRetire v s) :=
  fits_hostWrite h fun h => h.writeLinkctl

theorem execTrainTimeout_fits {s : State} (h : s.chip.shaped) : Fits s (execTrainTimeout s) :=
  fits_guarded h h.mapLink.orBits.raise

theorem execRxlSync_fits {s : State} (h : s.chip.shaped) : Fits s (execRxlSync s) := fits_guarded h h.mapLink

theorem execRxlSyncLoss_fits {s : State} (h : s.chip.shaped) : Fits s (execRxlSyncLoss s) :=
  fits_guarded h h.mapLink.bump

theorem execRxlossExpiry_fits {s : State} (h : s.chip.shaped) : Fits s (execRxlossExpiry s) :=
  fits_guarded h h.requestTrain

theorem execRxlSkip_fits {fill : Nat} {s : State} (h : s.chip.shaped) : Fits s (execRxlSkip fill s) :=
  fits_guarded h (.ite h.bump (.ite h.bump h))

theorem execElasticBufferError_fits {s : State} (h : s.chip.shaped) : Fits s (execElasticBufferError s) :=
  fits_guarded h h.bump.orBits

theorem execInvalidCodeGroup_fits {s : State} (h : s.chip.shaped) : Fits s (execInvalidCodeGroup s) :=
  fits_guarded h h.bump

theorem execLaneDriverFault_fits {n : Fin 4} {s : State} (h : s.chip.shaped) : Fits s (execLaneDriverFault n s) :=
  fits_guarded h h.laneFault

theorem execRetirementApply_fits {s : State} (h : s.chip.shaped) : Fits s (execRetirementApply s) :=
  fits_guarded h h.applyRetire

theorem execRetmaxExpiry_fits {s : State} (h : s.chip.shaped) : Fits s (execRetmaxExpiry s) := fits_guarded h h.mapLink

theorem execAlignColumn_fits {s : State} (h : s.chip.shaped) : Fits s (execAlignColumn s) := fits_guarded h h.markerCol

theorem execIdleColumn_fits {s : State} (h : s.chip.shaped) : Fits s (execIdleColumn s) := fits_guarded h h.idleCol

theorem execPacketStart_fits {s : State} (h : s.chip.shaped) : Fits s (execPacketStart s) := by
  unfold execPacketStart
  dsimp only
  split
  · exact fits_guarded h h.startPacket
  · exact fits_done h

theorem execPacketComplete_fits {s : State} (h : s.chip.shaped) : Fits s (execPacketComplete s) := by
  unfold execPacketComplete
  dsimp only
  split
  · exact fits_guarded h h.packetSent
  · exact fits_done h

theorem execLinkup_fits {lanes : BitVec 4} {mseq : Byte} {ackReq : Bool} {s : State} (h : s.chip.shaped) :
    Fits s (execLinkup lanes mseq ackReq s) :=
  fits_guarded h (.messageDone h.linkup)

theorem execCredit_fits {vc : Fin 8} {inf : Bool} {count : BitVec 24} {mseq : Byte} {ackReq : Bool} {s : State} (h : s.chip.shaped) :
    Fits s (execCredit vc inf count mseq ackReq s) := by
  refine fits_guarded h (.messageDone ?_)
  split
  · exact h.giveCredit
  · exact h

theorem execTrig_fits {mask : Word} {mseq : Byte} {ackReq : Bool} {s : State} (h : s.chip.shaped) :
    Fits s (execTrig mask mseq ackReq s) :=
  fits_guarded h (.messageDone h.begin.triggerMask)

theorem execLanemap_fits {lanes : BitVec 4} {mseq : Byte} {ackReq : Bool} {s : State} (h : s.chip.shaped) :
    Fits s (execLanemap lanes mseq ackReq s) :=
  fits_guarded h (.messageDone h.retireRequest)

theorem execLanefault_fits {lane : Fin 4} {mseq : Byte} {ackReq : Bool} {s : State} (h : s.chip.shaped) :
    Fits s (execLanefault lane mseq ackReq s) :=
  fits_guarded h (.messageDone h.laneFault)

theorem execAck_fits {vc : Fin 8} {nak : Bool} {fn : Long} {mseq : Byte} {ackReq : Bool} {s : State} (h : s.chip.shaped) :
    Fits s (execAck vc nak fn mseq ackReq s) :=
  fits_guarded h (.messageDone h.ackWrite)

theorem execMessageDiscarded_fits {s : State} (h : s.chip.shaped) : Fits s (execMessageDiscarded s) :=
  fits_guarded h h.bump

theorem execModeRequest_fits {v : Word} {s : State} (h : s.chip.shaped) : Fits s (execModeRequest v s) :=
  fits_hostWrite h fun h => h.writePwrctl

theorem execRunToIdleEntry_fits {s : State} (h : s.chip.shaped) : Fits s (execRunToIdleEntry s) :=
  fits_guarded h (.ite h.setSeq h.runIdleNow)

theorem execModeSequenceEnd_fits {s : State} (h : s.chip.shaped) : Fits s (execModeSequenceEnd s) :=
  fits_guarded h h.seqEnd.modeGo

theorem execDrainTimeout_fits {s : State} (h : s.chip.shaped) : Fits s (execDrainTimeout s) :=
  fits_guarded h h.drainGiveUp

theorem execWakePin_fits {n : Fin 8} {s : State} (h : s.chip.shaped) : Fits s (execWakePin n s) :=
  fits_guarded h h.wakeFire.modeGo

theorem execAlarmFire_fits {s : State} (h : s.chip.shaped) : Fits s (execAlarmFire s) := by
  unfold execAlarmFire
  refine fits_guarded h ?_
  extract_lets m0
  have h0 : m0.shaped := h.fireAlarm
  exact .ite h0.wakeFire.modeGo h0

theorem execSquelchChange_fits {isOpen : Bool} {s : State} (h : s.chip.shaped) : Fits s (execSquelchChange isOpen s) :=
  fits_guarded h (.ite h.squelch h.update)

theorem execPhraseQuietExpiry_fits {s : State} (h : s.chip.shaped) : Fits s (execPhraseQuietExpiry s) :=
  fits_guarded h h.phraseDone

theorem execWphraseWrite_fits {v : Word} {s : State} (h : s.chip.shaped) : Fits s (execWphraseWrite v s) :=
  fits_hostWrite h fun h => h.writeWphrase

theorem execCommitComplete_fits {verifyFail : Option Nat} {s : State} (h : s.chip.shaped) :
    Fits s (execCommitComplete verifyFail s) := by
  unfold execCommitComplete
  dsimp only
  split
  · exact fits_done h
  · refine fits_guarded h ?_
    refine .modeGo ?_
    split
    · exact .ite h.commitDone h
    · exact .ite h.commitVerify h

theorem execLedgerFlushComplete_fits {verifyFail : Bool} {s : State} (h : s.chip.shaped) :
    Fits s (execLedgerFlushComplete verifyFail s) := by
  unfold execLedgerFlushComplete
  dsimp only
  split
  · exact fits_done h
  · exact fits_guarded h (.modeGo (.ite h.flushFail h.flushDone))

theorem execStageComplete_fits {s : State} (h : s.chip.shaped) : Fits s (execStageComplete s) := by
  have hend {m : Chip} (h : m.shaped) :
      ({ m with st := { m.st with staging := false, boundaryHeld := false } } : Chip).shaped := h.update
  unfold execStageComplete
  refine fits_guarded h (.modeGo ?_)
  have h1 := hend h.copyStaging
  split
  · exact .tryCommit (.ite h1.boundaryNow h1)
  · exact .ite h1.boundaryNow h1

theorem execSysPllLockTimeout_fits {s : State} (h : s.chip.shaped) : Fits s (execSysPllLockTimeout s) :=
  fits_guarded h h.sysReset

theorem execClockFailure_fits {s : State} (h : s.chip.shaped) : Fits s (execClockFailure s) := fits_guarded h h.sysReset

theorem execAonCrystalAdopted_fits {s : State} (h : s.chip.shaped) : Fits s (execAonCrystalAdopted s) :=
  fits_guarded h h.update

theorem execAonCrystalStartTimeout_fits {s : State} (h : s.chip.shaped) : Fits s (execAonCrystalStartTimeout s) :=
  fits_guarded h (.ite h.xtalFail h.update)

theorem execAonCrystalStop_fits {s : State} (h : s.chip.shaped) : Fits s (execAonCrystalStop s) :=
  fits_guarded h h.xtalFail

theorem execXtalretry_fits {v : Word} {s : State} (h : s.chip.shaped) : Fits s (execXtalretry v s) :=
  fits_hostWrite h fun h => h.writeSysctl

theorem execPixnWrite_fits {v : Word} {s : State} (h : s.chip.shaped) : Fits s (execPixnWrite v s) :=
  fits_hostWrite h fun h => h.writeSysctl

theorem execPixnPendingApply_fits {s : State} (h : s.chip.shaped) : Fits s (execPixnPendingApply s) :=
  fits_guarded h h.pixChange

theorem execPixRelockDone_fits {s : State} (h : s.chip.shaped) : Fits s (execPixRelockDone s) := by
  unfold execPixRelockDone
  refine fits_guarded h ?_
  extract_lets m0 _
  have h0 : m0.shaped := h
  exact h0.update

theorem execPixFreqMonitorTrip_fits {kHz : Nat} {s : State} (h : s.chip.shaped) :
    Fits s (execPixFreqMonitorTrip kHz s) :=
  fits_guarded h h.pixTrip

theorem execSupplyWarn_fits {r : Fin 4} {s : State} (h : s.chip.shaped) : Fits s (execSupplyWarn r s) :=
  fits_guarded h h.supplyWarn

theorem execSupplyWarnClear_fits {r : Fin 4} {s : State} (h : s.chip.shaped) : Fits s (execSupplyWarnClear r s) :=
  fits_done (.clrBits h.update)

theorem execSupplyGood_fits {s : State} (h : s.chip.shaped) : Fits s (execSupplyGood s) :=
  fits_guarded h (.ite h.storesGood h.update)

theorem execSupplyReset_fits {r : Fin 4} {s : State} (h : s.chip.shaped) : Fits s (execSupplyReset r s) :=
  fits_done h.supplyReset

theorem execSysrst_fits {v : Word} {s : State} (h : s.chip.shaped) : Fits s (execSysrst v s) :=
  fits_hostWrite h fun h => h.writePwrctl

theorem execPowerOnReset_fits {s : State} (_ : s.chip.shaped) : Fits s (execPowerOnReset s) :=
  fits_done Chip.shaped.allLost

theorem execVddaonLoss_fits {s : State} (_ : s.chip.shaped) : Fits s (execVddaonLoss s) :=
  fits_done Chip.shaped.allLost.update

theorem execBootReady_fits {s : State} (h : s.chip.shaped) : Fits s (execBootReady s) :=
  fits_guarded h h.bootDone.modeGo

theorem execBlkrstCapt_fits {s : State} (h : s.chip.shaped) : Fits s (execBlkrstCapt s) :=
  fits_hostWrite h fun h => h.writeBlkrst

theorem execBlkrstHkc_fits {s : State} (h : s.chip.shaped) : Fits s (execBlkrstHkc s) :=
  fits_hostWrite h fun h => h.writeBlkrst

theorem execBlkrstIllum_fits {s : State} (h : s.chip.shaped) : Fits s (execBlkrstIllum s) :=
  fits_hostWrite h fun h => h.writeBlkrst

theorem execBlkrstWave_fits {s : State} (h : s.chip.shaped) : Fits s (execBlkrstWave s) :=
  fits_hostWrite h fun h => h.writeBlkrst

theorem execBlkrstPipe_fits {s : State} (h : s.chip.shaped) : Fits s (execBlkrstPipe s) :=
  fits_hostWrite h fun h => h.writeBlkrst

theorem execBlkrstCsi_fits {s : State} (h : s.chip.shaped) : Fits s (execBlkrstCsi s) :=
  fits_hostWrite h fun h => h.writeBlkrst

theorem execBlkrstPool_fits {s : State} (h : s.chip.shaped) : Fits s (execBlkrstPool s) :=
  fits_hostWrite h fun h => h.writeBlkrst

theorem execBlkrstLnkpkt_fits {s : State} (h : s.chip.shaped) : Fits s (execBlkrstLnkpkt s) :=
  fits_hostWrite h fun h => h.writeBlkrst

theorem execBlkrstLnkphy_fits {s : State} (h : s.chip.shaped) : Fits s (execBlkrstLnkphy s) :=
  fits_hostWrite h fun h => h.writeBlkrst

theorem execBlkrstNvmc_fits {s : State} (h : s.chip.shaped) : Fits s (execBlkrstNvmc s) :=
  fits_hostWrite h fun h => h.writeBlkrst

theorem execBlkrstMarl_fits {s : State} (h : s.chip.shaped) : Fits s (execBlkrstMarl s) :=
  fits_hostWrite h fun h => h.writeBlkrst

theorem execBlkrstDone_fits {b : Fin 11} {s : State} (h : s.chip.shaped) : Fits s (execBlkrstDone b s) :=
  fits_guarded h h.clrBits

theorem execAonlockWrite_fits {v : Word} {s : State} (h : s.chip.shaped) : Fits s (execAonlockWrite v s) :=
  fits_hostWrite h fun h => h.orBits

theorem execSysreset_fits {s : State} (h : s.chip.shaped) : Fits s (execSysreset s) := fits_guarded h h.sysReset

theorem execLoamdbg_fits {dr : BitVec 40} {s : State} (h : s.chip.shaped) : Fits s (execLoamdbg dr s) :=
  fits_guarded h (.ite h.begin.update (.ite h.begin.writeLoam.update h.begin.clearRc.update))

theorem execExtestUpdate_fits {cells : BitVec 178} {s : State} (h : s.chip.shaped) :
    Fits s (execExtestUpdate cells s) :=
  fits_guarded h h.update

theorem execPinInputChange_fits {n : Fin 32} {level : Bool} {s : State} (h : s.chip.shaped) :
    Fits s (execPinInputChange n level s) := by
  unfold execPinInputChange
  refine fits_done ?_
  refine .ite (.foldl h.begin.update ?_) h.begin.update
  intro m a h
  extract_lets
  exact .ite h.slotEvent h

theorem execRegisterWrite_fits {sp off : Nat} {v : Word} {s : State} (h : s.chip.shaped) :
    Fits s (execRegisterWrite sp off v s) := by
  unfold execRegisterWrite
  split
  · split
    · exact fits_hostWrite h fun h => h.windowAccess
    · split
      · exact fits_hostWrite h fun h => h.windowFirst.plainWrite
      · split
        · exact fits_hostWrite h fun h => h.writeDirect
        · exact fits_done h
  · split
    · exact fits_hostWindow h
    · exact fits_hostWrite h fun h => h.windowFirst.orBits

theorem execWindataRead_fits {s : State} (h : s.chip.shaped) : Fits s (execWindataRead s) :=
  fits_hostRead h fun h => h.windowRead

theorem execWindataWrite_fits {v : Word} {held : Bool} {s : State} (h : s.chip.shaped) :
    Fits s (execWindataWrite v held s) :=
  fits_hostWrite h fun h => h.windowAccess

theorem execWindowTimeout_fits {read : Bool} {s : State} (h : s.chip.shaped) : Fits s (execWindowTimeout read s) :=
  fits_hostWrite h fun h => h.windowTimeout

theorem execHeldWindowWriteDone_fits {s : State} (h : s.chip.shaped) : Fits s (execHeldWindowWriteDone s) :=
  fits_hostWrite h fun h => h.heldDone

theorem execStb0Read_fits {s : State} (h : s.chip.shaped) : Fits s (execStb0Read s) :=
  fits_hostRead h fun h => .drive (.wr h.update)

theorem execAoncnt0Read_fits {s : State} (h : s.chip.shaped) : Fits s (execAoncnt0Read s) :=
  fits_hostRead h fun h => .drive h.update

theorem execFramenumRead_fits {s : State} (h : s.chip.shaped) : Fits s (execFramenumRead s) :=
  fits_hostRead h fun h => .drive h.update

theorem execHkq0Read_fits {s : State} (h : s.chip.shaped) : Fits s (execHkq0Read s) :=
  fits_hostRead h fun h => h.popHkq.drive

theorem execDomainOffRead_fits {a : Nat} {s : State} (h : s.chip.shaped) : Fits s (execDomainOffRead a s) := by
  unfold execDomainOffRead
  split
  · exact fits_done h
  · split
    · exact execAoncnt0Read_fits h
    · exact execStb0Read_fits h
    · exact execWindataRead_fits h
    · exact execFramenumRead_fits h
    · exact execHkq0Read_fits h
    · exact fits_hostRead h fun h => h.readPlain

theorem execProgramRamWrite_fits {off : Nat} {v : Word} {s : State} (h : s.chip.shaped) :
    Fits s (execProgramRamWrite off v s) := by
  unfold execProgramRamWrite
  split
  · exact fits_hostWindow h
  · exact fits_done h

theorem execTrimTargetWrite_fits {off : Nat} {v : Word} {s : State} (h : s.chip.shaped) :
    Fits s (execTrimTargetWrite off v s) := by
  unfold execTrimTargetWrite
  split
  · exact fits_hostWindow h
  · split
    · exact fits_hostWindow h
    · exact fits_done h

theorem execCameraPortEnWrite_fits {p : Fin 3} {v : Word} {s : State} (h : s.chip.shaped) :
    Fits s (execCameraPortEnWrite p v s) :=
  fits_hostWindow h

theorem execForce_fits {g : Fin 162} {v : Word} {s : State} (h : s.chip.shaped) : Fits s (execForce g v s) :=
  fits_hostWindow h

theorem execRestore_fits {g : Fin 162} {v : Word} {s : State} (h : s.chip.shaped) : Fits s (execRestore g v s) :=
  fits_hostWindow h

theorem execFackWrite_fits {v : Word} {s : State} (h : s.chip.shaped) : Fits s (execFackWrite v s) := fits_hostWindow h

theorem execHkctrig_fits {v : Word} {s : State} (h : s.chip.shaped) : Fits s (execHkctrig v s) := fits_hostWindow h

theorem execHkcctlEnWrite_fits {v : Word} {s : State} (h : s.chip.shaped) : Fits s (execHkcctlEnWrite v s) :=
  fits_hostWindow h

theorem execCalmodeWrite_fits {v : Word} {s : State} (h : s.chip.shaped) : Fits s (execCalmodeWrite v s) :=
  fits_hostWindow h

theorem execSeallockWrite_fits {v : Word} {s : State} (h : s.chip.shaped) : Fits s (execSeallockWrite v s) :=
  fits_hostWindow h

theorem execCommitStagedPins_fits {v : Word} {s : State} (h : s.chip.shaped) : Fits s (execCommitStagedPins v s) := by
  unfold execCommitStagedPins
  split
  · exact fits_hostWindow h
  · exact fits_done h

theorem execStageDiscard_fits {v : Word} {s : State} (h : s.chip.shaped) : Fits s (execStageDiscard v s) := by
  unfold execStageDiscard
  split
  · exact fits_done h
  · exact fits_hostWindow h

theorem execPcfgWrite_fits {n : Fin 32} {v : Word} {s : State} (h : s.chip.shaped) : Fits s (execPcfgWrite n v s) :=
  fits_hostWindow h

theorem execPadWrite_fits {n : Fin 32} {v : Word} {s : State} (h : s.chip.shaped) : Fits s (execPadWrite n v s) :=
  fits_hostWindow h

theorem execSlpWrite_fits {n : Fin 32} {v : Word} {s : State} (h : s.chip.shaped) : Fits s (execSlpWrite n v s) :=
  fits_hostWindow h

theorem execStatctlUnlock_fits {v : Word} {s : State} (h : s.chip.shaped) : Fits s (execStatctlUnlock v s) :=
  fits_hostWindow h

theorem execRetcmd_fits {v : Word} {s : State} (h : s.chip.shaped) : Fits s (execRetcmd v s) := fits_hostWindow h

theorem execCmpMatchLoad_fits {n : Fin 16} {v : Word} {s : State} (h : s.chip.shaped) :
    Fits s (execCmpMatchLoad n v s) :=
  fits_hostWindow h

theorem execAlarmLoad_fits {v : Word} {s : State} (h : s.chip.shaped) : Fits s (execAlarmLoad v s) := fits_hostWindow h

theorem execAlarmDisarm_fits {v : Word} {s : State} (h : s.chip.shaped) : Fits s (execAlarmDisarm v s) :=
  fits_hostWindow h

theorem execRearm_fits {n : Fin 8} {v : Word} {s : State} (h : s.chip.shaped) : Fits s (execRearm n v s) :=
  fits_hostWindow h

theorem execWp2GainWrite_fits {c : Fin 8} {v : Word} {s : State} (h : s.chip.shaped) :
    Fits s (execWp2GainWrite c v s) :=
  fits_hostWindow h

theorem execWp2MuteWrite_fits {v : Word} {s : State} (h : s.chip.shaped) : Fits s (execWp2MuteWrite v s) :=
  fits_hostWindow h

theorem execRegctlEnWrite_fits {c : Fin 8} {v : Word} {s : State} (h : s.chip.shaped) :
    Fits s (execRegctlEnWrite c v s) :=
  fits_hostWindow h

theorem execIsetvalWrite_fits {c : Fin 8} {v : Word} {s : State} (h : s.chip.shaped) :
    Fits s (execIsetvalWrite c v s) :=
  fits_hostWindow h

theorem execRegBoundWrite_fits {c : Fin 8} {hi : Bool} {v : Word} {s : State} (h : s.chip.shaped) :
    Fits s (execRegBoundWrite c hi v s) :=
  fits_hostWindow h

/-! ## Every command, and the tick -/

/-- The meaning of every command keeps the shape. -/
theorem fits_exec (i : Instr) {s : State} (h : s.chip.shaped) : Fits s (exec i s) :=
  match i with
  | .registerWrite _ _ _ => execRegisterWrite_fits h
  | .windataRead => execWindataRead_fits h
  | .windataWrite _ _ => execWindataWrite_fits h
  | .windowTimeout _ => execWindowTimeout_fits h
  | .heldWindowWriteDone => execHeldWindowWriteDone_fits h
  | .stb0Read => execStb0Read_fits h
  | .aoncnt0Read => execAoncnt0Read_fits h
  | .framenumRead => execFramenumRead_fits h
  | .hkq0Read => execHkq0Read_fits h
  | .modeRequest _ => execModeRequest_fits h
  | .runToIdleEntry => execRunToIdleEntry_fits h
  | .modeSequenceEnd => execModeSequenceEnd_fits h
  | .drainTimeout => execDrainTimeout_fits h
  | .wakePin _ => execWakePin_fits h
  | .squelchChange _ => execSquelchChange_fits h
  | .phraseQuietExpiry => execPhraseQuietExpiry_fits h
  | .wphraseWrite _ => execWphraseWrite_fits h
  | .sysPllLockTimeout => execSysPllLockTimeout_fits h
  | .clockFailure => execClockFailure_fits h
  | .aonCrystalAdopted => execAonCrystalAdopted_fits h
  | .aonCrystalStartTimeout => execAonCrystalStartTimeout_fits h
  | .aonCrystalStop => execAonCrystalStop_fits h
  | .xtalretry _ => execXtalretry_fits h
  | .pixnWrite _ => execPixnWrite_fits h
  | .pixnPendingApply => execPixnPendingApply_fits h
  | .pixRelockDone => execPixRelockDone_fits h
  | .pixFreqMonitorTrip _ => execPixFreqMonitorTrip_fits h
  | .supplyWarn _ => execSupplyWarn_fits h
  | .supplyGood => execSupplyGood_fits h
  | .supplyReset _ => execSupplyReset_fits h
  | .sysrst _ => execSysrst_fits h
  | .powerOnReset => execPowerOnReset_fits h
  | .bootReady => execBootReady_fits h
  | .blkrstCapt => execBlkrstCapt_fits h
  | .blkrstHkc => execBlkrstHkc_fits h
  | .blkrstIllum => execBlkrstIllum_fits h
  | .blkrstWave => execBlkrstWave_fits h
  | .blkrstPipe => execBlkrstPipe_fits h
  | .blkrstCsi => execBlkrstCsi_fits h
  | .blkrstPool => execBlkrstPool_fits h
  | .blkrstLnkpkt => execBlkrstLnkpkt_fits h
  | .blkrstLnkphy => execBlkrstLnkphy_fits h
  | .blkrstNvmc => execBlkrstNvmc_fits h
  | .blkrstMarl => execBlkrstMarl_fits h
  | .blkrstDone _ => execBlkrstDone_fits h
  | .aonlockWrite _ => execAonlockWrite_fits h
  | .cmpMatchLoad _ _ => execCmpMatchLoad_fits h
  | .cmpMatch _ => execCmpMatch_fits h
  | .alarmLoad _ => execAlarmLoad_fits h
  | .alarmDisarm _ => execAlarmDisarm_fits h
  | .alarmFire => execAlarmFire_fits h
  | .syncFrameSend => execSyncFrameSend_fits h
  | .syncFrameReceived _ _ _ => execSyncFrameReceived_fits h
  | .syncLost => execSyncLost_fits h
  | .timerSourceEdge _ => execTimerSourceEdge_fits h
  | .timerMatch _ => execTimerMatch_fits h
  | .timerTerminal _ => execTimerTerminal_fits h
  | .tstartStart _ => execTstartStart_fits h
  | .tstartStop _ => execTstartStop_fits h
  | .rearm _ _ => execRearm_fits h
  | .timerCapture _ _ => execTimerCapture_fits h
  | .arm _ => execArm_fits h
  | .armCheckComplete => execArmCheckComplete_fits h
  | .disarm _ => execDisarm_fits h
  | .abort _ => execAbort_fits h
  | .pinTrigger _ _ => execPinTrigger_fits h
  | .trigsw _ => execTrigsw_fits h
  | .heldTriggerRelease => execHeldTriggerRelease_fits h
  | .strbmaxExpiry _ => execStrbmaxExpiry_fits h
  | .regctlEnWrite _ _ => execRegctlEnWrite_fits h
  | .isetvalWrite _ _ => execIsetvalWrite_fits h
  | .regBoundWrite _ _ _ => execRegBoundWrite_fits h
  | .hkctrig _ => execHkctrig_fits h
  | .hkcRequestDue _ => execHkcRequestDue_fits h
  | .hkcWaitExpiry _ => execHkcWaitExpiry_fits h
  | .hkcResult _ => execHkcResult_fits h
  | .hkcctlEnWrite _ => execHkcctlEnWrite_fits h
  | .hkcShutdownDone => execHkcShutdownDone_fits h
  | .calmodeWrite _ => execCalmodeWrite_fits h
  | .hkcSpareSettled => execHkcSpareSettled_fits h
  | .hkcShadowWindowEnd _ => execHkcShadowWindowEnd_fits h
  | .loamNop => execLoamNop_fits h
  | .loamEnd => execLoamEnd_fits h
  | .loamJmp => execLoamJmp_fits h
  | .loamJz => execLoamJz_fits h
  | .loamJnz => execLoamJnz_fits h
  | .loamDjnz => execLoamDjnz_fits h
  | .loamCall => execLoamCall_fits h
  | .loamRet => execLoamRet_fits h
  | .loamLdi => execLoamLdi_fits h
  | .loamLdih => execLoamLdih_fits h
  | .loamLdc => execLoamLdc_fits h
  | .loamAlu => execLoamAlu_fits h
  | .loamAddi => execLoamAddi_fits h
  | .loamJlt => execLoamJlt_fits h
  | .loamGet => execLoamGet_fits h
  | .loamMem => execLoamMem_fits h
  | .loamWaitt => execLoamWaitt_fits h
  | .waittReached => execWaittReached_fits h
  | .loamWaite => execLoamWaite_fits h
  | .waiteEvent => execWaiteEvent_fits h
  | .loamBase => execLoamBase_fits h
  | .loamStr => execLoamStr_fits h
  | .loamOpen => execLoamOpen_fits h
  | .loamClose => execLoamClose_fits h
  | .loamStrb => execLoamStrb_fits h
  | .loamIsetl => execLoamIsetl_fits h
  | .loamHkt => execLoamHkt_fits h
  | .loamPin => execLoamPin_fits h
  | .loamReadp => execLoamReadp_fits h
  | .loamReadb => execLoamReadb_fits h
  | .loamDrain => execLoamDrain_fits h
  | .loamEmit => execLoamEmit_fits h
  | .loamFlag => execLoamFlag_fits h
  | .loamBreak => execLoamBreak_fits h
  | .actionQueueStallEnd => execActionQueueStallEnd_fits h
  | .stratumOpen => execStratumOpen_fits h
  | .stratumClose => execStratumClose_fits h
  | .stratumMaxClose => execStratumMaxClose_fits h
  | .strbEdge => execStrbEdge_fits h
  | .isetApply => execIsetApply_fits h
  | .pinAction => execPinAction_fits h
  | .hktAction => execHktAction_fits h
  | .rowRead _ => execRowRead_fits h
  | .readoutResume => execReadoutResume_fits h
  | .paceResume => execPaceResume_fits h
  | .loamWatchdog => execLoamWatchdog_fits h
  | .halt _ => execHalt_fits h
  | .resume _ => execResume_fits h
  | .step _ => execStep_fits h
  | .breakpointHit => execBreakpointHit_fits h
  | .programRamWrite _ _ => execProgramRamWrite_fits h
  | .sysreset => execSysreset_fits h
  | .loamdbg _ => execLoamdbg_fits h
  | .stepTakeUp => execStepTakeUp_fits h
  | .driftExposureOpen => execDriftExposureOpen_fits h
  | .driftExposureClose => execDriftExposureClose_fits h
  | .bandReadStart => execBandReadStart_fits h
  | .bandReadEnd _ => execBandReadEnd_fits h
  | .driftEndPin _ => execDriftEndPin_fits h
  | .driftTailExpiry => execDriftTailExpiry_fits h
  | .driftStall => execDriftStall_fits h
  | .wpInputFrame _ _ => execWpInputFrame_fits h
  | .wpSyncLoss _ _ => execWpSyncLoss_fits h
  | .wpSyncRegained _ => execWpSyncRegained_fits h
  | .resync _ => execResync_fits h
  | .wpEnWrite _ => execWpEnWrite_fits h
  | .wpShutdownDone _ => execWpShutdownDone_fits h
  | .p2play _ => execP2play_fits h
  | .p2stop _ => execP2stop_fits h
  | .muteall _ => execMuteall_fits h
  | .wp2PlayStart => execWp2PlayStart_fits h
  | .wp2OutputFrame => execWp2OutputFrame_fits h
  | .wp2GainWrite _ _ => execWp2GainWrite_fits h
  | .wp2MuteWrite _ => execWp2MuteWrite_fits h
  | .wp2ZeroCrossTimeout _ => execWp2ZeroCrossTimeout_fits h
  | .shadowWindowEnd _ _ => execShadowWindowEnd_fits h
  | .force _ _ => execForce_fits h
  | .restore _ _ => execRestore_fits h
  | .marlDwellEnd => execMarlDwellEnd_fits h
  | .trimStep _ _ _ => execTrimStep_fits h
  | .hkcTrimStep _ => execHkcTrimStep_fits h
  | .trimTargetWrite _ _ => execTrimTargetWrite_fits h
  | .marlenClear _ => execMarlenClear_fits h
  | .unpinall _ => execUnpinall_fits h
  | .runVref _ => execRunVref_fits h
  | .runWhite _ => execRunWhite_fits h
  | .cancel _ => execCancel_fits h
  | .vrefRunComplete _ => execVrefRunComplete_fits () h
  | .vrefRunTimeout => execVrefRunTimeout_fits h
  | .whiteCaptureStart => execWhiteCaptureStart_fits h
  | .whiteRunComplete _ _ => execWhiteRunComplete_fits () () h
  | .whiteRunTimeout => execWhiteRunTimeout_fits h
  | .stage _ => execStage_fits h
  | .stageComplete => execStageComplete_fits h
  | .commit _ => execCommit_fits h
  | .commitComplete _ => execCommitComplete_fits h
  | .load _ => execLoad_fits h
  | .retcmd _ => execRetcmd_fits h
  | .lflush _ => execLflush_fits h
  | .ledgerFlushDue => execLedgerFlushDue_fits h
  | .ledgerFlushComplete _ => execLedgerFlushComplete_fits h
  | .ledgerHourTick => execLedgerHourTick_fits h
  | .prog _ => execProg_fits h
  | .keyprog _ => execKeyprog_fits h
  | .glock _ => execGlock_fits h
  | .keylockWrite _ => execKeylockWrite_fits h
  | .otpOpComplete => execOtpOpComplete_fits h
  | .pipeSegment => execPipeSegment_fits h
  | .statctlUnlock _ => execStatctlUnlock_fits h
  | .insrcSwitch => execInsrcSwitch_fits h
  | .csiFrameStart _ _ _ => execCsiFrameStart_fits h
  | .csiLongPacket _ _ _ _ _ => execCsiLongPacket_fits h
  | .csiFrameEnd _ _ => execCsiFrameEnd_fits h
  | .csiPacketError _ _ => execCsiPacketError_fits h
  | .pcamVsyncOpen => execPcamVsyncOpen_fits h
  | .pcamLine _ => execPcamLine_fits h
  | .pcamVsyncClose _ => execPcamVsyncClose_fits h
  | .pcamPclkTimeout => execPcamPclkTimeout_fits h
  | .cameraPortEnWrite _ _ => execCameraPortEnWrite_fits h
  | .cameraPortShutdownDone _ => execCameraPortShutdownDone_fits h
  | .poolHoldGrant _ => execPoolHoldGrant_fits h
  | .holdlimExpiry _ => execHoldlimExpiry_fits h
  | .streamEnWrite _ => execStreamEnWrite_fits h
  | .moverRequest _ => execMoverRequest_fits h
  | .moverCopyComplete _ => execMoverCopyComplete_fits h
  | .linkEnWrite _ => execLinkEnWrite_fits h
  | .retrain _ => execRetrain_fits h
  | .retire _ => execRetire_fits h
  | .linkup _ _ _ => execLinkup_fits h
  | .trainTimeout => execTrainTimeout_fits h
  | .rxlSync => execRxlSync_fits h
  | .rxlSyncLoss => execRxlSyncLoss_fits h
  | .rxlossExpiry => execRxlossExpiry_fits h
  | .rxlSkip _ => execRxlSkip_fits h
  | .elasticBufferError => execElasticBufferError_fits h
  | .laneDriverFault _ => execLaneDriverFault_fits h
  | .retirementApply => execRetirementApply_fits h
  | .retmaxExpiry => execRetmaxExpiry_fits h
  | .packetStart => execPacketStart_fits h
  | .packetComplete => execPacketComplete_fits h
  | .alignColumn => execAlignColumn_fits h
  | .idleColumn => execIdleColumn_fits h
  | .credit _ _ _ _ _ => execCredit_fits h
  | .trig _ _ _ => execTrig_fits h
  | .ack _ _ _ _ _ => execAck_fits h
  | .lanemap _ _ _ => execLanemap_fits h
  | .lanefault _ _ _ => execLanefault_fits h
  | .messageDiscarded => execMessageDiscarded_fits h
  | .seallockWrite _ => execSeallockWrite_fits h
  | .gpioset _ _ => execGpioset_fits h
  | .gpioclr _ _ => execGpioclr_fits h
  | .gpiotgl _ _ => execGpiotgl_fits h
  | .commitStagedPins _ => execCommitStagedPins_fits h
  | .stageDiscard _ => execStageDiscard_fits h
  | .pcfgWrite _ _ => execPcfgWrite_fits h
  | .padWrite _ _ => execPadWrite_fits h
  | .slpWrite _ _ => execSlpWrite_fits h
  | .pinInputChange _ _ => execPinInputChange_fits h
  | .encAEdge _ => execEncAEdge_fits h
  | .evstatClear _ _ => execEvstatClear_fits h
  | .evenWrite _ _ => execEvenWrite_fits h
  | .evvecWrite _ => execEvvecWrite_fits h
  | .thermalSample _ _ => execThermalSample_fits h
  | .fackWrite _ => execFackWrite_fits h
  | .supplyWarnClear _ => execSupplyWarnClear_fits h
  | .vddaonLoss => execVddaonLoss_fits h
  | .invalidCodeGroup => execInvalidCodeGroup_fits h
  | .domainOffRead _ => execDomainOffRead_fits h
  | .extestUpdate _ => execExtestUpdate_fits h

/-- A step that answers goes to a shaped chip. -/
theorem Fits.next {s t : State} {o : Host.Outcome State Fault Refusal} (h : Fits s o) (ho : o = .next t) :
    t.chip.shaped := by
  obtain ⟨m, hm, hshaped⟩ := h
  obtain ⟨hchip, -⟩ := done_inv (hm.symm.trans ho)
  exact hchip ▸ hshaped.settle

/-- Settles O5: the command at the front of the queue keeps the shape, and so does the tick of an empty queue. -/
theorem shapeKept : Obligations.ShapeKept := by
  unfold Obligations.ShapeKept
  intro s t h hstep
  unfold step at hstep
  split at hstep
  next => exact (fits_done h.tick).next hstep
  next c rest _ => exact (fits_exec c (s := { s with pending := rest }) h).next hstep

end Sys2Proof.Machine
end


section
/-! PROOFS. How the answer of a guarded or a host command is settled, what a read returns after each store, and which words
each store leaves: the rules that the proofs below share. -/

namespace Sys2Proof.Machine

-- The proofs are many and short: one after the other they need few threads.
set_option Elab.async false

/-! ## The answers of guarded and of host commands -/

theorem answers_guarded {c : Instr} {s : State} {b : Bool} {m : Chip} {P : Chip → Prop} (h : exec c s = guarded s b m)
    (hb : b = true) (hP : P m.settle) : Answers c s P := by
  subst hb
  exact answers_of_done h hP

theorem answers_hostWrite {c : Instr} {s : State} {sp off : Nat} {f : Chip → Chip} {P : Chip → Prop}
    (h : exec c s = hostWrite s sp off f) (hr : s.reaches sp off) (hP : P (f s.host).settle) : Answers c s P :=
  answers_of_done (h.trans (hostWrite_on s sp off f hr.1 hr.2)) hP

theorem answers_hostWindow {c : Instr} {s : State} {sp off : Nat} {v : Word} {P : Chip → Prop}
    (h : exec c s = hostWindow s sp off v) (ho : s.opens sp off) (hP : P (s.host.writeSpace sp off v).settle) :
    Answers c s P :=
  answers_of_done (h.trans (hostWindow_opens s sp off v ho)) hP

theorem answers_hostRead {c : Instr} {s : State} {sp off : Nat} {f : Chip → Chip} {P : Chip → Prop}
    (h : exec c s = hostRead s sp off f) (hr : s.reaches sp off) (hP : P (f s.host).settle) : Answers c s P :=
  answers_of_done (h.trans (hostRead_on s sp off f hr.1 hr.2)) hP

theorem completes_of_done {c : Instr} {s : State} {m : Chip} (h : exec c s = done s m) : Completes c s m := h

theorem completes_guarded {c : Instr} {s : State} {b : Bool} {m : Chip} (h : exec c s = guarded s b m) (hb : b = true) :
    Completes c s m := by
  subst hb
  exact h

/-- The command that completes with a chip answers what holds of it. -/
theorem Completes.answers {c : Instr} {s : State} {m : Chip} {P : Chip → Prop} (h : Completes c s m) (hP : P m.settle) :
    Answers c s P :=
  answers_of_done h hP

/-! ## Reads of the words -/

/-- What a read returns after a store. -/
theorem Chip.rd_wr (m : Chip) (sp off : Nat) (v : Word) (sp' off' : Nat) :
    (m.wr sp off v).rd sp' off' = if key sp' off' = key sp off then v else m.rd sp' off' :=
  Chip.get_wr m sp off v _

theorem Chip.rd_orBits (m : Chip) (sp off : Nat) (b : Word) (sp' off' : Nat) :
    (m.orBits sp off b).rd sp' off' = if key sp' off' = key sp off then m.rd sp off ||| b else m.rd sp' off' :=
  Chip.rd_wr _ sp off _ sp' off'

theorem Chip.rd_clrBits (m : Chip) (sp off : Nat) (b : Word) (sp' off' : Nat) :
    (m.clrBits sp off b).rd sp' off' = if key sp' off' = key sp off then m.rd sp off &&& ~~~b else m.rd sp' off' :=
  Chip.rd_wr _ sp off _ sp' off'

theorem Chip.rd_bump (m : Chip) (sp off n : Nat) (sp' off' : Nat) :
    (m.bump sp off n).rd sp' off' = if key sp' off' = key sp off then satAdd (m.rd sp off) n else m.rd sp' off' :=
  Chip.rd_wr _ sp off _ sp' off'

@[simp] theorem Chip.rd_settle (m : Chip) (sp off : Nat) : m.settle.rd sp off = m.rd sp off := rfl

@[simp] theorem Chip.rd_begin (m : Chip) (src sp off : Nat) : (m.begin src).rd sp off = m.rd sp off := rfl

@[simp] theorem State.host_rd (s : State) (sp off : Nat) : s.host.rd sp off = s.chip.rd sp off := rfl

/-- What a read returns after a plain write of another word. -/
theorem Chip.rd_plainWrite_ne (m : Chip) {sp off sp' off' : Nat} (v : Word) (h : key sp' off' ≠ key sp off) :
    (m.plainWrite sp off v).rd sp' off' = m.rd sp' off' :=
  Chip.get_plainWrite_ne m sp off v h

/-- While CORE is clocked an event changes its EVSTAT word alone. -/
theorem Chip.rd_raise (m : Chip) (n : Nat) (sp off : Nat) (h : m.pw.core = true) :
    (m.raise n).rd sp off =
      if key sp off = key 0 (0x13 + n / 16) then m.rd 0 (0x13 + n / 16) ||| bitW (n % 16) else m.rd sp off := by
  rw [Chip.raise_on m n h, Chip.rd_orBits]

/-- The one bit of a bit's word. -/
theorem tst_bitW (i j : Nat) : tst (bitW i) j = (decide (j < 16) && decide (i = j)) := by
  unfold tst bitW wd
  rw [BitVec.getLsbD_ofNat, Nat.testBit_two_pow]

@[simp] theorem tst_or (v w : Word) (i : Nat) : tst (v ||| w) i = (tst v i || tst w i) := by simp [tst]

@[simp] theorem tst_and (v w : Word) (i : Nat) : tst (v &&& w) i = (tst v i && tst w i) := by simp [tst]

/-- The bit that the event sets. -/
theorem tst_or_bitW (w : Word) {i : Nat} (h : i < 16) : tst (w ||| bitW i) i = true := by
  simp [tst_bitW, h]

/-! ## Which words a store changes -/

theorem WordsKept.refl (m : Chip) (ws : List (Nat × Nat)) : WordsKept m m ws := fun _ _ => rfl

theorem WordsKept.wr {m t : Chip} {ws : List (Nat × Nat)} {sp off : Nat} (h : WordsKept m t ws) (v : Word)
    (hw : (sp, off) ∈ ws) : WordsKept m (t.wr sp off v) ws :=
  fun k hne => (Bank.get_put_ne t.regs v (hne (sp, off) hw)).trans (h k hne)

theorem WordsKept.orBits {m t : Chip} {ws : List (Nat × Nat)} {sp off : Nat} (h : WordsKept m t ws) (b : Word)
    (hw : (sp, off) ∈ ws) : WordsKept m (t.orBits sp off b) ws :=
  WordsKept.wr (t := { t with cyc := _ }) h _ hw

theorem WordsKept.clrBits {m t : Chip} {ws : List (Nat × Nat)} {sp off : Nat} (h : WordsKept m t ws) (b : Word)
    (hw : (sp, off) ∈ ws) : WordsKept m (t.clrBits sp off b) ws :=
  h.wr _ hw

theorem WordsKept.bump {m t : Chip} {ws : List (Nat × Nat)} {sp off : Nat} (h : WordsKept m t ws) (n : Nat)
    (hw : (sp, off) ∈ ws) : WordsKept m (t.bump sp off n) ws :=
  WordsKept.wr (t := { t with cyc := _ }) h _ hw

theorem WordsKept.plainWrite {m t : Chip} {ws : List (Nat × Nat)} {sp off : Nat} (h : WordsKept m t ws) (v : Word)
    (hw : (sp, off) ∈ ws) : WordsKept m (t.plainWrite sp off v) ws := by
  unfold Chip.plainWrite
  split
  · exact h
  · exact h.wr _ hw

/-- An event changes its EVSTAT word at most. -/
theorem WordsKept.raise {m t : Chip} {ws : List (Nat × Nat)} {n : Nat} (h : WordsKept m t ws)
    (hw : (0, 0x13 + n / 16) ∈ ws) : WordsKept m (t.raise n) ws := by
  unfold Chip.raise
  split
  · exact h.orBits _ hw
  · exact h

theorem WordsKept.raiseIf {m t : Chip} {ws : List (Nat × Nat)} {n : Nat} {c : Bool} (h : WordsKept m t ws)
    (hw : (0, 0x13 + n / 16) ∈ ws) : WordsKept m (t.raiseIf c n) ws := by
  unfold Chip.raiseIf
  split
  · exact h.raise hw
  · exact h

theorem WordsKept.wr32 {m t : Chip} {ws : List (Nat × Nat)} {sp off : Nat} (h : WordsKept m t ws) (v : Nat)
    (h0 : (sp, off) ∈ ws) (h1 : (sp, off + 1) ∈ ws) : WordsKept m (t.wr32 sp off v) ws :=
  (h.wr _ h0).wr _ h1

theorem WordsKept.ite {m a b : Chip} {ws : List (Nat × Nat)} {c : Prop} [Decidable c] (ha : WordsKept m a ws)
    (hb : WordsKept m b ws) : WordsKept m (if c then a else b) ws := by
  split
  · exact ha
  · exact hb

theorem OnlyThese.refl (m : Chip) (ws : List (Nat × Nat)) : OnlyThese m m ws := ⟨rfl, WordsKept.refl m ws⟩

/-- More words may be listed than change. -/
theorem OnlyThese.mono {m t : Chip} {ws vs : List (Nat × Nat)} (h : OnlyThese m t ws) (hsub : ws ⊆ vs) :
    OnlyThese m t vs :=
  ⟨h.1, fun k hk => h.2 k fun w hw => hk w (hsub hw)⟩

/-- The host as a source of the cycle changes no word. -/
theorem onlyThese_host (s : State) (ws : List (Nat × Nat)) : OnlyThese s.chip s.host ws := onlyThese_begin s.chip 0 ws

/-- A change of the record of the cycle is none of words. -/
theorem OnlyThese.cyc {m t : Chip} {ws : List (Nat × Nat)} (h : OnlyThese m t ws) (c : Cycle) :
    OnlyThese m { t with cyc := c } ws := by
  obtain ⟨ht, hk⟩ := h
  refine ⟨?_, hk⟩
  obtain ⟨r, c', i, rfl⟩ := onlyWords_iff.mp ht
  exact onlyWords_iff.mpr ⟨_, _, _, rfl⟩

theorem OnlyThese.clrBits {m t : Chip} {ws : List (Nat × Nat)} {sp off : Nat} (h : OnlyThese m t ws) (b : Word)
    (hw : (sp, off) ∈ ws) : OnlyThese m (t.clrBits sp off b) ws := h.wr _ hw

theorem OnlyThese.bump {m t : Chip} {ws : List (Nat × Nat)} {sp off : Nat} (h : OnlyThese m t ws) (n : Nat)
    (hw : (sp, off) ∈ ws) : OnlyThese m (t.bump sp off n) ws := (h.cyc _).wr _ hw

theorem OnlyThese.wr32 {m t : Chip} {ws : List (Nat × Nat)} {sp off : Nat} (h : OnlyThese m t ws) (v : Nat)
    (h0 : (sp, off) ∈ ws) (h1 : (sp, off + 1) ∈ ws) : OnlyThese m (t.wr32 sp off v) ws :=
  (h.wr _ h0).wr _ h1

/-- What changes stored words alone leaves the power domains. -/
theorem OnlyThese.pw {m t : Chip} {ws : List (Nat × Nat)} (h : OnlyThese m t ws) : t.pw = m.pw := by
  obtain ⟨r, c, i, rfl⟩ := onlyWords_iff.mp h.1
  rfl

/-- While CORE is clocked an event changes its EVSTAT word alone. -/
theorem OnlyThese.raise {m t : Chip} {ws : List (Nat × Nat)} {n : Nat} (h : OnlyThese m t ws) (hc : m.pw.core = true)
    (hw : (0, 0x13 + n / 16) ∈ ws) : OnlyThese m (t.raise n) ws := by
  rw [Chip.raise_on t n (h.pw ▸ hc)]
  exact h.orBits _ hw

theorem OnlyThese.raiseIf {m t : Chip} {ws : List (Nat × Nat)} {n : Nat} {c : Bool} (h : OnlyThese m t ws)
    (hc : m.pw.core = true) (hw : (0, 0x13 + n / 16) ∈ ws) : OnlyThese m (t.raiseIf c n) ws := by
  unfold Chip.raiseIf
  split
  · exact h.raise hc hw
  · exact h

theorem OnlyThese.ite {m a b : Chip} {ws : List (Nat × Nat)} {c : Prop} [Decidable c] (ha : OnlyThese m a ws)
    (hb : OnlyThese m b ws) : OnlyThese m (if c then a else b) ws := by
  split
  · exact ha
  · exact hb

/-- A command that changes neither the words nor any other part leaves the chip as it stood. -/
theorem unchanged_begin (m : Chip) (src : Nat) : Unchanged m (m.begin src).settle := rfl

end Sys2Proof.Machine
end


section
/-! PROOFS. One step, the state after reset and the registers that are only read or written: the statements of O1, O6, O7,
O8, O20, O22 and O23. -/

namespace Sys2Proof.Machine

-- The proofs are many and short: one after the other they need few threads.
set_option Elab.async false

/-! ## One step and the state after reset -/

/-- Settles O1: it is the definition of a step. -/
theorem stepRunsFrontCommand : Obligations.StepRunsFrontCommand := by
  unfold Obligations.StepRunsFrontCommand
  intro c rest s h
  unfold step
  rw [h]

/-- Settles O6: each part of the state after reset evaluates to its value; the units are there by `chip_reset_shaped`. -/
theorem resetState : Obligations.ResetState := by
  refine ⟨⟨rfl, rfl, rfl, rfl, rfl, rfl, rfl, rfl, rfl, rfl, ?_, ?_, ?_, ?_, rfl, rfl, ?_, ?_⟩, rfl,
    chip_reset_shaped⟩
  all_goals decide

/-! ## Plain words -/

/-- A word whose bits are all RW takes a plain write whole (R6). -/
theorem Chip.rd_plainWrite_rw (m : Chip) {sp off : Nat} {r : RegRow} (v : Word) (h : regRow sp off = some r)
    (hrw : r.rw = 0xFFFF) (hw1c : r.w1c = 0) : (m.plainWrite sp off v).rd sp off = v := by
  have hall : (0xFFFF : Word) = BitVec.allOnes 16 := by decide
  rw [Chip.rd_plainWrite_same m sp off v r h, hrw, hw1c, hall]
  simp only [merge, BitVec.and_allOnes, BitVec.not_allOnes, BitVec.and_zero, BitVec.zero_or, BitVec.zero_and,
    BitVec.not_zero, Word, BitVec.ofNat_eq_ofNat]

/-- A write of an address that no rule of its own selects is a plain one. -/
theorem exec_registerWrite_direct (s : State) {a : Nat} (v : Word) (ha : a < 0x40) (hw : a ∉ [0x1E, 0x1F, 0x20, 0x21]) :
    exec (.registerWrite 0 a v) s = hostWrite s 0 a (·.writeDirect a v) := by
  simp only [List.mem_cons, List.not_mem_nil, or_false, not_or] at hw
  obtain ⟨h1, h2, h3, h4⟩ := hw
  simp [exec, execRegisterWrite, h1, h2, h3, h4, ha]

/-- Settles O7: SCRATCH0 and SCRATCH1 are plain RW words that the bus alone owns. -/
theorem scratchHoldsWrite : Obligations.ScratchHoldsWrite := by
  unfold Obligations.ScratchHoldsWrite
  rintro s a v (rfl | rfl) hbus
  all_goals
    refine answers_hostWrite (exec_registerWrite_direct s v (by decide) (by decide)) ⟨hbus, hbus⟩ ⟨?_, ?_⟩
    · exact Chip.rd_plainWrite_rw s.host v rfl rfl rfl
    · exact ((onlyThese_host s _).plainWrite v (List.mem_singleton_self _)).settle

/-- Settles O20: a write of EVSTAT is the clear of its W1C bits, EVEN is a plain RW word. -/
theorem eventRegisters : Obligations.EventRegisters := by
  refine ⟨fun s hi v hr => ?clear, fun s hi v hr => ?enable⟩
  case clear =>
    refine answers_hostWrite (f := (·.clearEvents hi v)) rfl hr ⟨?_, ?_⟩
    · exact Chip.rd_w1c_same s.host 0 _ v
    · exact ((onlyThese_host s _).w1c v (List.mem_singleton_self _)).settle
  case enable =>
    refine answers_hostWrite (f := (·.plainWrite 0 (if hi then 0x16 else 0x15) v)) rfl hr ⟨?_, ?_⟩
    · cases hi
      · exact Chip.rd_plainWrite_rw s.host v rfl rfl rfl
      · exact Chip.rd_plainWrite_rw s.host v rfl rfl rfl
    · exact ((onlyThese_host s _).plainWrite v (List.mem_singleton_self _)).settle

/-- Settles O22: the write of FACK is the condition of R566, on a state where nothing else acts. -/
theorem faultAcknowledge : Obligations.FaultAcknowledge := by
  refine fun s v ho => ⟨fun hle => ?taken, fun hlt => ?discarded⟩
  case taken =>
    have hw : s.host.writeSpace spFault 1 v = s.host.wr spFault 1 v := if_neg (Nat.not_lt.mpr hle)
    refine answers_hostWindow rfl ho ?_
    rw [hw]
    exact ⟨Chip.rd_wr_same .., ((onlyThese_host s _).wr v (List.mem_singleton_self _)).settle⟩
  case discarded =>
    have hw : s.host.writeSpace spFault 1 v = s.host := if_pos hlt
    refine answers_hostWindow rfl ho ?_
    rw [hw]
    exact unchanged_begin s.chip 0

/-! ## Accesses to a domain that is off -/

/-- A write of a direct register is a host write of its address. -/
theorem exec_registerWrite_zero (s : State) {a : Nat} (v : Word) (ha : a < 0x40) :
    ∃ f, exec (.registerWrite 0 a v) s = hostWrite s 0 a f := by
  simp only [exec, execRegisterWrite, if_true, ha]
  split
  · exact ⟨_, rfl⟩
  · split
    · exact ⟨_, rfl⟩
    · exact ⟨_, rfl⟩

/-- A read of a direct register is a host read of its address. -/
theorem exec_domainOffRead (s : State) {a : Nat} (ha : a < 0x40) :
    ∃ f, exec (.domainOffRead a) s = hostRead s 0 a f := by
  simp only [exec, execDomainOffRead, if_neg (Nat.not_le.mpr ha)]
  split
  all_goals exact ⟨_, rfl⟩

/-- BUSERR is set, nothing else (R15). -/
theorem busErr_sets (s : State) : s.host.busErr.settle.rd 0 0x03 = s.chip.rd 0 0x03 ||| 0x0010 ∧
    OnlyThese s.chip s.host.busErr.settle [(0, 0x03)] :=
  ⟨Chip.rd_orBits_same s.host 0 0x03 _, ((onlyThese_host s _).orBits _ (List.mem_singleton_self _)).settle⟩

/-- Nothing held or staged, or CORE off: a window write to a domain that is off only sets BUSERR. -/
theorem hostWindow_off (s : State) {sp off : Nat} (v : Word) (hbus : s.chip.busOn = true)
    (hown : s.chip.owned sp off = false)
    (h : s.chip.coreOn = false ∨ (s.chip.win.staged = none ∧ s.chip.win.heldWrite = none)) :
    hostWindow s sp off v = done s s.host.busErr := by
  have hbus' : (s.chip.begin 0).busOn = true := hbus
  have hown' : (s.chip.begin 0).owned sp off = false := hown
  have hfirst : (if (s.chip.begin 0).coreOn then (s.chip.begin 0).windowFirst else s.chip.begin 0) = s.chip.begin 0 := by
    rcases h with hoff | ⟨hst, hheld⟩
    · exact if_neg (by rw [show (s.chip.begin 0).coreOn = false from hoff]; decide)
    · have hnone : (s.chip.begin 0).windowFirst = s.chip.begin 0 := by
        unfold Chip.windowFirst
        rw [Chip.heldDone_of_none (m := s.chip.begin 0) hheld, Chip.stagedAlone_of_none (m := s.chip.begin 0) hst]
      rw [hnone, ite_self]
  simp [hostWindow, hbus', hfirst, hown', State.host]

/-- Settles O8: the three accesses meet an owner that is off; what remains of each is BUSERR. -/
theorem domainOffAccess : Obligations.DomainOffAccess := by
  refine ⟨fun s sp off v hbus hown hacc => ?write, fun s v held hbus hcore => ?window, fun s a hbus ha hown => ?read⟩
  case write =>
    rcases hacc with ⟨rfl, hoff⟩ | ⟨hsp, hwin⟩
    · obtain ⟨f, hf⟩ := exec_registerWrite_zero s v hoff
      exact answers_of_done (hf.trans (hostWrite_off s 0 off f hbus hown)) (busErr_sets s)
    · have hsp0 : sp ≠ 0 := by rintro rfl; exact absurd hsp (by decide)
      have hexec : exec (.registerWrite sp off v) s = hostWindow s sp off v := by
        simp [exec, execRegisterWrite, hsp0, hsp]
      exact answers_of_done (hexec.trans (hostWindow_off s v hbus hown hwin)) (busErr_sets s)
  case window => exact answers_of_done (hostWrite_off s 0 0x20 (·.windowAccess v held) hbus hcore) (busErr_sets s)
  case read =>
    obtain ⟨f, hf⟩ := exec_domainOffRead s ha
    obtain ⟨hrd, honly⟩ := busErr_sets s
    exact answers_of_done (hf.trans (hostRead_off s 0 a f hbus hown)) ⟨rfl, hrd, honly.drive 0xFFFF⟩

/-! ## The temperature sample -/

/-- The word of a code below 4096 with or without WARN. -/
theorem fld_code (t : Nat) (w : Bool) (h : t < 4096) : fld (wd (t + if w then 0x8000 else 0)) 0 12 = t := by
  cases w <;> simp [fld, wd] <;> omega

theorem tst_wd (n i : Nat) : tst (wd n) i = (decide (i < 16) && n.testBit i) := BitVec.getLsbD_ofNat 16 n i

theorem tst_warn (t : Nat) (w : Bool) (h : t < 4096) : tst (wd (t + if w then 0x8000 else 0)) 15 = w := by
  rw [tst_wd, Nat.testBit_eq_decide_div_mod_eq]
  cases w
  · simp; omega
  · simp; omega

/-- WARN after a sample whose larger code is this: above THLIM it rises, 5 degrees below it falls (R563). -/
def Chip.warnAfter (m : Chip) (t : Nat) : Bool :=
  decide (16 * (fld (m.rd spPin 0x8B) 0 8 + 64) < t) ||
    (tst (m.rd spPin 0x8C) 15 && !decide (t + 80 < 16 * (fld (m.rd spPin 0x8B) 0 8 + 64)))

/-- The chip after a sample: TMAX with WARN stored, the rise of WARN raised. -/
def Chip.sampled (m : Chip) (a b : Nat) : Chip :=
  (Chip.wr { m with cal := { m.cal with temp0 := some a } } spPin 0x8C
    (wd (max a b + if m.warnAfter (max a b) then 0x8000 else 0))).raiseIf
      (m.warnAfter (max a b) && !tst (m.rd spPin 0x8C) 15) evThermalWarn

theorem exec_thermalSample (s : State) {a b : Nat} (ha : a < 4096) (hb : b < 4096) :
    exec (.thermalSample a b) s = guarded s s.chip.pw.core (s.chip.sampled a b) := by
  simp only [exec, execThermalSample, Nat.mod_eq_of_lt ha, Nat.mod_eq_of_lt hb]
  rfl

theorem Chip.rd_sampled (m : Chip) (a b : Nat) (hc : m.pw.core = true) :
    (m.sampled a b).rd spPin 0x8C = wd (max a b + if m.warnAfter (max a b) then 0x8000 else 0) := by
  unfold Chip.sampled Chip.raiseIf
  split
  · rw [Chip.rd_raise _ _ _ _ (by exact hc), if_neg (by decide), Chip.rd_wr_same]
  · rw [Chip.rd_wr_same]

/-- Settles O23: the sample stores TMAX with WARN and raises THERMAL_WARN at the rise of WARN. -/
theorem thermalWarning : Obligations.ThermalWarning := by
  intro s a b hcore ha hb
  have hlt : max a b < 4096 := max_lt ha hb
  have hrd : (s.chip.sampled a b).settle.rd spPin 0x8C = _ := s.chip.rd_sampled a b hcore
  have hcal : (s.chip.sampled a b).cal = { s.chip.cal with temp0 := some a } := by
    unfold Chip.sampled Chip.raiseIf
    split
    · exact Chip.raise_cal _ _
    · rfl
  refine answers_guarded (exec_thermalSample s ha hb) hcore ⟨?max, fun hrise => ⟨?warn, fun hwas => ?event⟩, fun hfall => ?off,
    hcal, ?words⟩
  case max => rw [hrd, fld_code _ _ hlt]
  case warn =>
    rw [hrd, tst_warn _ _ hlt]
    simp [Chip.warnAfter, hrise]
  case event =>
    have hw : s.chip.warnAfter (max a b) = true := by simp [Chip.warnAfter, hrise]
    have hev : (s.chip.sampled a b).rd 0 0x14 = s.chip.rd 0 0x14 ||| bitW 15 := by
      unfold Chip.sampled
      rw [hw, hwas]
      exact (Chip.rd_raise _ evThermalWarn 0 0x14 (by exact hcore)).trans
        (congrArg (· ||| bitW 15) (Chip.rd_wr_ne _ _ (by decide)))
    rw [Chip.rd_settle, hev]
    exact tst_or_bitW _ (by decide)
  case off =>
    rw [hrd, tst_warn _ _ hlt]
    simp only [Chip.warnAfter, hfall, decide_true, Bool.not_true, Bool.and_false, Bool.or_false, decide_eq_false_iff_not]
    omega
  case words =>
    rw [show (s.chip.sampled a b).settle.cal = _ from hcal]
    exact .settle (.raiseIf (.wr (.refl _ _) _ (by decide)) hcore (by decide))

end Sys2Proof.Machine
end


section
/-! PROOFS. The pins: the GPIO outputs, the pin configuration and the input buffers, the statements of O24 and O25. -/

namespace Sys2Proof.Machine

-- The proofs are many and short: one after the other they need few threads.
set_option Elab.async false

/-! ## Drives of OUT -/

/-- Bits above the pins may be set without a change of the pins' bits. -/
theorem getLsbD_foldl_or_high (l : List Nat) (p : Nat → Bool) (v : BitVec 40) {i : Nat} (hi : i < 32) :
    (l.foldl (fun v c => if p c then v ||| BitVec.ofNat 40 (2 ^ (32 + c)) else v) v).getLsbD i = v.getLsbD i := by
  induction l generalizing v with
  | nil => rfl
  | cons c r ih =>
    have hbit : (BitVec.ofNat 40 (2 ^ (32 + c))).getLsbD i = false := by
      rw [BitVec.getLsbD_ofNat, Nat.testBit_two_pow_of_ne (by omega), Bool.and_false]
    rw [List.foldl_cons, ih]
    split
    · rw [BitVec.getLsbD_or, hbit, Bool.or_false]
    · rfl

/-- The driven levels hold OUT in their low bits. -/
theorem Chip.getLsbD_driven (m : Chip) {i : Nat} (hi : i < 32) : m.driven.getLsbD i = m.pins.out.getLsbD i := by
  unfold Chip.driven
  rw [getLsbD_foldl_or_high _ _ _ hi, BitVec.getLsbD_setWidth, decide_eq_true (by omega : i < 40), Bool.true_and]

/-- Nothing cleared, nothing lost. -/
theorem and_not_zero {n : Nat} (x : BitVec n) : x &&& ~~~(0 : BitVec n) = x := by
  rw [BitVec.ofNat_eq_ofNat, BitVec.not_zero, BitVec.and_allOnes]

/-- A first drive of its cycle acts on OUT as it stood (R127). -/
theorem Chip.driveOut_first (m : Chip) (rank : Nat) (set clr tgl : BitVec 32) (h : m.cyc.drives = []) :
    (m.driveOut rank set clr tgl).pins = { m.pins with out := ((m.pins.out ||| set) &&& ~~~clr) ^^^ tgl } := by
  have hout : (m.driveOut rank set clr tgl).pins.out = ((m.pins.out ||| set) &&& ~~~clr) ^^^ tgl := by
    refine BitVec.eq_of_getLsbD_eq fun i hi => ?_
    have hi40 : i < 40 := by omega
    have hdriven := m.getLsbD_driven hi
    simp only [Chip.driveOut, Chip.driveCycle, h, reachedBits, insertDrive, Cycle.result, applyDrive, List.foldl_nil,
      List.foldl_cons, BitVec.getLsbD_or, BitVec.getLsbD_and, BitVec.getLsbD_not, BitVec.getLsbD_xor,
      BitVec.getLsbD_setWidth, hdriven, hi, hi40, decide_true, Bool.true_and]
    cases m.pins.out.getLsbD i <;> cases set.getLsbD i <;> cases clr.getLsbD i <;> cases tgl.getLsbD i <;> simp
  rw [← hout]
  rfl

/-- The host's access opens no drive of the cycle. -/
theorem State.host_drives {s : State} (h : s.chip.cyc.drives = []) : s.host.cyc.drives = [] := by
  unfold State.host Chip.begin
  split
  · rfl
  · exact h

/-- A drive changes no word. -/
@[simp] theorem Chip.driveOut_regs (m : Chip) (rank : Nat) (set clr tgl : BitVec 32) :
    (m.driveOut rank set clr tgl).regs = m.regs := rfl

/-- A GPIO write of a half while nothing is staged: the first drive of its cycle. -/
theorem answers_gpioDrive {c : Instr} {s : State} {a : Nat} {f : Chip → Chip} {set clr tgl out : BitVec 32}
    (hexec : exec c s = hostWrite s 0 a f) (hr : s.reaches 0 a) (hf : f s.host = s.host.driveOut 0 set clr tgl)
    (hdrives : s.chip.cyc.drives = []) (hout : out = ((s.chip.pins.out ||| set) &&& ~~~clr) ^^^ tgl) :
    Answers c s (fun t => t.pins = { s.chip.pins with out := out, irq := t.pins.irq } ∧ AllWordsKept s.chip t) := by
  refine answers_hostWrite hexec hr ?_
  rw [hf, hout]
  refine ⟨?_, rfl⟩
  unfold Chip.settle
  rw [Chip.driveOut_first _ _ _ _ _ (State.host_drives hdrives)]
  rfl

/-- A GPIO write while STAGE is 1 changes a mask alone. -/
theorem answers_gpioStage {c : Instr} {s : State} {a : Nat} {f : Chip → Chip} {p : Pins}
    (hexec : exec c s = hostWrite s 0 a f) (hr : s.reaches 0 a) (hf : f s.host = { s.host with pins := p }) :
    Answers c s (fun t => t.pins = { p with irq := t.pins.irq } ∧ AllWordsKept s.chip t) := by
  refine answers_hostWrite hexec hr ?_
  rw [hf]
  exact ⟨rfl, rfl⟩

/-- STAGE takes the written bit. -/
theorem Chip.staging_plainWrite (m : Chip) (v : Word) : (m.plainWrite spPin 0x80 v).staging = tst v 15 := by
  unfold Chip.staging
  rw [Chip.rd_plainWrite_same m spPin 0x80 v _ rfl]
  simp [merge, tst]

/-- CORE answers for the GPIO registers. -/
theorem reaches_gpio {s : State} {a : Nat} (hbus : s.chip.busOn = true) (hcore : s.chip.coreOn = true)
    (ha : 0x10 ≤ a ∧ a ≠ 0x39 ∧ a ≠ 0x3A) : s.reaches 0 a := by
  refine ⟨hbus, ?_⟩
  have h1 : ¬a < 0x10 := by omega
  simp [Chip.owned, h1, ha.2.1, ha.2.2, hcore]

/-- Settles O24: without staging a write is the first drive of its cycle, with staging it adds to a mask; GPSTG commits the
masks in one drive or drops them. -/
theorem gpioOutputs : Obligations.GpioOutputs := by
  refine ⟨fun s hi v hbus hcore => ⟨fun hst hd => ⟨?set, ?clr, ?tgl⟩, fun hst => ⟨?sset, ?sclr, ?stgl⟩⟩,
    fun s v ho => ⟨fun hv hd => ?commit, fun h14 h15 => ?discard⟩⟩
  case set =>
    refine answers_gpioDrive (f := (·.gpioSet hi v)) rfl (reaches_gpio hbus hcore (by cases hi <;> decide))
      (if_neg (ne_true_of_eq_false hst)) hd ?_
    rw [and_not_zero, BitVec.ofNat_eq_ofNat, BitVec.xor_zero]
  case clr =>
    refine answers_gpioDrive (f := (·.gpioClr hi v)) rfl (reaches_gpio hbus hcore (by cases hi <;> decide))
      (if_neg (ne_true_of_eq_false hst)) hd ?_
    rw [BitVec.ofNat_eq_ofNat, BitVec.or_zero, BitVec.xor_zero]
  case tgl =>
    refine answers_gpioDrive (f := (·.gpioTgl hi v)) rfl (reaches_gpio hbus hcore (by cases hi <;> decide))
      (if_neg (ne_true_of_eq_false hst)) hd ?_
    rw [and_not_zero, BitVec.ofNat_eq_ofNat, BitVec.or_zero]
  case sset =>
    exact answers_gpioStage (f := (·.gpioSet hi v)) rfl (reaches_gpio hbus hcore (by cases hi <;> decide)) (if_pos hst)
  case sclr =>
    exact answers_gpioStage (f := (·.gpioClr hi v)) rfl (reaches_gpio hbus hcore (by cases hi <;> decide)) (if_pos hst)
  case stgl =>
    exact answers_gpioStage (f := (·.gpioTgl hi v)) rfl (reaches_gpio hbus hcore (by cases hi <;> decide)) (if_pos hst)
  case commit =>
    have hw : s.host.writeSpace spPin 0x80 v = (s.host.commitPins).plainWrite spPin 0x80 v := by
      show s.host.writeGpstg v = _
      rw [Chip.writeGpstg, if_pos hv]
    refine answers_hostWindow (if_pos hv) ho ?_
    rw [hw]
    refine ⟨?_, Chip.staging_plainWrite _ v, ?_⟩
    · unfold Chip.settle
      rw [Chip.plainWrite_pins]
      unfold Chip.commitPins Chip.dropStaged
      rw [Chip.driveOut_first _ _ _ _ _ (State.host_drives hd)]
      rfl
    · exact WordsKept.plainWrite (t := s.host.commitPins) (fun _ _ => rfl) v (List.mem_singleton_self _)
  case discard =>
    have hw : s.host.writeSpace spPin 0x80 v = (s.host.dropStaged).plainWrite spPin 0x80 v := by
      show s.host.writeGpstg v = _
      simp [Chip.writeGpstg, h14, h15]
    refine answers_hostWindow (if_neg (by simp [h14, h15])) ho ?_
    rw [hw]
    refine ⟨?_, (Chip.staging_plainWrite _ v).trans h15, ?_⟩
    · unfold Chip.settle
      rw [Chip.plainWrite_pins]
      rfl
    · exact WordsKept.plainWrite (t := s.host.dropStaged) (fun _ _ => rfl) v (List.mem_singleton_self _)

/-! ## Fields of a word -/

/-- Words whose bits agree in a field have the same field. -/
theorem fld_congr {v w : Word} {lo n : Nat} (h : ∀ i, i < n → tst v (lo + i) = tst w (lo + i)) :
    fld v lo n = fld w lo n := by
  refine Nat.eq_of_testBit_eq fun i => ?_
  unfold fld
  rw [Nat.testBit_mod_two_pow, Nat.testBit_mod_two_pow, Nat.testBit_div_two_pow, Nat.testBit_div_two_pow]
  by_cases hi : i < n
  · have hbit : v.toNat.testBit (i + lo) = w.toNat.testBit (i + lo) := by
      rw [Nat.add_comm]
      exact h i hi
    rw [hbit]
  · simp [hi]

/-- A merge takes the new word's bit where the mask has one. -/
theorem tst_merge (old mask v : Word) {i : Nat} (h : i < 16) :
    tst (merge old mask v) i = if tst mask i then tst v i else tst old i := by
  unfold merge tst
  rw [BitVec.getLsbD_or, BitVec.getLsbD_and, BitVec.getLsbD_and, BitVec.getLsbD_not, decide_eq_true h]
  cases mask.getLsbD i <;> simp

/-- A word without W1C bits takes the RW bits of a plain write. -/
theorem Chip.rd_plainWrite_merge (m : Chip) {sp off : Nat} {r : RegRow} (v : Word) (h : regRow sp off = some r)
    (hw1c : r.w1c = 0) : (m.plainWrite sp off v).rd sp off = merge (m.rd sp off) r.rw v := by
  rw [Chip.rd_plainWrite_same m sp off v r h, hw1c]
  have hnone : v &&& (0 : Word) &&& ~~~m.fresh sp off = 0 := by simp
  rw [hnone]
  exact BitVec.and_allOnes

/-! ## The configuration words of the pins -/

theorem regRow_pcfg : ∀ n : Fin 32, regRow spPin (pinOff n.val 0) = some ⟨0x0000, 32, 4, 1, 0, 0x8077, 0, 0⟩ := by decide

theorem regRow_pad : ∀ n : Fin 32, regRow spPin (pinOff n.val 1) = some ⟨0x0001, 32, 4, 1, 0, 0xFEF0, 0, 0⟩ := by decide

theorem regRow_slp : ∀ n : Fin 32, regRow spPin (pinOff n.val 2) = some ⟨0x0002, 32, 4, 1, 0, 0x0037, 0, 0⟩ := by decide

/-- A pin's words are written by their own rules. -/
theorem Chip.writeSpace_pin (m : Chip) (n : Fin 32) (v : Word) :
    m.writeSpace spPin (pinOff n.val 0) v = m.writePcfg n.val v ∧
    m.writeSpace spPin (pinOff n.val 1) v = m.writePad n.val v ∧
    m.writeSpace spPin (pinOff n.val 2) v = m.writeSlp n.val v := by
  have h (o : Nat) (ho : o < 4) : pinOff n.val o < 0x80 ∧ pinOff n.val o % 4 = o ∧ pinOff n.val o / 4 = n.val := by
    unfold pinOff
    omega
  refine ⟨?_, ?_, ?_⟩
  · obtain ⟨h1, h2, h3⟩ := h 0 (by decide)
    show m.writePin _ v = _
    rw [Chip.writePin, if_pos h1, h2, h3]
    rfl
  · obtain ⟨h1, h2, h3⟩ := h 1 (by decide)
    show m.writePin _ v = _
    rw [Chip.writePin, if_pos h1, h2, h3]
    rfl
  · obtain ⟨h1, h2, h3⟩ := h 2 (by decide)
    show m.writePin _ v = _
    rw [Chip.writePin, if_pos h1, h2, h3]
    rfl

/-- What a merge keeps of the new word: the bits of the mask. -/
theorem merge_and_mask (old mask v : Word) : merge old mask v &&& mask = v &&& mask := by
  refine BitVec.eq_of_getLsbD_eq fun i hi => ?_
  unfold merge
  simp only [BitVec.getLsbD_and, BitVec.getLsbD_or, BitVec.getLsbD_not, hi, decide_true]
  cases mask.getLsbD i <;> simp

/-- The element just replaced. -/
theorem getD_upd_same {α : Type} {l : List α} {i : Nat} (v d : α) (h : i < l.length) :
    (upd l i (fun _ => v)).getD i d = v := by
  simp [upd, List.getD_eq_getElem?_getD, h]

theorem tst_setBit_same (w : Word) {i : Nat} (b : Bool) (h : i < 16) : tst (setBit w i b) i = b := by
  unfold setBit
  cases b
  · simp [tst_and_not _ _ h, tst_bitW, h]
  · simp [tst_bitW, h]

/-- A refused configuration only sets PINERR.CFG. -/
theorem pinErr_sets (s : State) : (s.host.orBits spPin 0x8A 0x0001).settle.rd spPin 0x8A = s.chip.rd spPin 0x8A ||| 0x0001 ∧
    OnlyThese s.chip (s.host.orBits spPin 0x8A 0x0001).settle [(spPin, 0x8A)] :=
  ⟨Chip.rd_orBits_same s.host _ _ _, ((onlyThese_host s _).orBits _ (List.mem_singleton_self _)).settle⟩

/-- A signal that two pins take is flagged, nothing else. -/
theorem Chip.writePcfg_ok (m : Chip) {n : Nat} {v : Word} (h : fselOk n (fld v 0 3) = true) :
    m.writePcfg n v = m.plainWrite spPin (pinOff n 0) v ∨
    m.writePcfg n v = (m.plainWrite spPin (pinOff n 0) v).orBits spPin 0x8A 0x0002 := by
  unfold Chip.writePcfg
  rw [if_pos h]
  dsimp only
  split
  · exact .inl rfl
  · split
    · exact .inr rfl
    · exact .inl rfl

/-- A merge takes a field whole where the mask covers it. -/
theorem fld_merge {old mask v : Word} {lo n : Nat} (hlen : lo + n ≤ 16) (hmask : ∀ i, i < n → tst mask (lo + i) = true) :
    fld (merge old mask v) lo n = fld v lo n :=
  fld_congr fun i hi => by rw [tst_merge _ _ _ (by omega), if_pos (hmask i hi)]

/-- The function select of a pin takes the written value. -/
theorem Chip.fsel_plainWrite (m : Chip) (n : Fin 32) (v : Word) :
    fld ((m.plainWrite spPin (pinOff n.val 0) v).rd spPin (pinOff n.val 0)) 0 3 = fld v 0 3 := by
  rw [Chip.rd_plainWrite_merge m v (regRow_pcfg n) rfl]
  exact fld_merge (by decide) (by decide)

theorem key_pinOff_ne (n : Fin 32) (o : Nat) (ho : o < 4) : key spPin (pinOff n.val o) ≠ key spPin 0x8A := by
  unfold key pinOff
  omega

/-! ## What an HKC event changes -/

/-- Words, the record of the cycle and the requests of the HKC are all that changed. -/
def OnlyRequests (m t : Chip) : Prop := t = { m with regs := t.regs, cyc := t.cyc, hkc := t.hkc }

theorem onlyRequests_iff {m t : Chip} :
    OnlyRequests m t ↔ ∃ r c h, t = { m with regs := r, cyc := c, hkc := h } := by
  constructor
  · exact fun h => ⟨_, _, _, h⟩
  · rintro ⟨r, c, h, rfl⟩
    rfl

theorem OnlyRequests.refl (m : Chip) : OnlyRequests m m := rfl

theorem OnlyRequests.trans {m t u : Chip} (h : OnlyRequests m t) (h' : OnlyRequests t u) : OnlyRequests m u := by
  obtain ⟨r, c, k, rfl⟩ := onlyRequests_iff.mp h
  obtain ⟨r', c', k', rfl⟩ := onlyRequests_iff.mp h'
  exact onlyRequests_iff.mpr ⟨_, _, _, rfl⟩

theorem OnlyRequests.ite {m a b : Chip} {c : Prop} [Decidable c] (ha : OnlyRequests m a) (hb : OnlyRequests m b) :
    OnlyRequests m (if c then a else b) := by
  split
  · exact ha
  · exact hb

theorem OnlyRequests.foldl {α : Type} {f : Chip → α → Chip} (h : ∀ m a, OnlyRequests m (f m a)) (l : List α) (m : Chip) :
    OnlyRequests m (l.foldl f m) := by
  induction l generalizing m with
  | nil => exact .refl m
  | cons a r ih => exact (h m a).trans (ih (f m a))

theorem onlyRequests_bump (m : Chip) (sp off n : Nat) : OnlyRequests m (m.bump sp off n) := rfl

theorem onlyRequests_missSlot (m : Chip) (sl : Nat) : OnlyRequests m (m.missSlot sl) :=
  .foldl (fun m _ => .ite (onlyRequests_bump m _ _ _) (.refl m)) _ m

theorem onlyRequests_raise (m : Chip) (n : Nat) (h : m.pw.core = true) : OnlyRequests m (m.raise n) := by
  rw [Chip.raise_on m n h]
  rfl

theorem onlyRequests_dropSlot (m : Chip) (sl : Nat) (h : m.pw.core = true) : OnlyRequests m (m.dropSlot sl) :=
  .trans (.trans (onlyRequests_bump m _ _ _) (onlyRequests_raise _ _ (by exact h))) (onlyRequests_missSlot _ sl)

theorem onlyRequests_slotEvent (m : Chip) (sl : Nat) (t : Tick) : OnlyRequests m (m.slotEvent sl t) := by
  unfold Chip.slotEvent
  dsimp only
  split
  next hon =>
    have hcore : m.pw.core = true := by
      simp only [Chip.slotsOn, Bool.and_eq_true] at hon
      exact hon.2.1.1.1
    refine .ite (onlyRequests_missSlot m sl) ?_
    split
    · exact onlyRequests_dropSlot m sl hcore
    · rfl
  next => exact .refl m

/-! ## The level of a pin -/

/-- One bit of the levels taken to a value. -/
def putBit (v : BitVec 32) (n : Nat) (l : Bool) : BitVec 32 :=
  if l then v ||| BitVec.ofNat 32 (2 ^ n) else v &&& ~~~BitVec.ofNat 32 (2 ^ n)

theorem getLsbD_putBit_same (v : BitVec 32) (n : Fin 32) (l : Bool) : (putBit v n.val l).getLsbD n.val = l := by
  have hbit : (BitVec.ofNat 32 (2 ^ n.val)).getLsbD n.val = true := by
    rw [BitVec.getLsbD_ofNat, Nat.testBit_two_pow_self, decide_eq_true n.isLt]
    rfl
  cases l
  · show (v &&& ~~~BitVec.ofNat 32 (2 ^ n.val)).getLsbD n.val = false
    rw [BitVec.getLsbD_and, BitVec.getLsbD_not, hbit]
    simp
  · show (v ||| BitVec.ofNat 32 (2 ^ n.val)).getLsbD n.val = true
    rw [BitVec.getLsbD_or, hbit, Bool.or_true]

theorem getLsbD_putBit_ne (v : BitVec 32) {n k : Nat} (l : Bool) (h : k ≠ n) : (putBit v n l).getLsbD k = v.getLsbD k := by
  have hbit : (BitVec.ofNat 32 (2 ^ n)).getLsbD k = false := by
    rw [BitVec.getLsbD_ofNat, Nat.testBit_two_pow_of_ne (Ne.symm h), Bool.and_false]
  cases l
  · show (v &&& ~~~BitVec.ofNat 32 (2 ^ n)).getLsbD k = v.getLsbD k
    rw [BitVec.getLsbD_and, BitVec.getLsbD_not, hbit]
    by_cases hk : k < 32
    · simp [hk]
    · simp [hk, BitVec.getLsbD_of_ge v k (by omega)]
  · show (v ||| BitVec.ofNat 32 (2 ^ n)).getLsbD k = v.getLsbD k
    rw [BitVec.getLsbD_or, hbit, Bool.or_false]

/-- The chip with a pin's level taken to a value. -/
def Chip.leveled (m : Chip) (n : Nat) (l : Bool) : Chip :=
  { m with pins := { m.pins with level := putBit m.pins.level n l, paper := putBit m.pins.paper n l } }

/-- A level change changes the level and makes requests of HKC slots at most; with CORE off the level alone. -/
theorem exec_pinInputChange (s : State) (n : Fin 32) (l : Bool) :
    ∃ m, exec (.pinInputChange n l) s = done s m ∧ OnlyRequests ((s.chip.begin (100 + n.val)).leveled n.val l) m ∧
      (s.chip.pw.core = false → m = (s.chip.begin (100 + n.val)).leveled n.val l) := by
  refine ⟨_, rfl, ?_, fun hcore => ?_⟩
  · refine .ite (.foldl (fun m k => ?_) _ _) (.refl _)
    exact .ite (onlyRequests_slotEvent m k _) (.refl m)
  · rw [if_neg (by simp [hcore])]
    rfl

/-! ## The obligation -/

/-- Settles O25: each configuration word refuses its invalid values by PINERR.CFG alone and stores the others; the edge of
ENC_A stores DIR and counts its change; a level change is the level's bit. -/
theorem pinFunctions : Obligations.PinFunctions := by
  refine ⟨fun s n v ho => ?config, fun s b hcore h8 h9 => ?quadrature, fun s n l => ?level⟩
  case config =>
    obtain ⟨hpcfg, hpad, hslp⟩ := s.host.writeSpace_pin n v
    have hon : s.chip.coreOn = true := ho.1.2
    refine ⟨fun hbad => ?_, fun hok => ?_, fun hbad => ?_, fun hok => ?_, fun hbad => ?_, fun hok hlen => ?_⟩
    · refine answers_hostWindow rfl ho ?_
      rw [hpcfg, Chip.writePcfg, if_neg (ne_true_of_eq_false hbad)]
      exact pinErr_sets s
    · refine answers_hostWindow rfl ho ?_
      have hk := (key_pinOff_ne n 0 (by decide))
      rw [hpcfg]
      rcases s.host.writePcfg_ok hok with h | h
      · rw [h]
        exact ⟨s.host.fsel_plainWrite n v, .settle (.plainWrite (onlyThese_host s _) v (by simp))⟩
      · rw [h]
        refine ⟨?_, .settle (.orBits (.plainWrite (onlyThese_host s _) v (by simp)) _ (by simp))⟩
        unfold Chip.fsel
        rw [Chip.rd_settle, Chip.rd_orBits, if_neg hk]
        exact s.host.fsel_plainWrite n v
    · refine answers_hostWindow rfl ho ?_
      rw [hpad, Chip.writePad, if_pos hbad]
      exact pinErr_sets s
    · refine answers_hostWindow rfl ho ?_
      rw [hpad, Chip.writePad, if_neg hok]
      refine ⟨?_, .settle (.plainWrite (onlyThese_host s _) v (List.mem_singleton_self _))⟩
      rw [Chip.rd_settle, Chip.rd_plainWrite_merge _ v (regRow_pad n) rfl]
      exact merge_and_mask _ _ _
    · refine answers_hostWindow rfl ho ?_
      rw [hslp, Chip.writeSlp, if_pos hbad]
      exact pinErr_sets s
    · refine answers_hostWindow rfl ho ?_
      rw [hslp, Chip.writeSlp, if_neg (by omega)]
      refine ⟨?_, ?_, ?_, ?_⟩
      · have hrd := Chip.rd_plainWrite_merge s.host v (regRow_slp n) rfl
        exact (congrArg (fld · 0 3) hrd).trans (fld_merge (by decide) (by decide))
      · have hpins : (s.host.plainWrite spPin (pinOff n.val 2) v).pins.slp = s.chip.pins.slp :=
          congrArg Pins.slp (Chip.plainWrite_pins _ _ _ _)
        exact getD_upd_same _ _ (by rw [hpins, hlen]; exact n.isLt)
      · exact WordsKept.plainWrite (t := s.host) (fun _ _ => rfl) v (List.mem_singleton_self _)
      · show (s.host.plainWrite spPin (pinOff n.val 2) v).pins.out = _
        rw [Chip.plainWrite_pins]
        rfl
  case quadrature =>
    refine answers_guarded rfl (by simp [hcore, h8, h9]) ?_
    by_cases hold : tst (s.chip.rd spPin 0x88) 14 = b
    · rw [if_pos hold, if_pos hold]
      refine ⟨?_, ?_, .settle (.wr (.refl _ _) _ (by simp))⟩
      · rw [Chip.rd_settle, Chip.rd_wr_same, tst_setBit_same _ _ (by decide)]
      · rw [Chip.rd_settle, Chip.rd_wr_ne _ _ (by decide)]
    · rw [if_neg hold, if_neg hold]
      refine ⟨?_, ?_, .settle (.bump (.wr (.refl _ _) _ (by simp)) _ (by simp))⟩
      · rw [Chip.rd_settle, Chip.rd_bump, if_neg (by decide), Chip.rd_wr_same, tst_setBit_same _ _ (by decide)]
      · rw [Chip.rd_settle, Chip.rd_bump_same, Chip.rd_wr_ne _ _ (by decide)]
  case level =>
    obtain ⟨m, hexec, honly, hoff⟩ := exec_pinInputChange s n l
    obtain ⟨r, c, k, rfl⟩ := onlyRequests_iff.mp honly
    refine answers_of_done hexec ⟨getLsbD_putBit_same _ _ l, fun k _ hne => getLsbD_putBit_ne _ l hne, rfl, rfl, fun h => ?_⟩
    have hregs : r = s.chip.regs := congrArg Chip.regs (hoff h)
    exact hregs

end Sys2Proof.Machine
end


section
/-! PROOFS. The locks and the debug access of JTAG: the statement of O19. -/

namespace Sys2Proof.Machine

-- The proofs are many and short: one after the other they need few threads.
set_option Elab.async false

/-! ## The locks -/

/-- While CORE is off AON holds a locked write for its record (R59). -/
theorem Chip.refuseAon_off {m : Chip} {a : Nat} {v : Word} (hc : m.pw.core = false) (hr : m.pw.refused = none) :
    m.refuseAon a v = { m with pw := { m.pw with refused := some (a, v) } } := by
  simp [Chip.refuseAon, hc, hr]

/-- A new bit of SEALLOCK, with the old ones. -/
theorem or_and_not (a b : Word) : a ||| (b &&& ~~~a) = a ||| b := by
  refine BitVec.eq_of_getLsbD_eq fun i hi => ?_
  simp only [BitVec.getLsbD_or, BitVec.getLsbD_and, BitVec.getLsbD_not, hi, decide_true]
  cases a.getLsbD i <;> simp

/-- Each newly locked stream keeps its SEALCFG word. -/
theorem Chip.sealCfg_writeSeallock (m : Chip) (v : Word) {j : Nat} (hj : j < 8) (hv : tst v j = true)
    (hold : tst m.pins.sealLock j = false) : (m.writeSeallock v).pins.sealCfg.getD j 0 = m.rd spSeal (0x10 + j) := by
  have hlow : ∀ j : Fin 8, tst (0x00FF : Word) j.val = true := by decide
  have hnew : tst (v &&& 0x00FF &&& ~~~m.pins.sealLock) j = true := by
    rw [tst_and_not _ _ (by omega), tst_and, hv, hold, hlow ⟨j, hj⟩]
    rfl
  unfold Chip.writeSeallock
  rw [List.getD_eq_getElem?_getD, List.getElem?_map, List.getElem?_range hj]
  exact if_pos hnew

/-! ## The debug access -/

/-- A word without RC bits is read as it stands and stays. -/
theorem Chip.clearRc_of_none {m : Chip} {sp off : Nat} (h : (regRow sp off).all (fun r => r.rc == 0) = true) :
    m.clearRc sp off = m := by
  unfold Chip.clearRc
  split
  next r hr =>
    rw [hr] at h
    exact if_pos (eq_of_beq h)
  next => rfl

theorem Chip.rcValue_of_none (m : Chip) {sp off : Nat} (v : Word)
    (h : (regRow sp off).all (fun r => r.rc == 0) = true) : m.rcValue sp off v = v := by
  unfold Chip.rcValue
  split
  next r hr =>
    rw [hr] at h
    exact if_pos (eq_of_beq h)
  next => rfl

/-- A read clears RC bits at most. -/
@[simp] theorem Chip.clearRc_loam (m : Chip) (sp off : Nat) : (m.clearRc sp off).loam = m.loam := by
  unfold Chip.clearRc
  split
  · split
    · rfl
    · rfl
  · rfl

/-- The result of a debug access is kept for the port. -/
def Chip.withDbg (m : Chip) (d : Word × Bool × Bool) : Chip := { m with pins := { m.pins with dbg := d } }

/-- The debug access with the port open: OFF while CORE is not clocked, else a write or a read of a LOAM word (R268). -/
theorem exec_loamdbg (s : State) (dr : BitVec 40) (htap : s.chip.tapOn = true) (hopt : tst (s.chip.opt 0) 1 = false) :
    exec (.loamdbg dr) s = done s
      (if !s.chip.pw.core || s.chip.entering then
        (s.chip.begin 90).withDbg (if dr.getLsbD 32 then s.chip.pins.dbg.1 else 0xFFFF, true, true)
      else if dr.getLsbD 32 then
        ((s.chip.begin 90).writeLoam (dr.toNat / 0x10000 % 0x10000) (wd dr.toNat) 2).withDbg (s.chip.pins.dbg.1, true, false)
      else ((s.chip.begin 90).clearRc spLoam (dr.toNat / 0x10000 % 0x10000)).withDbg
        ((s.chip.begin 90).rcValue spLoam (dr.toNat / 0x10000 % 0x10000)
          (s.chip.readLoam (dr.toNat / 0x10000 % 0x10000)), true, false)) := by
  have hb : (s.chip.tapOn && !tst (s.chip.opt 0) 1) = true := by rw [htap, hopt]; rfl
  show done s (if (s.chip.tapOn && !tst (s.chip.opt 0) 1) = true then _ else _) = _
  rw [if_pos hb]
  rfl

/-- Settles O19: AONLOCK and SEALLOCK take their set bits; the refused AON write is held; LOAMDBG answers by whether CORE is
clocked. -/
theorem locksAndJtag : Obligations.LocksAndJtag := by
  refine ⟨⟨fun s v hbus => ?aonlock, fun s v hbus hcore hnone => ⟨fun hl => ?wakeen, fun hl => ?wphrase⟩⟩,
    fun s v ho => ?seallock, fun s dr htap hopt hrd => ⟨fun hcore hent => ?read, fun hcore => ?readOff⟩,
    fun s dr m htap hopt hwr hcore hent hm => ?write, fun s cells htap => ?extest⟩
  case aonlock =>
    refine answers_hostWrite (f := fun m => m.orBits 0 0x0F (v &&& 0x0003)) rfl ⟨hbus, hbus⟩ ⟨?_, ?_⟩
    · exact Chip.rd_orBits_same s.host 0 0x0F _
    · exact .settle (.orBits (onlyThese_host s _) _ (List.mem_singleton_self _))
  case wakeen =>
    have hw : s.host.writeDirect 0x05 v = s.host.refuseAon 0x05 v := if_pos hl
    refine answers_hostWrite (exec_registerWrite_direct s v (by decide) (by decide)) ⟨hbus, hbus⟩ ?_
    dsimp only
    rw [hw, Chip.refuseAon_off (m := s.host) hcore hnone]
    exact ⟨rfl, rfl⟩
  case wphrase =>
    have hw : s.host.writeWphrase v = s.host.refuseAon 0x0C v := if_pos hl
    refine answers_hostWrite (f := (·.writeWphrase v)) rfl ⟨hbus, hbus⟩ ?_
    dsimp only
    rw [hw, Chip.refuseAon_off (m := s.host) hcore hnone]
    exact ⟨rfl, rfl⟩
  case seallock =>
    refine answers_hostWindow (sp := spSeal) (off := 0) rfl ho ⟨?_, fun j hj hv hold => ?_, rfl, rfl⟩
    · exact or_and_not _ _
    · exact s.host.sealCfg_writeSeallock v hj hv hold
  case read =>
    refine answers_of_done (exec_loamdbg s dr htap hopt) ?_
    rw [if_neg (by rw [hcore, hent]; decide), if_neg (by rw [hrd]; decide)]
    refine ⟨rfl, (s.chip.begin 90).clearRc_loam _ _, fun hrc => ⟨?_, ?_⟩⟩
    · exact Chip.rcValue_of_none _ _ hrc
    · rw [Chip.clearRc_of_none hrc]
      rfl
  case readOff =>
    refine answers_of_done (exec_loamdbg s dr htap hopt) ?_
    rw [if_pos (by rw [hcore]; rfl), hrd]
    exact ⟨rfl, rfl, rfl⟩
  case write =>
    refine (exec_loamdbg s dr htap hopt).trans ?_
    rw [if_neg (by rw [hcore, hent]; decide), if_pos hwr, hm]
    rfl
  case extest => exact answers_guarded rfl htap ⟨rfl, rfl, rfl⟩

end Sys2Proof.Machine
end


section
/-! PROOFS. What a fault record changes while CORE is clocked and no mover copies: words of the space FAULT, and the record
count by one. -/

namespace Sys2Proof.Machine

-- The proofs are many and short: one after the other they need few threads.
set_option Elab.async false

/-- Words of the space FAULT and the record of the cycle are all that changed. -/
def OnlyFault (m t : Chip) : Prop :=
  t = { m with regs := t.regs, cyc := t.cyc } ∧
  ∀ k, (k < key spFault 0 ∨ key spFault 0x1000000 ≤ k) → Bank.get t.regs k = Bank.get m.regs k

theorem onlyFault_iff {m t : Chip} :
    OnlyFault m t ↔ ∃ r c, t = { m with regs := r, cyc := c } ∧
      ∀ k, (k < key spFault 0 ∨ key spFault 0x1000000 ≤ k) → Bank.get r k = Bank.get m.regs k := by
  constructor
  · exact fun h => ⟨_, _, h.1, h.2⟩
  · rintro ⟨r, c, rfl, h⟩
    exact ⟨rfl, h⟩

theorem OnlyFault.refl (m : Chip) : OnlyFault m m := ⟨rfl, fun _ _ => rfl⟩

theorem OnlyFault.trans {m t u : Chip} (h : OnlyFault m t) (h' : OnlyFault t u) : OnlyFault m u := by
  obtain ⟨r, c, rfl, hr⟩ := onlyFault_iff.mp h
  obtain ⟨r', c', rfl, hr'⟩ := onlyFault_iff.mp h'
  exact onlyFault_iff.mpr ⟨r', c', rfl, fun k hk => (hr' k hk).trans (hr k hk)⟩

theorem OnlyFault.ite {m a b : Chip} {c : Prop} [Decidable c] (ha : OnlyFault m a) (hb : OnlyFault m b) :
    OnlyFault m (if c then a else b) := by
  split
  · exact ha
  · exact hb

theorem OnlyFault.foldl {α : Type} {f : Chip → α → Chip} (h : ∀ m a, OnlyFault m (f m a)) (l : List α) (m : Chip) :
    OnlyFault m (l.foldl f m) := by
  induction l generalizing m with
  | nil => exact .refl m
  | cons a r ih => exact (h m a).trans (ih (f m a))

theorem onlyFault_wr (m : Chip) {off : Nat} (v : Word) (h : off < 0x1000000) : OnlyFault m (m.wr spFault off v) := by
  refine ⟨rfl, fun k hk => Bank.get_put_ne _ v ?_⟩
  unfold key at *
  omega

theorem onlyFault_wrList (m : Chip) (l : List Word) {off : Nat} (h : off + l.length ≤ 0x1000000) :
    OnlyFault m (m.wrList spFault off l) := by
  induction l generalizing m off with
  | nil => exact .refl m
  | cons v r ih =>
    rw [List.length_cons] at h
    exact (onlyFault_wr m v (by omega)).trans (ih _ (by omega))

theorem onlyFault_cyc (m : Chip) (c : Cycle) : OnlyFault m { m with cyc := c } := ⟨rfl, fun _ _ => rfl⟩

theorem onlyFault_orBits (m : Chip) {off : Nat} (b : Word) (h : off < 0x1000000) : OnlyFault m (m.orBits spFault off b) :=
  (onlyFault_cyc m _).trans (onlyFault_wr _ _ h)

theorem onlyFault_bump (m : Chip) {off : Nat} (n : Nat) (h : off < 0x1000000) : OnlyFault m (m.bump spFault off n) :=
  (onlyFault_cyc m _).trans (onlyFault_wr _ _ h)

theorem onlyFault_wr32 (m : Chip) {off : Nat} (v : Nat) (h : off + 1 < 0x1000000) : OnlyFault m (m.wr32 spFault off v) :=
  (onlyFault_wr m _ (by omega)).trans (onlyFault_wr _ _ h)

/-- With no mover channel active nothing asks for a copy. -/
theorem Chip.thrTrig_of_moversOff {m : Chip} (h : m.moversOff) (kind : Nat) : m.thrTrig kind = m := by
  have hreq (c : Nat) (hc : c < 4) : m.moverRequest c = m := by
    unfold Chip.moverRequest
    simp [h c hc]
  unfold Chip.thrTrig
  have hfold : ∀ l : List Nat, (∀ c ∈ l, c < 4) → l.foldl (fun m c =>
      if tst (m.rd spPool (moverOff c 0)) 14 && fld (m.rd spPool (moverOff c 0)) 12 2 == kind then m.moverRequest c else m) m
      = m := by
    intro l hl
    induction l with
    | nil => rfl
    | cons c r ih =>
      rw [List.foldl_cons, hreq c (hl c List.mem_cons_self), ite_self]
      exact ih fun c hc => hl c (List.mem_cons_of_mem _ hc)
  exact hfold _ fun c hc => List.mem_range.mp hc

/-- The places in the ring lie in the space. -/
theorem ring_lt (n : Nat) : 0x100 + 0x10 * (n % 32) + 16 ≤ 0x1000000 := by omega

theorem length_recordWords (b : List Byte) : (recordWords b).length = 16 := by simp [recordWords]

theorem onlyFault_moveRecord (m : Chip) (q : Nat) : OnlyFault m (m.moveRecord q) :=
  onlyFault_wrList m _ (by simpa using ring_lt (q + 1))

/-- A record changes words of FAULT alone and counts. -/
theorem onlyFault_writeRecordFn (m : Chip) (code : Nat) (detail : List Byte) (late : Bool) (fn : Nat) (h : m.moversOff) :
    OnlyFault m (m.writeRecordFn code detail late fn) ∧
    (m.writeRecordFn code detail late fn).rd spFault 0 = m.rd spFault 0 + 1 := by
  unfold Chip.writeRecordFn
  extract_lets q full k place body m1 _ m2 m3 m4 m5 m6
  have hq : wd (q + 1) = m.rd spFault 0 + 1 := by simp [wd, q, BitVec.ofNat_add]
  clear_value q full k place body
  have h1 : OnlyFault m m1 := .foldl (fun m _ => onlyFault_moveRecord m _) _ m
  have h2 : OnlyFault m m2 := h1.trans (onlyFault_cyc m1 _)
  have h3 : OnlyFault m m3 := h2.trans (onlyFault_wrList m2 _ (length_recordWords body ▸ ring_lt place))
  have h4 : OnlyFault m m4 := h3.trans (onlyFault_wr m3 _ (by decide))
  have h5 : OnlyFault m m5 := h4.trans (onlyFault_wr32 m4 _ (by decide))
  have h6 : OnlyFault m m6 := h5.trans (.ite (.trans (.trans (onlyFault_wr m5 _ (by decide))
    (onlyFault_orBits _ _ (by decide))) (onlyFault_bump _ _ (by decide))) (.refl m5))
  have hoff : m6.moversOff := by
    obtain ⟨r, c, e, -⟩ := onlyFault_iff.mp h6
    rw [e]
    exact h
  rw [Chip.thrTrig_of_moversOff hoff]
  refine ⟨h6, ?_⟩
  have hr5 : m5.rd spFault 0 = m4.rd spFault 0 :=
    (Chip.rd_wr_ne _ _ (by decide)).trans (Chip.rd_wr_ne _ _ (by decide))
  have hr6 : m6.rd spFault 0 = m5.rd spFault 0 := by
    unfold m6
    split
    · rw [Chip.rd_bump, if_neg (by decide), Chip.rd_orBits, if_neg (by decide), Chip.rd_wr_ne _ _ (by decide)]
    · rfl
  calc m6.rd spFault 0 = m4.rd spFault 0 := hr6.trans hr5
    _ = wd (q + 1) := Chip.rd_wr_same m3 spFault 0 _
    _ = m.rd spFault 0 + 1 := hq

theorem onlyFault_fault (m : Chip) (code : Nat) (detail : List Byte) (hc : m.pw.core = true) (h : m.moversOff) :
    OnlyFault m (m.fault code detail) := by
  rw [Chip.fault, if_pos hc]
  exact (onlyFault_writeRecordFn m code detail false _ h).1

theorem Chip.rd_count_fault (m : Chip) (code : Nat) (detail : List Byte) (hc : m.pw.core = true) (h : m.moversOff) :
    (m.fault code detail).rd spFault 0 = m.rd spFault 0 + 1 := by
  rw [Chip.fault, if_pos hc]
  exact (onlyFault_writeRecordFn m code detail false _ h).2

/-- A word of another space is as before. -/
theorem OnlyFault.rd {m t : Chip} (h : OnlyFault m t) {sp off : Nat} (hsp : sp ≠ spFault) (hoff : off < 0x1000000) :
    t.rd sp off = m.rd sp off := by
  refine h.2 _ ?_
  unfold key
  omega

end Sys2Proof.Machine
end


section
/-! PROOFS. The clock sources and the supplies: the statements of O17 and O16. -/

namespace Sys2Proof.Machine

-- The proofs are many and short: one after the other they need few threads.
set_option Elab.async false

/-! ## The AON crystal -/

/-- A crystal that fails while CORE is not clocked: XTALFAIL is set and AON holds the record (R561). -/
theorem xtalFail_off (m : Chip) (cause : Nat) (hc : m.pw.core = false) :
    (m.xtalFail cause).pw.rc = true ∧ (m.xtalFail cause).pw.xtalTry = false ∧
    (m.xtalFail cause).rd 0 0x03 = m.rd 0 0x03 ||| 0x0400 ∧
    (m.xtalFail cause).pw.deferred.faults = m.pw.deferred.faults ++ [(0x11, [BitVec.ofNat 8 cause])] ∧
    WordsKept m (m.xtalFail cause) [(0, 0x03)] := by
  have hfault (m : Chip) (hc : m.pw.core = false) (code : Nat) (d : List Byte) : m.fault code d =
      { m with pw := { m.pw with deferred := { m.pw.deferred with faults := m.pw.deferred.faults ++ [(code, d)] } } } := by
    unfold Chip.fault
    rw [if_neg (ne_true_of_eq_false hc)]
  unfold Chip.xtalFail
  rw [hfault _ (by exact hc)]
  refine ⟨rfl, rfl, ?_, rfl, ?_⟩
  · exact Chip.rd_orBits_same { m with pw := { m.pw with rc := true, rcUsed := true, xtalTry := false, xtalFirst := false } }
      0 0x03 0x0400
  · exact WordsKept.orBits
      (t := { m with pw := { m.pw with rc := true, rcUsed := true, xtalTry := false, xtalFirst := false } })
      (fun _ _ => rfl) _ (List.mem_singleton_self _)

/-- A change of PIXN changes no word. -/
@[simp] theorem Chip.pixChange_regs (m : Chip) : m.pixChange.regs = m.regs := by
  unfold Chip.pixChange
  dsimp only
  split
  · rfl
  · split
    all_goals rfl

/-- It leaves the crystal's trial. -/
theorem Chip.pixChange_xtal (m : Chip) :
    m.pixChange.pw.xtalTry = m.pw.xtalTry ∧ m.pixChange.pw.xtalFirst = m.pw.xtalFirst := by
  unfold Chip.pixChange
  dsimp only
  split
  · exact ⟨rfl, rfl⟩
  · split
    all_goals exact ⟨rfl, rfl⟩

/-- XTALRETRY starts a trial while the RC oscillator clocks AON. -/
def Chip.retried (m : Chip) (v : Word) : Chip :=
  if tst v 8 && m.pw.rc then
    { m with pw := { m.pw with xtalTry := true, xtalFirst := m.pw.xtalFirst && m.pw.xtalTry } }
  else m

theorem Chip.retried_regs (m : Chip) (v : Word) : (m.retried v).regs = m.regs := by
  unfold Chip.retried
  split
  all_goals rfl

/-- A valid write of SYSCTL: the word, the trial, the change of PIXN. -/
theorem Chip.writeSysctl_valid (m : Chip) {v : Word} (h40 : 40 ≤ fld v 0 8) (h128 : fld v 0 8 ≤ 128) :
    m.writeSysctl v = ((m.plainWrite 0 0x10 v).retried v).pixChange := by
  unfold Chip.writeSysctl
  rw [if_neg (by omega)]
  rfl

theorem wordsKept_writeSysctl (m : Chip) {v : Word} (h40 : 40 ≤ fld v 0 8) (h128 : fld v 0 8 ≤ 128) :
    WordsKept m (m.writeSysctl v) [(0, 0x10)] := by
  intro k hk
  rw [m.writeSysctl_valid h40 h128, Chip.pixChange_regs, Chip.retried_regs]
  exact ((WordsKept.refl m [(0, 0x10)]).plainWrite v (List.mem_singleton_self _)) k hk

/-- PIXN takes the written value. -/
theorem fld_writeSysctl (m : Chip) {v : Word} (h40 : 40 ≤ fld v 0 8) (h128 : fld v 0 8 ≤ 128) :
    fld ((m.writeSysctl v).rd 0 0x10) 0 8 = fld v 0 8 := by
  have hrd : (m.writeSysctl v).rd 0 0x10 = (m.plainWrite 0 0x10 v).rd 0 0x10 := by
    unfold Chip.rd
    rw [m.writeSysctl_valid h40 h128, Chip.pixChange_regs, Chip.retried_regs]
  rw [hrd, Chip.rd_plainWrite_merge m v (sp := 0) (off := 0x10) rfl rfl]
  exact fld_merge (by decide) (by decide)

/-- XTALRETRY with a valid PIXN starts a trial. -/
theorem writeSysctl_retry (m : Chip) {v : Word} (hrc : m.pw.rc = true) (h40 : 40 ≤ fld v 0 8) (h128 : fld v 0 8 ≤ 128)
    (hv : tst v 8 = true) : (m.writeSysctl v).pw.xtalTry = true ∧
    (m.writeSysctl v).pw.xtalFirst = (m.pw.xtalFirst && m.pw.xtalTry) := by
  have hpw : ((m.plainWrite 0 0x10 v).retried v).pw =
      { m.pw with xtalTry := true, xtalFirst := m.pw.xtalFirst && m.pw.xtalTry } := by
    unfold Chip.retried
    rw [Chip.plainWrite_pw, hrc, hv]
    rfl
  rw [m.writeSysctl_valid h40 h128]
  obtain ⟨ht, hf⟩ := ((m.plainWrite 0 0x10 v).retried v).pixChange_xtal
  rw [ht, hf, hpw]
  exact ⟨rfl, rfl⟩

/-! ## The PIX PLL -/

/-- A new PIXN with no capture running: the PLL relocks at its fallback. -/
theorem Chip.pixChange_free (m : Chip) (hn : fld (m.rd 0 0x10) 0 8 ≠ m.pw.pixN) (ha : m.pw.array = true)
    (hc : m.cc.cap = none) :
    m.pixChange = { m with pw := { m.pw with pixN := fld (m.rd 0 0x10) 0 8, pixPend := false, pixFb := true } } := by
  simp [Chip.pixChange, hn, ha, hc]

/-- A new PIXN during a capture waits. -/
theorem Chip.pixChange_capture (m : Chip) (hn : fld (m.rd 0 0x10) 0 8 ≠ m.pw.pixN) (ha : m.pw.array = true)
    (hc : m.cc.cap.isSome = true) : m.pixChange = { m with pw := { m.pw with pixPend := true } } := by
  simp [Chip.pixChange, hn, ha, hc]

/-- A valid write without XTALRETRY is the change of PIXN after the word's. -/
theorem Chip.writeSysctl_plain (m : Chip) {v : Word} (h40 : 40 ≤ fld v 0 8) (h128 : fld v 0 8 ≤ 128) (hv : tst v 8 = false) :
    m.writeSysctl v = (m.plainWrite 0 0x10 v).pixChange := by
  rw [m.writeSysctl_valid h40 h128]
  unfold Chip.retried
  rw [hv]
  rfl

/-- A new PIXN written during a capture and with none running: what becomes of the power record. -/
theorem Chip.writeSysctl_capture (m : Chip) {v : Word} (h40 : 40 ≤ fld v 0 8) (h128 : fld v 0 8 ≤ 128)
    (h8 : tst v 8 = false) (ha : m.pw.array = true) (hn : fld v 0 8 ≠ m.pw.pixN) (hc : m.cc.cap.isSome = true) :
    (m.writeSysctl v).pw = { m.pw with pixPend := true } := by
  have hfld := fld_merge (old := m.rd 0 0x10) (mask := 0x00FF) (v := v) (lo := 0) (n := 8) (by decide) (by decide)
  have hrd := Chip.rd_plainWrite_merge m v (sp := 0) (off := 0x10) rfl rfl
  rw [m.writeSysctl_plain h40 h128 h8, Chip.pixChange_capture, Chip.plainWrite_pw]
  · rw [hrd, Chip.plainWrite_pw]
    exact fun e => hn (hfld.symm.trans e)
  · rwa [Chip.plainWrite_pw]
  · rwa [Chip.plainWrite_cc]

theorem Chip.writeSysctl_free (m : Chip) {v : Word} (h40 : 40 ≤ fld v 0 8) (h128 : fld v 0 8 ≤ 128)
    (h8 : tst v 8 = false) (ha : m.pw.array = true) (hn : fld v 0 8 ≠ m.pw.pixN) (hc : m.cc.cap = none) :
    (m.writeSysctl v).pw = { m.pw with pixN := fld v 0 8, pixPend := false, pixFb := true } := by
  have hfld := fld_merge (old := m.rd 0 0x10) (mask := 0x00FF) (v := v) (lo := 0) (n := 8) (by decide) (by decide)
  have hrd := Chip.rd_plainWrite_merge m v (sp := 0) (off := 0x10) rfl rfl
  rw [m.writeSysctl_plain h40 h128 h8, Chip.pixChange_free, Chip.plainWrite_pw, hrd]
  · rw [← hfld]
  · rw [hrd, Chip.plainWrite_pw]
    exact fun e => hn (hfld.symm.trans e)
  · rwa [Chip.plainWrite_pw]
  · rwa [Chip.plainWrite_cc]

/-- The frequency monitor's trip while CORE is clocked: the fallback, SYSSTAT's bit and a record. -/
theorem pixTrip_on (m : Chip) (kHz : Nat) (hc : m.pw.core = true) (hm : m.moversOff) :
    (m.pixTrip kHz).pw = { m.pw with pixFb := true } ∧ tst ((m.pixTrip kHz).rd 0 0x11) 5 = true ∧
    (m.pixTrip kHz).rd spFault 0 = m.rd spFault 0 + 1 := by
  let m1 : Chip := Chip.orBits { m with pw := { m.pw with pixFb := true } } 0 0x11 0x0020
  have honly := onlyFault_fault m1 0x10 ([BitVec.ofNat 8 m.pw.pixN, 0] ++ bytesN kHz 4) hc hm
  have hcount := m1.rd_count_fault 0x10 ([BitVec.ofNat 8 m.pw.pixN, 0] ++ bytesN kHz 4) hc hm
  refine ⟨congrArg Chip.pw honly.1, ?_, ?_⟩
  · show tst ((m1.fault _ _).rd 0 0x11) 5 = true
    rw [honly.rd (by decide) (by decide)]
    show tst ((Chip.orBits _ 0 0x11 0x0020).rd 0 0x11) 5 = true
    rw [Chip.rd_orBits_same, tst_or, show tst (0x0020 : Word) 5 = true by decide, Bool.or_true]
  · exact hcount.trans (congrArg (· + 1) (Chip.rd_wr_ne _ _ (by decide)))

/-- Settles O17: each event of the crystal and of the PLL is the change of the power record that its rule names, a failing
one with its record. -/
theorem clockSources : Obligations.ClockSources := by
  refine ⟨⟨fun s hv ht hrc => ⟨?adopted, fun hf => ?retryEnds, fun hf => ?failed, fun hf hc => ?failedOff⟩,
      fun s hv hrc => ?stop, fun s hv hrc hc => ?stopOff, fun s v hr hrc h40 h128 h8 => ?retry⟩,
    fun s v hr => ⟨fun hbad => ?refused, fun h40 h128 h8 harr hne => ⟨fun hcap => ?waits, fun hcap => ?relocks⟩⟩,
    fun s hp hcap => ?apply, fun s hp hcap harr hne => ?applied, fun s hfb => ?locked, fun s kHz harr hfb hlt => ?trip,
    fun s kHz harr hc hfb hlt hm => ?tripped⟩
  case adopted => exact answers_guarded rfl (by simp [hv, ht, hrc]) ⟨rfl, rfl⟩
  case retryEnds =>
    refine answers_guarded rfl (by simp [hv, ht, hrc]) ?_
    rw [if_neg (by simp [hf])]
    exact ⟨rfl, rfl⟩
  case failed =>
    refine (completes_guarded rfl (by simp [hv, ht, hrc])).trans ?_
    rw [if_pos hf]
  case failedOff =>
    refine answers_guarded rfl (by simp [hv, ht, hrc]) ?_
    rw [if_pos hf]
    exact xtalFail_off s.chip 0 hc
  case stop => exact completes_guarded rfl (by simp [hv, hrc])
  case stopOff => exact answers_guarded rfl (by simp [hv, hrc]) (xtalFail_off s.chip 1 hc)
  case retry =>
    obtain ⟨htry, hfirst⟩ := writeSysctl_retry s.host hrc h40 h128 h8
    exact answers_hostWrite (f := (·.writeSysctl v)) rfl hr ⟨htry, hfirst, wordsKept_writeSysctl s.host h40 h128⟩
  case refused =>
    refine answers_hostWrite (f := (·.writeSysctl v)) rfl hr ?_
    rw [Chip.writeSysctl, if_pos hbad]
    exact unchanged_begin s.chip 0
  case waits =>
    refine answers_hostWrite (f := (·.writeSysctl v)) rfl hr
      ⟨?_, fld_writeSysctl s.host h40 h128, wordsKept_writeSysctl s.host h40 h128⟩
    rw [Chip.settle_pw, s.host.writeSysctl_capture h40 h128 h8 harr hne hcap]
    rfl
  case relocks =>
    refine answers_hostWrite (f := (·.writeSysctl v)) rfl hr
      ⟨?_, fld_writeSysctl s.host h40 h128, wordsKept_writeSysctl s.host h40 h128⟩
    rw [Chip.settle_pw, s.host.writeSysctl_free h40 h128 h8 harr hne hcap]
    rfl
  case apply => exact completes_guarded rfl (by simp [hp, hcap])
  case applied =>
    refine answers_guarded rfl (by simp [hp, hcap]) ?_
    rw [s.chip.pixChange_free hne harr hcap]
    exact ⟨rfl, rfl⟩
  case locked => exact answers_guarded rfl hfb ⟨rfl, rfl⟩
  case trip => exact completes_guarded rfl (by simp [harr, hfb, hlt])
  case tripped => exact answers_guarded rfl (by simp [harr, hfb, hlt]) (pixTrip_on s.chip kHz hc hm)

/-! ## Supply warnings -/

/-- What a warning makes of the stores: their part of the state, NVM_FAIL and the bit of a stopped programming. -/
def OnlyWarns (m t : Chip) : Prop :=
  t = { m with regs := t.regs, cyc := t.cyc, st := t.st } ∧ WordsKept m t [(0, 0x14), (0, 0x3E)] ∧
  ∀ i, tst (m.rd 0 0x14) i = true → tst (t.rd 0 0x14) i = true

theorem OnlyWarns.stores (m : Chip) (st : Stores) : OnlyWarns m { m with st := st } := ⟨rfl, fun _ _ => rfl, fun _ h => h⟩

theorem OnlyWarns.trans {m t u : Chip} (h : OnlyWarns m t) (h' : OnlyWarns t u) : OnlyWarns m u := by
  obtain ⟨e, hk, hb⟩ := h
  obtain ⟨e', hk', hb'⟩ := h'
  refine ⟨?_, fun k hne => (hk' k hne).trans (hk k hne), fun i hi => hb' i (hb i hi)⟩
  rw [e', e]

theorem onlyWarns_raise (m : Chip) (hc : m.pw.core = true) : OnlyWarns m (m.raise evNvmFail) := by
  rw [Chip.raise_on m evNvmFail hc]
  refine ⟨rfl, .orBits (.refl m _) _ (by decide), fun i hi => ?_⟩
  show tst ((m.orBits 0 0x14 (bitW 12)).rd 0 0x14) i = true
  rw [Chip.rd_orBits_same, tst_or, hi, Bool.true_or]

theorem onlyWarns_otp (m : Chip) : OnlyWarns m (m.orBits 0 0x3E 0x0200) := by
  refine ⟨rfl, .orBits (.refl m _) _ (by decide), fun i hi => ?_⟩
  rwa [Chip.rd_orBits, if_neg (by decide)]

theorem OnlyWarns.core {m t : Chip} (h : OnlyWarns m t) (hc : m.pw.core = true) : t.pw.core = true := by
  rw [h.1]
  exact hc

/-- The stores under a warning. -/
theorem onlyWarns_storesWarn (m : Chip) (hc : m.pw.core = true) : OnlyWarns m m.storesWarn := by
  unfold Chip.storesWarn
  extract_lets _ m0 _ m1 _ m2
  have h0 : OnlyWarns m m0 := .trans (.trans (.stores m _) (.stores _ _)) (onlyWarns_raise _ (by exact hc))
  have h1 : OnlyWarns m m1 := by
    unfold m1
    split
    · exact .stores m _
    · split
      · exact h0.trans (.stores m0 _)
      · exact .stores m m.st
  have h2 : OnlyWarns m m2 := by
    unfold m2
    split
    · exact h1.trans (.stores m1 _)
    · exact h1
  split
  · exact h2.trans (.trans (.stores m2 _) (onlyWarns_otp _))
  · exact h2

/-- In RUN with no sequence a mode request of AUTORUN or a wake has nothing to do. -/
theorem Chip.modeGo_steady {m : Chip} (hcur : m.pw.cur = .run) (htarget : m.pw.target = .run) : m.modeGo = m := by
  unfold Chip.modeGo
  rw [hcur]
  simp [htarget]

/-- The chip with a supply low. -/
def Chip.lowered (m : Chip) (r : Nat) : Chip :=
  { m with pw := { m.pw with low := m.pw.low ||| BitVec.ofNat 4 (2 ^ r), good := upd m.pw.good r (fun _ => 0) } }

/-- WARN and WARNSTK with SUPPLY_WARN and the ledger's count. -/
def Chip.warned (m : Chip) (r : Nat) : Chip :=
  (((m.lowered r).orBits 0 0x06 (bitW r ||| bitW (4 + r))).raise evSupplyWarn).ledger 5 1

/-- A running capture and the open frames are marked. -/
def Chip.warnedFrames (m : Chip) : Chip :=
  let m := if m.cc.cap.isSome then (m.mapCap (fun c => { c with supply := true })).orBits 0 0x2B 0x2000 else m
  { m with streams := m.streams.map (fun (t : Stream) =>
      { t with frames := t.frames.map (fun (f : Frame) => { f with flags := f.flags ||| flSupply }) }) }

theorem Chip.supplyWarn_eq (m : Chip) (r : Nat) :
    m.supplyWarn r = if (m.warned r).pw.core then (m.warned r).warnedFrames.storesWarn.marlWarn.modeGo else m.warned r := rfl

/-- A warning while CORE is not clocked. -/
theorem warned_off (m : Chip) (r : Nat) (hc : m.pw.core = false) :
    (m.warned r).rd 0 0x06 = m.rd 0 0x06 ||| (bitW r ||| bitW (4 + r)) ∧
    (m.warned r).pw.deferred.events = m.pw.deferred.events ||| 0x40000000 ∧ WordsKept m (m.warned r) [(0, 0x06)] := by
  have hraise := Chip.raise_off ((m.lowered r).orBits 0 0x06 (bitW r ||| bitW (4 + r))) evSupplyWarn hc
  obtain ⟨hregs, hev⟩ := hraise
  have hw : (m.warned r).regs = ((m.lowered r).orBits 0 0x06 (bitW r ||| bitW (4 + r))).regs := hregs
  refine ⟨?_, hev, fun k hk => ?_⟩
  · unfold Chip.rd
    rw [hw]
    exact Chip.rd_orBits_same (m.lowered r) 0 0x06 _
  · rw [hw]
    exact WordsKept.orBits (t := m.lowered r) (fun _ _ => rfl) _ (List.mem_singleton_self _) k hk

/-- What the mark of the frames leaves, and what it sets. -/
theorem Chip.warnedFrames_facts (m : Chip) : m.warnedFrames.pw = m.pw ∧ m.warnedFrames.tb = m.tb ∧
    m.warnedFrames.loam = m.loam ∧ WordsKept m m.warnedFrames [(0, 0x2B)] ∧
    ∀ c, m.cc.cap = some c → m.warnedFrames.cc.cap.map (·.supply) = some true ∧ tst (m.warnedFrames.rd 0 0x2B) 13 = true := by
  unfold Chip.warnedFrames
  split
  next h =>
    refine ⟨rfl, rfl, rfl, ?_, fun c hc => ⟨?_, ?_⟩⟩
    · exact WordsKept.orBits (t := m.mapCap (fun c => { c with supply := true })) (fun _ _ => rfl) _ (List.mem_singleton_self _)
    · show (m.cc.cap.map _).map _ = _
      rw [hc]
      rfl
    · show tst ((Chip.orBits _ 0 0x2B 0x2000).rd 0 0x2B) 13 = true
      rw [Chip.rd_orBits_same, tst_or, show tst (0x2000 : Word) 13 = true by decide, Bool.or_true]
  next h => exact ⟨rfl, rfl, rfl, fun _ _ => rfl, fun c hc => absurd (by rw [hc]; rfl) h⟩

/-- WARN, WARNSTK and SUPPLY_WARN of a warning while CORE is clocked. -/
theorem warned_on (m : Chip) (r : Fin 4) (hc : m.pw.core = true) :
    (m.warned r.val).pw = (m.lowered r.val).pw ∧ (m.warned r.val).cc = m.cc ∧ (m.warned r.val).tb = m.tb ∧
    (m.warned r.val).loam = m.loam ∧ (m.warned r.val).rd 0 0x06 = m.rd 0 0x06 ||| (bitW r.val ||| bitW (4 + r.val)) ∧
    tst ((m.warned r.val).rd 0 0x14) 14 = true := by
  have hraise := Chip.raise_on ((m.lowered r.val).orBits 0 0x06 (bitW r.val ||| bitW (4 + r.val))) evSupplyWarn hc
  unfold Chip.warned
  rw [hraise]
  refine ⟨rfl, rfl, rfl, rfl, ?_, ?_⟩
  · show ((Chip.orBits _ 0 0x14 (bitW 14)).rd 0 0x06) = _
    rw [Chip.rd_orBits, if_neg (by decide), Chip.rd_orBits_same]
    rfl
  · show tst ((Chip.orBits _ 0 0x14 (bitW 14)).rd 0 0x14) 14 = true
    rw [Chip.rd_orBits_same]
    exact tst_or_bitW _ (by decide)

/-- A warning in RUN goes through the frames, the stores and Marl; no mode sequence begins. -/
theorem supplyWarn_steady (m : Chip) (r : Fin 4) (hc : m.pw.core = true) (hcur : m.pw.cur = .run)
    (htarget : m.pw.target = .run) : m.supplyWarn r.val = (m.warned r.val).warnedFrames.storesWarn.marlWarn := by
  obtain ⟨hpw, -⟩ := warned_on m r hc
  obtain ⟨hpw2, -⟩ := (m.warned r.val).warnedFrames_facts
  have hcore : (m.warned r.val).pw.core = true := by rw [hpw]; exact hc
  have hpw3 : (m.warned r.val).warnedFrames.storesWarn.marlWarn.pw = (m.lowered r.val).pw := by
    show (m.warned r.val).warnedFrames.storesWarn.pw = _
    rw [(onlyWarns_storesWarn _ (by rw [hpw2]; exact hcore)).1]
    exact hpw2.trans hpw
  rw [Chip.supplyWarn_eq, if_pos hcore]
  exact Chip.modeGo_steady (by rw [hpw3]; exact hcur) (by rw [hpw3]; exact htarget)

/-- A word that is not listed reads as before. -/
theorem WordsKept.rd {m t : Chip} {ws : List (Nat × Nat)} (h : WordsKept m t ws) {sp off : Nat}
    (hne : ∀ w ∈ ws, key sp off ≠ key w.1 w.2) : t.rd sp off = m.rd sp off := h _ hne

theorem getLsbD_or_two_pow (v : BitVec 4) (r : Fin 4) : (v ||| BitVec.ofNat 4 (2 ^ r.val)).getLsbD r.val = true := by
  rw [BitVec.getLsbD_or, BitVec.getLsbD_ofNat, Nat.testBit_two_pow_self, decide_eq_true r.isLt]
  simp

theorem getLsbD_and_not_two_pow (v : BitVec 4) (r : Fin 4) :
    (v &&& ~~~BitVec.ofNat 4 (2 ^ r.val)).getLsbD r.val = false := by
  rw [BitVec.getLsbD_and, BitVec.getLsbD_not, BitVec.getLsbD_ofNat, Nat.testBit_two_pow_self, decide_eq_true r.isLt]
  simp

/-- Settles O16: a warning is followed through its stages; the other events are changes of the power record. -/
theorem supplies : Obligations.Supplies := by
  refine ⟨fun s r hf => ?reset, fun s r hf hw => ⟨?warn, fun hc => ?warnOff, fun hc hst => ?warnOn⟩, fun s r => ?clear,
    fun s hf hg => ⟨fun hc => ?goodOff, fun hc => ⟨?goodOn, fun h1 h2 h3 h4 h5 h6 h7 => ?nothingWaits⟩⟩⟩
  case reset =>
    refine answers_of_done rfl ?_
    rw [Chip.supplyReset, if_neg (by rw [hf]; decide)]
    exact ⟨rfl, rfl⟩
  case warn => exact completes_guarded rfl (by simp [hf, hw])
  case warnOff =>
    refine answers_guarded rfl (by simp [hf, hw]) ?_
    have hoff : (s.chip.warned r.val).pw.core = false := by
      unfold Chip.warned
      rw [Chip.ledger_pw]
      unfold Chip.raise
      split
      all_goals exact hc
    rw [Chip.supplyWarn_eq, if_neg (by rw [hoff]; decide)]
    exact warned_off s.chip r.val hc
  case warnOn =>
    obtain ⟨hcur, htarget, -⟩ := hst
    obtain ⟨hpw, hcc, htb, hloam, hrd6, hrd14⟩ := warned_on s.chip r hc
    obtain ⟨hpw2, htb2, hloam2, hkept2, hcap2⟩ := (s.chip.warned r.val).warnedFrames_facts
    obtain ⟨e3, hkept3, hbits3⟩ := onlyWarns_storesWarn (s.chip.warned r.val).warnedFrames
      (by rw [hpw2, hpw]; exact hc)
    refine answers_guarded rfl (by simp [hf, hw]) ?_
    rw [supplyWarn_steady s.chip r hc hcur htarget]
    generalize (s.chip.warned r.val).warnedFrames.storesWarn = m3 at e3 hkept3 hbits3
    refine ⟨?_, ?_, ?_, fun c hcap => ⟨?_, ?_⟩, ?_, ?_⟩
    · exact (hkept3.rd (by decide)).trans ((hkept2.rd (by decide)).trans hrd6)
    · refine hbits3 14 ?_
      rw [hkept2.rd (by decide)]
      exact hrd14
    · show m3.pw.low.getLsbD r.val = true
      rw [e3]
      show (s.chip.warned r.val).warnedFrames.pw.low.getLsbD r.val = true
      rw [hpw2, hpw]
      exact getLsbD_or_two_pow _ r
    · show m3.cc.cap.map (·.supply) = some true
      rw [e3]
      exact (hcap2 c (hcc ▸ hcap)).1
    · show tst (m3.rd 0 0x2B) 13 = true
      rw [hkept3.rd (by decide)]
      exact (hcap2 c (hcc ▸ hcap)).2
    · show m3.tb = _
      rw [e3]
      exact htb2.trans htb
    · show m3.loam = _
      rw [e3]
      exact hloam2.trans hloam
  case clear =>
    refine answers_of_done rfl ⟨?_, getLsbD_and_not_two_pow _ r, getLsbD_and_not_two_pow _ r, ?_⟩
    · rw [Chip.rd_settle, Chip.rd_clrBits_same, tst_and_not _ _ (by omega), tst_bitW]
      simp [show r.val < 16 by omega]
    · exact WordsKept.wr (t := { s.chip with pw := _ }) (fun _ _ => rfl) _ (List.mem_singleton_self _)
  case goodOff =>
    refine answers_guarded rfl (by simp [hf, hg]) ?_
    rw [if_neg (by rw [hc]; decide)]
    exact ⟨rfl, rfl⟩
  case goodOn =>
    refine (completes_guarded rfl (by simp [hf, hg])).trans ?_
    rw [if_pos hc]
  case nothingWaits =>
    refine answers_guarded rfl (by simp [hf, hg]) ?_
    have hidle : s.chip.storesGood = { s.chip with st := { s.chip.st with retryDue := false } } := by
      simp [Chip.storesGood, Chip.storesNext, h1, h2, h3, h4, h5, h6, h7]
    rw [if_pos hc, hidle]
    exact ⟨rfl, rfl⟩

end Sys2Proof.Machine
end


section
/-! PROOFS. What the strobes and the requests of the HKC change, and what a system reset and the boot leave: the statement of
O15. -/

namespace Sys2Proof.Machine

-- The proofs are many and short: one after the other they need few threads.
set_option Elab.async false

/-! ## What the strobes change -/

/-- A word of the HKC's or the illumination's space, or EVSTAT0. -/
def strobeWord (k : Nat) : Prop :=
  (key spHkc 0 ≤ k ∧ k < key spHkc 0x1000000) ∨ (key spIllum 0 ≤ k ∧ k < key spIllum 0x1000000) ∨ k = key 0 0x13

/-- The channels, the HKC, the record of the cycle and words of theirs are all that changed. -/
def OnlyStrobes (m t : Chip) : Prop :=
  t = { m with regs := t.regs, cyc := t.cyc, hkc := t.hkc, chans := t.chans } ∧
  ∀ k, ¬strobeWord k → Bank.get t.regs k = Bank.get m.regs k

theorem onlyStrobes_iff {m t : Chip} :
    OnlyStrobes m t ↔ ∃ r c h l, t = { m with regs := r, cyc := c, hkc := h, chans := l } ∧
      ∀ k, ¬strobeWord k → Bank.get r k = Bank.get m.regs k := by
  constructor
  · exact fun h => ⟨_, _, _, _, h.1, h.2⟩
  · rintro ⟨r, c, h, l, rfl, hk⟩
    exact ⟨rfl, hk⟩

theorem OnlyStrobes.refl (m : Chip) : OnlyStrobes m m := ⟨rfl, fun _ _ => rfl⟩

theorem OnlyStrobes.trans {m t u : Chip} (h : OnlyStrobes m t) (h' : OnlyStrobes t u) : OnlyStrobes m u := by
  obtain ⟨r, c, k, l, rfl, hr⟩ := onlyStrobes_iff.mp h
  obtain ⟨r', c', k', l', rfl, hr'⟩ := onlyStrobes_iff.mp h'
  exact onlyStrobes_iff.mpr ⟨r', c', k', l', rfl, fun n hn => (hr' n hn).trans (hr n hn)⟩

theorem OnlyStrobes.ite {m a b : Chip} {c : Prop} [Decidable c] (ha : OnlyStrobes m a) (hb : OnlyStrobes m b) :
    OnlyStrobes m (if c then a else b) := by
  split
  · exact ha
  · exact hb

theorem OnlyStrobes.foldl {α : Type} {f : Chip → α → Chip} {l : List α} (h : ∀ m, ∀ a ∈ l, OnlyStrobes m (f m a))
    (m : Chip) : OnlyStrobes m (l.foldl f m) := by
  induction l generalizing m with
  | nil => exact .refl m
  | cons a r ih =>
    exact (h m a List.mem_cons_self).trans (ih (fun m a ha => h m a (List.mem_cons_of_mem _ ha)) (f m a))

theorem OnlyStrobes.foldl_range {f : Chip → Nat → Chip} {n : Nat} (h : ∀ m a, a < n → OnlyStrobes m (f m a)) (m : Chip) :
    OnlyStrobes m ((List.range n).foldl f m) :=
  .foldl (fun m a ha => h m a (List.mem_range.mp ha)) m

/-- Another word reads as before. -/
theorem OnlyStrobes.rd {m t : Chip} (h : OnlyStrobes m t) {sp off : Nat} (hw : ¬strobeWord (key sp off)) :
    t.rd sp off = m.rd sp off := h.2 _ hw

theorem strobeWord_hkc {off : Nat} (h : off < 0x1000000) : strobeWord (key spHkc off) := by
  unfold strobeWord key
  omega

theorem strobeWord_illum {off : Nat} (h : off < 0x1000000) : strobeWord (key spIllum off) := by
  unfold strobeWord key
  omega

theorem strobeWord_event : strobeWord (key 0 0x13) := .inr (.inr rfl)

/-- Words of the chip's own space but EVSTAT0, and of the other spaces. -/
theorem not_strobeWord {sp off : Nat} (hoff : off < 0x1000000) (h1 : sp ≠ spHkc) (h2 : sp ≠ spIllum)
    (h3 : sp ≠ 0 ∨ off ≠ 0x13) : ¬strobeWord (key sp off) := by
  unfold strobeWord key
  omega

theorem onlyStrobes_wr (m : Chip) {sp off : Nat} (v : Word) (h : strobeWord (key sp off)) : OnlyStrobes m (m.wr sp off v) :=
  ⟨rfl, fun _ hk => Bank.get_put_ne _ v fun e => hk (e ▸ h)⟩

theorem onlyStrobes_cyc (m : Chip) (c : Cycle) : OnlyStrobes m { m with cyc := c } := ⟨rfl, fun _ _ => rfl⟩

theorem onlyStrobes_bump (m : Chip) {sp off : Nat} (n : Nat) (h : strobeWord (key sp off)) :
    OnlyStrobes m (m.bump sp off n) := (onlyStrobes_cyc m _).trans (onlyStrobes_wr _ _ h)

theorem onlyStrobes_orBits (m : Chip) {sp off : Nat} (b : Word) (h : strobeWord (key sp off)) :
    OnlyStrobes m (m.orBits sp off b) := (onlyStrobes_cyc m _).trans (onlyStrobes_wr _ _ h)

theorem onlyStrobes_hkc (m : Chip) (h : Hkc) : OnlyStrobes m { m with hkc := h } := ⟨rfl, fun _ _ => rfl⟩

theorem onlyStrobes_mapChan (m : Chip) (c : Nat) (f : Channel → Channel) : OnlyStrobes m (m.mapChan c f) :=
  ⟨rfl, fun _ _ => rfl⟩

/-- The words of the channels and of the slots. -/
theorem strobeWord_chan {c o : Nat} (hc : c < 8) (ho : o < 0x20) : strobeWord (key spIllum (chanOff c o)) :=
  strobeWord_illum (by unfold chanOff; omega)

theorem strobeWord_slot {sl o : Nat} (hs : sl < 8) (ho : o < 0x20) : strobeWord (key spHkc (slotOff sl o)) :=
  strobeWord_hkc (by unfold slotOff; omega)

theorem onlyStrobes_missSlot (m : Chip) (sl : Nat) : OnlyStrobes m (m.missSlot sl) :=
  .foldl_range (fun m _ hc => .ite (onlyStrobes_bump m 1 (strobeWord_chan hc (by decide))) (.refl m)) m

theorem onlyStrobes_dropSlot (m : Chip) {sl : Nat} (hs : sl < 8) (hc : m.pw.core = true) :
    OnlyStrobes m (m.dropSlot sl) := by
  unfold Chip.dropSlot
  rw [Chip.raise_on _ evHkcDrop (by exact hc)]
  exact .trans (.trans (onlyStrobes_bump m 1 (strobeWord_slot hs (by decide))) (onlyStrobes_orBits _ _ strobeWord_event))
    (onlyStrobes_missSlot _ sl)

theorem onlyStrobes_slotEvent (m : Chip) {sl : Nat} (t : Tick) (hs : sl < 8) : OnlyStrobes m (m.slotEvent sl t) := by
  unfold Chip.slotEvent
  dsimp only
  split
  next hon =>
    have hcore : m.pw.core = true := by
      simp only [Chip.slotsOn, Bool.and_eq_true] at hon
      exact hon.2.1.1.1
    refine .ite (onlyStrobes_missSlot m sl) ?_
    split
    · exact onlyStrobes_dropSlot m hs hcore
    · exact onlyStrobes_hkc m _
  next => exact .refl m

theorem onlyStrobes_sourceEvent (m : Chip) (src sel : Nat) (t : Tick) : OnlyStrobes m (m.sourceEvent src sel t) :=
  .foldl_range (fun m _ hs => .ite (onlyStrobes_slotEvent m t hs) (.refl m)) m

theorem onlyStrobes_boundsApply (m : Chip) {c : Nat} (lo hi : Option (BitVec 10)) (hc : c < 8) :
    OnlyStrobes m (m.boundsApply c lo hi) := by
  unfold Chip.boundsApply
  extract_lets m1 m2
  have h1 : OnlyStrobes m m1 := by
    unfold m1
    split
    · exact onlyStrobes_wr m _ (strobeWord_chan hc (by decide))
    · exact .refl m
  have h2 : OnlyStrobes m m2 := by
    unfold m2
    split
    · exact h1.trans (onlyStrobes_wr m1 _ (strobeWord_chan hc (by decide)))
    · exact h1
  exact h2.trans (onlyStrobes_mapChan m2 _ _)

theorem onlyStrobes_strobeRise (m : Chip) (c : Nat) (t : Tick) : OnlyStrobes m (m.strobeRise c t) :=
  .ite (.refl m) ((onlyStrobes_mapChan m c _).trans (onlyStrobes_sourceEvent _ _ _ _))

theorem onlyStrobes_strobeFall (m : Chip) {c : Nat} (t : Tick) (hc : c < 8) : OnlyStrobes m (m.strobeFall c t) := by
  unfold Chip.strobeFall
  extract_lets x m1 m2 m3
  have h1 : OnlyStrobes m m1 := onlyStrobes_mapChan m c _
  have h2 : OnlyStrobes m m2 := .ite (h1.trans (onlyStrobes_mapChan m1 c _)) h1
  have h3 : OnlyStrobes m m3 := .ite (h2.trans (onlyStrobes_boundsApply m2 _ _ hc)) h2
  exact .ite (h3.trans (onlyStrobes_sourceEvent m3 _ _ _)) (.refl m)

theorem onlyStrobes_strobeDrive (m : Chip) {c : Nat} (on : Bool) (t : Tick) (hc : c < 8) :
    OnlyStrobes m (m.strobeDrive c on t) := by
  have h1 := onlyStrobes_mapChan m c (fun x => { x with src := on })
  exact .ite (.ite h1 (h1.trans (onlyStrobes_strobeRise _ c t))) (h1.trans (onlyStrobes_strobeFall _ t hc))

theorem onlyStrobes_strobesLow (m : Chip) : OnlyStrobes m m.strobesLow :=
  .foldl_range (fun m _ hc => onlyStrobes_strobeDrive m false _ hc) m

/-! ## What a cut of the stores changes -/

/-- A kept word reads as before, a reset one as an unlisted word. -/
theorem Bank.get_keepIf (b : Bank) (p : Nat → Bool) (k : Nat) :
    Bank.get (Bank.keepIf b p) k = if p k then Bank.get b k else unlisted k := by
  induction b with
  | nil =>
    show unlisted k = if p k then unlisted k else unlisted k
    rw [ite_self]
  | cons c r ih =>
    unfold Bank.keepIf at ih ⊢
    rw [List.filter_cons]
    split
    next hp =>
      rw [Bank.get_cons, Bank.get_cons, ih]
      by_cases hk : c.1 = k
      · rw [if_pos hk, if_pos hk, if_pos (hk ▸ hp)]
      · rw [if_neg hk, if_neg hk]
    next hp =>
      rw [ih, Bank.get_cons]
      by_cases hk : c.1 = k
      · have : ¬p k = true := hk ▸ hp
        simp [this]
      · simp [hk]

/-- The stores, their words and the free values are all that changed. -/
def OnlyStores (m t : Chip) : Prop := t = { m with regs := t.regs, cyc := t.cyc, free := t.free, st := t.st }

theorem onlyStores_iff {m t : Chip} : OnlyStores m t ↔ ∃ r c f s, t = { m with regs := r, cyc := c, free := f, st := s } := by
  constructor
  · exact fun h => ⟨_, _, _, _, h⟩
  · rintro ⟨r, c, f, s, rfl⟩
    rfl

theorem OnlyStores.trans {m t u : Chip} (h : OnlyStores m t) (h' : OnlyStores t u) : OnlyStores m u := by
  obtain ⟨r, c, f, s, rfl⟩ := onlyStores_iff.mp h
  obtain ⟨r', c', f', s', rfl⟩ := onlyStores_iff.mp h'
  exact onlyStores_iff.mpr ⟨r', c', f', s', rfl⟩

/-- What a system reset asks of the chip is as before. -/
theorem OnlyStores.parts {m t : Chip} (h : OnlyStores m t) : t.cc = m.cc ∧ t.tb = m.tb ∧ t.keep = m.keep := by
  obtain ⟨r, c, f, s, rfl⟩ := onlyStores_iff.mp h
  exact ⟨rfl, rfl, rfl⟩

theorem OnlyStrobes.parts {m t : Chip} (h : OnlyStrobes m t) : t.cc = m.cc ∧ t.tb = m.tb ∧ t.keep = m.keep := by
  obtain ⟨r, c, k, l, rfl, -⟩ := onlyStrobes_iff.mp h
  exact ⟨rfl, rfl, rfl⟩

theorem onlyStores_wrList (m : Chip) (sp off : Nat) (l : List Word) : OnlyStores m (m.wrList sp off l) := by
  induction l generalizing m off with
  | nil => rfl
  | cons v r ih => exact OnlyStores.trans (t := m.wr sp off v) rfl (ih _ _)

theorem onlyStores_burnList (m : Chip) (w : Nat) (l : List Word) : OnlyStores m (m.burnList w l) := by
  induction l generalizing m w with
  | nil => rfl
  | cons v r ih => exact OnlyStores.trans (t := m.burn w v) rfl (ih _ _)

theorem onlyStores_otpCut (m : Chip) : OnlyStores m m.otpCut := by
  unfold Chip.otpCut
  split
  next => rfl
  next op _ =>
    cases op with
    | key k ws =>
      dsimp only
      split
      · exact .trans (t := { m with st := { m.st with otp := none }, free := m.free + 1 + 1 }) rfl
          (.trans (t := Chip.burn _ 0xC10 (bitW k)) rfl (onlyStores_burnList _ _ _))
      · rfl
    | prog w v once => rfl
    | glock g => rfl
    | keylock b => rfl

theorem onlyStores_spoilStep (m : Chip) (c : Commit) : OnlyStores m (m.spoilStep c) := by
  have hspoil (s w n : Nat) : OnlyStores m (m.spoilWords s w n) :=
    (onlyStores_wrList m _ _ _).trans (t := m.wrList spNvm (0x100000 + 0x8000 * s + w) _) rfl
  unfold Chip.spoilStep
  split
  · exact hspoil _ _ _
  · split
    · exact hspoil _ _ _
    · exact hspoil _ _ _

theorem onlyStores_commitCut (m : Chip) (c : Commit) : OnlyStores m (m.commitCut c) :=
  (onlyStores_spoilStep m c).trans rfl

theorem onlyStores_storesCut (m : Chip) : OnlyStores m m.storesCut := by
  unfold Chip.storesCut
  extract_lets m1 _ m2
  have h2 : OnlyStores m m2 := (onlyStores_otpCut m).trans rfl
  split
  · exact h2.trans (onlyStores_commitCut _ _)
  · exact h2

/-! ## System resets -/

/-- The strobes, the pins and the stores go down; the captures, the time base and the keep store are not touched. -/
theorem cut_keeps (m : Chip) : (m.strobesLow.pinsDown).storesCut.cc = m.cc ∧
    (m.strobesLow.pinsDown).storesCut.tb = m.tb ∧ (m.strobesLow.pinsDown).storesCut.keep = m.keep := by
  have hdown (m : Chip) : m.pinsDown.cc = m.cc ∧ m.pinsDown.tb = m.tb ∧ m.pinsDown.keep = m.keep := by
    unfold Chip.pinsDown
    split
    all_goals exact ⟨rfl, rfl, rfl⟩
  obtain ⟨hcc, htb, hkeep⟩ := hdown m.strobesLow
  obtain ⟨hcc1, htb1, hkeep1⟩ := (onlyStrobes_strobesLow m).parts
  obtain ⟨hcc2, htb2, hkeep2⟩ := (onlyStores_storesCut m.strobesLow.pinsDown).parts
  exact ⟨hcc2.trans (hcc.trans hcc1), htb2.trans (htb.trans htb1), hkeep2.trans (hkeep.trans hkeep1)⟩

/-- What a system reset leaves, whichever its cause. -/
theorem resetLeaves_sysReset (m : Chip) (cause which : Nat) :
    resetLeaves m (m.sysReset cause which).settle (wd (2 ^ cause + 256 * which)) := by
  obtain ⟨hcc, htb, hkeep⟩ := cut_keeps m
  unfold Chip.sysReset
  generalize (m.strobesLow.pinsDown).storesCut = m1 at hcc htb hkeep
  extract_lets m0 failed sticky m2 m3 m4
  have hcc2 : m2.cc.frameNum = m.cc.frameNum := by
    show m1.cc.frameNum = _
    rw [hcc]
  have haon2 : m2.tb.aon = m.tb.aon := by
    show m1.tb.aon = _
    rw [htb]
  have hrest : m2.keep = m.keep ∧ m2.cc.cap = none ∧ m2.loam = Loam.reset ∧ m2.tb.stb = 0 := ⟨hkeep, rfl, rfl, rfl⟩
  obtain ⟨hkeep2, hcap2, hloam2, hstb2⟩ := hrest
  clear_value m2 failed sticky
  refine ⟨rfl, rfl, rfl, rfl, rfl, rfl, ?_, ?_, hcc2, haon2, hkeep2, hcap2, hloam2, hstb2⟩
  · show (m3.wr 0 0x0E _).rd 0 0x02 = _
    rw [Chip.rd_wr_ne _ _ (by decide)]
    show (Chip.wr (Chip.wr (Chip.wr (Chip.wr (m2.wr 0 0x02 0x0A03) 0 0x03 failed) 0 0x04 0xF000) 0 0x06 sticky) 0 0x0D 0x1700).rd
      0 0x02 = _
    rw [Chip.rd_wr_ne _ _ (by decide), Chip.rd_wr_ne _ _ (by decide), Chip.rd_wr_ne _ _ (by decide),
      Chip.rd_wr_ne _ _ (by decide), Chip.rd_wr_same]
  · exact Chip.rd_wr_same m3 0 0x0E _

/-- What a reset keeps it keeps of the captures, the time base and the keep store. -/
theorem resetLeaves_congr {m m' t : Chip} {cause : Word} (hcc : m.cc = m'.cc) (htb : m.tb = m'.tb)
    (hkeep : m.keep = m'.keep) (h : resetLeaves m t cause) : resetLeaves m' t cause := by
  unfold resetLeaves at *
  rwa [← hcc, ← htb, ← hkeep]

/-- The chip with a supply below its reset level. -/
def Chip.fallen (m : Chip) (r : Nat) : Chip :=
  { m with pw := { m.pw with below := m.pw.below ||| BitVec.ofNat 4 (2 ^ r) } }

theorem Chip.supplyReset_fed (m : Chip) {r : Nat} (h : m.fed r = true) :
    m.supplyReset r = (m.fallen r).sysReset 1 (2 ^ r) := by
  show (if m.fed r = true then (m.fallen r).sysReset 1 (2 ^ r) else m.fallen r) = _
  rw [if_pos h]

/-! ## Loss and return of VDDAON -/

theorem allLost_facts (m : Chip) : m.allLost.pw = Power.reset ∧ m.allLost.keep = .empty ∧
    ∀ k, nvKey k = false → Bank.get m.allLost.regs k = unlisted k := by
  refine ⟨rfl, rfl, fun k hk => ?_⟩
  show Bank.get (Bank.keepIf _ nvKey) k = _
  rw [Bank.get_keepIf, hk]
  rfl

/-! ## Fields that are set -/

/-- The bits of a word after one field has been set. -/
theorem tst_setFld (w : Word) {lo n v i : Nat} (hi : i < 16) (hv : v < 2 ^ n) :
    tst (setFld w lo n v) i = if lo ≤ i ∧ i < lo + n then v.testBit (i - lo) else tst w i := by
  unfold setFld
  rw [tst_merge _ _ _ hi, tst_wd, tst_wd, Nat.mod_eq_of_lt hv, Nat.testBit_mul_two_pow, Nat.testBit_mul_two_pow,
    Nat.testBit_two_pow_sub_one, decide_eq_true hi]
  by_cases hlo : lo ≤ i
  · by_cases hn : i < lo + n
    · have : i - lo < n := by omega
      simp [hlo, hn, this]
    · have : ¬i - lo < n := by omega
      simp [hlo, hn, this]
  · simp [hlo]

/-- A field just set. -/
theorem fld_setFld_same (w : Word) {lo n v : Nat} (hlen : lo + n ≤ 16) (hv : v < 2 ^ n) : fld (setFld w lo n v) lo n = v := by
  have hword : fld (setFld w lo n v) lo n = fld (wd (v * 2 ^ lo)) lo n := by
    refine fld_congr fun i hi => ?_
    rw [tst_setFld w (by omega) hv, if_pos (by omega), tst_wd, Nat.testBit_mul_two_pow, decide_eq_true (by omega : lo + i < 16)]
    simp
  have hlt : v * 2 ^ lo < 2 ^ 16 := calc
    v * 2 ^ lo < 2 ^ n * 2 ^ lo := Nat.mul_lt_mul_of_pos_right hv (by positivity)
    _ = 2 ^ (lo + n) := by rw [Nat.mul_comm, Nat.pow_add]
    _ ≤ 2 ^ 16 := Nat.pow_le_pow_right (by decide) hlen
  rw [hword]
  unfold fld wd
  rw [BitVec.toNat_ofNat, Nat.mod_eq_of_lt hlt, Nat.mul_div_cancel _ (by positivity), Nat.mod_eq_of_lt hv]

/-- Another field. -/
theorem fld_setFld_ne (w : Word) {lo n v lo' n' : Nat} (hlen : lo' + n' ≤ 16) (hv : v < 2 ^ n)
    (h : lo' + n' ≤ lo ∨ lo + n ≤ lo') : fld (setFld w lo n v) lo' n' = fld w lo' n' := by
  refine fld_congr fun i hi => ?_
  rw [tst_setFld w (by omega) hv, if_neg (by omega)]

/-! ## The boot -/

/-- A wake that nothing asks for does not begin. -/
theorem Chip.modeGo_asleep {m : Chip} (hcur : m.pw.cur = .sleep) (htarget : m.pw.target = .sleep) (hw : m.pw.wake = false) :
    m.modeGo = m := by
  unfold Chip.modeGo
  rw [hcur]
  simp [htarget, hw]

theorem bootGen_lt (m : Chip) : m.bootGen < 2 ^ 3 := by
  unfold Chip.bootGen
  rcases h : [3, 2, 1, 0].find? m.genValid with - | n
  · decide
  · have hmem := List.mem_of_find?_eq_some h
    simp only [List.mem_cons, List.not_mem_nil, or_false] at hmem
    simp only [Option.getD_some]
    omega

theorem onlyThese_strapOptions (m : Chip) : OnlyThese m m.strapOptions [(spNvm, 0), (spNvm, 1)] := by
  unfold Chip.strapOptions
  extract_lets m1
  have h1 : OnlyThese m m1 [(spNvm, 0), (spNvm, 1)] := .ite (.refl m _) (.wr (.refl m _) _ (by decide))
  exact .ite h1 (h1.wr _ (by decide))

theorem OnlyThese.st {m t : Chip} {ws : List (Nat × Nat)} (h : OnlyThese m t ws) : t.st = m.st := by
  obtain ⟨r, c, i, rfl⟩ := onlyWords_iff.mp h.1
  rfl

/-- The chip with the bus ready and the generation of its image. -/
def Chip.booted (m : Chip) : Chip :=
  { m with st := { m.st with gen := m.bootGen, factBad := m.factoryBad }, pw := { m.pw with ready := true } }

/-- The boot's words: BOOTSTAT's fields, and the options that the image gives. -/
theorem bootDone_facts (m : Chip) : m.bootDone.pw = { m.pw with ready := true } ∧ m.bootDone.st.gen = m.bootGen ∧
    m.bootDone.st.factBad = m.factoryBad ∧ fld (m.bootDone.rd 0 0x0D) 8 3 = m.bootGen ∧
    WordsKept m m.bootDone [(0, 0x0D), (spNvm, 0), (spNvm, 1)] := by
  let m1 := (m.booted.bootField 8 3 m.bootGen).bootField 11 1 (b2n m.factoryBad)
  have hstrap := onlyThese_strapOptions m1
  have hend : m.bootDone.pw = m1.strapOptions.pw ∧ m.bootDone.st = m1.strapOptions.st ∧
      m.bootDone.regs = m1.strapOptions.regs := by
    show (if _ then _ else _ : Chip).pw = _ ∧ (if _ then _ else _ : Chip).st = _ ∧ (if _ then _ else _ : Chip).regs = _
    split
    all_goals exact ⟨rfl, rfl, rfl⟩
  obtain ⟨hpw, hst, hregs⟩ := hend
  have hbad : b2n m.factoryBad < 2 ^ 1 := by cases m.factoryBad <;> decide
  refine ⟨hpw.trans hstrap.pw, ?_, ?_, ?_, fun k hk => ?_⟩
  · rw [hst, hstrap.st]
    rfl
  · rw [hst, hstrap.st]
    rfl
  · have hrd : m.bootDone.rd 0 0x0D = m1.rd 0 0x0D :=
      (congrArg (Bank.get · (key 0 0x0D)) hregs).trans (hstrap.2 _ (by decide))
    rw [hrd]
    show fld (Chip.rd (Chip.wr _ 0 0x0D _) 0 0x0D) 8 3 = _
    rw [Chip.rd_wr_same, fld_setFld_ne _ (by decide) hbad (by decide)]
    show fld (Chip.rd (Chip.wr _ 0 0x0D _) 0 0x0D) 8 3 = _
    rw [Chip.rd_wr_same, fld_setFld_same _ (by decide) (bootGen_lt m)]
  · have hboot : WordsKept m m1 [(0, 0x0D), (spNvm, 0), (spNvm, 1)] :=
      .wr (.wr (t := m.booted) (fun _ _ => rfl) _ (by decide)) _ (by decide)
    rw [hregs]
    exact ((hstrap.mono (by decide)).2 k hk).trans (hboot k hk)

/-- Settles O15: each cause ends in a system reset; a power-on reset and a loss of VDDAON keep the non-volatile words alone. -/
theorem resets : Obligations.Resets := by
  refine ⟨⟨fun s v hbus hmode h7 => ?sysrst, fun s r hf => ?supply, fun s htap hopt => ?jtag, fun s hw => ?lock,
      fun s hc => ?clock⟩, fun s => ?power, fun s => ?loss, fun s hv hr => ⟨?boot, fun hcur ht hw => ?asleep⟩⟩
  case sysrst =>
    refine answers_hostWrite (f := (·.writePwrctl v)) rfl ⟨hbus, hbus⟩ ?_
    rw [Chip.writePwrctl, if_neg (by omega), if_pos h7]
    exact resetLeaves_sysReset s.host 2 0
  case supply =>
    have hcause : (2 : Nat) = 2 ^ 1 := rfl
    refine answers_of_done rfl ?_
    rw [s.chip.supplyReset_fed hf, hcause]
    exact resetLeaves_congr rfl rfl rfl (resetLeaves_sysReset (s.chip.fallen r.val) 1 (2 ^ r.val))
  case jtag => exact answers_guarded rfl (by simp [htap, hopt]) (resetLeaves_sysReset s.chip 3 0)
  case lock => exact answers_guarded rfl hw (resetLeaves_sysReset s.chip 4 0)
  case clock =>
    refine answers_guarded rfl ?_ (resetLeaves_sysReset s.chip 4 0)
    rcases hc with h | h
    · rw [h, Bool.true_or]
    · rw [h]
      exact Bool.or_true _
  case power =>
    obtain ⟨hpw, hkeep, hkept⟩ := allLost_facts s.chip
    refine answers_of_done rfl ⟨hpw, rfl, rfl, hkeep, rfl, rfl, rfl, ?_, hkept⟩
    exact (hkept _ (by decide)).trans (by decide)
  case loss =>
    obtain ⟨-, hkeep, hkept⟩ := allLost_facts s.chip
    exact answers_of_done rfl ⟨rfl, hkeep, hkept⟩
  case boot => exact completes_guarded rfl (by simp [hv, hr])
  case asleep =>
    obtain ⟨hpw, hgen, hbad, hfld, hkept⟩ := bootDone_facts s.chip
    refine answers_guarded rfl (by simp [hv, hr]) ?_
    rw [Chip.modeGo_asleep (by rw [hpw]; exact hcur) (by rw [hpw]; exact ht) (by rw [hpw]; exact hw)]
    exact ⟨hpw, hgen, hbad, hfld, hkept⟩

end Sys2Proof.Machine
end


section
/-! PROOFS. Wake events: the statement of O13. -/

namespace Sys2Proof.Machine

-- The proofs are many and short: one after the other they need few threads.
set_option Elab.async false

/-! ## A wake source -/

/-- In RUN with no wake pending a wake source does not count. -/
theorem Chip.wakeFire_steady {m : Chip} (n : Nat) (hcur : m.pw.cur = .run) (hsq : m.pw.sq = none) (hw : m.pw.wake = false) :
    m.wakeFire n = m := by
  have hno : m.sourcesCount = false := by simp [Chip.sourcesCount, Chip.entering, hcur, hsq, hw]
  unfold Chip.wakeFire
  rw [hno]
  rfl

/-- A source's bit of WAKESRC, with the first source in its field. -/
theorem tst_wakesrc (w : Word) {n : Nat} (b : Bool) (hn : n < 12) :
    tst (if b then setFld (w ||| bitW n) 12 4 n else w ||| bitW n) n = true := by
  cases b
  · exact tst_or_bitW w (by omega)
  · show tst (setFld (w ||| bitW n) 12 4 n) n = true
    rw [tst_setFld _ (by omega) (by omega), if_neg (by omega)]
    exact tst_or_bitW w (by omega)

/-- What a wake source that counts leaves, with no wake sequence in progress. -/
theorem wakeFire_counts (m : Chip) {n : Nat} (hn : n < 12) (hcount : m.sourcesCount = true) (hin : m.inWake = false) :
    tst ((m.wakeFire n).rd 0 0x04) n = true ∧ WordsKept m (m.wakeFire n) [(0, 0x04)] ∧
    (m.wakeFire n).pw = { m.pw with wake := true, firstAt := if m.pw.wake then m.pw.firstAt else m.tb.aon,
                                    target := m.wakeTarget } ∧
    m.wakeFire n = { m with regs := (m.wakeFire n).regs, cyc := (m.wakeFire n).cyc, pw := (m.wakeFire n).pw } := by
  unfold Chip.wakeFire
  rw [if_pos hcount]
  extract_lets first m1 m2 at_
  have hregs : WordsKept m m2 [(0, 0x04)] := by
    unfold m2
    split
    · exact (WordsKept.orBits (.refl m _) _ (List.mem_singleton_self _)).wr _ (List.mem_singleton_self _)
    · exact WordsKept.orBits (.refl m _) _ (List.mem_singleton_self _)
  have hrd : m2.rd 0 0x04 = if first then setFld (m.rd 0 0x04 ||| bitW n) 12 4 n else m.rd 0 0x04 ||| bitW n := by
    have h1 : m1.rd 0 0x04 = m.rd 0 0x04 ||| bitW n := Chip.rd_orBits_same m 0 0x04 _
    unfold m2
    split
    · rw [Chip.rd_wr_same, h1]
    · exact h1
  have hparts : ∃ r c, m2 = { m with regs := r, cyc := c } := by
    unfold m2
    split
    all_goals exact ⟨_, _, rfl⟩
  obtain ⟨r, c, e⟩ := hparts
  unfold at_
  clear_value m2
  subst e
  refine ⟨?_, hregs, ?_, rfl⟩
  · show tst (Chip.rd { m with regs := r, cyc := c } 0 0x04) n = true
    rw [hrd]
    exact tst_wakesrc _ first hn
  · have htarget : Chip.wakeTarget { m with regs := r, cyc := c } = m.wakeTarget := by
      unfold Chip.wakeTarget
      rw [hregs.rd (by decide)]
    have hin' : Chip.inWake { m with regs := r, cyc := c } = false := hin
    rw [hin', htarget]
    rfl

/-- The wake from SLEEP begins at the request of a source. -/
theorem wakeStart_asleep (m : Chip) (bound : Mode) (hcur : m.pw.cur = .sleep) (hb : m.pw.below = 0) :
    m.wakeStart bound =
      Chip.bootField { m with pw := { m.pw with bound := bound, sq := some .wakeSleep } } 12 4 2 := by
  unfold Chip.wakeStart
  simp [hcur, hb]

/-- SLEEP with no sequence: the state from which a source wakes. -/
def Chip.sleeps (m : Chip) : Prop := m.pw.cur = .sleep ∧ m.pw.sq = none ∧ m.pw.ready = true ∧ m.pw.below = 0

/-- The wake that a source starts from SLEEP. -/
theorem wake_from_sleep (m : Chip) {n : Nat} (hn : n < 12) (h : m.sleeps) :
    (m.wakeFire n).modeGo.pw.sq = some .wakeSleep ∧ (m.wakeFire n).modeGo.pw.bound = m.wakeTarget ∧
    (m.wakeFire n).modeGo.pw.wake = true ∧ tst ((m.wakeFire n).modeGo.rd 0 0x04) n = true ∧
    WordsKept m (m.wakeFire n).modeGo [(0, 0x04), (0, 0x0D)] ∧ (m.wakeFire n).modeGo.tb = m.tb ∧
    (m.wakeFire n).modeGo.phrase = m.phrase := by
  obtain ⟨hcur, hsq, hready, hbelow⟩ := h
  have hcount : m.sourcesCount = true := by simp [Chip.sourcesCount, hcur]
  have hin : m.inWake = false := by simp [Chip.inWake, Chip.waking, hsq]
  obtain ⟨hbit, hkept, hpw, hparts⟩ := wakeFire_counts m hn hcount hin
  have htarget : m.wakeTarget = .run ∨ m.wakeTarget = .idle := by
    unfold Chip.wakeTarget
    split
    · exact .inr rfl
    · exact .inl rfl
  have hgo : (m.wakeFire n).modeGo = (m.wakeFire n).wakeStart m.wakeTarget := by
    unfold Chip.modeGo
    rw [hpw]
    simp [hsq, hready, hcur, htarget]
  rw [hgo, wakeStart_asleep _ _ (by rw [hpw]; exact hcur) (by rw [hpw]; exact hbelow)]
  generalize m.wakeFire n = m1 at hbit hkept hpw hparts
  refine ⟨rfl, rfl, ?_, ?_, ?_, ?_, ?_⟩
  · show m1.pw.wake = true
    rw [hpw]
  · show tst ((Chip.wr _ 0 0x0D _).rd 0 0x04) n = true
    rw [Chip.rd_wr_ne _ _ (by decide)]
    exact hbit
  · intro k hk
    refine (Bank.get_put_ne m1.regs _ (hk (0, 0x0D) (by simp))).trans (hkept k fun w hw => hk w ?_)
    rw [List.mem_singleton.mp hw]
    simp
  · show m1.tb = m.tb
    rw [hparts]
  · show m1.phrase = m.phrase
    rw [hparts]

/-! ## The wake phrase -/

/-- The matcher at an element. -/
def Chip.phraseAt (m : Chip) (i : Nat) : Chip := { m with phrase := { m.phrase with index := i } }

/-- An interval that cannot complete the phrase only moves the matcher. -/
theorem phraseJudge_short (m : Chip) (burst : Bool) (len : Nat) (h : m.phrase.index + 1 ≠ fld m.phraseWord 0 5) :
    ∃ i, m.phraseJudge burst len = m.phraseAt i := by
  unfold Chip.phraseJudge
  dsimp only
  rw [if_neg h, if_neg h]
  split
  · exact ⟨0, rfl⟩
  · split
    · split
      · exact ⟨_, rfl⟩
      · exact ⟨_, rfl⟩
    · split
      · exact ⟨m.phrase.index, rfl⟩
      · exact ⟨_, rfl⟩

/-- The last burst of the phrase completes it. -/
theorem phraseJudge_last (m : Chip) (len : Nat) (h : m.phrase.index + 1 = fld m.phraseWord 0 5)
    (heven : m.phrase.index % 2 = 0) (hfits : m.phraseFits m.phrase.index len = true) :
    m.phraseJudge true len = m.phraseDone := by
  unfold Chip.phraseJudge
  dsimp only
  rw [if_neg (by omega), if_pos rfl, if_pos ⟨heven, hfits⟩, if_pos h]

/-- A completed phrase in SLEEP wakes the device where WAKEEN.PHR is 1. -/
theorem phraseDone_asleep (m : Chip) (h : m.sleeps) (hen : tst (m.rd 0 0x05) 8 = true) :
    m.phraseDone.phrase.index = 0 ∧ m.phraseDone.pw.sq = some .wakeSleep ∧ m.phraseDone.pw.wake = true ∧
    tst (m.phraseDone.rd 0 0x04) 8 = true := by
  obtain ⟨hcur, hsq, -, -⟩ := id h
  have hcond : ((m.phraseAt 0).sourcesCount && !(m.phraseAt 0).inWake) = true := by
    simp [Chip.phraseAt, Chip.sourcesCount, Chip.inWake, Chip.waking, hcur, hsq]
  have hdone : m.phraseDone = ((m.phraseAt 0).wakeFire 8).modeGo := by
    show (if ((m.phraseAt 0).sourcesCount && !(m.phraseAt 0).inWake) = true then
      (if tst ((m.phraseAt 0).rd 0 0x05) 8 = true then ((m.phraseAt 0).wakeFire 8).modeGo else m.phraseAt 0) else _) = _
    rw [if_pos hcond, if_pos (by exact hen)]
  obtain ⟨hq, -, hw, hbit, -, -, hphrase⟩ := wake_from_sleep (m.phraseAt 0) (n := 8) (by decide) h
  rw [hdone]
  exact ⟨congrArg Phrase.index hphrase, hq, hw, hbit⟩

/-- A completed phrase in RUN only sets WAKESRC bit 11 (R80). -/
theorem phraseDone_steady (m : Chip) (hcur : m.pw.cur = .run) (hsq : m.pw.sq = none) (hw : m.pw.wake = false) :
    m.phraseDone = (m.phraseAt 0).orBits 0 0x04 0x0800 := by
  have hcond : ((m.phraseAt 0).sourcesCount && !(m.phraseAt 0).inWake) = false := by
    simp [Chip.phraseAt, Chip.sourcesCount, Chip.entering, hcur, hsq, hw]
  show (if ((m.phraseAt 0).sourcesCount && !(m.phraseAt 0).inWake) = true then _ else _) = _
  rw [hcond]
  rfl

/-- A squelch change stamps the interval that it begins and judges the one that it ends. -/
def Chip.stamped (m : Chip) (o : Bool) : Chip := { m with phrase := { m.phrase with isOpen := o, since := m.tb.aon } }

theorem Chip.squelch_eq (m : Chip) (o : Bool) :
    m.squelch o = (m.stamped o).phraseJudge m.phrase.isOpen (m.tb.aon - m.phrase.since).toNat := rfl

/-! ## The alarm -/

theorem onlyThese_fireAlarm (m : Chip) : OnlyThese m m.fireAlarm [(spTmr, 0x13)] :=
  .orBits (.clrBits (.refl m _) _ (List.mem_singleton_self _)) _ (List.mem_singleton_self _)

theorem rd_fireAlarm (m : Chip) : m.fireAlarm.rd spTmr 0x13 = (m.rd spTmr 0x13 &&& ~~~0x8000) ||| 0x4000 := by
  unfold Chip.fireAlarm
  rw [Chip.rd_orBits_same, Chip.rd_clrBits_same]

/-! ## The obligation -/

/-- Settles O13: a source wakes from SLEEP by `wake_from_sleep` and has no effect in RUN; the matcher's cases are those of its
judgement. -/
theorem wakeEvents : Obligations.WakeEvents := by
  refine ⟨fun s n hv hen => ⟨?pin, fun hcur hsq hr hb => ?pinWakes, fun hst hw => ?pinRun⟩,
    ⟨fun s o ho hr => ⟨?squelch, fun hshort => ?short, fun hlast hoff heven hfits hen hcur hsq hb => ?burst⟩,
      fun s hr hq => ⟨fun hst hw => ?quietRun, fun hen hcur hsq hb => ?quietWakes⟩,
      fun s v hbus hlock => ⟨fun h15 hne hle => ?control, fun h15 hbad => ?badControl, fun h15 => ?element⟩⟩,
    fun s hv ha => ⟨fun hno => ?alarm, fun hen hcur hsq hr hb => ?alarmWakes⟩⟩
  case pin => exact completes_guarded rfl (by simp [hv, hen])
  case pinWakes =>
    obtain ⟨hq, hbound, -, hbit, hkept, htb, -⟩ := wake_from_sleep s.chip (n := n.val) (by omega) ⟨hcur, hsq, hr, hb⟩
    exact answers_guarded rfl (by simp [hv, hen]) ⟨hq, hbound, hbit, hkept, htb⟩
  case pinRun =>
    obtain ⟨hcur, htarget, hsq⟩ := hst
    refine answers_guarded rfl (by simp [hv, hen]) ?_
    rw [Chip.wakeFire_steady _ hcur hsq hw, Chip.modeGo_steady hcur htarget]
    rfl
  case squelch =>
    refine (completes_guarded rfl (by simp [ho])).trans ?_
    rw [if_pos hr]
  case short =>
    obtain ⟨i, hi⟩ := phraseJudge_short (s.chip.stamped o) s.chip.phrase.isOpen
      (s.chip.tb.aon - s.chip.phrase.since).toNat hshort
    refine answers_guarded rfl (by simp [ho]) ?_
    rw [if_pos hr, Chip.squelch_eq, hi]
    exact ⟨rfl, rfl, rfl, rfl⟩
  case burst =>
    have hopen : s.chip.phrase.isOpen = true := by
      rw [hoff] at ho
      exact Bool.eq_true_of_not_eq_false ho
    refine answers_guarded rfl (by simp [ho]) ?_
    rw [if_pos hr, Chip.squelch_eq, hopen, phraseJudge_last (s.chip.stamped o) _ hlast heven hfits]
    exact phraseDone_asleep (s.chip.stamped o) ⟨hcur, hsq, hr, hb⟩ hen
  case quietRun =>
    obtain ⟨hcur, -, hsq⟩ := hst
    refine answers_guarded rfl (by simp [hr, hq]) ?_
    rw [phraseDone_steady s.chip hcur hsq hw]
    refine ⟨rfl, Chip.rd_orBits_same (s.chip.phraseAt 0) 0 0x04 _, ?_, rfl⟩
    exact WordsKept.orBits (t := s.chip.phraseAt 0) (fun _ _ => rfl) _ (List.mem_singleton_self _)
  case quietWakes =>
    exact answers_guarded rfl (by simp [hr, hq]) (phraseDone_asleep s.chip ⟨hcur, hsq, hr, hb⟩ hen)
  case control =>
    refine answers_hostWrite (f := (·.writeWphrase v)) rfl ⟨hbus, hbus⟩ ?_
    rw [Chip.writeWphrase, if_neg (by rw [State.host_rd, hlock]; decide), if_pos h15, if_neg (by omega)]
    refine ⟨Chip.rd_wr_same (s.host.phraseAt 0) 0 0x0C _, rfl, ?_, rfl⟩
    exact WordsKept.wr (t := s.host.phraseAt 0) (fun _ _ => rfl) _ (List.mem_singleton_self _)
  case badControl =>
    refine answers_hostWrite (f := (·.writeWphrase v)) rfl ⟨hbus, hbus⟩ ?_
    rw [Chip.writeWphrase, if_neg (by rw [State.host_rd, hlock]; decide), if_pos h15, if_pos hbad]
    exact unchanged_begin s.chip 0
  case element =>
    refine answers_hostWrite (f := (·.writeWphrase v)) rfl ⟨hbus, hbus⟩ ?_
    rw [Chip.writeWphrase, if_neg (by rw [State.host_rd, hlock]; decide), if_neg (by rw [h15]; decide)]
    refine ⟨Chip.rd_wr_same (s.host.phraseAt 0) 0 _ _, rfl, ?_, rfl⟩
    exact WordsKept.wr (t := s.host.phraseAt 0) (fun _ _ => rfl) _ (List.mem_singleton_self _)
  case alarm =>
    have hstay : (if tst (s.chip.fireAlarm.rd 0 0x05) 9 then (s.chip.fireAlarm.wakeFire 9).modeGo else s.chip.fireAlarm) =
        s.chip.fireAlarm := by
      rcases hno with hen | ⟨⟨hcur, htarget, hsq⟩, hw⟩
      · rw [(onlyThese_fireAlarm s.chip).2.rd (by decide), hen]
        rfl
      · rw [Chip.wakeFire_steady (m := s.chip.fireAlarm) _ hcur hsq hw, Chip.modeGo_steady (m := s.chip.fireAlarm) hcur htarget,
          ite_self]
    refine answers_guarded rfl (by simp [hv, ha]) ?_
    dsimp only
    rw [hstay]
    exact ⟨rd_fireAlarm s.chip, (onlyThese_fireAlarm s.chip).settle⟩
  case alarmWakes =>
    have hen' : tst (s.chip.fireAlarm.rd 0 0x05) 9 = true := by
      rw [(onlyThese_fireAlarm s.chip).2.rd (by decide)]
      exact hen
    obtain ⟨hq, -, -, hbit, hkept, -, -⟩ := wake_from_sleep s.chip.fireAlarm (n := 9) (by decide) ⟨hcur, hsq, hr, hb⟩
    refine answers_guarded rfl (by simp [hv, ha]) ?_
    dsimp only
    rw [if_pos hen']
    exact ⟨(hkept.rd (by decide)).trans (rd_fireAlarm s.chip), hq, hbit⟩

end Sys2Proof.Machine
end


section
/-! PROOFS. The instructions of Loam: how one that issues is answered, where it goes on, and the obligations about control flow,
data, waits and timing. -/

namespace Sys2Proof.Machine

-- The proofs are many and short: one after the other they need few threads.
set_option Elab.async false

/-! ## How an instruction issues and goes on -/

/-- The instruction at the program counter, where Loam may issue it, is its own effect on the word there. -/
theorem exec_issue_of {c : Instr} {s : State} {op : Nat} {f : Nat → Chip → Chip} (h : exec c s = issue s op f)
    (hmay : s.chip.mayIssue = true) (hout : s.chip.outside = false) (hop : iOp s.chip.fetch = op)
    (hok : wordOk s.chip.fetch = true) : exec c s = done s (f s.chip.fetch s.chip) := by
  simp [h, issue, guarded, hmay, hout, hop, hok]

theorem exec_issue {c : Instr} {s : State} {op : Nat} {f : Nat → Chip → Chip} (h : exec c s = issue s op f)
    (hi : s.issues op) : exec c s = done s (f s.chip.fetch s.chip) := by
  obtain ⟨hmay, hout, hop, hok, _, _⟩ := hi
  exact exec_issue_of h hmay hout hop hok

/-- No halt and no step waits, so an instruction that has run goes on. -/
def Loam.free (l : Loam) : Prop := l.haltPend = 0 ∧ l.stepping = false

theorem State.issues.free {s : State} {op : Nat} (h : s.issues op) : s.chip.loam.free := ⟨h.2.2.2.2.1, h.2.2.2.2.2⟩

theorem State.issues.inside {s : State} {op : Nat} (h : s.issues op) : s.chip.outside = false := h.2.1

theorem Chip.boundary_of_free {m : Chip} (h : m.loam.free) : m.boundary = m := by
  simp [Chip.boundary, h.1, h.2]

/-- A jump inside the bank goes on at its target. -/
theorem Chip.jumpTo_inBank {m : Chip} {n : Nat} (hn : n < m.bankSize) (h : m.loam.free) :
    m.jumpTo n = { m with loam := m.loam.goesTo n } := by
  rw [Chip.jumpTo, if_neg (Nat.not_le.2 hn)]
  exact Chip.boundary_of_free h

/-- The next instruction lies in the bank, and Loam goes on at it. -/
theorem Chip.next_inBank {m : Chip} (hn : m.inBank) (h : m.loam.free) :
    m.next = { m with loam := m.loam.goesTo (m.loam.pc + 1) } := by
  show (if m.bankSize ≤ m.loam.pc + 1 then _ else m.jumpTo (m.loam.pc + 1)) = _
  rw [if_neg (Nat.not_le.2 hn)]
  exact Chip.jumpTo_inBank hn h

theorem Chip.jumpIf_inBank {m : Chip} {c : Bool} {w : Nat} (hn : m.inBank) (ht : w % 4096 < m.bankSize) (h : m.loam.free) :
    m.jumpIf c w = { m with loam := m.loam.goesTo (if c then w % 4096 else m.loam.pc + 1) } := by
  cases c
  · exact Chip.next_inBank hn h
  · exact Chip.jumpTo_inBank ht h

theorem onlyLoam_settle (m : Chip) (l : Loam) : OnlyLoam m (Chip.settle { m with loam := l }) l := rfl

/-- A command that ends with another sequencer changes nothing else. -/
theorem answers_onlyLoam {c : Instr} {s : State} {m : Chip} {l : Loam} (h : exec c s = done s m)
    (hm : m = { s.chip with loam := l }) : Answers c s (fun t => OnlyLoam s.chip t l) := by
  subst hm
  exact answers_of_done h (onlyLoam_settle _ _)

section
variable {c : Instr} {s : State} {op : Nat} {f : Nat → Chip → Chip}

/-- An instruction that issues and changes only the sequencer. -/
theorem answers_issue {l : Loam} (h : exec c s = issue s op f) (hi : s.issues op)
    (hm : f s.chip.fetch s.chip = { s.chip with loam := l }) : Answers c s (fun t => OnlyLoam s.chip t l) :=
  answers_onlyLoam (exec_issue h hi) hm

/-- A data instruction puts a value into A and goes on. -/
theorem answers_putsReg {v : Long} (h : exec c s = issue s op f) (hi : s.issues op) (hb : s.chip.inBank)
    (hm : f s.chip.fetch s.chip = (s.chip.setL (iA s.chip.fetch) v).next) : Answers c s (fun t => putsReg s t v) :=
  answers_issue h hi (hm.trans (Chip.next_inBank (m := s.chip.setL (iA s.chip.fetch) v) hb hi.free))

/-- What a conditional jump leaves. -/
theorem answers_jumpIf {b : Bool} (h : exec c s = issue s op f) (hi : s.issues op) (hb : s.chip.inBank)
    (ht : s.chip.fetch % 4096 < s.chip.bankSize) (hm : f s.chip.fetch s.chip = s.chip.jumpIf b s.chip.fetch) :
    Answers c s (fun t =>
      OnlyLoam s.chip t (s.chip.loam.goesTo (if b then s.chip.fetch % 4096 else s.chip.loam.pc + 1))) :=
  answers_issue h hi (hm.trans (Chip.jumpIf_inBank hb ht hi.free))

/-- What an instruction leaves that only goes on. -/
theorem answers_next (h : exec c s = issue s op f) (hi : s.issues op) (hb : s.chip.inBank)
    (hm : f s.chip.fetch s.chip = s.chip.next) :
    Answers c s (fun t => OnlyLoam s.chip t (s.chip.loam.goesTo (s.chip.loam.pc + 1))) :=
  answers_issue h hi (hm.trans (Chip.next_inBank hb hi.free))

end

/-! ## Control flow (O37) -/

/-- DJNZ writes back the decremented register and jumps unless it is 0. -/
theorem answers_djnz {s : State} (hi : s.issues 0x05) (hb : s.chip.inBank) (ht : s.chip.fetch % 4096 < s.chip.bankSize) :
    Answers .loamDjnz s (fun t => OnlyLoam s.chip t (Loam.goesTo
      { s.chip.loam with regs := upd s.chip.loam.regs (iA s.chip.fetch) (fun _ => s.chip.lreg (iA s.chip.fetch) - 1) }
      (if s.chip.lreg (iA s.chip.fetch) = 1 then s.chip.loam.pc + 1 else s.chip.fetch % 4096))) := by
  refine answers_issue (rfl : execLoamDjnz s = _) hi ?_
  rw [if_neg fun h => Nat.not_le.2 ht h.1]
  rw [Chip.jumpIf_inBank (m := s.chip.setL _ _) hb ht hi.free]
  by_cases h : s.chip.lreg (iA s.chip.fetch) = 1
  · rw [if_pos h, h]
    rfl
  · have hne : (s.chip.lreg (iA s.chip.fetch) - 1 != 0) = true := bne_iff_ne.2 (by bv_omega)
    rw [if_neg h, hne]
    rfl

/-- Settles O37: a jump goes to its target inside the bank, or to the next address. -/
theorem loamControlFlow : Obligations.LoamControlFlow := by
  unfold Obligations.LoamControlFlow
  refine ⟨?jumps, fun s => ⟨?call, ?full, ?ret, ?empty⟩⟩
  case jumps =>
    rintro s w tgt a b rfl rfl rfl rfl hb ht
    refine ⟨fun hi => ?nop, fun hi => ?jmp, fun hi => ?jz,
      fun hi => ?jnz, fun hi => ?jlt, fun hi => answers_djnz hi hb ht⟩
    case nop => exact answers_next (rfl : execLoamNop s = _) hi hb rfl
    case jmp => exact answers_jumpIf (b := true) (rfl : execLoamJmp s = _) hi hb ht rfl
    case jz => simpa using answers_jumpIf (c := .loamJz) (rfl : execLoamJz s = _) hi hb ht rfl
    case jnz => simpa [ite_not] using answers_jumpIf (c := .loamJnz) (rfl : execLoamJnz s = _) hi hb ht rfl
    case jlt => simpa [BitVec.lt_def] using answers_jumpIf (c := .loamJlt) (rfl : execLoamJlt s = _) hi hb ht rfl
  case call =>
    intro hi ht hs
    refine answers_issue (rfl : execLoamCall s = _) hi ?_
    rw [if_neg (Nat.not_le.2 hs), if_neg (Nat.not_le.2 ht)]
    exact Chip.jumpTo_inBank (m := { s.chip with loam := { s.chip.loam with stack := _ } }) ht hi.free
  case full =>
    intro hi hs
    rw [exec_issue (c := .loamCall) (rfl : execLoamCall s = _) hi, if_pos hs]
  case ret =>
    intro a r hi hs ha
    refine answers_issue (rfl : execLoamRet s = _) hi ?_
    simp only [hs]
    exact Chip.jumpTo_inBank (m := { s.chip with loam := { s.chip.loam with stack := r } }) ha hi.free
  case empty =>
    intro hi hs
    rw [exec_issue (c := .loamRet) (rfl : execLoamRet s = _) hi, hs]

/-! ## Data (O38) -/

/-- The upper half loaded by LDIH stands above the lower half of the register. -/
theorem ldih_value (a : Long) {n : Nat} (hn : n < 0x10000) :
    BitVec.ofNat 32 (n * 0x10000 + a.toNat % 0x10000) = (a &&& 0xFFFF) ||| (BitVec.ofNat 32 n) <<< 16 := by
  apply BitVec.eq_of_toNat_eq
  have hlow : a.toNat % 2 ^ 16 < 2 ^ 16 := Nat.mod_lt _ (by decide)
  have hor := Nat.shiftLeft_add_eq_or_of_lt hlow n
  have hand : a.toNat &&& 0xFFFF = a.toNat % 2 ^ 16 := Nat.and_two_pow_sub_one_eq_mod _ 16
  have hsh : n <<< 16 = n * 0x10000 := Nat.shiftLeft_eq n 16
  rw [BitVec.toNat_or, BitVec.toNat_and, BitVec.toNat_shiftLeft, BitVec.toNat_ofNat, BitVec.toNat_ofNat,
    Nat.mod_eq_of_lt (show n < 2 ^ 32 by omega), hsh,
    Nat.mod_eq_of_lt (show n * 0x10000 < 2 ^ 32 by omega)]
  show _ = a.toNat &&& 0xFFFF ||| _
  rw [hand, Nat.or_comm, ← hsh, ← hor, hsh]
  omega

/-- A 32-bit item reads what was written to it. -/
theorem Chip.rd32_wr32 (m : Chip) (sp : Nat) {off v : Nat} (hv : v < 2 ^ 32) (hne : key sp off ≠ key sp (off + 1)) :
    (m.wr32 sp off v).rd32 sp off = v := by
  show ((m.wr32 sp off v).rd sp off).toNat + 0x10000 * ((m.wr32 sp off v).rd sp (off + 1)).toNat = v
  rw [Chip.wr32, Chip.rd_wr, Chip.rd_wr, Chip.rd_wr, if_neg hne, if_pos rfl, if_pos rfl, wd, wd, BitVec.toNat_ofNat,
    BitVec.toNat_ofNat]
  omega

theorem key_succ_ne (sp off : Nat) : key sp off ≠ key sp (off + 1) := by
  unfold key
  omega

theorem iImm_lt (w : Nat) : iImm w < 0x10000 := Nat.mod_lt _ (by decide)

/-- LDC with the capture that runs. -/
theorem answers_ldc {s : State} {k : Capture} (hi : s.issues 0x0A) (hb : s.chip.inBank) (hk : s.chip.cc.cap = some k) :
    Answers .loamLdc s (fun t =>
      putsReg s t (BitVec.ofNat 32 (k.ldc (iX s.chip.fetch) (iImm s.chip.fetch)))) := by
  refine answers_putsReg (rfl : execLoamLdc s = _) hi hb ?_
  simp only [hk]

/-- GET with the capture that runs. -/
theorem answers_get {s : State} {k : Capture} (hi : s.issues 0x0E) (hb : s.chip.inBank) (hk : s.chip.cc.cap = some k)
    (hs : iImm s.chip.fetch < 7) :
    Answers .loamGet s (fun t => putsReg s t (s.chip.getSel k (iImm s.chip.fetch))) := by
  refine answers_putsReg (rfl : execLoamGet s = _) hi hb ?_
  simp only [hk, if_neg (Nat.not_le.2 hs)]

/-- MEM store writes both words of its item and goes on. -/
theorem answers_memStore {s : State} (hb : s.chip.inBank) (hi : s.issues 0x0F) (hx : iX s.chip.fetch = 1) :
    Answers .loamMem s (fun t =>
      t.rd32 spLoam (0x3040 + 2 * iImm s.chip.fetch) = (s.chip.lreg (iA s.chip.fetch)).toNat ∧
      WordsKept s.chip t [(spLoam, 0x3040 + 2 * iImm s.chip.fetch), (spLoam, 0x3041 + 2 * iImm s.chip.fetch)] ∧
      t.loam = s.chip.loam.goesTo (s.chip.loam.pc + 1) ∧ t.cc = s.chip.cc) := by
  refine answers_of_done (exec_issue (rfl : execLoamMem s = _) hi) ?_
  rw [if_pos hx, Chip.next_inBank (m := s.chip.wr32 _ _ _) hb hi.free]
  refine ⟨Chip.rd32_wr32 _ _ (BitVec.isLt _) (key_succ_ne _ _), ?_, rfl, rfl⟩
  exact WordsKept.wr32 (m := s.chip) (off := 0x3040 + 2 * iImm s.chip.fetch) (.refl _ _) _ (by simp)
    (by simp; omega)

/-- FLAG adds its USER flags to the frame and goes on. -/
theorem answers_flag {s : State} {c : Capture} (hb : s.chip.inBank) (hi : s.issues 0x1E) (hc : s.chip.cc.cap = some c) :
    Answers .loamFlag s (fun t =>
      t.cc = { s.chip.cc with cap := some { c with user := c.user ||| BitVec.ofNat 4 (iImm s.chip.fetch) } } ∧
      t.loam = s.chip.loam.goesTo (s.chip.loam.pc + 1) ∧ AllWordsKept s.chip t) := by
  refine answers_of_done (exec_issue (rfl : execLoamFlag s = _) hi) ?_
  rw [Chip.next_inBank (m := s.chip.mapCap _) hb hi.free, Chip.mapCap, hc]
  exact ⟨rfl, rfl, rfl⟩

/-- Settles O38: a data instruction puts its value into A, a MEM store and FLAG write theirs. -/
theorem loamData : Obligations.LoamData := by
  unfold Obligations.LoamData
  refine ⟨?loads, fun s hb => ⟨answers_memStore hb, fun c => answers_flag hb⟩⟩
  rintro s w a b c rfl rfl rfl rfl hb
  refine ⟨fun hi => ?ldi, fun hi => ?ldih, fun k hi hk hx => ?word, fun k hi hk hx ho => ?word32, fun hi => ?alu,
    fun hi => ?addi, fun k hi hk => ?get, fun hi hx => ?mem⟩
  case ldi => exact answers_putsReg (rfl : execLoamLdi s = _) hi hb rfl
  case ldih =>
    rw [← ldih_value _ (iImm_lt _)]
    exact answers_putsReg (rfl : execLoamLdih s = _) hi hb rfl
  case word =>
    have h := answers_ldc hi hb hk
    rw [Capture.ldc, if_neg (by omega)] at h
    simpa using h
  case word32 =>
    have h := answers_ldc hi hb hk
    rwa [Capture.ldc, if_pos ⟨hx, ho⟩] at h
  case alu => exact answers_putsReg (rfl : execLoamAlu s = _) hi hb rfl
  case addi => exact answers_putsReg (rfl : execLoamAddi s = _) hi hb rfl
  case get =>
    refine ⟨fun h => ?_, fun h => ?_, fun h => ?_, fun h => ?_⟩
    · simpa [h, Chip.getSel, Chip.now] using answers_get hi hb hk (by omega)
    · simpa [h, Chip.getSel, Chip.now] using answers_get hi hb hk (by omega)
    · simpa [h, Chip.getSel, Chip.now] using answers_get hi hb hk (by omega)
    · rw [exec_issue (c := .loamGet) (rfl : execLoamGet s = _) hi]
      simp only [hk, if_pos h]
  case mem =>
    refine answers_putsReg (rfl : execLoamMem s = _) hi hb ?_
    rw [if_neg (by omega)]

/-! ## Waits (O39) -/

theorem Chip.waitDone_of_lt {m : Chip} {k : Nat} (hk : k < 2) : m.waitDone k = m.next := by
  rw [Chip.waitDone, if_neg (by omega)]

/-- Settles O39: a wait whose tick or condition has come goes on, else it stands. -/
theorem loamWaits : Obligations.LoamWaits := by
  unfold Obligations.LoamWaits
  refine ⟨?waitt, ?reached, fun s hi hb => ⟨fun hs hc => ?on, fun hs hc => ?stays, fun hs => ?fault⟩, ?event⟩
  case waitt =>
    rintro s t0 hi hb rfl
    refine ⟨fun h => answers_next (rfl : execLoamWaitt s = _) hi hb (if_pos h), fun h => ?_⟩
    exact answers_issue (rfl : execLoamWaitt s = _) hi (if_neg (ne_true_of_eq_false h))
  case reached =>
    intro s t0 hcore hw ht hb hp hst
    have hexec : exec .waittReached s = guarded s (s.chip.pw.core && s.chip.reached t0) s.chip.next := by
      simp only [exec, execWaittReached, hw]
    simp only [hcore, ht] at hexec
    exact answers_onlyLoam hexec (Chip.next_inBank hb ⟨hp, hst⟩)
  case on =>
    refine answers_next (rfl : execLoamWaite s = _) hi hb ?_
    rw [if_neg (by omega), if_pos hc, Chip.waitDone_of_lt hs]
  case stays =>
    refine answers_issue (rfl : execLoamWaite s = _) hi ?_
    rw [if_neg (by omega), if_neg (ne_true_of_eq_false hc)]
    rfl
  case fault =>
    rw [exec_issue (c := .loamWaite) (rfl : execLoamWaite s = _) hi, if_pos (Or.inl hs)]
  case event =>
    intro s k hcore hw hk hc hb hp hst
    have hexec : exec .waiteEvent s = guarded s (s.chip.pw.core && s.chip.waitCond k) (s.chip.waitDone k) := by
      simp only [exec, execWaiteEvent, hw]
    simp only [hcore, hc, Chip.waitDone_of_lt hk] at hexec
    exact answers_onlyLoam hexec (Chip.next_inBank hb ⟨hp, hst⟩)

/-! ## Timing (O40) -/

/-- The chip with another queue of Loam's actions. -/
def Chip.withQueue (m : Chip) (q : List Action) : Chip := { m with loam := { m.loam with queue := q } }

/-- Actions that come in time join the queue as they are. -/
theorem Chip.enqueueAll_ahead {acts : List Action} {m : Chip} (h : ∀ a ∈ acts, m.reached a.tick = false) :
    m.enqueueAll acts = m.withQueue (m.loam.queue ++ acts) := by
  induction acts generalizing m with
  | nil => simp [Chip.enqueueAll, Chip.withQueue]
  | cons a rest ih =>
    have ha : m.reached a.tick = false := h a List.mem_cons_self
    have hrest := ih (m := m.withQueue (m.loam.queue ++ [a]))
      (fun b hb => h b (List.mem_cons_of_mem a hb))
    rw [Chip.enqueueAll, List.foldl_cons]
    simp only [ha]
    simpa [Chip.enqueueAll, Chip.withQueue] using hrest

/-- A late action joins the queue at the next tick, and counts. -/
theorem Chip.enqueueAll_late {a : Action} {m : Chip} (h : m.reached a.tick = true) :
    m.enqueueAll [a] =
      ((m.withQueue (m.loam.queue ++ [{ a with tick := m.tb.stb + 1 }])).orBits spLoam 0x3000 0x4000).bump
        spLoam 0x3003 1 := by
  simp [Chip.enqueueAll, h, Chip.now, Chip.withQueue]

/-- The actions of a list have joined the queue, in time or late. -/
def Enqueued (m t : Chip) (n : Nat) : Prop :=
  ∃ q : List Action, q.length = n ∧
    OnlyThese (m.withQueue (m.loam.queue ++ q)) t [(spLoam, 0x3000), (spLoam, 0x3003)]

theorem Chip.enqueueAll_append (m : Chip) (a : Action) (rest : List Action) :
    m.enqueueAll (a :: rest) = (m.enqueueAll [a]).enqueueAll rest := rfl

theorem enqueued_one (m : Chip) (a : Action) : Enqueued m (m.enqueueAll [a]) 1 := by
  cases h : m.reached a.tick with
  | false =>
    rw [Chip.enqueueAll_ahead (by simpa using h)]
    exact ⟨[a], rfl, .refl _ _⟩
  | true =>
    rw [Chip.enqueueAll_late h]
    exact ⟨[{ a with tick := m.tb.stb + 1 }], rfl, .bump (.orBits (.refl _ _) _ (by decide)) _ (by decide)⟩

theorem Enqueued.then {m t u : Chip} {n k : Nat} (h : Enqueued m t n) (hu : Enqueued t u k) : Enqueued m u (n + k) := by
  obtain ⟨p, rfl, hp, hpw⟩ := h
  obtain ⟨q, rfl, hq, hqw⟩ := hu
  refine ⟨p ++ q, List.length_append, ?_, fun x hx => (hqw x hx).trans (hpw x hx)⟩
  rw [hp] at hq
  rw [← List.append_assoc]
  exact hq

theorem enqueued_enqueueAll (m : Chip) (acts : List Action) : Enqueued m (m.enqueueAll acts) acts.length := by
  induction acts generalizing m with
  | nil => exact ⟨[], rfl, by rw [List.append_nil]; exact .refl _ _⟩
  | cons a rest ih =>
    rw [Chip.enqueueAll_append, List.length_cons, Nat.add_comm]
    exact (enqueued_one m a).then (ih _)

theorem Chip.schedule_fits {m : Chip} {acts : List Action} (h : m.loam.queue.length + acts.length ≤ 32) :
    m.schedule acts = (m.enqueueAll acts).next := if_pos h

theorem Chip.schedule_one {m : Chip} {a : Action} (h : m.loam.queue.length < 32) :
    m.schedule [a] = (m.enqueueAll [a]).next := Chip.schedule_fits (acts := [a]) h

/-- What a timing instruction leaves that schedules one action. -/
theorem answers_queues {c : Instr} {s : State} {op : Nat} {f : Nat → Chip → Chip} {a : Action}
    (h : exec c s = issue s op f) (hi : s.issues op) (hb : s.chip.inBank)
    (hm : f s.chip.fetch s.chip = s.chip.schedule [a]) : queues s c a := by
  refine ⟨fun hq ha => ?ahead, fun hq ha => ?late, fun hq => ?full⟩
  case ahead =>
    refine answers_issue h hi (hm.trans ((Chip.schedule_one hq).trans ?_))
    rw [Chip.enqueueAll_ahead (by simpa using ha)]
    exact Chip.next_inBank (m := s.chip.withQueue _) hb hi.free
  case late =>
    refine answers_of_done (exec_issue h hi) ?_
    rw [hm, Chip.schedule_one hq, Chip.enqueueAll_late ha, Chip.next_inBank ?bank ?free]
    case bank => exact hb
    case free => exact hi.free
    refine ⟨rfl, ?_, ?_, ?_⟩
    · show tst (Chip.rd ((Chip.orBits (s.chip.withQueue _) _ _ _).bump _ _ _) spLoam 0x3000) 14 = true
      rw [Chip.rd_bump, if_neg (by decide), Chip.rd_orBits, if_pos rfl, tst_or]
      exact Bool.or_true _
    · show Chip.rd ((Chip.orBits (s.chip.withQueue _) _ _ _).bump _ _ _) spLoam 0x3003 = _
      rw [Chip.rd_bump, if_pos rfl, Chip.rd_orBits, if_neg (by decide)]
      rfl
    · exact .settle (.bump (.orBits (.refl _ _) _ (by decide)) _ (by decide))
  case full =>
    exact answers_issue h hi (hm.trans (if_neg (Nat.not_le.2 (Nat.lt_succ_of_le hq))))

/-- STR queues the edges of a stratum that is used. -/
theorem answers_str {s : State} {c : Capture} (hi : s.issues 0x13) (hb : s.chip.inBank) (hc : s.chip.cc.cap = some c)
    (hx : iX s.chip.fetch < c.strata) (hq : s.chip.loam.queue.length ≤ 27)
    (ha : ∀ a ∈ s.chip.strActions c (iX s.chip.fetch), s.chip.reached a.tick = false) :
    Answers .loamStr s (fun t => OnlyLoam s.chip t (Loam.goesTo
      { s.chip.loam with queue := s.chip.loam.queue ++ s.chip.strActions c (iX s.chip.fetch) } (s.chip.loam.pc + 1))) := by
  refine answers_issue (rfl : execLoamStr s = _) hi ?_
  have hlen : (s.chip.strActions c (iX s.chip.fetch)).length ≤ 5 := by
    rw [Chip.strActions, List.length_append]
    split <;> simp
  simp only [hc, if_neg (Nat.not_le.2 hx)]
  rw [Chip.schedule_fits (by omega), Chip.enqueueAll_ahead ha]
  exact Chip.next_inBank (m := s.chip.withQueue _) hb hi.free

theorem OnlyWords.loam {m t : Chip} (h : OnlyWords m t) : t.loam = m.loam := by
  rw [h]

theorem OnlyWords.cc {m t : Chip} (h : OnlyWords m t) : t.cc = m.cc := by
  rw [h]

/-- A stalled instruction places its actions and goes on. -/
theorem answers_stallEnd {s : State} {acts : List Action} (hcore : s.chip.pw.core = true)
    (hw : s.chip.loam.wait = some (.queue acts)) (hq : s.chip.loam.queue.length + acts.length ≤ 32)
    (hb : s.chip.inBank) (hf : s.chip.loam.free) :
    Answers .actionQueueStallEnd s (fun t => t.loam.queue.length = s.chip.loam.queue.length + acts.length ∧
      t.loam.pc = s.chip.loam.pc + 1 ∧ t.loam.wait = none ∧ t.cc = s.chip.cc ∧
      WordsKept s.chip t [(spLoam, 0x3000), (spLoam, 0x3003)]) := by
  have hexec : exec .actionQueueStallEnd s =
      guarded s (s.chip.pw.core && decide (s.chip.loam.queue.length + acts.length ≤ 32)) (s.chip.schedule acts) := by
    simp only [exec, execActionQueueStallEnd, hw]
  refine answers_guarded hexec (by simp [hcore, hq]) ?_
  obtain ⟨q, hlen, heq, hwords⟩ := enqueued_enqueueAll s.chip acts
  rw [Chip.schedule_fits hq]
  generalize s.chip.enqueueAll acts = m at heq hwords
  have hl : m.loam = { s.chip.loam with queue := s.chip.loam.queue ++ q } := heq.loam
  have hcc : m.cc = s.chip.cc := heq.cc
  have hbank : m.inBank := by
    rw [Chip.inBank, Chip.bankSize, hl]
    exact hb
  rw [Chip.next_inBank hbank (by rw [hl]; exact hf)]
  refine ⟨?_, ?_, rfl, hcc, hwords⟩
  · show m.loam.queue.length = _
    rw [hl, List.length_append, hlen]
  · show m.loam.pc + 1 = _
    rw [hl]

/-- Settles O40: the actions join the queue, late ones at the next tick, or the instruction stalls. -/
theorem loamTiming : Obligations.LoamTiming := by
  unfold Obligations.LoamTiming
  refine ⟨?place, ⟨fun s c hi hb hc => ⟨fun hx => ?unused, answers_str hi hb hc⟩,
    fun s acts hcore hw hq hb hp hst => answers_stallEnd hcore hw hq hb ⟨hp, hst⟩⟩⟩
  case place =>
    rintro s w at0 at1 rfl hb rfl rfl
    refine ⟨fun hi => ?opens, fun hi => ?close, fun hi => ?strb, fun hi => ?isetl, fun hi => ?hkt, fun hi hx => ?pin,
      fun hi hx => ?fault⟩
    case opens => exact answers_queues (rfl : execLoamOpen s = _) hi hb rfl
    case close => exact answers_queues (rfl : execLoamClose s = _) hi hb rfl
    case strb => exact answers_queues (rfl : execLoamStrb s = _) hi hb rfl
    case isetl => exact answers_queues (rfl : execLoamIsetl s = _) hi hb rfl
    case hkt => exact answers_queues (rfl : execLoamHkt s = _) hi hb rfl
    case pin => exact answers_queues (rfl : execLoamPin s = _) hi hb (if_neg hx)
    case fault => rw [exec_issue (c := .loamPin) (rfl : execLoamPin s = _) hi, if_pos hx]
  case unused =>
    refine answers_next (rfl : execLoamStr s = _) hi hb ?_
    simp only [hc, if_pos hx]

end Sys2Proof.Machine

end


section
/-! PROOFS. What the operations of the streams, of a frame and of a capture leave as it is. Three levels: what an offer to a
stream and a fault record leave, what the work on a frame leaves, and what the work of a capture leaves. One lemma per
operation says that it keeps the level's part of the chip; a proof then reads off the part that it speaks of. -/

namespace Sys2Proof.Machine

-- The proofs are many and short: one after the other they need few threads.
set_option Elab.async false

/-! ## The levels -/

/-- How much an operation may change: what posting to a stream does, what the work on a frame does (`wide false`), what the
work of a capture does (`wide true`). -/
inductive Level where
  | post
  | wide (capture : Bool)

/-- A part that only posting leaves. -/
def Level.frame {α : Type} : Level → α → α → α
  | .post, x, _ => x
  | .wide _, _, d => d

/-- A part that the work of a capture changes. -/
def Level.capture {α : Type} : Level → α → α → α
  | .wide true, _, d => d
  | .wide false, x, _ => x
  | .post, x, _ => x

/-- The part of a capture that a level leaves. -/
def Capture.kept (lv : Level) (c : Capture) : Capture :=
  { c with
    pausedPool := false
    pausedPace := lv.frame c.pausedPace false
    illum := lv.frame c.illum 0
    strips := lv.frame c.strips []
    vacant := lv.frame c.vacant []
    white := lv.frame c.white false }

/-- The part of the chip that a level leaves; the rest is put to a fixed value. -/
def Chip.kept (lv : Level) (m : Chip) : Chip :=
  { m with
    regs := []
    held := lv.frame m.held []
    free := lv.frame m.free 0
    cyc := Cycle.fresh
    pw := { m.pw with deferred := Power.reset.deferred }
    cc := lv.capture { m.cc with cap := m.cc.cap.map (Capture.kept lv) } CaptureCtl.reset
    loam := lv.capture m.loam Loam.reset
    chans := lv.frame m.chans []
    hkc := { m.hkc with queue := [], reqs := lv.capture m.hkc.reqs [] }
    cal := lv.frame m.cal Calib.reset
    st := { m.st with incr := lv.frame m.st.incr [], boundaryHeld := lv.frame m.st.boundaryHeld false }
    pipe :=
      { m.pipe with
        memory := []
        frames := lv.frame m.pipe.frames []
        waiting := lv.frame m.pipe.waiting none
        sets := lv.frame m.pipe.sets 0
        act := lv.frame m.pipe.act 0
        white := lv.frame m.pipe.white []
        inline := lv.capture m.pipe.inline []
        lines := lv.capture m.pipe.lines [] }
    cams := lv.capture m.cams []
    streams := []
    movers := []
    pins := { m.pins with trigOut := lv.capture m.pins.trigOut false } }

/-- The part of the chip that the level leaves is as it was. -/
def Keeps (lv : Level) (o m : Chip) : Prop := m.kept lv = o.kept lv

section
variable {lv : Level} {bd : Bool} {o m : Chip}

theorem Keeps.refl (lv : Level) (m : Chip) : Keeps lv m m := rfl

/-- A change of the rest keeps the level's part. -/
theorem Keeps.update {t : Chip} (h : Keeps lv o m) (eq : t.kept lv = m.kept lv := by rfl) : Keeps lv o t := eq.trans h

theorem Keeps.ite {c : Prop} [Decidable c] {a b : Chip} (ha : Keeps lv o a) (hb : Keeps lv o b) :
    Keeps lv o (if c then a else b) := by
  split
  · exact ha
  · exact hb

theorem Keeps.foldl {α : Type} {l : List α} {f : Chip → α → Chip} (h : Keeps lv o m)
    (hf : ∀ m a, Keeps lv o m → Keeps lv o (f m a)) : Keeps lv o (l.foldl f m) := by
  induction l generalizing m with
  | nil => exact h
  | cons a r ih => exact ih (hf m a h)

/-- So does an operation that carries a value along with the chip. -/
theorem Keeps.foldl_fst {α β : Type} {l : List α} {a : Chip × β} {f : Chip × β → α → Chip × β} (h : Keeps lv o a.1)
    (hf : ∀ a x, Keeps lv o a.1 → Keeps lv o (f a x).1) : Keeps lv o (l.foldl f a).1 := by
  induction l generalizing a with
  | nil => exact h
  | cons x r ih => exact ih (hf a x h)

/-! ## The operations -/

/-- A change of the running capture that its kept part does not show. -/
theorem Keeps.mapCap {f : Capture → Capture} (h : Keeps lv o m)
    (hf : ∀ c, (f c).kept lv = c.kept lv := by exact fun _ => rfl) : Keeps lv o (m.mapCap f) := by
  have hcap : (m.cc.cap.map f).map (Capture.kept lv) = m.cc.cap.map (Capture.kept lv) := by
    simp only [Option.map_map, Function.comp_def, hf]
  refine h.update ?_
  show ({ m with cc := { m.cc with cap := m.cc.cap.map f } } : Chip).kept lv = _
  simp only [Chip.kept, hcap]

/-- The work of a capture may change it in any way. -/
theorem Keeps.changeCap {f : Capture → Capture} (h : Keeps (.wide true) o m) : Keeps (.wide true) o (m.mapCap f) := h

theorem Keeps.wr {sp off : Nat} {v : Word} (h : Keeps lv o m) : Keeps lv o (m.wr sp off v) := h

theorem Keeps.wrList {sp off : Nat} {l : List Word} (h : Keeps lv o m) : Keeps lv o (m.wrList sp off l) := by
  induction l generalizing m off with
  | nil => exact h
  | cons v r ih => exact ih h.wr

theorem Keeps.wr32 {sp off v : Nat} (h : Keeps lv o m) : Keeps lv o (m.wr32 sp off v) := by
  unfold Chip.wr32
  exact h.wr.wr

theorem Keeps.orBits {sp off : Nat} {b : Word} (h : Keeps lv o m) : Keeps lv o (m.orBits sp off b) := by
  unfold Chip.orBits
  exact .wr h.update

theorem Keeps.bump {sp off n : Nat} (h : Keeps lv o m) : Keeps lv o (m.bump sp off n) := by
  unfold Chip.bump
  exact .wr h.update

theorem Keeps.takeFreeNat (h : Keeps (.wide bd) o m) : Keeps (.wide bd) o m.takeFreeNat.2 := h

theorem Keeps.ledger {i n : Nat} (h : Keeps (.wide bd) o m) : Keeps (.wide bd) o (m.ledger i n) := h

theorem Keeps.raise {n : Nat} (h : Keeps lv o m) : Keeps lv o (m.raise n) := by
  unfold Chip.raise
  exact .ite h.orBits h.update

theorem Keeps.raiseIf {c : Bool} {n : Nat} (h : Keeps lv o m) : Keeps lv o (m.raiseIf c n) := by
  unfold Chip.raiseIf
  exact .ite h.raise h

theorem Keeps.mapStream {s : Nat} {f : Stream → Stream} (h : Keeps lv o m) : Keeps lv o (m.mapStream s f) := by
  unfold Chip.mapStream
  exact h.update

theorem Keeps.lowCheck {before after : Chip} (_ : Keeps lv o before) (h1 : Keeps lv o after) :
    Keeps lv o (before.lowCheck after) := by
  unfold Chip.lowCheck
  extract_lets
  exact h1.raiseIf

theorem Keeps.peak {s : Nat} (h : Keeps lv o m) : Keeps lv o (m.peak s) := by
  unfold Chip.peak
  extract_lets
  exact h.wr

theorem Keeps.newGroup {t : Chip} {s sz g : Nat} (h : Keeps lv o m) (hg : m.newGroup s sz = some (t, g)) :
    Keeps lv o t := by
  unfold Chip.newGroup at hg
  extract_lets at hg
  split at hg
  · cases hg
    exact (h.lowCheck h.mapStream).peak
  · cases hg

theorem Keeps.place {t : Chip} {s sz g : Nat} (h : Keeps lv o m) (hg : m.place s sz = some (t, g)) : Keeps lv o t := by
  unfold Chip.place at hg
  split at hg
  · split at hg
    · cases hg
      exact h.mapStream
    · exact h.newGroup hg
  · exact h.newGroup hg

theorem Keeps.streamIdle {s : Nat} (h : Keeps lv o m) : Keeps lv o (m.streamIdle s) := by
  unfold Chip.streamIdle
  extract_lets
  exact .ite h.mapStream h

theorem Keeps.mapFrames {s : Nat} {p : Frame → Bool} {g : Frame → Frame} (h : Keeps lv o m) :
    Keeps lv o (m.mapFrames s p g) := by
  unfold Chip.mapFrames
  exact h.mapStream

theorem Keeps.flagFrame {s : Nat} {r : Rec} {bits : Word} (h : Keeps lv o m) :
    Keeps lv o (m.flagFrame s r bits) := by
  unfold Chip.flagFrame
  exact h.mapFrames

theorem Keeps.moverTaken {c src : Nat} (h : Keeps lv o m) : Keeps lv o (m.moverTaken c src) := by
  unfold Chip.moverTaken
  refine .ite h.update ?_
  extract_lets m1
  have h1 : Keeps lv o m1 := h.bump
  clear_value m1
  exact h1.update

theorem Keeps.frameEndCheck {r : Rec} (h : Keeps lv o m) : Keeps lv o (m.frameEndCheck r) := by
  unfold Chip.frameEndCheck
  extract_lets
  exact h.raiseIf

theorem Keeps.accepted {s : Nat} {r : Rec} (h : Keeps lv o m) : Keeps lv o (m.accepted s r) := by
  unfold Chip.accepted
  extract_lets _ m1 m2
  have h1 : Keeps lv o m1 := .ite h.update h.mapStream.frameEndCheck
  have h2 : Keeps lv o m2 := by
    unfold m2
    split
    · exact .ite h1.moverTaken h1
    · exact h1
  exact .ite h2.raiseIf h2

theorem Keeps.dropRec {s : Nat} {r : Rec} (h : Keeps lv o m) : Keeps lv o (m.dropRec s r) := by
  unfold Chip.dropRec
  exact h.raise.orBits.bump.flagFrame

theorem Keeps.refuse {s : Nat} {r : Rec} {w : Refused} (h : Keeps lv o m) : Keeps lv o (m.refuse s r w) := by
  unfold Chip.refuse
  extract_lets m1 m2 _
  have h1 : Keeps lv o m1 := h.raise.orBits.bump
  have h2 : Keeps lv o m2 := h1.mapStream
  split
  · exact h2
  · exact h2.mapCap
  · exact .ite h1.dropRec h2

theorem Keeps.offer {s : Nat} {r : Rec} {w : Refused} (h : Keeps lv o m) : Keeps lv o (m.offer s r w) := by
  unfold Chip.offer
  refine .ite (.ite h (.ite ?_ h.refuse)) h.bump
  split
  next hp => exact (h.place hp).accepted
  next => exact h.refuse

theorem Keeps.openFrame {s : Nat} {f : Frame} {r : Rec} (h : Keeps lv o m) :
    Keeps lv o (m.openFrame s f r) := by
  unfold Chip.openFrame
  extract_lets
  exact .ite h.mapStream.offer h.bump

theorem Keeps.endFrame {s : Nat} {f : Frame} (h : Keeps lv o m) : Keeps lv o (m.endFrame s f) := by
  unfold Chip.endFrame
  extract_lets
  exact h.mapFrames.offer

theorem Keeps.setFront {b : Bank} (h : Keeps (.wide bd) o m) : Keeps (.wide bd) o (m.setFront b) := h

theorem Keeps.frontUpdate (h : Keeps (.wide bd) o m) : Keeps (.wide bd) o m.frontUpdate := by
  unfold Chip.frontUpdate
  split
  · refine .ite h ?_
    extract_lets m1 _
    have h1 : Keeps (.wide bd) o m1 := h.setFront
    exact h1.update
  · exact h

theorem Keeps.mapMover {c : Nat} {f : Mover → Mover} (h : Keeps lv o m) : Keeps lv o (m.mapMover c f) := by
  unfold Chip.mapMover
  exact h.update

theorem Keeps.moverStart {c : Nat} (h : Keeps lv o m) : Keeps lv o (m.moverStart c) := by
  unfold Chip.moverStart
  extract_lets _ m1 _
  have h1 : Keeps lv o m1 := h.foldl (fun _ _ h => h.offer)
  exact h1.mapMover

theorem Keeps.moverRequest {c : Nat} (h : Keeps lv o m) : Keeps lv o (m.moverRequest c) := by
  unfold Chip.moverRequest
  extract_lets
  exact .ite (.ite (.ite h.bump h.mapMover) h.moverStart) h

theorem Keeps.thrTrig {kind : Nat} (h : Keeps lv o m) : Keeps lv o (m.thrTrig kind) := by
  unfold Chip.thrTrig
  exact h.foldl (fun _ _ h => (.ite h.moverRequest h))

theorem Keeps.moveRecord {q : Nat} (h : Keeps lv o m) : Keeps lv o (m.moveRecord q) := by
  unfold Chip.moveRecord
  exact h.wrList

theorem Keeps.writeRecordFn {code : Nat} {detail : List Byte} {late : Bool} {fn : Nat} (h : Keeps lv o m) :
    Keeps lv o (m.writeRecordFn code detail late fn) := by
  unfold Chip.writeRecordFn
  extract_lets _ _ _ _ _ m1 _ m2 m3 m4 m5 m6
  have h1 : Keeps lv o m1 := h.foldl (fun _ _ h => h.moveRecord)
  clear_value m1
  have h2 : Keeps lv o m2 := h1.update
  have h3 : Keeps lv o m3 := h2.wrList
  have h4 : Keeps lv o m4 := h3.wr
  have h5 : Keeps lv o m5 := h4.wr32
  have h6 : Keeps lv o m6 := .ite h5.wr.orBits.bump h5
  exact h6.thrTrig

theorem Keeps.writeRecord {code : Nat} {detail : List Byte} {late : Bool} (h : Keeps lv o m) :
    Keeps lv o (m.writeRecord code detail late) := by
  unfold Chip.writeRecord
  exact h.writeRecordFn

theorem Keeps.fault {code : Nat} {detail : List Byte} (h : Keeps lv o m) :
    Keeps lv o (m.fault code detail) := by
  unfold Chip.fault
  exact .ite h.writeRecord h.update

theorem Keeps.missSlot {s : Nat} (h : Keeps lv o m) : Keeps lv o (m.missSlot s) := by
  unfold Chip.missSlot
  exact h.foldl (fun _ _ h => (.ite h.bump h))

theorem Keeps.dropSlot {s : Nat} (h : Keeps lv o m) : Keeps lv o (m.dropSlot s) := by
  unfold Chip.dropSlot
  exact h.bump.raise.missSlot

theorem Keeps.setReq {s : Nat} {r : Option HkcReq} (h : Keeps (.wide true) o m) : Keeps (.wide true) o (m.setReq s r) := by
  unfold Chip.setReq
  exact h.update

theorem Keeps.slotEvent {s : Nat} {t0 : Tick} (h : Keeps (.wide true) o m) : Keeps (.wide true) o (m.slotEvent s t0) := by
  unfold Chip.slotEvent
  extract_lets
  refine .ite (.ite h.missSlot ?_) h
  split
  · exact h.dropSlot
  · exact h.setReq

theorem Keeps.sourceEvent {src sel : Nat} {t0 : Tick} (h : Keeps (.wide true) o m) :
    Keeps (.wide true) o (m.sourceEvent src sel t0) := by
  unfold Chip.sourceEvent
  exact h.foldl (fun _ _ h => (.ite h.slotEvent h))

theorem Keeps.mapChan {c : Nat} {f : Channel → Channel} (h : Keeps (.wide bd) o m) : Keeps (.wide bd) o (m.mapChan c f) := by
  unfold Chip.mapChan
  exact h.update

theorem Keeps.boundsApply {c : Nat} {lo hi : Option (BitVec 10)} (h : Keeps (.wide true) o m) :
    Keeps (.wide true) o (m.boundsApply c lo hi) := by
  unfold Chip.boundsApply
  extract_lets m1 m2 _ _ _
  have h1 : Keeps (.wide true) o m1 := by
    unfold m1
    split
    · exact h.wr
    · exact h
  have h2 : Keeps (.wide true) o m2 := by
    unfold m2
    split
    · exact h1.wr
    · exact h1
  exact h2.mapChan

theorem Keeps.strobeFall {c : Nat} {t : Tick} (h : Keeps (.wide true) o m) : Keeps (.wide true) o (m.strobeFall c t) := by
  unfold Chip.strobeFall
  extract_lets _ m1 m2 m3
  have h1 : Keeps (.wide true) o m1 := h.mapChan
  have h2 : Keeps (.wide true) o m2 := .ite h1.mapChan h1
  have h3 : Keeps (.wide true) o m3 := .ite h2.boundsApply h2
  exact .ite h3.sourceEvent h

theorem Keeps.strobeRise {c : Nat} {t : Tick} (h : Keeps (.wide true) o m) : Keeps (.wide true) o (m.strobeRise c t) := by
  unfold Chip.strobeRise
  refine .ite h ?_
  extract_lets
  exact h.mapChan.sourceEvent

theorem Keeps.strobeDrive {c : Nat} {on : Bool} {t : Tick} (h : Keeps (.wide true) o m) :
    Keeps (.wide true) o (m.strobeDrive c on t) := by
  unfold Chip.strobeDrive
  extract_lets _ m1
  have h1 : Keeps (.wide true) o m1 := h.mapChan
  exact .ite (.ite h1 h1.strobeRise) h1.strobeFall

theorem Keeps.captureStrobe {mask : BitVec 8} {on : Bool} {t : Tick} (h : Keeps (.wide true) o m) :
    Keeps (.wide true) o (m.captureStrobe mask on t) := by
  unfold Chip.captureStrobe
  extract_lets
  exact h.foldl (fun _ _ h => (.ite h.strobeDrive h))

theorem Keeps.strobesLow (h : Keeps (.wide true) o m) : Keeps (.wide true) o m.strobesLow := by
  unfold Chip.strobesLow
  exact h.foldl (fun _ _ h => h.strobeDrive)

theorem Keeps.captureLow (h : Keeps (.wide true) o m) : Keeps (.wide true) o m.captureLow := by
  unfold Chip.captureLow
  exact h.captureStrobe

theorem Keeps.isetApply {cap : Capture} {k : Nat} (h : Keeps (.wide bd) o m) : Keeps (.wide bd) o (m.isetApply cap k) := by
  unfold Chip.isetApply
  refine h.foldl ?_
  intro m a h
  refine .ite ?_ h
  extract_lets
  exact h.mapChan

theorem Keeps.flagIllum {strata : BitVec 4} (h : Keeps (.wide bd) o m) : Keeps (.wide bd) o (m.flagIllum strata) := by
  unfold Chip.flagIllum
  refine .ite h ?_
  extract_lets _ _ m1
  have h1 : Keeps (.wide bd) o m1 := h.update
  exact h1.mapCap.orBits

theorem Keeps.illumAtStart (h : Keeps (.wide bd) o m) : Keeps (.wide bd) o m.illumAtStart := by
  unfold Chip.illumAtStart
  split
  · extract_lets m1
    have h1 : Keeps (.wide bd) o m1 := .ite h.flagIllum h
    exact h1.foldl (fun _ _ h => (.ite h.flagIllum h))
  · exact h

theorem Keeps.setComplete {f : PFrame} (h : Keeps (.wide bd) o m) : Keeps (.wide bd) o (m.setComplete f) := by
  unfold Chip.setComplete
  extract_lets _ _ _ _ m1 m2
  have h1 : Keeps (.wide bd) o m1 := h.update
  have h2 : Keeps (.wide bd) o m2 := h1.frontUpdate.raise
  split
  · exact h2.foldl (fun _ _ h => h.offer)
  · exact h2

theorem Keeps.emitLine {f : PFrame} {otp : List (Nat × Nat × Nat)} {w k y : Nat} (h : Keeps (.wide bd) o m) :
    Keeps (.wide bd) o (m.emitLine f otp w k y) := by
  unfold Chip.emitLine
  extract_lets _ _ _ _ _ _ _ _ _ _ m1
  have h1 : Keeps (.wide bd) o m1 := .ite h.update h
  split
  · exact h
  · exact .ite h1.offer h

theorem Keeps.pumpOne {f : PFrame} {otp : List (Nat × Nat × Nat)} {w k : Nat} (h : Keeps (.wide bd) o m) :
    Keeps (.wide bd) o (m.pumpOne f otp w k).1 :=
  Keeps.foldl h fun _ _ h => h.emitLine

theorem Keeps.pump {f : PFrame} (h : Keeps (.wide bd) o m) : Keeps (.wide bd) o (m.pump f).1 := by
  unfold Chip.pump
  refine Keeps.foldl_fst h fun a p h => ?_
  split
  · exact h.pumpOne
  · exact h

theorem Keeps.formEnds (h : Keeps lv o m) : Keeps lv o m.formEnds := by
  unfold Chip.formEnds
  exact h.foldl (fun _ _ h => (h.foldl (fun _ _ h => (.ite h.endFrame h))))

theorem Keeps.finish {f : PFrame} (h : Keeps (.wide bd) o m) : Keeps (.wide bd) o (m.finish f) := by
  unfold Chip.finish
  refine .ite ?_ h
  split
  next m' f' he =>
    have h' : Keeps (.wide bd) o m' := by
      split at he
      · cases he
        exact h
      · have hp := Keeps.pump (f := { f with ended := true }) h
        rwa [he] at hp
    exact .formEnds (.ite h'.update (.setComplete h'.update))

theorem Keeps.pipeOpen {f : PFrame} (h : Keeps (.wide bd) o m) : Keeps (.wide bd) o (m.pipeOpen f) := by
  unfold Chip.pipeOpen
  extract_lets _ _ m1
  have h1 : Keeps (.wide bd) o m1 := h.update
  exact .ite h1 h1.wr

theorem Keeps.pipeEnd {src id : Nat} {fn : Long} {cut : Bool} (h : Keeps (.wide bd) o m) :
    Keeps (.wide bd) o (m.pipeEnd src id fn cut) := by
  unfold Chip.pipeEnd
  extract_lets _ m1
  have h1 : Keeps (.wide bd) o m1 := h.update
  split
  · exact h1.finish
  · exact h1

theorem Keeps.insrcTake (h : Keeps (.wide bd) o m) : Keeps (.wide bd) o m.insrcTake := by
  unfold Chip.insrcTake
  exact .ite h h.update

theorem Keeps.setG {g lo n v : Nat} (h : Keeps (.wide bd) o m) : Keeps (.wide bd) o (m.setG g lo n v) := by
  unfold Chip.setG
  exact h.wr

theorem Keeps.mapHist {g : Nat} {f : GroupHist → GroupHist} (h : Keeps (.wide bd) o m) :
    Keeps (.wide bd) o (m.mapHist g f) := by
  unfold Chip.mapHist
  extract_lets
  exact h

theorem Keeps.clearHist {g : Nat} (h : Keeps (.wide bd) o m) : Keeps (.wide bd) o (m.clearHist g) := by
  unfold Chip.clearHist
  extract_lets m1
  have h1 : Keeps (.wide bd) o m1 := h.mapHist
  exact h1.setG.setG

theorem Keeps.dwellClear (h : Keeps (.wide bd) o m) : Keeps (.wide bd) o m.dwellClear := h

theorem Keeps.marlPick (h : Keeps (.wide bd) o m) : Keeps (.wide bd) o m.marlPick := by
  unfold Chip.marlPick
  split
  · refine .ite ?_ h
    extract_lets _ m1 _
    have h1 : Keeps (.wide bd) o m1 := h.dwellClear
    split
    · clear_value m1
      exact h1.update
    · split
      · exact .raiseIf (.orBits h1.update)
      · exact h1
  · exact h

theorem Keeps.marlLeave {g : Nat} (h : Keeps (.wide bd) o m) : Keeps (.wide bd) o (m.marlLeave g) := by
  unfold Chip.marlLeave
  exact .ite (.marlPick (.dwellClear h.update)) h

theorem Keeps.addStrip {fn : Long} {t : Strip} (h : Keeps (.wide bd) o m) : Keeps (.wide bd) o (m.addStrip fn t) := by
  unfold Chip.addStrip
  extract_lets m1
  have h1 : Keeps (.wide bd) o m1 := h.mapCap fun c => by split <;> rfl
  exact h1.fault

theorem Keeps.addSpans {g role cause : Nat} {l : List Span} (h : Keeps (.wide bd) o m) :
    Keeps (.wide bd) o (m.addSpans g role cause l) := by
  unfold Chip.addSpans
  exact h.foldl (fun _ _ h => h.addStrip)

theorem Keeps.restStrips {g role cause : Nat} (h : Keeps (.wide bd) o m) : Keeps (.wide bd) o (m.restStrips g role cause) := by
  unfold Chip.restStrips
  split
  · exact h
  · refine .ite ?_ h
    extract_lets
    exact h.foldl (fun _ _ h => h.addStrip)

theorem Keeps.failSlice {g p cause : Nat} (h : Keeps (.wide bd) o m) : Keeps (.wide bd) o (m.failSlice g p cause) := by
  unfold Chip.failSlice
  extract_lets _ _ _ _ _ _ m1 m2 m3 m4 m5 m6 m7 m8
  have h1 : Keeps (.wide bd) o m1 := .ite h h.addSpans
  have h2 : Keeps (.wide bd) o m2 := h1.setG.ledger
  have h3 : Keeps (.wide bd) o m3 := .ite h2.setG.setG (.ite h2.setG.setG.setG h2.setG.setG)
  have h4 : Keeps (.wide bd) o m4 := h3.fault
  have h5 : Keeps (.wide bd) o m5 := h4.mapCap fun c => by split <;> rfl
  have h6 : Keeps (.wide bd) o m6 := .ite h4 (.ite h5 h5.restStrips)
  have h7 : Keeps (.wide bd) o m7 := h6.mapHist
  have h8 : Keeps (.wide bd) o m8 := .ite h7.raise h7.raise
  exact .ite h h8.clearHist.marlLeave

theorem Keeps.applyForce {g : Nat} (h : Keeps (.wide bd) o m) : Keeps (.wide bd) o (m.applyForce g) := by
  unfold Chip.applyForce
  extract_lets
  exact h.mapHist.foldl (fun _ _ h => h.failSlice)

theorem Keeps.applyForces (h : Keeps (.wide bd) o m) : Keeps (.wide bd) o m.applyForces := by
  unfold Chip.applyForces
  exact h.foldl (fun _ _ h => h.applyForce)

theorem Keeps.calForce (h : Keeps (.wide bd) o m) : Keeps (.wide bd) o m.calForce := h

theorem Keeps.runEnd {pass : Bool} (h : Keeps (.wide bd) o m) : Keeps (.wide bd) o (m.runEnd pass) := by
  unfold Chip.runEnd
  extract_lets m1 _ m2 _
  have h1 : Keeps (.wide bd) o m1 := h.mapCap
  clear_value m1
  have h2 : Keeps (.wide bd) o m2 := h1.update
  clear_value m2
  exact .raiseIf (.raise h2.update)

theorem Keeps.whiteFail {k : Nat} (h : Keeps (.wide bd) o m) : Keeps (.wide bd) o (m.whiteFail k) := by
  unfold Chip.whiteFail
  split
  · exact .ite h.runEnd h
  · exact h

theorem Keeps.setArmed {k : Nat} {b : Bool} (h : Keeps (.wide true) o m) : Keeps (.wide true) o (m.setArmed k b) := by
  unfold Chip.setArmed
  extract_lets _ m1
  have h1 : Keeps (.wide true) o m1 := .ite h (h.update)
  exact h1.wr

theorem Keeps.overrun {k : Nat} (h : Keeps lv o m) : Keeps lv o (m.overrun k) := by
  unfold Chip.overrun
  exact h.bump.raise

theorem Keeps.dropTrigger {k : Nat} (h : Keeps (.wide true) o m) : Keeps (.wide true) o (m.dropTrigger k) := by
  unfold Chip.dropTrigger
  exact .ite (.overrun h.update) h

theorem Keeps.setArmErr {k code item : Nat} (h : Keeps lv o m) : Keeps lv o (m.setArmErr k code item) := by
  unfold Chip.setArmErr
  extract_lets _ m1
  have h1 : Keeps lv o m1 := h.wr
  exact h1.wr

theorem Keeps.markFrames {c : Capture} (h : Keeps lv o m) : Keeps lv o (m.markFrames c) := by
  unfold Chip.markFrames
  extract_lets
  exact h.update

theorem Keeps.askEnds {c : Capture} {p : Nat → Bool} (h : Keeps lv o m) : Keeps lv o (m.askEnds c p) := by
  unfold Chip.askEnds
  have h1 : Keeps lv o (m.markFrames c) := h.markFrames
  generalize m.markFrames c = m1 at h1
  exact .formEnds (h1.update)

theorem Keeps.boundaryNow (h : Keeps (.wide bd) o m) : Keeps (.wide bd) o m.boundaryNow := by
  unfold Chip.boundaryNow
  split
  · exact .calForce h.update
  · exact h.calForce

theorem Keeps.boundaryTake (h : Keeps (.wide bd) o m) : Keeps (.wide bd) o m.boundaryTake := by
  unfold Chip.boundaryTake
  exact .ite h.update h.boundaryNow

theorem Keeps.powerGroups {c : Capture} (h : Keeps (.wide bd) o m) : Keeps (.wide bd) o (m.powerGroups c) := by
  unfold Chip.powerGroups
  extract_lets _ m1
  have h1 : Keeps (.wide bd) o m1 := h.foldl (fun _ _ h => h.clearHist)
  split
  · exact .ite h1 h1.marlLeave
  · exact h1

theorem Keeps.frameBegin (h : Keeps (.wide true) o m) : Keeps (.wide true) o m.frameBegin := by
  unfold Chip.frameBegin
  split
  · exact h
  · extract_lets m1 _ _ _ m2 _ m3 m4 _ m5 m6
    have h1 : Keeps (.wide true) o m1 := .ite h.boundaryTake h
    clear_value m1
    have h2 : Keeps (.wide true) o m2 := h1.update
    have h3 : Keeps (.wide true) o m3 := h2.pipeOpen.raise.ledger
    have h4 : Keeps (.wide true) o m4 := .ite h3.orBits h3
    clear_value m4
    have h5 : Keeps (.wide true) o m5 := h4.update
    have h6 : Keeps (.wide true) o m6 := h5.powerGroups.marlPick
    exact h6.illumAtStart.isetApply

theorem Keeps.frameOver {c : Capture} (h : Keeps (.wide bd) o m) : Keeps (.wide bd) o (m.frameOver c) := by
  unfold Chip.frameOver
  extract_lets m1 _
  have h1 : Keeps (.wide bd) o m1 := h.askEnds.pipeEnd
  clear_value m1
  exact h1.update

theorem Keeps.startCapture {k : Fin 16} {white : Bool} (h : Keeps (.wide true) o m) :
    Keeps (.wide true) o (m.startCapture k white) := by
  unfold Chip.startCapture
  extract_lets m1 b r m2 act c _ l _ m3 _ _ m4 m5 m6 m7 _ m8
  have h1 : Keeps (.wide true) o m1 := h.insrcTake
  have h2 : Keeps (.wide true) o m2 := h1.setArmErr.setArmed.dropTrigger
  clear_value m1
  have h3 : Keeps (.wide true) o m3 := h1.update
  have h6 : Keeps (.wide true) o m6 := .wr32 (.wr h3.update)
  have h7 : Keeps (.wide true) o m7 := by
    unfold m7
    split
    · exact (h6.lowCheck h6.mapStream).peak
    · exact h6
  have h8 : Keeps (.wide true) o m8 := .ite (.ite h7.update h7) h3.update
  exact .ite h2.fault.whiteFail h8.frameBegin

theorem Keeps.releaseHeld (h : Keeps (.wide true) o m) : Keeps (.wide true) o m.releaseHeld := by
  unfold Chip.releaseHeld
  split
  · exact .ite h (.startCapture h.update)
  · exact h

theorem Keeps.whiteStart (h : Keeps (.wide true) o m) : Keeps (.wide true) o m.whiteStart := by
  unfold Chip.whiteStart
  split
  · exact .ite (.startCapture h.update) h
  · exact h

theorem Keeps.resumeSuspended (h : Keeps (.wide true) o m) : Keeps (.wide true) o m.resumeSuspended := by
  unfold Chip.resumeSuspended
  split
  next => exact h
  next => exact .ite h (.ite (Keeps.frameBegin h.insrcTake.update) h.update)

theorem Keeps.nodesClear (h : Keeps (.wide true) o m) : Keeps (.wide true) o m.nodesClear := h

theorem Keeps.captureEnd (h : Keeps (.wide true) o m) : Keeps (.wide true) o m.captureEnd := by
  unfold Chip.captureEnd
  split
  · exact h
  · extract_lets m1 _ _ _ _ m2 m3 m4 _ m5
    have h1 : Keeps (.wide true) o m1 := h.frameOver
    clear_value m1
    have h2 : Keeps (.wide true) o m2 := .nodesClear h1.update
    have h3 : Keeps (.wide true) o m3 := by
      unfold m3
      refine .ite ?_ h2
      split
      · exact h2.mapStream.streamIdle
      · exact h2
    have h4 : Keeps (.wide true) o m4 := .ite h3.orBits h3
    have h5 : Keeps (.wide true) o m5 := by
      unfold m5
      split
      · clear_value m4
        exact .ite h4.runEnd (.ite h4.update h4)
      · exact h4
    exact h5.applyForces.resumeSuspended

theorem Keeps.drainNodes (h : Keeps (.wide true) o m) : Keeps (.wide true) o m.drainNodes := by
  unfold Chip.drainNodes
  exact h.changeCap.nodesClear

theorem Keeps.abortCapture (h : Keeps (.wide true) o m) : Keeps (.wide true) o m.abortCapture := by
  unfold Chip.abortCapture
  refine .ite ?_ h
  extract_lets m1
  have h1 : Keeps (.wide true) o m1 := h.strobesLow.drainNodes.changeCap
  exact h1.orBits.captureEnd

theorem Keeps.takePlane {k : Nat} (h : Keeps (.wide true) o m) : Keeps (.wide true) o (m.takePlane k) := by
  unfold Chip.takePlane
  exact h.changeCap

theorem Keeps.paceCheck (h : Keeps (.wide bd) o m) : Keeps (.wide bd) o m.paceCheck := by
  unfold Chip.paceCheck
  split
  · exact .ite h.mapCap.bump.orBits h
  · exact h

theorem Keeps.haltNow {cause : Nat} (h : Keeps (.wide true) o m) : Keeps (.wide true) o (m.haltNow cause) := by
  unfold Chip.haltNow
  extract_lets _ _ m1 m2
  have h1 : Keeps (.wide true) o m1 := h.update
  have h2 : Keeps (.wide true) o m2 := h1.raise
  exact .ite h2 h2.abortCapture

theorem Keeps.boundary (h : Keeps (.wide true) o m) : Keeps (.wide true) o m.boundary := by
  unfold Chip.boundary
  exact .ite h.haltNow (.ite h.haltNow h)

theorem Keeps.faultAt {code addr : Nat} (h : Keeps (.wide true) o m) : Keeps (.wide true) o (m.faultAt code addr) := by
  unfold Chip.faultAt
  extract_lets m1 m2 _ _ m3 _ m4
  have h1 : Keeps (.wide true) o m1 := h.wr
  have h2 : Keeps (.wide true) o m2 := h1.fault
  clear_value m2
  have h3 : Keeps (.wide true) o m3 := h2.update
  clear_value m3
  have h4 : Keeps (.wide true) o m4 := .ite h3 (.raise h3.update)
  exact h4.abortCapture

theorem Keeps.loamFault {code : Nat} (h : Keeps (.wide true) o m) : Keeps (.wide true) o (m.loamFault code) := by
  unfold Chip.loamFault
  exact h.faultAt

theorem Keeps.jumpTo {n : Nat} (h : Keeps (.wide true) o m) : Keeps (.wide true) o (m.jumpTo n) := by
  unfold Chip.jumpTo
  exact .ite h.loamFault (.boundary h.update)

theorem Keeps.next (h : Keeps (.wide true) o m) : Keeps (.wide true) o m.next := by
  unfold Chip.next
  extract_lets
  exact .ite (.faultAt h.update) h.jumpTo

theorem Keeps.waitFor {x : LoamWait} (h : Keeps (.wide true) o m) : Keeps (.wide true) o (m.waitFor x) := h

theorem Keeps.progress (h : Keeps (.wide true) o m) : Keeps (.wide true) o m.progress := h

theorem Keeps.readp {k : Nat} (h : Keeps (.wide true) o m) : Keeps (.wide true) o (m.readp k) := by
  unfold Chip.readp
  exact h.takePlane.paceCheck.progress.next

theorem Keeps.readb {x depth row : Nat} (h : Keeps (.wide true) o m) : Keeps (.wide true) o (m.readb x depth row) := by
  unfold Chip.readb
  extract_lets
  exact .next h.update

theorem Keeps.endNow (h : Keeps (.wide true) o m) : Keeps (.wide true) o m.endNow := by
  unfold Chip.endNow
  extract_lets _ _ m1 _ m2
  have h1 : Keeps (.wide true) o m1 := h.update
  clear_value m1
  have h2 : Keeps (.wide true) o m2 := .ite h1 (.raise h1.update)
  exact h2.captureEnd

theorem Keeps.suspend {c : Capture} (h : Keeps (.wide true) o m) : Keeps (.wide true) o (m.suspend c) := by
  unfold Chip.suspend
  extract_lets cause halt _ m1 m2 x _ _ _ m3 m4
  have hhalt {m : Chip} (h : Keeps (.wide true) o m) : Keeps (.wide true) o (halt m) := .ite h h.haltNow
  have h1 : Keeps (.wide true) o m1 := Keeps.next h.update
  have h2 : Keeps (.wide true) o m2 := h1.frameOver
  clear_value m1 m2 x
  have h3 : Keeps (.wide true) o m3 := .nodesClear h2.update
  have h4 : Keeps (.wide true) o m4 := .ite h3.whiteStart h3.releaseHeld
  exact .ite (hhalt h1) (hhalt h4.resumeSuspended)

theorem Keeps.nextFrame {c : Capture} {lb : Long} (h : Keeps (.wide true) o m) : Keeps (.wide true) o (m.nextFrame c lb) := by
  unfold Chip.nextFrame
  extract_lets _ _ _ m1 _ _ m2 m3
  have h1 : Keeps (.wide true) o m1 := h.frameOver.nodesClear
  clear_value m1
  have h2 : Keeps (.wide true) o m2 := h1.update
  have h3 : Keeps (.wide true) o m3 := .ite h2.orBits h2
  exact h3.frameBegin.next

theorem Keeps.baseFrame {lb : Long} (h : Keeps (.wide true) o m) : Keeps (.wide true) o (m.baseFrame lb) := by
  unfold Chip.baseFrame
  split
  · exact h
  · exact .ite h.waitFor (.ite (.ite h.endNow h.waitFor) (.ite (.ite h.suspend h.waitFor) h.nextFrame))

theorem Keeps.advanceLoam (h : Keeps (.wide true) o m) : Keeps (.wide true) o m.advanceLoam := by
  unfold Chip.advanceLoam
  split
  · exact .ite h.readp h
  · exact .ite h.readb h
  · exact .ite h.endNow h
  · exact h.baseFrame
  · exact h

theorem Keeps.mapDrift {f : Drift → Drift} (h : Keeps (.wide true) o m) : Keeps (.wide true) o (m.mapDrift f) := h

theorem Keeps.lineOut {c : Capture} {k l : Nat} (h : Keeps (.wide true) o m) : Keeps (.wide true) o (m.lineOut c k l).2 := by
  unfold Chip.lineOut
  dsimp only
  split
  all_goals exact h

theorem Keeps.lineStamp {l : Nat} (h : Keeps (.wide true) o m) : Keeps (.wide true) o (m.lineStamp l).2 := by
  unfold Chip.lineStamp
  dsimp only
  split
  · exact h
  · exact h.takeFreeNat

theorem Keeps.lineSend {c : Capture} {x : DLine} (h : Keeps (.wide true) o m) : Keeps (.wide true) o (m.lineSend c x) := by
  unfold Chip.lineSend
  split
  · exact h
  · exact .ite h h.update

theorem Keeps.emitDrift {c : Capture} {k n : Nat} {repeated : Bool} {stamp : Tick} (h : Keeps (.wide true) o m) :
    Keeps (.wide true) o (m.emitDrift c k n repeated stamp) := by
  unfold Chip.emitDrift
  extract_lets _ _ _ _ _ _ m1
  have h1 : Keeps (.wide true) o m1 := h.lineOut.mapDrift
  exact .ite h.lineSend h1.lineSend

theorem Keeps.emitRow {c : Capture} {n : Nat} {repeated : Bool} (h : Keeps (.wide true) o m) :
    Keeps (.wide true) o (m.emitRow c n repeated) := by
  unfold Chip.emitRow
  extract_lets _ m1
  have h1 : Keeps (.wide true) o m1 := by
    unfold m1
    refine h.lineStamp.foldl ?_
    intro m a h
    extract_lets m2
    have h2 : Keeps (.wide true) o m2 := h.emitDrift
    exact .ite h2.bump h2
  exact h1.wr32

theorem Keeps.completeLines {c : Capture} {x16 : Nat} {repeated : Bool} (h : Keeps (.wide true) o m) :
    Keeps (.wide true) o (m.completeLines c x16 repeated) := by
  unfold Chip.completeLines
  extract_lets _ _ m1 _
  have h1 : Keeps (.wide true) o m1 := h.foldl (fun _ _ h => h.emitRow)
  exact h1.mapDrift

theorem Keeps.noteMid {c : Capture} {x : DStep} {dropped : Bool} {x16 : Nat} (h : Keeps (.wide true) o m) :
    Keeps (.wide true) o (m.noteMid c x dropped x16) := by
  unfold Chip.noteMid
  exact h.mapDrift

theorem Keeps.passSteps {c : Capture} {p : DStep → Bool} (h : Keeps (.wide true) o m) :
    Keeps (.wide true) o (m.passSteps c p) := by
  unfold Chip.passSteps
  extract_lets _ m1
  have h1 : Keeps (.wide true) o m1 := h.mapDrift
  refine h1.foldl ?_
  intro m a h
  extract_lets
  exact h.noteMid.completeLines

theorem Keeps.passDropped {c : Capture} (h : Keeps (.wide true) o m) : Keeps (.wide true) o (m.passDropped c) := by
  unfold Chip.passDropped
  extract_lets
  exact h.passSteps

theorem Keeps.docFinish {c : Capture} (h : Keeps (.wide true) o m) : Keeps (.wide true) o (m.docFinish c) := by
  unfold Chip.docFinish
  exact h.passDropped.mapDrift.orBits

theorem Keeps.docEnd {c : Capture} (h : Keeps (.wide true) o m) : Keeps (.wide true) o (m.docEnd c) := by
  unfold Chip.docEnd
  refine .ite h ?_
  extract_lets m1
  have h1 : Keeps (.wide true) o m1 := h.captureLow.mapDrift
  exact .ite h1.docFinish.advanceLoam h1

theorem Keeps.mapCam {p : Nat} {f : CamPort → CamPort} (h : Keeps (.wide true) o m) : Keeps (.wide true) o (m.mapCam p f) := by
  unfold Chip.mapCam
  exact h.update

theorem Keeps.flagCam {p : Nat} {f : CamFrame} {bits : Word} (h : Keeps lv o m) :
    Keeps lv o (m.flagCam p f bits) := by
  unfold Chip.flagCam
  split
  · exact h.update
  · exact h

theorem Keeps.closeCam {p : Nat} {f : CamFrame} {bits : Word} (h : Keeps (.wide true) o m) :
    Keeps (.wide true) o (m.closeCam p f bits) := by
  unfold Chip.closeCam
  extract_lets m1
  have h1 : Keeps (.wide true) o m1 := h.flagCam.mapCam
  split
  · extract_lets m2
    clear_value m1
    have h2 : Keeps (.wide true) o m2 := h1.update
    exact h2.pipeEnd.formEnds.insrcTake
  · exact h1.insrcTake

theorem Keeps.closeCams {p : Nat} (h : Keeps (.wide true) o m) : Keeps (.wide true) o (m.closeCams p) := by
  unfold Chip.closeCams
  exact h.foldl (fun _ _ h => h.closeCam)

theorem Keeps.camsSleep (h : Keeps (.wide true) o m) : Keeps (.wide true) o m.camsSleep := by
  unfold Chip.camsSleep
  exact h.foldl (fun _ _ h => h.closeCams.mapCam)

/-! ## Parts -/

/-- A part that is read from the kept part alone is as it was. -/
theorem Keeps.part {α : Type} (K : Chip → α) (h : Keeps lv o m) : K (m.kept lv) = K (o.kept lv) := congrArg K h

theorem Keeps.tb (h : Keeps lv o m) : m.tb = o.tb := h.part Chip.tb

theorem Keeps.core (h : Keeps lv o m) : m.pw.core = o.pw.core := h.part (·.pw.core)

theorem Keeps.loam (h : Keeps (.wide false) o m) : m.loam = o.loam := h.part Chip.loam

/-- The capture control but for the flags of the running capture. -/
theorem Keeps.cc (h : Keeps (.wide false) o m) :
    { m.cc with cap := m.cc.cap.map (Capture.kept (.wide false)) } =
      { o.cc with cap := o.cc.cap.map (Capture.kept (.wide false)) } := h.part Chip.cc

theorem Keeps.trans {t : Chip} (h : Keeps lv o m) (ht : Keeps lv m t) : Keeps lv o t := Eq.trans ht h

theorem Keeps.cap_none (h : Keeps (.wide false) o m) (ho : o.cc.cap = none) : m.cc.cap = none := by
  have hcap : m.cc.cap.map (Capture.kept (.wide false)) = o.cc.cap.map (Capture.kept (.wide false)) := h.part (·.cc.cap)
  rw [ho] at hcap
  exact Option.map_eq_none_iff.1 hcap

theorem Keeps.frameNum (h : Keeps (.wide false) o m) : m.cc.frameNum = o.cc.frameNum := h.part (·.cc.frameNum)

theorem Keeps.lastFn (h : Keeps (.wide false) o m) : m.cc.lastFn = o.cc.lastFn := h.part (·.cc.lastFn)

theorem Keeps.susp (h : Keeps (.wide false) o m) : m.cc.susp = o.cc.susp := h.part (·.cc.susp)

theorem Keeps.nodes (h : Keeps (.wide false) o m) : m.cc.nodes = o.cc.nodes := h.part (·.cc.nodes)

theorem Keeps.trigOut (h : Keeps (.wide false) o m) : m.pins.trigOut = o.pins.trigOut := h.part (·.pins.trigOut)

end

end Sys2Proof.Machine

end


section
/-! PROOFS. The end of a capture, what Loam's instructions about the readout leave, the queued actions, the row engine and Loam's
debug commands. -/

namespace Sys2Proof.Machine

-- The proofs are many and short: one after the other they need few threads.
set_option Elab.async false

/-! ## The end of a capture (O32) -/

/-- The chip with the array free: what the end of a capture puts down at once. -/
def Chip.freed (m : Chip) : Chip :=
  Chip.nodesClear
    { m with
      cc := { m.cc with cap := none }
      pins := { m.pins with trigOut := false }
      loam := { m.loam with running := false, wait := none, queue := [] } }

theorem Chip.kept_freed (m : Chip) : m.freed.kept (.wide false) = ((m.kept (.wide false)).freed).kept (.wide false) := rfl

theorem Keeps.freed {o m : Chip} (h : Keeps (.wide false) o m) : Keeps (.wide false) o.freed m.freed := by
  rw [Keeps, Chip.kept_freed, h, ← Chip.kept_freed]

/-- The end of a capture frees the array, and with no capture suspended does only the work of its frame besides. -/
theorem keeps_captureEnd {m : Chip} (hc : m.cc.cap.isSome = true) (hs : m.cc.susp = []) :
    Keeps (.wide false) m.freed m.captureEnd := by
  unfold Chip.captureEnd
  split
  next hn => simp [hn] at hc
  next c hc =>
    extract_lets m1 _ _ _ _ m2 m3 m4 _ m5
    have h1 : Keeps (.wide false) m m1 := Keeps.frameOver (.refl _ _)
    clear_value m1
    have h2 : Keeps (.wide false) m.freed m2 := h1.freed.update
    have h3 : Keeps (.wide false) m.freed m3 := by
      unfold m3
      refine .ite ?_ h2
      split
      · exact h2.mapStream.streamIdle
      · exact h2
    have h4 : Keeps (.wide false) m.freed m4 := .ite h3.orBits h3
    have h5 : Keeps (.wide false) m.freed m5 := by
      unfold m5
      split
      · clear_value m4
        exact .ite h4.runEnd (.ite h4.update h4)
      · exact h4
    have h6 := h5.applyForces
    have hsusp : m5.applyForces.cc.susp = [] := (h6.susp).trans hs
    rw [Chip.resumeSuspended, hsusp]
    exact h6

/-- What a capture that has ended leaves (R253). -/
def Chip.ended (t : Chip) : Prop :=
  t.cc.cap = none ∧ t.cc.nodes = 0 ∧ t.loam.running = false ∧ t.loam.queue = [] ∧ t.pins.trigOut = false

theorem ended_captureEnd {m : Chip} (hc : m.cc.cap.isSome = true) (hs : m.cc.susp = []) : m.captureEnd.ended := by
  have h := keeps_captureEnd hc hs
  have hl := h.loam
  refine ⟨h.cap_none rfl, h.nodes, ?_, ?_, h.trigOut⟩
  · rw [hl]
    rfl
  · rw [hl]
    rfl

/-- An abort ends the capture (R170). -/
theorem ended_abortCapture {m : Chip} (hc : m.cc.cap.isSome = true) (hs : m.cc.susp = []) : m.abortCapture.ended := by
  unfold Chip.abortCapture
  rw [if_pos hc]
  have hcc : m.strobesLow.cc = m.cc := (onlyStrobes_strobesLow m).parts.1
  generalize m.strobesLow = m0 at hcc
  refine ended_captureEnd ?_ ?_
  · rw [← hcc] at hc
    simpa [Chip.mapCap, Chip.drainNodes, Chip.nodesClear, Chip.orBits] using hc
  · exact (congrArg CaptureCtl.susp hcc).trans hs

theorem cc_ite {p : Prop} [Decidable p] {a b : Chip} {x : CaptureCtl} (ha : a.cc = x) (hb : b.cc = x) :
    (if p then a else b).cc = x := by
  split
  · exact ha
  · exact hb

/-- The end of a program ends the capture. -/
theorem ended_endNow {m : Chip} (hc : m.cc.cap.isSome = true) (hs : m.cc.susp = []) : m.endNow.ended := by
  unfold Chip.endNow
  extract_lets cause _ m1 _ m2
  clear_value cause
  have hcc : m2.cc = m.cc := cc_ite rfl (Chip.raise_cc _ _)
  exact ended_captureEnd (hcc ▸ hc) (hcc ▸ hs)

theorem mayIssue_cap {m : Chip} (h : m.mayIssue = true) : m.cc.cap.isSome = true := by
  simp only [Chip.mayIssue, Bool.and_eq_true] at h
  exact h.1.2

/-- Settles O32: END with its queue and rows done, and ABORT, free the array. -/
theorem capturesEnd : Obligations.CapturesEnd := by
  unfold Obligations.CapturesEnd
  refine ⟨fun s hmay hop hok hout hs => ⟨fun hr => ?ends, fun hr => ?waits⟩, fun s v hr hs hc h9 h10 h11 => ?aborts⟩
  case ends =>
    refine answers_of_done (exec_issue_of (rfl : execLoamEnd s = _) hmay hout hop hok) ?_
    rw [if_pos hr]
    exact ended_endNow (mayIssue_cap hmay) hs
  case waits =>
    refine answers_of_done (exec_issue_of (rfl : execLoamEnd s = _) hmay hout hop hok) ?_
    rw [if_neg (ne_true_of_eq_false hr)]
    exact ⟨rfl, rfl, rfl⟩
  case aborts =>
    refine answers_hostWrite (f := (·.writeCapctl v)) rfl hr ?_
    have hcc : (s.host.plainWrite 0 0x2A v).cc = s.chip.cc := by
      unfold Chip.plainWrite
      split
      · rfl
      · rfl
    have hw : s.host.writeCapctl v = (s.host.plainWrite 0 0x2A v).abortCapture := by
      simp [Chip.writeCapctl, h9, h10, h11, b2n]
    rw [hw]
    exact ended_abortCapture (hcc ▸ hc) (hcc ▸ hs)

/-! ## The start of a frame -/

/-- An operation that reads the kept part and puts down its own keeps what is kept. -/
theorem Keeps.map {lv : Level} {o m : Chip} {F : Chip → Chip} (h : Keeps lv o m)
    (hF : ∀ m, (F m).kept lv = (F (m.kept lv)).kept lv := by exact fun _ => rfl) : Keeps lv (F o) (F m) := by
  rw [Keeps, hF, h, ← hF]

/-- A part of the running capture that the level keeps. -/
theorem Keeps.cap_map {β : Type} {o m : Chip} (g : Capture → β) (h : Keeps (.wide false) o m)
    (hg : ∀ c : Capture, g (c.kept (.wide false)) = g c := by exact fun _ => rfl) : m.cc.cap.map g = o.cc.cap.map g := by
  have hcap : m.cc.cap.map (Capture.kept (.wide false)) = o.cc.cap.map (Capture.kept (.wide false)) := h.part (·.cc.cap)
  have hcomp (x : Option Capture) : x.map g = (x.map (Capture.kept (.wide false))).map g := by
    simp only [Option.map_map, Function.comp_def, hg]
  rw [hcomp, hcap, ← hcomp]

/-- The chip with the next frame's number and this capture in progress. -/
def Chip.numbered (c : Capture) (m : Chip) : Chip :=
  { m with cc := { m.cc with cap := some c, frameNum := m.cc.frameNum + 1, lastFn := m.cc.frameNum + 1 } }

/-- The start of a frame numbers the capture; the rest of it is the work on a frame. -/
theorem keeps_frameBegin {m : Chip} {c : Capture} (hc : m.cc.cap = some c) :
    ∃ c' : Capture, c'.fn = m.cc.frameNum + 1 ∧ c'.ctx = c.ctx ∧
      Keeps (.wide false) (m.numbered c') m.frameBegin := by
  unfold Chip.frameBegin
  split
  next hn => simp [hn] at hc
  next c0 hc0 =>
    obtain rfl : c0 = c := Option.some_inj.1 (hc0.symm.trans hc)
    extract_lets m1 fn c2 _ m2 _ m3 m4 _ m5 m6
    have h1 : Keeps (.wide false) m m1 := .ite (Keeps.refl _ _).boundaryTake (.refl _ _)
    have hfn : m1.cc.frameNum = m.cc.frameNum := h1.frameNum
    clear_value m1
    refine ⟨c2, congrArg (· + 1) hfn, rfl, ?_⟩
    have h2 : Keeps (.wide false) (m.numbered c2) m2 := h1.map (F := Chip.numbered c2)
    have h3 : Keeps (.wide false) (m.numbered c2) m3 := h2.pipeOpen.raise.ledger
    have h4 : Keeps (.wide false) (m.numbered c2) m4 := .ite h3.orBits h3
    clear_value m4
    have h5 : Keeps (.wide false) (m.numbered c2) m5 := h4.update
    have h6 : Keeps (.wide false) (m.numbered c2) m6 := h5.powerGroups.marlPick
    exact h6.illumAtStart.isetApply

/-- The chip of a Continuous capture between two frames: the old one is over, Loam has its new T0. -/
def Chip.betweenFrames (m : Chip) (c : Capture) (lb : Long) : Chip :=
  let want := m.at_ lb
  let soon := m.now + 4
  let late := decide (want.toNat < soon.toNat)
  let m := (m.frameOver c).nodesClear
  let m := { m with loam := { m.loam with t0 := if late then soon else want, watch := 0 },
                    pipe := { m.pipe with act := if m.pipe.act = 0 then m.inSrc else m.pipe.act } }
  if late && lb != 0 then m.orBits spCtx (ctxOff c.ctx 8) 0x1000 else m

theorem Chip.nextFrame_eq (m : Chip) (c : Capture) (lb : Long) :
    m.nextFrame c lb = (m.betweenFrames c lb).frameBegin.next := rfl

/-- Between two frames the capture, FRAMENUM, Loam's place and the time base stand. -/
theorem betweenFrames_keeps {m : Chip} {c : Capture} (lb : Long) (hc : m.cc.cap = some c) :
    (m.betweenFrames c lb).cc.cap.map (·.ctx) = some c.ctx ∧
    (m.betweenFrames c lb).cc.frameNum = m.cc.frameNum ∧
    (∃ t0, (m.betweenFrames c lb).loam = { m.loam with t0 := t0, watch := 0 }) ∧
    (m.betweenFrames c lb).tb = m.tb := by
  have h1 : Keeps (.wide false) m (m.frameOver c) := Keeps.frameOver (.refl _ _)
  have hctx : (m.frameOver c).cc.cap.map (·.ctx) = some c.ctx := (h1.cap_map (·.ctx)).trans (by rw [hc]; rfl)
  have hfn : (m.frameOver c).cc.frameNum = m.cc.frameNum := h1.frameNum
  have hl : (m.frameOver c).loam = m.loam := h1.loam
  have htb : (m.frameOver c).tb = m.tb := h1.tb
  unfold Chip.betweenFrames
  generalize m.frameOver c = m1 at hctx hfn hl htb
  extract_lets want soon late m2 _ _ m3
  have hm2 : m2.cc.cap = m1.cc.cap ∧ m2.cc.frameNum = m1.cc.frameNum ∧ m2.loam = m1.loam ∧ m2.tb = m1.tb := ⟨rfl, rfl, rfl, rfl⟩
  have hm3 : m3.cc = m2.cc ∧ m3.loam = { m2.loam with t0 := if late then soon else want, watch := 0 } ∧ m3.tb = m2.tb :=
    ⟨rfl, rfl, rfl⟩
  clear_value m2 m3 late
  obtain ⟨hcap2, hfn2, hl2, htb2⟩ := hm2
  obtain ⟨hcc3, hl3, htb3⟩ := hm3
  rw [hl2, hl] at hl3
  split
  · exact ⟨by rw [← hctx, ← hcap2, ← hcc3]; rfl, by rw [← hfn, ← hfn2, ← hcc3]; rfl, ⟨_, hl3⟩, htb3.trans (htb2.trans htb)⟩
  · exact ⟨by rw [← hctx, ← hcap2, ← hcc3], by rw [← hfn, ← hfn2, ← hcc3], ⟨_, hl3⟩, htb3.trans (htb2.trans htb)⟩

/-- The next frame of a Continuous capture has the next number; Loam goes on. -/
theorem nextFrame_leaves {m : Chip} {c : Capture} (lb : Long) (hc : m.cc.cap = some c) (hb : m.inBank) (hf : m.loam.free) :
    (m.nextFrame c lb).cc.frameNum = m.cc.frameNum + 1 ∧
    (m.nextFrame c lb).cc.lastFn = (m.nextFrame c lb).cc.frameNum ∧
    (m.nextFrame c lb).cc.cap.map (·.fn) = some (m.nextFrame c lb).cc.frameNum ∧
    (m.nextFrame c lb).cc.cap.map (·.ctx) = some c.ctx ∧ (m.nextFrame c lb).loam.pc = m.loam.pc + 1 ∧
    (m.nextFrame c lb).loam.running = m.loam.running ∧ (m.nextFrame c lb).tb = m.tb := by
  rw [Chip.nextFrame_eq]
  obtain ⟨hctx, hfn, ⟨t0, hl⟩, htb⟩ := betweenFrames_keeps lb hc
  generalize m.betweenFrames c lb = m3 at hctx hfn hl htb
  obtain ⟨c3, hc3, hctx3⟩ := Option.map_eq_some_iff.1 hctx
  obtain ⟨c', hfn', hctx', hk⟩ := keeps_frameBegin hc3
  have hloam : m3.frameBegin.loam = { m.loam with t0 := t0, watch := 0 } := hk.loam.trans hl
  have htb' : m3.frameBegin.tb = m.tb := hk.tb.trans htb
  have hnum : m3.frameBegin.cc.frameNum = m.cc.frameNum + 1 := (hk.frameNum).trans (congrArg (· + 1) hfn)
  have hlast : m3.frameBegin.cc.lastFn = m.cc.frameNum + 1 := (hk.lastFn).trans (congrArg (· + 1) hfn)
  have hcfn : m3.frameBegin.cc.cap.map (·.fn) = some (m.cc.frameNum + 1) :=
    (hk.cap_map (·.fn)).trans (congrArg some (hfn'.trans (congrArg (· + 1) hfn)))
  have hcctx : m3.frameBegin.cc.cap.map (·.ctx) = some c.ctx :=
    (hk.cap_map (·.ctx)).trans (congrArg some (hctx'.trans hctx3))
  generalize m3.frameBegin = t at hloam htb' hnum hlast hcfn hcctx
  rw [Chip.next_inBank ?bank ?free]
  case bank =>
    rw [Chip.inBank, Chip.bankSize, hloam]
    exact hb
  case free =>
    rw [hloam]
    exact hf
  refine ⟨hnum, hlast.trans hnum.symm, hcfn.trans (congrArg some hnum.symm), hcctx, ?_, ?_, htb'⟩
  · show t.loam.pc + 1 = _
    rw [hloam]
  · show t.loam.running = _
    rw [hloam]

/-! ## Readout (O41) -/

/-- A halt with HMODE 1 keeps the capture: LOAM_HALT, its cause, and nothing else (R261). -/
theorem haltNow_keeps {m : Chip} (cause : Nat) (hcore : m.pw.core = true) (hmode : tst (m.rd 0 0x32) 12 = true) :
    (m.haltNow cause).loam =
      { m.loam with halted := true, hcause := cause, stepping := false, haltPend := 0, wait := none } ∧
    tst ((m.haltNow cause).rd 0 0x13) 5 = true ∧ (m.haltNow cause).cc = m.cc ∧
    WordsKept m (m.haltNow cause) [(0, 0x13)] := by
  unfold Chip.haltNow
  extract_lets _ _ m1 m2
  have h2 : m2 = m1.orBits 0 0x13 (bitW 5) := Chip.raise_on m1 5 hcore
  have hbit : tst (m2.rd 0 0x13) 5 = true := by
    rw [h2, Chip.rd_orBits, if_pos rfl, tst_or]
    exact Bool.or_eq_true_iff.2 (.inr (by decide))
  have hmode2 : tst (m2.rd 0 0x32) 12 = true := by
    rw [h2, Chip.rd_orBits, if_neg (by decide)]
    exact hmode
  rw [if_pos hmode2]
  refine ⟨by rw [h2]; rfl, hbit, by rw [h2]; rfl, ?_⟩
  rw [h2]
  exact WordsKept.orBits (WordsKept.refl m _) _ (by decide)

theorem mayIssue_core {m : Chip} (h : m.mayIssue = true) : m.pw.core = true := by
  simp only [Chip.mayIssue, Bool.and_eq_true] at h
  exact h.1.1.1.1.1

/-- READP k takes the rows of its plane. -/
theorem takePlane_eq {m : Chip} {c : Capture} {k : Nat} (hc : m.cc.cap = some c) (hi : c.interleaved = false) :
    m.takePlane k = { m with cc := { m.cc with cap := some { c with
      read := c.read ||| BitVec.ofNat 4 (2 ^ k), converted := 0, todo := c.planeRows.map (fun r => ⟨k, r⟩) } } } := by
  simp [Chip.takePlane, Chip.mapCap, hc, hi]

/-- With room at the pipeline's entry the row engine does not pause. -/
theorem Chip.paceCheck_room {m : Chip} (h : m.pipe.inline.length < 8) : m.paceCheck = m := by
  unfold Chip.paceCheck
  split
  · exact if_neg (by simp [Nat.not_le.2 h])
  · rfl

/-- READP on a plane that is to be read. -/
theorem answers_readp {s : State} {c : Capture} (hi : s.issues 0x1A) (hb : s.chip.inBank) (hc : s.chip.cc.cap = some c)
    (hil : c.interleaved = false) (hx : iX s.chip.fetch < c.strata) :
    (s.chip.readpReady = false →
       Answers .loamReadp s (fun t => OnlyLoam s.chip t { s.chip.loam with wait := some (.readp (iX s.chip.fetch)) })) ∧
     (s.chip.readpReady = true → s.chip.pipe.inline.length < 8 →
       Answers .loamReadp s (fun t =>
         t.cc = { s.chip.cc with cap := some { c with
           read := c.read ||| BitVec.ofNat 4 (2 ^ iX s.chip.fetch), converted := 0,
           todo := c.planeRows.map (fun r => ⟨iX s.chip.fetch, r⟩) } } ∧
         t.loam = Loam.goesTo { s.chip.loam with watch := 0 } (s.chip.loam.pc + 1) ∧ AllWordsKept s.chip t)) := by
  have hskip : ¬(c.strata ≤ iX s.chip.fetch ∨ (c.interleaved = true ∧ c.read.getLsbD (iX s.chip.fetch) = true)) := by
    simp [hil, Nat.not_le.2 hx]
  refine ⟨fun hr => ?_, fun hr hp => ?_⟩
  · refine answers_issue (rfl : execLoamReadp s = _) hi ?_
    simp only [hc, if_neg hskip, if_neg (ne_true_of_eq_false hr)]
    rfl
  · refine answers_of_done (exec_issue (rfl : execLoamReadp s = _) hi) ?_
    simp only [hc, if_neg hskip, if_pos hr]
    rw [Chip.readp, Chip.paceCheck_room (by exact hp), takePlane_eq hc hil, Chip.next_inBank ?bank ?free]
    case bank => exact hb
    case free => exact hi.free
    exact ⟨rfl, rfl, rfl⟩

/-- READB of the document's next band hands it to the step engine. -/
theorem answers_readb {s : State} {c : Capture} (hi : s.issues 0x1B) (hb : s.chip.inBank) (hc : s.chip.cc.cap = some c)
    (hrom : s.chip.loam.rom = false) (hmode : c.mode = 3) (hswap : tst (c.word 0xC0) 15 = false)
    (hx : iX s.chip.fetch = 0) (hdepth : iImm s.chip.fetch = c.depth)
    (heven : (s.chip.lreg (iB s.chip.fetch)).toNat % 2 = 0) (hfirst : 48 ≤ (s.chip.lreg (iB s.chip.fetch)).toNat)
    (hlast : (s.chip.lreg (iB s.chip.fetch)).toNat + c.depth ≤ 3888) (hreadb : s.chip.cc.drift.readb = none)
    (hending : s.chip.cc.drift.ending = false) :
    Answers .loamReadb s (fun t =>
      t.cc.drift.readb = some (0, (s.chip.lreg (iB s.chip.fetch)).toNat, c.depth) ∧ t.cc.cap = s.chip.cc.cap ∧
      t.loam = s.chip.loam.goesTo (s.chip.loam.pc + 1) ∧ AllWordsKept s.chip t) := by
  refine answers_of_done (exec_issue (rfl : execLoamReadb s = _) hi) ?_
  have hok : ¬(c.mode ≠ 3 ∨ c.depth ≠ c.depth ∨ 0 ≠ 0 ∨ (s.chip.lreg (iB s.chip.fetch)).toNat % 2 = 1 ∨
      (s.chip.lreg (iB s.chip.fetch)).toNat < 48 ∨ 3888 < (s.chip.lreg (iB s.chip.fetch)).toNat + c.depth) := by omega
  simp only [hc, hrom, hswap, hx, hdepth, Bool.false_eq_true, if_false, if_neg hok, hreadb, Option.isNone_none, if_true]
  rw [Chip.readb, Chip.next_inBank ?bank ?free]
  case bank => exact hb
  case free => exact hi.free
  refine ⟨?_, hc, rfl, rfl⟩
  simp [hending]

theorem onlyStrobes_captureStrobe (m : Chip) (mask : BitVec 8) (on : Bool) (t : Tick) :
    OnlyStrobes m (m.captureStrobe mask on t) := by
  unfold Chip.captureStrobe
  extract_lets
  exact .foldl_range (fun m _ hc => .ite (onlyStrobes_strobeDrive m on t hc) (.refl m)) m

/-- DRAIN empties the nodes, Loam's queue and the steps taken up. -/
theorem answers_drain {s : State} (hb : s.chip.inBank) (hi : s.issues 0x1C) :
    Answers .loamDrain s (fun t => t.cc.nodes = 0 ∧
      t.loam = Loam.goesTo { s.chip.loam with queue := [] } (s.chip.loam.pc + 1) ∧
      t.cc.drift = { s.chip.cc.drift with taken := [], exposing := none, closed := [] } ∧
      t.cc.heldTrig = s.chip.cc.heldTrig ∧ t.tb = s.chip.tb) := by
  refine answers_of_done (exec_issue (rfl : execLoamDrain s = _) hi) ?_
  have hlow : OnlyStrobes s.chip s.chip.captureLow := onlyStrobes_captureStrobe _ _ _ _
  obtain ⟨r, c, k, l, heq, -⟩ := onlyStrobes_iff.mp hlow
  rw [Chip.drain, heq, Chip.next_inBank ?bank ?free]
  case bank => exact hb
  case free => exact hi.free
  exact ⟨rfl, rfl, rfl, rfl, rfl⟩

theorem Chip.atBreak_disabled {m : Chip} (h : ∀ i, i < 4 → tst (m.rd spLoam (0x3008 + i)) 15 = false) :
    m.atBreak = false := by
  simp only [Chip.atBreak, Bool.and_eq_false_iff, List.any_eq_false, List.mem_range]
  refine .inr fun i hi => ?_
  simp [h i hi]

/-- With a halt pending Loam halts at the next address. -/
theorem Chip.next_halts {m : Chip} (hb : m.inBank) (hp : m.loam.haltPend ≠ 0)
    (hno : Chip.atBreak { m with loam := m.loam.goesTo (m.loam.pc + 1) } = false) :
    m.next = Chip.haltNow { m with loam := m.loam.goesTo (m.loam.pc + 1) } m.loam.haltPend := by
  have hjump : m.next = m.jumpTo (m.loam.pc + 1) := if_neg (Nat.not_le.2 hb)
  have hbound : m.jumpTo (m.loam.pc + 1) = Chip.boundary { m with loam := m.loam.goesTo (m.loam.pc + 1) } :=
    if_neg (Nat.not_le.2 hb)
  rw [hjump, hbound, Chip.boundary, if_pos (by exact hp), if_neg (ne_true_of_eq_false hno)]
  rfl

/-- BREAK halts Loam after itself, with HMODE 1 and no breakpoint enabled. -/
theorem answers_break {s : State} (hb : s.chip.inBank) (hi : s.issues 0x1F) (hmode : tst (s.chip.rd 0 0x32) 12 = true)
    (hbps : ∀ i, i < 4 → tst (s.chip.rd spLoam (0x3008 + i)) 15 = false) :
    Answers .loamBreak s (fun t => t.loam.halted = true ∧
      t.loam.hcause = 4 ∧ t.loam.pc = s.chip.loam.pc + 1 ∧ t.loam.running = s.chip.loam.running ∧ t.cc = s.chip.cc ∧
      tst (t.rd 0 0x13) 5 = true ∧ WordsKept s.chip t [(0, 0x13)]) := by
  refine answers_of_done (exec_issue (rfl : execLoamBreak s = _) hi) ?_
  have hcore : s.chip.pw.core = true := mayIssue_core hi.1
  rw [Chip.next_halts ?bank ?pend ?no]
  case bank => exact hb
  case pend => exact (by decide : (4 : Nat) ≠ 0)
  case no => exact Chip.atBreak_disabled hbps
  obtain ⟨hloam, hbit, hcc, hwords⟩ := haltNow_keeps
    (m := { s.chip with loam := Loam.goesTo { s.chip.loam with haltPend := 4 } (s.chip.loam.pc + 1) }) 4
    hcore hmode
  generalize Chip.haltNow _ 4 = t at hloam hbit hcc hwords
  have hl : t.settle.loam = _ := hloam
  exact ⟨by rw [hl], by rw [hl], by rw [hl]; rfl, by rw [hl]; rfl, hcc, hbit, hwords⟩

/-- BASE with X = 1 in a Continuous capture begins the next frame or waits. -/
theorem answers_base {s : State} {c : Capture} (hb : s.chip.inBank) (hi : s.issues 0x12) (hx : iX s.chip.fetch ≠ 0)
    (hc : s.chip.cc.cap = some c) :
    (c.mode ≠ 2 → exec .loamBase s = done s (s.chip.loamFault 0x0A)) ∧
    (c.mode = 2 → s.chip.rowsIdle = true → s.chip.baseEnds c = false → s.chip.baseYields = false →
      Answers .loamBase s (fun t => t.cc.frameNum = s.chip.cc.frameNum + 1 ∧ t.cc.lastFn = t.cc.frameNum ∧
        t.cc.cap.map (·.fn) = some t.cc.frameNum ∧ t.cc.cap.map (·.ctx) = some c.ctx ∧
        t.loam.pc = s.chip.loam.pc + 1 ∧ t.loam.running = s.chip.loam.running ∧ t.tb = s.chip.tb)) ∧
    (c.mode = 2 → s.chip.rowsIdle = false ∨ (s.chip.baseEnds c = true ∧ s.chip.endReady = false) →
      Answers .loamBase s (fun t => OnlyLoam s.chip t
        { s.chip.loam with wait := some (.base (s.chip.lreg (iB s.chip.fetch))) })) := by
  have hexec := exec_issue (c := .loamBase) (rfl : execLoamBase s = _) hi
  simp only [if_neg hx, hc, Option.any_some, bne_iff_ne] at hexec
  have hbase (hm : c.mode = 2) :
      exec .loamBase s = done s (s.chip.baseFrame (s.chip.lreg (iB s.chip.fetch))) := by
    rw [hexec, if_neg (not_not.2 hm)]
  refine ⟨fun hm => ?_, fun hm hidle hends hyields => ?_, fun hm hwait => ?_⟩
  · rw [hexec, if_pos hm]
  · refine answers_of_done (hbase hm) ?_
    have hnext : s.chip.baseFrame (s.chip.lreg (iB s.chip.fetch)) = s.chip.nextFrame c (s.chip.lreg (iB s.chip.fetch)) := by
      simp [Chip.baseFrame, hc, hidle, hends, hyields]
    rw [hnext]
    exact nextFrame_leaves _ hc hb hi.free
  · refine answers_onlyLoam (hbase hm) ?_
    rcases hwait with hidle | ⟨hends, hready⟩
    · simp [Chip.baseFrame, hc, hidle, Chip.waitFor]
    · have hstay : s.chip.baseFrame (s.chip.lreg (iB s.chip.fetch)) =
          s.chip.waitFor (.base (s.chip.lreg (iB s.chip.fetch))) := by
        cases hidle : s.chip.rowsIdle with
        | false => simp [Chip.baseFrame, hc, hidle]
        | true => simp [Chip.baseFrame, hc, hidle, hends, hready]
      exact hstay

/-- A record for a stream that is not active is lost and counted. -/
theorem Chip.offer_inactive {m : Chip} {s : Nat} (r : Rec) (w : Refused) (h : (m.stream s).act = false) :
    m.offer s r w = m.bump spPool (streamOff s 8) 1 := by
  simp [Chip.offer, Chip.accepts, h]

/-- EMIT of an unknown type, on a stream that is not selected, and of an event on an inactive stream. -/
theorem answers_emit {s : State} {c : Capture} (hb : s.chip.inBank) (hi : s.issues 0x1D) (hc : s.chip.cc.cap = some c) :
    (iImm s.chip.fetch ≠ 1 → iImm s.chip.fetch ≠ 2 → iImm s.chip.fetch ≠ 0x33 →
      exec .loamEmit s = done s (s.chip.loamFault 0x05)) ∧
    (iImm s.chip.fetch = 1 ∨ iImm s.chip.fetch = 2 ∨ iImm s.chip.fetch = 0x33 → c.streamOf (iX s.chip.fetch) = none →
      Answers .loamEmit s (fun t =>
        OnlyLoam s.chip t (Loam.goesTo { s.chip.loam with watch := 0 } (s.chip.loam.pc + 1)))) ∧
    (∀ st, iImm s.chip.fetch = 0x33 → c.streamOf (iX s.chip.fetch) = some st → (s.chip.stream st).act = false →
      Answers .loamEmit s (fun t => t.rd spPool (streamOff st 8) = satAdd (s.chip.rd spPool (streamOff st 8)) 1 ∧
        t.loam = Loam.goesTo { s.chip.loam with watch := 0 } (s.chip.loam.pc + 1) ∧
        WordsKept s.chip t [(spPool, streamOff st 8)] ∧ t.streams = s.chip.streams)) := by
  have hexec := exec_issue (c := .loamEmit) (rfl : execLoamEmit s = _) hi
  simp only [hc] at hexec
  refine ⟨fun h1 h2 h3 => ?_, fun hdt hnone => ?_, fun st hdt hst hact => ?_⟩
  · rw [hexec, if_pos ⟨h1, h2, h3⟩]
  · rw [if_neg (by omega), hnone] at hexec
    exact answers_onlyLoam hexec (Chip.next_inBank (m := s.chip.progress) hb hi.free)
  · simp only [hdt, hst] at hexec
    refine answers_of_done hexec ?_
    have hoff (v : Long) : s.chip.progress.emitEvent c st v =
        s.chip.progress.bump spPool (streamOff st 8) 1 := Chip.offer_inactive _ _ hact
    simp only [Nat.reduceEqDiff, ne_eq, not_true_eq_false, and_false, if_false, hoff]
    rw [Chip.next_inBank ?bank ?free]
    case bank => exact hb
    case free => exact hi.free
    refine ⟨?_, rfl, ?_, rfl⟩
    · show (s.chip.progress.bump spPool (streamOff st 8) 1).rd _ _ = _
      rw [Chip.rd_bump, if_pos rfl]
      rfl
    · exact WordsKept.bump (WordsKept.refl s.chip _) 1 (by simp)

/-- Settles O41: each instruction about the readout, from the rules above. -/
theorem loamReadout : Obligations.LoamReadout := by
  unfold Obligations.LoamReadout
  refine ⟨⟨fun s c hi hb hc => answers_readp hi hb hc, ?readb⟩, fun s hb => ⟨answers_drain hb, answers_break hb, ?base0,
    fun c hi hx hc => answers_base hb hi hx hc, fun c hi hc => answers_emit hb hi hc⟩⟩
  case readb =>
    rintro s c row hi hb hc hrom hmode hswap hx hdepth rfl heven hfirst hlast hreadb hending
    exact answers_readb hi hb hc hrom hmode hswap hx hdepth heven hfirst hlast hreadb hending
  case base0 =>
    intro hi hx
    refine answers_issue (rfl : execLoamBase s = _) hi ?_
    rw [if_pos hx]
    exact Chip.next_inBank (m := { s.chip with loam := { s.chip.loam with t0 := _ } }) hb hi.free

end Sys2Proof.Machine

end


section
/-! PROOFS. The queued actions: the edges of the strata, the strobes, the ISET, PIN and HKT actions. -/

namespace Sys2Proof.Machine

-- The proofs are many and short: one after the other they need few threads.
set_option Elab.async false

/-! ## Actions that are due -/

theorem Chip.advanceLoam_of_none {m : Chip} (h : m.loam.wait = none) : m.advanceLoam = m := by
  simp [Chip.advanceLoam, h]

theorem dueAction_core {m : Chip} {kind : Nat} {a : Action} (h : m.dueAction kind = some a) : m.pw.core = true := by
  unfold Chip.dueAction at h
  split at h
  · split at h
    next hc => exact hc.1
    next => cases h
  · cases h

section
variable {s : State} {a : Action}

theorem exec_stratumOpen (h : s.chip.dueAction 1 = some a) :
    exec .stratumOpen s = done s ((s.chip.takeAction a).doOpen a).advanceLoam := by
  simp only [exec, execStratumOpen, h]

theorem exec_stratumClose (h : s.chip.dueAction 0 = some a) :
    exec .stratumClose s = done s ((s.chip.takeAction a).doClose a).advanceLoam := by
  simp only [exec, execStratumClose, h]

theorem exec_strbEdge (h : s.chip.dueAction 2 = some a) :
    exec .strbEdge s = done s ((s.chip.takeAction a).captureStrobe a.mask a.rise a.tick).advanceLoam := by
  simp only [exec, execStrbEdge, h]

theorem exec_isetApply {c : Capture} (h : s.chip.dueAction 3 = some a) (hc : s.chip.cc.cap = some c) :
    exec .isetApply s = done s ((s.chip.takeAction a).isetApply c a.arg).advanceLoam := by
  simp only [exec, execIsetApply, h, hc]

theorem exec_pinAction (h : s.chip.dueAction 4 = some a) :
    exec .pinAction s = done s ((s.chip.takeAction a).drivePin 40 a.arg a.op).advanceLoam := by
  simp only [exec, execPinAction, h]

theorem exec_hktAction (h : s.chip.dueAction 5 = some a) :
    exec .hktAction s = done s ((s.chip.takeAction a).targetEvent 6 a.arg a.tick).advanceLoam := by
  simp only [exec, execHktAction, h]

/-- An action that leaves Loam waiting for nothing is its own effect. -/
theorem answers_action {c : Instr} {m : Chip} {P : Chip → Prop} (h : exec c s = done s m.advanceLoam)
    (hw : m.loam.wait = none) (hP : P m.settle) : Answers c s P := by
  rw [Chip.advanceLoam_of_none hw] at h
  exact answers_of_done h hP

end

/-- The bit of an event that was raised. -/
theorem tst_raise {m : Chip} (n : Nat) (h : m.pw.core = true) :
    tst ((m.raise n).rd 0 (0x13 + n / 16)) (n % 16) = true := by
  rw [Chip.rd_raise m n _ _ h, if_pos rfl, tst_or, tst_bitW]
  simp [Nat.mod_lt]

/-! ## The edges of the strata -/

theorem onlyRequests_sourceEvent (m : Chip) (src sel : Nat) (t : Tick) : OnlyRequests m (m.sourceEvent src sel t) :=
  .foldl (fun m _ => .ite (onlyRequests_slotEvent m _ t) (.refl m)) _ _

theorem OnlyRequests.parts {m t : Chip} (h : OnlyRequests m t) :
    t.cc = m.cc ∧ t.loam = m.loam ∧ t.chans = m.chans ∧ t.tb = m.tb := by
  obtain ⟨r, c, k, rfl⟩ := onlyRequests_iff.mp h
  exact ⟨rfl, rfl, rfl, rfl⟩

/-- TRIG_OUT put to a level on a condition changes nothing but the pins. -/
theorem pins_ite (m : Chip) (p : Prop) [Decidable p] (b : Bool) :
    ∃ x, (if p then { m with pins := { m.pins with trigOut := b } } else m) = { m with pins := x } := by
  split
  · exact ⟨_, rfl⟩
  · exact ⟨m.pins, rfl⟩

theorem Chip.openStratum_parts (m : Chip) (c : Capture) (k : Nat) (t : Tick) :
    (m.openStratum c k t).cc = { m.cc with cap := m.cc.cap.map (fun c => { c with opened := some (k, t) }) } ∧
    (m.openStratum c k t).loam = m.loam ∧ (m.openStratum c k t).chans = m.chans ∧
    (m.openStratum c k t).tb = m.tb := by
  unfold Chip.openStratum
  obtain ⟨x, hx⟩ := pins_ite (m.mapCap (fun c => { c with opened := some (k, t) })) (k = 0 ∧ tst (c.word 1) 15) true
  dsimp only
  rw [hx]
  exact (onlyRequests_sourceEvent _ 5 k t).parts

/-- OPEN of a stratum, past the guard time of the last one. -/
theorem answers_stratumOpen {s : State} {a : Action} {c : Capture} (ha : s.acts 1 a) (hc : s.chip.cc.cap = some c)
    (ho : c.opened = none) (hlast : ∀ x, c.lastClose = some x → x.toNat + 100 ≤ a.tick.toNat) :
    Answers .stratumOpen s (fun t => t.cc = { s.chip.cc with cap := some { c with opened := some (a.arg, a.tick) } } ∧
      t.loam = s.chip.without a ∧ t.chans = s.chip.chans ∧ t.tb = s.chip.tb) := by
  obtain ⟨hdue, hwait⟩ := ha
  have hopen : (s.chip.takeAction a).doOpen a = (s.chip.takeAction a).openStratum c a.arg a.tick := by
    unfold Chip.doOpen
    rw [show (s.chip.takeAction a).cc.cap = some c from hc]
    simp only [ho, Option.isSome_none, Bool.false_eq_true, if_false]
    split
    next x hx => exact if_neg (Nat.not_lt.2 (hlast x hx))
    next => rfl
  obtain ⟨hcc, hloam, hchans, htb⟩ := (s.chip.takeAction a).openStratum_parts c a.arg a.tick
  rw [show (s.chip.takeAction a).cc.cap = some c from hc] at hcc
  rw [← hopen] at hcc hloam hchans htb
  exact answers_action (exec_stratumOpen hdue) (hloam ▸ hwait) ⟨hcc, hloam, hchans, htb⟩

theorem Chip.closeStratum_parts (m : Chip) (c : Capture) (k : Nat) (t : Tick) (hcore : m.pw.core = true) :
    (m.closeStratum c k t).cc = { m.cc with
      cap := m.cc.cap.map (fun c => { c with
        opened := none, lastClose := some t, closed := c.closed ||| BitVec.ofNat 4 (2 ^ k) })
      nodes := m.cc.nodes ||| BitVec.ofNat 4 (2 ^ k)
      charge := upd m.cc.charge k (fun l => (List.range 8).map (fun i => min 9500 (nth l i + 1280 * i))) } ∧
    (c.mode ≠ 3 → tst ((m.closeStratum c k t).rd 0 0x13) 2 = true) ∧
    WordsKept m (m.closeStratum c k t) [(0, 0x13)] ∧ (m.closeStratum c k t).loam = m.loam ∧
    (m.closeStratum c k t).chans = m.chans ∧ (m.closeStratum c k t).tb = m.tb ∧
    (m.closeStratum c k t).pw = m.pw ∧ (m.closeStratum c k t).movers = m.movers := by
  unfold Chip.closeStratum
  obtain ⟨x, hx⟩ := pins_ite (Chip.nodeClosed (m.mapCap (fun c => { c with
    opened := none, lastClose := some t, closed := c.closed ||| BitVec.ofNat 4 (2 ^ k) })) k) (k + 1 = c.strata) false
  dsimp only
  rw [hx]
  obtain ⟨heq, hwords⟩ := OnlyThese.raiseIf (n := evStratumDone) (c := c.mode != 3) (OnlyThese.refl
    { Chip.nodeClosed (m.mapCap (fun c => { c with
      opened := none, lastClose := some t, closed := c.closed ||| BitVec.ofNat 4 (2 ^ k) })) k with pins := x }
    [(0, 0x13)]) hcore (by decide)
  refine ⟨heq.cc, fun hm => ?_, hwords, heq.loam, ?_, ?_, ?_, ?_⟩
  · rw [Chip.raiseIf, if_pos (bne_iff_ne.2 hm)]
    exact tst_raise evStratumDone hcore
  all_goals rw [heq]; rfl

/-- CLOSE of the open stratum, past its shortest exposure. -/
theorem answers_stratumClose {s : State} {a : Action} {c : Capture} {x : Tick} (ha : s.acts 0 a)
    (hc : s.chip.cc.cap = some c) (ho : c.opened = some (a.arg, x)) (hx : x.toNat + 200 ≤ a.tick.toNat) :
    Answers .stratumClose s (fun t => t.cc = { s.chip.cc with
        cap := some { c with opened := none, lastClose := some a.tick, closed := c.closed ||| BitVec.ofNat 4 (2 ^ a.arg) }
        nodes := s.chip.cc.nodes ||| BitVec.ofNat 4 (2 ^ a.arg)
        charge := upd s.chip.cc.charge a.arg (fun l => (List.range 8).map (fun i => min 9500 (nth l i + 1280 * i))) } ∧
      (c.mode ≠ 3 → tst (t.rd 0 0x13) 2 = true) ∧ WordsKept s.chip t [(0, 0x13)] ∧ t.loam = s.chip.without a ∧
      t.chans = s.chip.chans ∧ t.tb = s.chip.tb) := by
  obtain ⟨hdue, hwait⟩ := ha
  have hclose : (s.chip.takeAction a).doClose a = (s.chip.takeAction a).closeStratum c a.arg a.tick := by
    unfold Chip.doClose
    rw [show (s.chip.takeAction a).cc.cap = some c from hc]
    simp only [ho, ne_eq, not_true_eq_false, if_false]
    exact if_neg (Nat.not_lt.2 hx)
  have hcore : s.chip.pw.core = true := dueAction_core hdue
  obtain ⟨hcc, hbit, hwords, hloam, hchans, htb, -, -⟩ :=
    (s.chip.takeAction a).closeStratum_parts c a.arg a.tick hcore
  rw [show (s.chip.takeAction a).cc.cap = some c from hc] at hcc
  rw [← hclose] at hcc hbit hwords hloam hchans htb
  exact answers_action (exec_stratumClose hdue) (hloam ▸ hwait) ⟨hcc, hbit, hwords, hloam, hchans, htb⟩

/-- What a stratum that is closed at its longest exposure leaves, with the guard fault recorded. -/
theorem maxClosed_parts {m t : Chip} {c : Capture} {k : Nat} {x : Tick} (detail : List Byte) (hcore : m.pw.core = true)
    (hmov : m.moversOff) (hc : m.cc.cap = some c)
    (ht : t = ((m.closeStratum c k x).orBits spLoam 0x3000 0x2000).fault 0x04 detail) :
    t.cc = { m.cc with
      cap := some { c with opened := none, lastClose := some x, closed := c.closed ||| BitVec.ofNat 4 (2 ^ k) }
      nodes := m.cc.nodes ||| BitVec.ofNat 4 (2 ^ k)
      charge := upd m.cc.charge k (fun l => (List.range 8).map (fun i => min 9500 (nth l i + 1280 * i))) } ∧
    tst (t.rd spLoam 0x3000) 13 = true ∧ t.rd spFault 0 = m.rd spFault 0 + 1 ∧ t.loam = m.loam := by
  obtain ⟨hcc, -, hwords, hloam, -, -, hpw, hmovers⟩ := m.closeStratum_parts c k x hcore
  rw [hc] at hcc
  generalize m.closeStratum c k x = m1 at ht hcc hwords hloam hpw hmovers
  have hcore1 : (m1.orBits spLoam 0x3000 0x2000).pw.core = true := by
    show m1.pw.core = true
    rw [hpw, hcore]
  have hmov1 : (m1.orBits spLoam 0x3000 0x2000).moversOff := by
    intro i hi
    have := hmov i hi
    rwa [Chip.mover, ← hmovers] at this
  have hfault := onlyFault_fault (m1.orBits spLoam 0x3000 0x2000) 0x04 detail hcore1 hmov1
  have hcount := (m1.orBits spLoam 0x3000 0x2000).rd_count_fault 0x04 detail hcore1 hmov1
  rw [← ht] at hfault hcount
  have hbit := hfault.rd (sp := spLoam) (off := 0x3000) (by decide) (by decide)
  obtain ⟨r, y, rfl, -⟩ := onlyFault_iff.1 hfault
  refine ⟨hcc, ?_, ?_, hloam⟩
  · rw [hbit, Chip.rd_orBits, if_pos rfl, tst_or]
    exact Bool.or_eq_true_iff.2 (.inr (by decide))
  · rw [hcount, Chip.rd_orBits, if_neg (by decide), hwords.rd (by decide)]

/-- A stratum open for its longest exposure closes by itself. -/
theorem answers_stratumMaxClose {s : State} {c : Capture} {k : Nat} {x : Tick} (hcore : s.chip.pw.core = true)
    (hc : s.chip.cc.cap = some c) (ho : c.opened = some (k, x)) (hr : s.chip.reached (x + 100000000) = true)
    (hw : s.chip.loam.wait = none) (hmov : s.chip.moversOff)
    (hq : ∀ a ∈ s.chip.loam.queue, a.kind = 0 → a.arg = k → x.toNat + 100000000 < a.tick.toNat) :
    Answers .stratumMaxClose s (fun t => t.cc = { s.chip.cc with
        cap := some { c with opened := none, lastClose := some (x + 100000000),
                             closed := c.closed ||| BitVec.ofNat 4 (2 ^ k) }
        nodes := s.chip.cc.nodes ||| BitVec.ofNat 4 (2 ^ k)
        charge := upd s.chip.cc.charge k (fun l => (List.range 8).map (fun i => min 9500 (nth l i + 1280 * i))) } ∧
      tst (t.rd spLoam 0x3000) 13 = true ∧ t.rd spFault 0 = s.chip.rd spFault 0 + 1 ∧
      (∀ a ∈ t.loam.queue, a ∈ s.chip.loam.queue)) := by
  have hdue : s.chip.loam.queue.any
      (fun a => a.kind == 0 && a.arg == k && decide (a.tick.toNat ≤ x.toNat + 100000000)) = false := by
    simp only [List.any_eq_false, Bool.and_eq_true, beq_iff_eq, decide_eq_true_eq, not_and, Nat.not_le, and_imp]
    exact hq
  have hexec : exec .stratumMaxClose s = done s (s.chip.maxClose c k x).advanceLoam := by
    simp only [exec, execStratumMaxClose, hc, ho, guarded, hdue, hcore, hr]
    rfl
  have hclosed : (s.chip.maxClose c k x).cc = { s.chip.cc with
        cap := some { c with opened := none, lastClose := some (x + 100000000),
                             closed := c.closed ||| BitVec.ofNat 4 (2 ^ k) }
        nodes := s.chip.cc.nodes ||| BitVec.ofNat 4 (2 ^ k)
        charge := upd s.chip.cc.charge k (fun l => (List.range 8).map (fun i => min 9500 (nth l i + 1280 * i))) } ∧
      tst ((s.chip.maxClose c k x).rd spLoam 0x3000) 13 = true ∧
      (s.chip.maxClose c k x).rd spFault 0 = s.chip.rd spFault 0 + 1 ∧
      (s.chip.maxClose c k x).loam.wait = none ∧
      (∀ a ∈ (s.chip.maxClose c k x).loam.queue, a ∈ s.chip.loam.queue) := by
    unfold Chip.maxClose
    extract_lets at_
    split
    next a _ =>
      obtain ⟨hcc, hbit, hcount, hloam⟩ := maxClosed_parts (m := s.chip.takeAction a) (x := at_) _ hcore hmov hc rfl
      exact ⟨hcc, hbit, hcount, by rw [hloam]; exact hw, fun y hy => List.mem_of_mem_erase (hloam ▸ hy)⟩
    next =>
      obtain ⟨hcc, hbit, hcount, hloam⟩ := maxClosed_parts (m := s.chip.takeFreeNat.2) (x := at_) _ hcore hmov hc rfl
      exact ⟨hcc, hbit, hcount, by rw [hloam]; exact hw, fun y hy => hloam ▸ hy⟩
  obtain ⟨hcc, hbit, hcount, hwait, hqueue⟩ := hclosed
  exact answers_action hexec hwait ⟨hcc, hbit, hcount, hqueue⟩

/-! ## Channels one at a time -/

theorem Chip.chan_mapChan_same {m : Chip} {c : Nat} (f : Channel → Channel) (h : c < m.chans.length) :
    (m.mapChan c f).chan c = f (m.chan c) := by
  simp [Chip.mapChan, Chip.chan, upd, List.getD_eq_getElem?_getD, h]

theorem Chip.chan_mapChan_ne {m : Chip} {c d : Nat} (f : Channel → Channel) (h : c ≠ d) :
    (m.mapChan d f).chan c = m.chan c := by
  simp [Chip.mapChan, Chip.chan, upd, List.getD_eq_getElem?_getD, Ne.symm h]

theorem Chip.length_mapChan (m : Chip) (c : Nat) (f : Channel → Channel) :
    (m.mapChan c f).chans.length = m.chans.length := by
  simp [Chip.mapChan, upd]

/-- What decides how channel c takes a strobe edge is as it was. -/
structure ChanSame (c : Nat) (m t : Chip) : Prop where
  chan : t.chan c = m.chan c
  length : t.chans.length = m.chans.length
  control : t.rd spIllum (chanOff c 0) = m.rd spIllum (chanOff c 0)
  flags : t.rd spIllum 0 = m.rd spIllum 0

/-- The words that the strobes and the slots write: none of them decides how a channel takes an edge. -/
def edgeWord (sp off : Nat) : Prop :=
  (∀ c, c < 8 → key sp off ≠ key spIllum (chanOff c 0)) ∧ key sp off ≠ key spIllum 0

section
variable {c : Nat} {o m : Chip}

theorem ChanSame.refl (c : Nat) (m : Chip) : ChanSame c m m := ⟨rfl, rfl, rfl, rfl⟩

theorem ChanSame.trans {t : Chip} (h : ChanSame c o m) (h' : ChanSame c m t) : ChanSame c o t :=
  ⟨h'.chan.trans h.chan, h'.length.trans h.length, h'.control.trans h.control, h'.flags.trans h.flags⟩

theorem ChanSame.fltHolds (h : ChanSame c o m) : m.fltHolds c = o.fltHolds c := by
  rw [Chip.fltHolds, Chip.flt, Chip.fltHolds, Chip.flt, h.control, h.flags]

theorem ChanSame.ite {p : Prop} [Decidable p] {a b : Chip} (ha : ChanSame c o a) (hb : ChanSame c o b) :
    ChanSame c o (if p then a else b) := by
  split
  · exact ha
  · exact hb

theorem ChanSame.foldl {l : List Nat} {f : Chip → Nat → Chip} (h : ChanSame c o m)
    (hf : ∀ m, ∀ a ∈ l, ChanSame c o m → ChanSame c o (f m a)) : ChanSame c o (l.foldl f m) := by
  induction l generalizing m with
  | nil => exact h
  | cons a r ih => exact ih (hf m a List.mem_cons_self h) fun m a ha => hf m a (List.mem_cons_of_mem _ ha)

theorem ChanSame.wr {sp off : Nat} {v : Word} (h : ChanSame c o m) (hc : c < 8) (hw : edgeWord sp off) :
    ChanSame c o (m.wr sp off v) := by
  refine ⟨h.chan, h.length, ?_, ?_⟩
  · rw [Chip.rd_wr, if_neg (hw.1 c hc).symm, h.control]
  · rw [Chip.rd_wr, if_neg hw.2.symm, h.flags]

theorem ChanSame.cyc (h : ChanSame c o m) (y : Cycle) : ChanSame c o { m with cyc := y } :=
  ⟨h.chan, h.length, h.control, h.flags⟩

theorem ChanSame.bump {sp off n : Nat} (h : ChanSame c o m) (hc : c < 8) (hw : edgeWord sp off) :
    ChanSame c o (m.bump sp off n) := (h.cyc _).wr hc hw

theorem edgeWord_chan {d k : Nat} (hk : k = 6 ∨ k = 7 ∨ k = 0xB) : edgeWord spIllum (chanOff d k) := by
  unfold edgeWord key chanOff
  constructor
  · intro c hc
    omega
  · omega

theorem edgeWord_slot {sl k : Nat} (hs : sl < 8) (hk : k < 0x10) : edgeWord spHkc (slotOff sl k) := by
  unfold edgeWord key chanOff slotOff spHkc spIllum
  constructor
  · intro c hc
    omega
  · omega

theorem ChanSame.raise {n : Nat} (h : ChanSame c o m) (hc : c < 8) (hn : n < 64) : ChanSame c o (m.raise n) := by
  unfold Chip.raise
  refine .ite ((h.cyc _).wr hc ?_) ⟨h.chan, h.length, h.control, h.flags⟩
  unfold edgeWord key chanOff spIllum
  constructor
  · intro c hc
    omega
  · omega

theorem ChanSame.missSlot {sl : Nat} (h : ChanSame c o m) (hc : c < 8) : ChanSame c o (m.missSlot sl) :=
  h.foldl fun _ _ _ h => .ite (h.bump hc (edgeWord_chan (by decide))) h

theorem ChanSame.slotEvent {sl : Nat} {t : Tick} (h : ChanSame c o m) (hc : c < 8) (hs : sl < 8) :
    ChanSame c o (m.slotEvent sl t) := by
  unfold Chip.slotEvent
  extract_lets
  refine .ite (.ite (h.missSlot hc) ?_) h
  split
  · exact ((h.bump hc (edgeWord_slot hs (by decide))).raise hc (by decide)).missSlot hc
  · exact ⟨h.chan, h.length, h.control, h.flags⟩

theorem ChanSame.sourceEvent {src sel : Nat} {t : Tick} (h : ChanSame c o m) (hc : c < 8) :
    ChanSame c o (m.sourceEvent src sel t) :=
  h.foldl fun _ _ hs h => .ite (h.slotEvent hc (List.mem_range.1 hs)) h

theorem ChanSame.mapChan {d : Nat} {f : Channel → Channel} (h : ChanSame c o m) (hd : c ≠ d) :
    ChanSame c o (m.mapChan d f) :=
  ⟨(Chip.chan_mapChan_ne f hd).trans h.chan, (Chip.length_mapChan m d f).trans h.length, h.control, h.flags⟩

/-- The words of another channel's bounds. -/
theorem ChanSame.boundsWords {d : Nat} (h : ChanSame c o m) (hc : c < 8) (lo hi : Option (BitVec 10)) :
    ChanSame c o (match hi with
      | some v => (match lo with
        | some v => m.wr spIllum (chanOff d 6) (v.setWidth 16)
        | none => m).wr spIllum (chanOff d 7) (v.setWidth 16)
      | none => match lo with
        | some v => m.wr spIllum (chanOff d 6) (v.setWidth 16)
        | none => m) := by
  cases lo <;> cases hi
  · exact h
  · exact h.wr hc (edgeWord_chan (by decide))
  · exact h.wr hc (edgeWord_chan (by decide))
  · exact (h.wr hc (edgeWord_chan (by decide))).wr hc (edgeWord_chan (by decide))

theorem ChanSame.boundsApply {d : Nat} {lo hi : Option (BitVec 10)} (h : ChanSame c o m) (hc : c < 8) (hd : c ≠ d) :
    ChanSame c o (m.boundsApply d lo hi) := (h.boundsWords hc lo hi).mapChan hd

theorem ChanSame.strobeFall {d : Nat} {t : Tick} (h : ChanSame c o m) (hc : c < 8) (hd : c ≠ d) :
    ChanSame c o (m.strobeFall d t) := by
  unfold Chip.strobeFall
  extract_lets x m1 m2 m3
  have h1 : ChanSame c o m1 := h.mapChan hd
  have h2 : ChanSame c o m2 := .ite (h1.mapChan hd) h1
  have h3 : ChanSame c o m3 := .ite (h2.boundsApply hc hd) h2
  exact .ite (h3.sourceEvent hc) h

theorem ChanSame.strobeRise {d : Nat} {t : Tick} (h : ChanSame c o m) (hc : c < 8) (hd : c ≠ d) :
    ChanSame c o (m.strobeRise d t) := by
  unfold Chip.strobeRise
  exact .ite h ((h.mapChan hd).sourceEvent hc)

theorem ChanSame.strobeDrive {d : Nat} {on : Bool} {t : Tick} (h : ChanSame c o m) (hc : c < 8) (hd : c ≠ d) :
    ChanSame c o (m.strobeDrive d on t) := by
  unfold Chip.strobeDrive
  extract_lets _ m1
  have h1 : ChanSame c o m1 := h.mapChan hd
  exact .ite (.ite h1 (h1.strobeRise hc hd)) (h1.strobeFall hc hd)

end

/-- A fold over the channels, each step of which leaves the other channels, meets channel c as it was. -/
theorem ChanSame.foldl_at {f : Chip → Nat → Chip} {c : Nat} (hf : ∀ m d, d < 8 → c ≠ d → ChanSame c m (f m d)) (hc : c < 8)
    (m : Chip) : ∃ a, ChanSame c m a ∧ ChanSame c (f a c) ((List.range 8).foldl f m) := by
  have hsplit : List.range 8 = List.range c ++ c :: (List.range (7 - c)).map (· + (c + 1)) := by
    have : c = 0 ∨ c = 1 ∨ c = 2 ∨ c = 3 ∨ c = 4 ∨ c = 5 ∨ c = 6 ∨ c = 7 := by omega
    rcases this with rfl | rfl | rfl | rfl | rfl | rfl | rfl | rfl
    all_goals rfl
  rw [hsplit, List.foldl_append, List.foldl_cons]
  refine ⟨(List.range c).foldl f m, ?_, ?_⟩
  · refine ChanSame.foldl (.refl c m) fun m d hd h => h.trans (hf m d ?_ ?_)
    · exact (List.mem_range.1 hd).trans hc
    · exact (List.mem_range.1 hd).ne'
  · refine ChanSame.foldl (.refl c _) fun m d hd h => h.trans (hf m d ?_ ?_)
    all_goals
      obtain ⟨i, hi, rfl⟩ := List.mem_map.1 hd
      have := List.mem_range.1 hi
      omega

/-! ## Strobe edges (R183) -/

/-- Applying bounds leaves the level and the source of the channel. -/
theorem Chip.boundsApply_level {m : Chip} {c : Nat} (lo hi : Option (BitVec 10)) (hlen : c < m.chans.length) :
    ((m.boundsApply c lo hi).chan c).level = (m.chan c).level ∧ ((m.boundsApply c lo hi).chan c).src = (m.chan c).src := by
  unfold Chip.boundsApply
  extract_lets m1 m2 _ _ _
  have h1 : m1.chans = m.chans := by
    unfold m1
    split
    · rfl
    · rfl
  have h2 : m2.chans = m.chans := by
    unfold m2
    split
    · exact h1
    · exact h1
  have hchan : m2.chan c = m.chan c := by rw [Chip.chan, h2, Chip.chan]
  rw [Chip.chan_mapChan_same _ (h2 ▸ hlen), hchan]
  split
  · exact ⟨rfl, rfl⟩
  · exact ⟨rfl, rfl⟩

/-- A channel whose source goes low is low. -/
theorem Chip.strobeFall_level {m : Chip} {c : Nat} (t : Tick) (hc : c < 8) (hlen : c < m.chans.length) :
    ((m.strobeFall c t).chan c).level = false ∧ ((m.strobeFall c t).chan c).src = (m.chan c).src := by
  unfold Chip.strobeFall
  extract_lets x m1 m2 m3
  split
  next =>
    have h1 : (m1.chan c).level = false ∧ (m1.chan c).src = (m.chan c).src := by
      unfold m1
      rw [Chip.chan_mapChan_same _ hlen]
      exact ⟨rfl, rfl⟩
    have hlen1 : c < m1.chans.length := (Chip.length_mapChan m c _).symm ▸ hlen
    have h2 : (m2.chan c).level = false ∧ (m2.chan c).src = (m.chan c).src ∧ c < m2.chans.length := by
      unfold m2
      split
      · rw [Chip.chan_mapChan_same _ hlen1, Chip.length_mapChan]
        exact ⟨h1.1, h1.2, hlen1⟩
      · exact ⟨h1.1, h1.2, hlen1⟩
    have h3 : (m3.chan c).level = false ∧ (m3.chan c).src = (m.chan c).src := by
      unfold m3
      split
      · obtain ⟨hl, hs⟩ := Chip.boundsApply_level x.heldLo x.heldHi h2.2.2
        exact ⟨hl.trans h2.1, hs.trans h2.2.1⟩
      · exact ⟨h2.1, h2.2.1⟩
    rw [((ChanSame.refl c m3).sourceEvent hc).chan]
    exact h3
  next hl => exact ⟨eq_false_of_ne_true hl, rfl⟩

theorem Chip.strobeDrive_low {m : Chip} {c : Nat} (t : Tick) (hc : c < 8) (hlen : c < m.chans.length) :
    ((m.strobeDrive c false t).chan c).level = false ∧ ((m.strobeDrive c false t).chan c).src = false := by
  have h := Chip.strobeFall_level (m := m.mapChan c (fun x => { x with src := false })) t hc
    ((Chip.length_mapChan m c _).symm ▸ hlen)
  rw [Chip.chan_mapChan_same _ hlen] at h
  exact h

/-- A channel that is low and free of a fault rises with its source. -/
theorem Chip.strobeDrive_high {m : Chip} {c : Nat} (t : Tick) (hc : c < 8) (hlen : c < m.chans.length)
    (hflt : m.fltHolds c = false) (hsrc : (m.chan c).src = false) (hlow : (m.chan c).level = false) :
    ((m.strobeDrive c true t).chan c).level = true ∧ ((m.strobeDrive c true t).chan c).rise = t := by
  unfold Chip.strobeDrive
  extract_lets was m1
  have hwas : was = false := hsrc
  have hchan : m1.chan c = { m.chan c with src := true } := Chip.chan_mapChan_same _ hlen
  have hlen1 : c < m1.chans.length := (Chip.length_mapChan m c _).symm ▸ hlen
  have hno : ¬(m1.fltHolds c || (m1.chan c).level) = true := by
    rw [hchan, show m1.fltHolds c = m.fltHolds c from rfl, hflt]
    simp [hlow]
  rw [if_pos rfl, if_neg (ne_true_of_eq_false hwas), Chip.strobeRise, if_neg hno]
  dsimp only
  rw [((ChanSame.refl c _).sourceEvent hc).chan, Chip.chan_mapChan_same _ hlen1]
  exact ⟨rfl, rfl⟩

/-- How a capture's strobe edge meets channel c: as it stood, or not at all. -/
theorem Chip.captureStrobe_at {m : Chip} (mask : BitVec 8) (on : Bool) (t : Tick) {c : Nat} (hc : c < 8) :
    ∃ a, ChanSame c m a ∧ (m.captureStrobe mask on t).chan c =
      (if mask.getLsbD c && !tst (m.rd spIllum (chanOff c 0)) 15 && !(on && m.cc.cap.any (·.dark)) then
        a.strobeDrive c on t else a).chan c := by
  unfold Chip.captureStrobe
  extract_lets dark
  obtain ⟨a, ha, hlast⟩ := ChanSame.foldl_at (m := m) (c := c)
    (f := fun m c => if mask.getLsbD c && !tst (m.rd spIllum (chanOff c 0)) 15 && !(on && dark) then
      m.strobeDrive c on t else m)
    (fun m d _ hd => .ite ((ChanSame.refl c m).strobeDrive hc hd) (.refl c m)) hc
  refine ⟨a, ha, ?_⟩
  rw [hlast.chan, ha.control]

/-- A capture's falling edge takes the masked channels low, and no other. -/
theorem captureStrobe_fall {m : Chip} (mask : BitVec 8) (t : Tick) (hlen : m.chans.length = 8) :
    (∀ c, c < 8 → mask.getLsbD c = true → tst (m.rd spIllum (chanOff c 0)) 15 = false →
      ((m.captureStrobe mask false t).chan c).level = false ∧ ((m.captureStrobe mask false t).chan c).src = false) ∧
    (∀ c, c < 8 → mask.getLsbD c = false → (m.captureStrobe mask false t).chan c = m.chan c) := by
  refine ⟨fun c hc hmask hctl => ?_, fun c hc hmask => ?_⟩
  · obtain ⟨a, ha, heq⟩ := Chip.captureStrobe_at (m := m) mask false t hc
    rw [heq, if_pos (by simp [hmask, hctl])]
    exact Chip.strobeDrive_low t hc (by rw [ha.length, hlen]; exact hc)
  · obtain ⟨a, ha, heq⟩ := Chip.captureStrobe_at (m := m) mask false t hc
    rw [heq, if_neg (by simp [hmask]), ha.chan]

/-- A capture's rising edge takes the masked channels high that are low and free, and no other. -/
theorem captureStrobe_rise {m : Chip} (mask : BitVec 8) (t : Tick) (hlen : m.chans.length = 8)
    (hdark : ∀ k, m.cc.cap = some k → k.dark = false) :
    (∀ c, c < 8 → mask.getLsbD c = true → tst (m.rd spIllum (chanOff c 0)) 15 = false → m.fltHolds c = false →
      (m.chan c).src = false → (m.chan c).level = false →
      ((m.captureStrobe mask true t).chan c).level = true ∧ ((m.captureStrobe mask true t).chan c).rise = t) ∧
    (∀ c, c < 8 → mask.getLsbD c = false → (m.captureStrobe mask true t).chan c = m.chan c) := by
  have hany : m.cc.cap.any (·.dark) = false := by
    cases hcap : m.cc.cap with
    | none => rfl
    | some k => exact hdark k hcap
  refine ⟨fun c hc hmask hctl hflt hsrc hlow => ?_, fun c hc hmask => ?_⟩
  · obtain ⟨a, ha, heq⟩ := Chip.captureStrobe_at (m := m) mask true t hc
    rw [heq, if_pos (by simp [hmask, hctl, hany])]
    exact Chip.strobeDrive_high t hc (by rw [ha.length, hlen]; exact hc) (ha.fltHolds.trans hflt)
      (by rw [ha.chan]; exact hsrc) (by rw [ha.chan]; exact hlow)
  · obtain ⟨a, ha, heq⟩ := Chip.captureStrobe_at (m := m) mask true t hc
    rw [heq, if_neg (by simp [hmask]), ha.chan]

/-! ## The other actions -/

/-- An ISET action loads the DACs of its stratum's channels that no regulator holds, and no other. -/
theorem isetApply_chan {m : Chip} (c : Capture) (k : Nat) (hlen : m.chans.length = 8) :
    (∀ i, i < 8 → (c.strbMask k).getLsbD i = true → (c.regMask k).getLsbD i = false →
      ((m.isetApply c k).chan i).dac = (c.word (0x38 + 0x10 * k + i)).setWidth 10) ∧
    (∀ i, i < 8 → (c.strbMask k).getLsbD i = false → (m.isetApply c k).chan i = m.chan i) := by
  have hat (i : Nat) (hi : i < 8) := ChanSame.foldl_at (m := m) (c := i)
    (f := fun m i => if (c.strbMask k).getLsbD i then
      let reg := (c.regMask k).getLsbD i && c.regAct.getLsbD i && (m.chan i).act
      m.mapChan i (fun x =>
        { x with dac := if reg then x.reg else (c.word (0x38 + 0x10 * k + i)).setWidth 10, waiting := false }) else m)
    (fun m d _ hd => .ite ((ChanSame.refl i m).mapChan hd) (.refl i m)) hi
  refine ⟨fun i hi hmask hreg => ?_, fun i hi hmask => ?_⟩
  · obtain ⟨a, ha, hlast⟩ := hat i hi
    simp only [hmask, hreg, if_true, Bool.false_and, Bool.false_eq_true, if_false] at hlast
    rw [Chip.isetApply, hlast.chan, Chip.chan_mapChan_same _ (by rw [ha.length, hlen]; exact hi)]
  · obtain ⟨a, ha, hlast⟩ := hat i hi
    simp only [hmask, Bool.false_eq_true, if_false] at hlast
    rw [Chip.isetApply, hlast.chan, ha.chan]

/-- An ISET action changes the channels only. -/
theorem Chip.isetApply_parts (m : Chip) (c : Capture) (k : Nat) : ∃ l, m.isetApply c k = { m with chans := l } := by
  have hfold (l : List Nat) (m : Chip) (f : Chip → Nat → Chip) (hf : ∀ m i, ∃ l, f m i = { m with chans := l }) :
      ∃ x, l.foldl f m = { m with chans := x } := by
    induction l generalizing m with
    | nil => exact ⟨m.chans, rfl⟩
    | cons i r ih =>
      obtain ⟨x, hx⟩ := hf m i
      obtain ⟨y, hy⟩ := ih (f m i)
      exact ⟨y, by rw [List.foldl_cons, hy, hx]⟩
  refine hfold _ m _ fun m i => ?_
  split
  · exact ⟨_, rfl⟩
  · exact ⟨m.chans, rfl⟩

/-- An HKT action makes its slot's request due after the slot's delay. -/
theorem slotEvent_due {m : Chip} {sl : Nat} (t : Tick) (hs : sl < 8) (hreqs : m.hkc.reqs.length = 8)
    (hsrc : m.slotSrc sl = 6) (hen : tst (m.rd spHkc (slotOff sl 0)) 15 = true) (hon : m.slotsOn = true)
    (hrst : tst (m.rd 0 0x12) 1 = false) (hfree : m.slotReq sl = none) :
    ((m.targetEvent 6 sl t).slotReq sl).map (·.due) =
      some (t + BitVec.ofNat 64 (max (m.rd spHkc (slotOff sl 2)).toNat 2)) ∧
    (∀ i, i ≠ sl → (m.targetEvent 6 sl t).slotReq i = m.slotReq i) ∧
    ∃ k, m.targetEvent 6 sl t = { m with hkc := k } := by
  have hleast : (if fld (m.rd spHkc (slotOff sl 1)) 12 4 = 8 then 4 else 2) = 2 := by
    rw [show fld (m.rd spHkc (slotOff sl 1)) 12 4 = 6 from hsrc]
    rfl
  have heq : m.targetEvent 6 sl t = m.setReq sl (some
      { due := t + BitVec.ofNat 64 (max (m.rd spHkc (slotOff sl 2)).toNat 2)
        ch := fld (m.rd spHkc (slotOff sl 0)) 8 4
        prio := fld (m.rd spHkc (slotOff sl 0)) 5 3
        drop := tst (m.rd spHkc (slotOff sl 0)) 14
        qen := tst (m.rd spHkc (slotOff sl 0)) 13
        waited := false }) := by
    rw [Chip.targetEvent, if_pos hsrc, Chip.slotEvent]
    simp only [hen, hon, hrst, hfree, hleast, Bool.and_self, if_true, Bool.false_eq_true, if_false]
  rw [heq]
  refine ⟨?_, fun i hi => ?_, _, rfl⟩
  · rw [Chip.slotReq, Chip.setReq, getD_upd_same _ _ (hreqs ▸ hs)]
    rfl
  · simp [Chip.slotReq, Chip.setReq, upd, List.getD_eq_getElem?_getD, Ne.symm hi]

/-- A PIN action drives its latch, alone in its cycle. -/
theorem drivePin_alone {m : Chip} (n op : Nat) (hf : m.fsel n = 1) (hd : m.cyc.drives = []) :
    (m.drivePin 40 n op).pins.out = (if op = 1 then m.pins.out ||| BitVec.ofNat 32 (2 ^ n)
      else if op = 2 then m.pins.out &&& ~~~BitVec.ofNat 32 (2 ^ n) else m.pins.out ^^^ BitVec.ofNat 32 (2 ^ n)) ∧
    (m.drivePin 40 n op).loam = m.loam ∧ (m.drivePin 40 n op).regs = m.regs ∧ (m.drivePin 40 n op).cc = m.cc := by
  rw [Chip.drivePin, if_pos hf]
  refine ⟨?_, rfl, rfl, rfl⟩
  rw [Chip.driveOut_first _ _ _ _ _ hd]
  by_cases h1 : op = 1
  · have h2 : op ≠ 2 := by omega
    simp only [if_pos h1, if_neg h2, if_pos (Or.inl h1 : op = 1 ∨ op = 2), BitVec.ofNat_eq_ofNat, BitVec.not_zero,
      BitVec.and_allOnes, BitVec.xor_zero]
  · by_cases h2 : op = 2
    · simp only [if_neg h1, if_pos h2, if_pos (Or.inr h2 : op = 1 ∨ op = 2), BitVec.ofNat_eq_ofNat,
        BitVec.or_zero, BitVec.xor_zero]
    · simp only [if_neg h1, if_neg h2, if_neg (not_or.2 ⟨h1, h2⟩), BitVec.ofNat_eq_ofNat, BitVec.not_zero,
        BitVec.and_allOnes, BitVec.or_zero]

/-- Settles O42: each queued action does its work at its tick, and Loam is looked at again. -/
theorem queuedActions : Obligations.QueuedActions := by
  unfold Obligations.QueuedActions
  refine ⟨fun s a => ⟨exec_stratumOpen, exec_stratumClose, exec_strbEdge, fun c => exec_isetApply, exec_pinAction,
    exec_hktAction⟩, ⟨fun s a c => answers_stratumOpen, fun s a c x => answers_stratumClose,
    fun s c k x => answers_stratumMaxClose⟩, fun s a hshape => ⟨?fall, ?rise, ?iset, ?pin, ?hkt⟩⟩
  case fall =>
    rintro ⟨hdue, hwait⟩ hrise
    have hexec := exec_strbEdge hdue
    have honly := onlyStrobes_captureStrobe (s.chip.takeAction a) a.mask a.rise a.tick
    have hchans := captureStrobe_fall (m := s.chip.takeAction a) a.mask a.tick hshape.1
    rw [hrise] at hexec honly
    obtain ⟨r, y, k, l, heq, -⟩ := onlyStrobes_iff.1 honly
    generalize (s.chip.takeAction a).captureStrobe a.mask false a.tick = t at hexec hchans heq
    refine answers_action hexec (by rw [heq]; exact hwait) ⟨hchans.1, hchans.2, ?_⟩
    rw [heq]
    exact ⟨rfl, rfl, rfl⟩
  case rise =>
    rintro ⟨hdue, hwait⟩ hrise hdark
    have hexec := exec_strbEdge hdue
    have honly := onlyStrobes_captureStrobe (s.chip.takeAction a) a.mask a.rise a.tick
    have hchans := captureStrobe_rise (m := s.chip.takeAction a) a.mask a.tick hshape.1 hdark
    rw [hrise] at hexec honly
    obtain ⟨r, y, k, l, heq, -⟩ := onlyStrobes_iff.1 honly
    generalize (s.chip.takeAction a).captureStrobe a.mask true a.tick = t at hexec hchans heq
    refine answers_action hexec (by rw [heq]; exact hwait) ⟨hchans.1, hchans.2, ?_⟩
    rw [heq]
    exact ⟨rfl, rfl, rfl⟩
  case iset =>
    rintro c ⟨hdue, hwait⟩ hc
    have hchans := isetApply_chan (m := s.chip.takeAction a) c a.arg hshape.1
    obtain ⟨l, heq⟩ := (s.chip.takeAction a).isetApply_parts c a.arg
    refine answers_action (exec_isetApply hdue hc) (by rw [heq]; exact hwait) ⟨hchans.1, hchans.2, ?_⟩
    rw [heq]
    exact ⟨rfl, rfl, rfl⟩
  case pin =>
    rintro ⟨hdue, hwait⟩ hf hd
    obtain ⟨hout, hloam, hregs, hcc⟩ := drivePin_alone (m := s.chip.takeAction a) a.arg a.op hf hd
    exact answers_action (exec_pinAction hdue) (by rw [hloam]; exact hwait) ⟨hout, hloam, hregs, hcc⟩
  case hkt =>
    rintro ⟨hdue, hwait⟩ ha hsrc hen hon hrst hfree
    obtain ⟨hdue', hothers, k, heq⟩ := slotEvent_due (m := s.chip.takeAction a) a.tick ha hshape.2.1 hsrc hen hon hrst hfree
    refine answers_action (exec_hktAction hdue) (by rw [heq]; exact hwait) ⟨hdue', hothers, ?_⟩
    rw [heq]
    exact ⟨rfl, rfl, rfl⟩

end Sys2Proof.Machine

end


section
/-! PROOFS. The row engine, refuted, and Loam's debug commands. -/

namespace Sys2Proof.Machine

-- The proofs are many and short: one after the other they need few threads.
set_option Elab.async false

/-! ## The row engine (O43) -/

/-- A capture with one window of 64 columns and the rows 100 and 101, row 100 of stratum 0 to be read. -/
def narrowCapture : Capture :=
  { ctx := 0, fn := 1,
    words := [(key spCtx 0, 0x1000), (key spCtx 0x11, 64), (key spCtx 0x12, 100), (key spCtx 0x13, 2)],
    pipe := [], cal := [], regAct := 0, opened := none, lastClose := none, closed := 0, todo := [⟨0, 100⟩], read := 1, converted := 0,
    pausedPool := false, pausedPace := false, illum := 0, supply := false, aborted := false, user := 0, strips := [],
    dark := false, vacant := [], tests := [], double := false, lastRow := none, stop := false, left := false,
    white := false, inline := true }

/-- The in-line frame of that capture. -/
def narrowFrame : PFrame :=
  { src := 0, id := 0, fn := 1, prof := 0, pipe := [], words := [], depth := 0, rgb := false, inline := true, start := 0,
    rows := [], next := [], asked := false, ended := false, partial_ := false, lost := false, illum := 0, cal := [],
    img := none, stat := none, seeded := List.replicate 4 false, lumBl := List.replicate 4 none, white := false }

/-- A chip in RUN that reads that capture's row. -/
def narrowState : State :=
  { pending := []
    chip := { Chip.reset with
      pw := { Power.reset with core := true, array := true }
      cc := { CaptureCtl.reset with cap := some narrowCapture }
      pipe := { Pipe.reset with frames := [narrowFrame] } } }

/-- The row's work is its window's 64 values; a whole row holds 5184. -/
theorem narrow_left : (narrowState.chip.readRow []).pipe.inline.map PRow.left = [64] := by decide +kernel

theorem narrow_values : (narrowState.chip.rowValues narrowCapture []).length = 5184 := by decide +kernel

theorem narrow_advance : (narrowState.chip.readRow []).loam.wait = none := by decide +kernel

/-- Refutes O43: a row that the row engine hands over has the work of its windows left (R435), 64 values in this capture,
and not one for each of the 5184 values of the whole row. -/
theorem not_rowEngine : ¬Obligations.RowEngine := by
  unfold Obligations.RowEngine
  rintro ⟨hrow, -⟩
  obtain ⟨hexec, hanswers⟩ := hrow narrowState narrowCapture ⟨0, 100⟩ [] narrowFrame [] rfl rfl rfl rfl rfl rfl
    (by decide +kernel) (by decide)
  obtain ⟨t, ht, -, -, -, hinline, -⟩ := hanswers rfl (by decide) (fun g => rfl) (by decide +kernel) rfl rfl
  rw [hexec, Chip.advanceLoam_of_none narrow_advance] at ht
  cases ht
  have hleft : (narrowState.chip.readRow []).pipe.inline.map PRow.left =
      [(narrowState.chip.rowValues narrowCapture []).length] := congrArg (List.map PRow.left) hinline
  rw [narrow_left, narrow_values] at hleft
  exact absurd hleft (by decide)

/-! ## The debug commands (O44) -/

theorem reaches_core {s : State} {a : Nat} (h : s.reaches 0 a) (ha : 0x10 ≤ a ∧ a ≠ 0x39 ∧ a ≠ 0x3A) :
    s.chip.pw.core = true := by
  have ho := h.2
  simp only [Chip.owned, if_neg (Nat.not_lt.2 ha.1), if_neg ha.2.1, if_neg ha.2.2, Chip.coreOn, Bool.and_eq_true] at ho
  exact ho.1.1.2

/-- What decides a breakpoint is as it was. -/
theorem Chip.atBreak_congr {m t : Chip} (hl : t.loam = m.loam)
    (hr : ∀ i, i < 4 → t.rd spLoam (0x3008 + i) = m.rd spLoam (0x3008 + i)) : t.atBreak = m.atBreak := by
  unfold Chip.atBreak
  rw [hl]
  congr 1
  simp only [show List.range 4 = [0, 1, 2, 3] from rfl, List.any_cons, List.any_nil, hr 0 (by decide), hr 1 (by decide),
    hr 2 (by decide), hr 3 (by decide)]

/-- The host's write of LOAMCTL before its command: the word alone, with HMODE as written. -/
theorem loamctl_written (s : State) (v : Word) :
    OnlyThese s.chip (s.host.plainWrite 0 0x32 v) [(0, 0x32)] ∧
    tst ((s.host.plainWrite 0 0x32 v).rd 0 0x32) 12 = tst v 12 := by
  refine ⟨(onlyThese_host s _).plainWrite v (by decide), ?_⟩
  rw [Chip.rd_plainWrite_merge _ v (r := (regRow 0 0x32).get (by decide)) (by decide) (by decide), tst_merge _ _ _ (by decide)]
  exact if_pos (by decide)

/-- The command bits of LOAMCTL, one at a time. -/
theorem writeLoamctl_one {m : Chip} {v : Word} (cause : Nat)
    (h : ¬1 < b2n (tst v 15) + b2n (tst v 14) + b2n (tst v 13)) :
    m.writeLoamctl v cause = if tst v 15 then (m.plainWrite 0 0x32 v).askHalt cause
      else if tst v 14 then (m.plainWrite 0 0x32 v).resumeLoam
      else if tst v 13 then (m.plainWrite 0 0x32 v).stepLoam else m.plainWrite 0 0x32 v := if_neg h

/-- A halt that the host asks for, with HMODE 1, of a Loam that executes and waits for nothing. -/
theorem answers_halt {s : State} {v : Word} (hr : s.reaches 0 0x32) (h15 : tst v 15 = true) (h14 : tst v 14 = false)
    (h13 : tst v 13 = false) (h12 : tst v 12 = true) (hh : s.chip.loam.halted = false) (hw : s.chip.loam.wait = none)
    {cause : Nat}
    (hcause : cause = if s.chip.loam.running && s.chip.cc.cap.isSome && s.chip.atBreak then 3 else 1) :
    Answers (.halt v) s (fun t =>
      t.loam = { s.chip.loam with halted := true, hcause := cause, stepping := false, haltPend := 0 } ∧
      tst (t.rd 0 0x13) 5 = true ∧ t.cc = s.chip.cc ∧ WordsKept s.chip t [(0, 0x32), (0, 0x13)]) := by
  obtain ⟨⟨heq, hwords⟩, hmode⟩ := loamctl_written s v
  refine answers_hostWrite (f := (·.writeLoamctl v 1)) rfl hr ?_
  rw [writeLoamctl_one 1 (by simp [h15, h14, h13, b2n]), if_pos h15]
  have hbreak : (s.host.plainWrite 0 0x32 v).atBreak = s.chip.atBreak :=
    Chip.atBreak_congr heq.loam fun i hi => hwords.rd (by
      intro w hm
      obtain rfl := List.mem_singleton.1 hm
      unfold key spLoam
      omega)
  have hcore : (s.host.plainWrite 0 0x32 v).pw.core = true := by
    rw [heq]
    exact reaches_core hr (by decide)
  have hloam := heq.loam
  have hcc := heq.cc
  generalize s.host.plainWrite 0 0x32 v = m at *
  have hask : m.askHalt 1 = m.haltNow cause := by
    unfold Chip.askHalt
    simp only [hloam, hh, hw, hcc, hbreak, hcause, Bool.false_eq_true, if_false]
  rw [hask]
  obtain ⟨hl, hbit, hc, hk⟩ := haltNow_keeps cause hcore (hmode.trans h12)
  refine ⟨hl.trans ?_, hbit, hc.trans hcc, fun k hkey => ?_⟩
  · rw [hloam, ← hw]
  · exact (hk k fun w hm => hkey w (List.mem_cons_of_mem _ hm)).trans
      (hwords k fun w hm => hkey w (List.mem_cons.2 (.inl (List.mem_singleton.1 hm))))

/-- More than one command bit discards the write. -/
theorem writeLoamctl_many {m : Chip} {v : Word} (cause : Nat)
    (h : 1 < b2n (tst v 15) + b2n (tst v 14) + b2n (tst v 13)) : m.writeLoamctl v cause = m := if_pos h

/-- RESUME lets a halted Loam go on. -/
theorem answers_resume {s : State} {v : Word} (hr : s.reaches 0 0x32) (h15 : tst v 15 = false) (h14 : tst v 14 = true)
    (h13 : tst v 13 = false) (hh : s.chip.loam.halted = true) (hs : s.chip.cc.susp = []) :
    Answers (.resume v) s (fun t => t.loam = { s.chip.loam with halted := false, skipBp := true } ∧ t.cc = s.chip.cc ∧
      WordsKept s.chip t [(0, 0x32)]) := by
  obtain ⟨⟨heq, hwords⟩, -⟩ := loamctl_written s v
  refine answers_hostWrite (f := (·.writeLoamctl v 1)) rfl hr ?_
  rw [writeLoamctl_one 1 (by simp [h15, h14, h13, b2n]), if_neg (ne_true_of_eq_false h15), if_pos h14]
  have hloam := heq.loam
  have hcc := heq.cc
  generalize s.host.plainWrite 0 0x32 v = m at *
  have hres : m.resumeLoam = { m with loam := { m.loam with halted := false, skipBp := true } } := by
    rw [Chip.resumeLoam, hloam, if_pos hh, Chip.resumeSuspended]
    simp only [hcc, hs]
  rw [hres]
  exact ⟨by rw [← hloam]; rfl, hcc, hwords⟩

/-- STEP of a halted Loam: one instruction, or with no capture a halt with cause 6. -/
theorem answers_step {s : State} {v : Word} (hr : s.reaches 0 0x32) (h15 : tst v 15 = false) (h14 : tst v 14 = false)
    (h13 : tst v 13 = true) (hh : s.chip.loam.halted = true) :
    (s.chip.cc.cap.isSome = true →
      Answers (.step v) s (fun t => t.loam = { s.chip.loam with halted := false, skipBp := true, stepping := true } ∧
        t.cc = s.chip.cc ∧ WordsKept s.chip t [(0, 0x32)])) ∧
    (s.chip.cc.cap = none →
      Answers (.step v) s (fun t => t.loam = { s.chip.loam with hcause := 6 } ∧ tst (t.rd 0 0x13) 5 = true ∧
        t.cc = s.chip.cc ∧ WordsKept s.chip t [(0, 0x32), (0, 0x13)])) := by
  obtain ⟨⟨heq, hwords⟩, -⟩ := loamctl_written s v
  have hstep : exec (.step v) s = done s (s.host.plainWrite 0 0x32 v).stepLoam := by
    refine (hostWrite_on s 0 0x32 (·.writeLoamctl v 1) hr.1 hr.2).trans ?_
    rw [writeLoamctl_one 1 (by simp [h15, h14, h13, b2n]), if_neg (ne_true_of_eq_false h15),
      if_neg (ne_true_of_eq_false h14), if_pos h13]
    rfl
  have hcore : (s.host.plainWrite 0 0x32 v).pw.core = true := by
    rw [heq]
    exact reaches_core hr (by decide)
  have hloam := heq.loam
  have hcc := heq.cc
  generalize s.host.plainWrite 0 0x32 v = m at *
  refine ⟨fun hc => ?_, fun hc => ?_⟩
  · refine answers_of_done hstep ?_
    rw [Chip.stepLoam, hloam, if_pos hh, hcc, if_pos hc]
    exact ⟨rfl, rfl, hwords⟩
  · refine answers_of_done hstep ?_
    rw [Chip.stepLoam, hloam, if_pos hh, hcc, if_neg (by simp [hc])]
    refine ⟨Chip.raise_loam _ _, tst_raise evLoamHalt (by exact hcore), Chip.raise_cc _ _, ?_⟩
    rw [Chip.raise_on _ _ (by exact hcore)]
    exact WordsKept.orBits (m := s.chip) (fun k hk => hwords k fun w hm => hk w (List.mem_cons.2
      (.inl (List.mem_singleton.1 hm)))) _ (by decide)

/-- A breakpoint that is met halts Loam (R262). -/
theorem exec_breakpointHit {s : State} (hcore : s.chip.pw.core = true) (hrun : s.chip.loam.running = true)
    (hh : s.chip.loam.halted = false) (hw : s.chip.loam.wait = none) (hc : s.chip.cc.cap.isSome = true)
    (hb : s.chip.atBreak = true) : exec .breakpointHit s = done s (s.chip.haltNow 3) := by
  simp only [exec, execBreakpointHit, guarded, hcore, hrun, hh, hw, hc, hb]
  rfl

theorem Keeps.cap_isSome {o m : Chip} {lv : Level} (h : Keeps lv o m)
    (hlv : ∀ x : CaptureCtl, lv.capture x CaptureCtl.reset = x := by exact fun _ => rfl) :
    m.cc.cap.isSome = o.cc.cap.isSome := by
  have hcc : lv.capture _ _ = lv.capture _ _ := h.part Chip.cc
  rw [hlv, hlv] at hcc
  have hcap := congrArg (fun x => x.cap.isSome) hcc
  simpa using hcap

/-- A fault of Loam ends the capture (R255). -/
theorem ended_faultAt {m : Chip} (code addr : Nat) (hc : m.cc.cap.isSome = true) (hs : m.cc.susp = []) :
    (m.faultAt code addr).ended := by
  unfold Chip.faultAt
  extract_lets m1 m2 cause _ m3 _ m4
  have h2 : Keeps .post m m2 := (Keeps.refl .post m).wr.fault
  have hcap : m2.cc.cap.isSome = true := h2.cap_isSome.trans hc
  have hsusp : m2.cc.susp = [] := (h2.part (·.cc.susp)).trans hs
  clear_value m2 cause
  have hcc : m4.cc = m2.cc := cc_ite rfl (Chip.raise_cc _ _)
  exact ended_abortCapture (hcc ▸ hcap) (hcc ▸ hsusp)

/-- The watchdog that runs out is a fault. -/
theorem exec_loamWatchdog {s : State} (hcore : s.chip.pw.core = true) (hrun : s.chip.loam.running = true)
    (hh : s.chip.loam.halted = false) (hc : s.chip.cc.cap.isSome = true) (hne : s.chip.rd spLoam 0x3002 ≠ 0)
    (hlate : 100000 * (s.chip.rd spLoam 0x3002).toNat < s.chip.loam.watch) :
    exec .loamWatchdog s = done s (s.chip.loamFault 0x07) := by
  have hnat : (s.chip.rd spLoam 0x3002).toNat ≠ 0 := fun h => hne (BitVec.eq_of_toNat_eq h)
  simp only [exec, execLoamWatchdog, guarded, hcore, hrun, hh, hc]
  rw [if_pos (by simp [hnat, hlate])]

/-- A program word is written while Loam executes no program of the RAM, and PRGLIM is 0 then. -/
theorem answers_program {s : State} {off : Nat} (v : Word) (hoff : off < 0x2000) (ho : s.opens spLoam off) :
    ((s.chip.loam.running && !s.chip.loam.rom && !s.chip.loam.halted) = false →
      Answers (.programRamWrite off v) s (fun t => t.rd spLoam off = v ∧ t.rd spLoam 0x3001 = 0 ∧
        OnlyThese s.chip t [(spLoam, off), (spLoam, 0x3001)])) ∧
    ((s.chip.loam.running && !s.chip.loam.rom && !s.chip.loam.halted) = true →
      Answers (.programRamWrite off v) s (fun t => t.rd spLoam 0x3000 = s.chip.rd spLoam 0x3000 ||| 0x8000 ∧
        OnlyThese s.chip t [(spLoam, 0x3000)])) := by
  have hexec : exec (.programRamWrite off v) s = done s (s.host.writeProgram off v) := by
    refine (if_pos hoff : execProgramRamWrite off v s = _).trans ((hostWindow_opens s spLoam off v ho).trans ?_)
    have hspace : s.host.writeSpace spLoam off v = s.host.writeProgram off v := if_pos hoff
    rw [hspace]
  refine ⟨fun hrun => ?_, fun hrun => ?_⟩
  · refine answers_of_done hexec ?_
    have hw : s.host.writeProgram off v = (s.host.wr spLoam off v).wr spLoam 0x3001 0 :=
      if_neg (ne_true_of_eq_false hrun)
    have hne : key spLoam off ≠ key spLoam 0x3001 := by
      unfold key
      omega
    rw [hw]
    refine ⟨?_, ?_, ?_⟩
    · rw [Chip.rd_settle, Chip.rd_wr, if_neg hne, Chip.rd_wr, if_pos rfl]
    · rw [Chip.rd_settle, Chip.rd_wr, if_pos rfl]
    · exact .settle (.wr (.wr (onlyThese_host s _) _ (by simp)) _ (by simp))
  · refine answers_of_done hexec ?_
    have hw : s.host.writeProgram off v = s.host.orBits spLoam 0x3000 0x8000 := if_pos hrun
    rw [hw]
    exact ⟨by rw [Chip.rd_settle, Chip.rd_orBits, if_pos rfl]; rfl, .settle (.orBits (onlyThese_host s _) _ (by simp))⟩

/-- Where Loam cannot issue, or another instruction stands at the program counter, a command of Loam changes nothing. -/
theorem unchanged_issue {c : Instr} {s : State} {op : Nat} {f : Nat → Chip → Chip} (h : exec c s = issue s op f)
    (hn : s.chip.mayIssue = false ∨ (s.chip.outside = false ∧ iOp s.chip.fetch ≠ op)) :
    Answers c s (Unchanged s.chip) := by
  have hno : (s.chip.mayIssue && (s.chip.outside || iOp s.chip.fetch == op)) = false := by
    rcases hn with hn | ⟨hout, hop⟩
    · simp [hn]
    · simp [hout, hop]
  refine answers_of_done (m := s.chip) ?_ rfl
  rw [h, issue, guarded, hno]
  rfl

/-- Every command of Loam issues its opcode. -/
theorem loamTable_issues (s : State) : ∀ p ∈ loamTable, ∃ f, exec p.1 s = issue s p.2 f := by
  simp only [loamTable, List.forall_mem_cons]
  exact ⟨⟨_, (rfl : execLoamNop s = _)⟩, ⟨_, (rfl : execLoamEnd s = _)⟩, ⟨_, (rfl : execLoamJmp s = _)⟩,
    ⟨_, (rfl : execLoamJz s = _)⟩, ⟨_, (rfl : execLoamJnz s = _)⟩, ⟨_, (rfl : execLoamDjnz s = _)⟩,
    ⟨_, (rfl : execLoamCall s = _)⟩, ⟨_, (rfl : execLoamRet s = _)⟩, ⟨_, (rfl : execLoamLdi s = _)⟩,
    ⟨_, (rfl : execLoamLdih s = _)⟩, ⟨_, (rfl : execLoamLdc s = _)⟩, ⟨_, (rfl : execLoamAlu s = _)⟩,
    ⟨_, (rfl : execLoamAddi s = _)⟩, ⟨_, (rfl : execLoamJlt s = _)⟩, ⟨_, (rfl : execLoamGet s = _)⟩,
    ⟨_, (rfl : execLoamMem s = _)⟩, ⟨_, (rfl : execLoamWaitt s = _)⟩, ⟨_, (rfl : execLoamWaite s = _)⟩,
    ⟨_, (rfl : execLoamBase s = _)⟩, ⟨_, (rfl : execLoamStr s = _)⟩, ⟨_, (rfl : execLoamOpen s = _)⟩,
    ⟨_, (rfl : execLoamClose s = _)⟩, ⟨_, (rfl : execLoamStrb s = _)⟩, ⟨_, (rfl : execLoamIsetl s = _)⟩,
    ⟨_, (rfl : execLoamHkt s = _)⟩, ⟨_, (rfl : execLoamPin s = _)⟩, ⟨_, (rfl : execLoamReadp s = _)⟩,
    ⟨_, (rfl : execLoamReadb s = _)⟩, ⟨_, (rfl : execLoamDrain s = _)⟩, ⟨_, (rfl : execLoamEmit s = _)⟩,
    ⟨_, (rfl : execLoamFlag s = _)⟩, ⟨_, (rfl : execLoamBreak s = _)⟩,
    fun p hp => absurd hp List.not_mem_nil⟩

/-- Settles O44: the commands of LOAMCTL, breakpoints, the watchdog and program writes, each from its rule. -/
theorem loamDebug : Obligations.LoamDebug := by
  unfold Obligations.LoamDebug
  refine ⟨⟨fun s v hr => ⟨?many, ?halt, ?resume, ?step⟩, ?haltBreak, ?breakpoint, ?breakpointKeeps, ?watchdog⟩,
    fun s off v => answers_program v, fun p hp s hn => ?idle⟩
  case many =>
    intro h
    have hmany (c : Instr) (hexec : exec c s = hostWrite s 0 0x32 (·.writeLoamctl v 1)) :
        Answers c s (Unchanged s.chip) := by
      refine answers_hostWrite hexec hr ?_
      rw [writeLoamctl_many 1 h]
      rfl
    exact ⟨hmany _ rfl, hmany _ rfl, hmany _ rfl⟩
  case halt =>
    intro h15 h14 h13 h12 hh hw hno
    exact answers_halt hr h15 h14 h13 h12 hh hw (by rw [hno]; rfl)
  case resume => exact answers_resume hr
  case step => exact answers_step hr
  case haltBreak =>
    intro s v hr h15 h14 h13 h12 hrun hh hw hc hb
    obtain ⟨t, ht, hp, hl, -⟩ := answers_halt (cause := 3) hr h15 h14 h13 h12 hh hw (by rw [hrun, hc, hb]; rfl)
    exact ⟨t, ht, hp, hl⟩
  case breakpoint => exact fun s hcore hrun hh hw hc hb => exec_breakpointHit hcore hrun hh hw hc hb
  case breakpointKeeps =>
    intro s hcore hrun hh hw hc hb h12
    obtain ⟨hl, hbit, hcc, hk⟩ := haltNow_keeps (m := s.chip) 3 hcore h12
    refine answers_of_done (exec_breakpointHit hcore hrun hh hw hc hb) ⟨hl.trans ?_, hbit, hcc, hk⟩
    rw [← hw]
  case watchdog =>
    intro s hcore hrun hh hc hne hlate
    have hexec := exec_loamWatchdog hcore hrun hh hc hne hlate
    refine ⟨hexec, fun hs => answers_of_done hexec ?_⟩
    obtain ⟨hcap, -, hstop, -⟩ := ended_faultAt 0x07 s.chip.loam.pc hc hs
    exact ⟨hcap, hstop⟩
  case idle =>
    obtain ⟨f, hf⟩ := loamTable_issues s p hp
    exact unchanged_issue hf hn

end Sys2Proof.Machine

end


section
/-! PROOFS. Triggers, and the captures that they start: the checks of a context, triggers that wait, and the start. -/

namespace Sys2Proof.Machine

-- The proofs are many and short: one after the other they need few threads.
set_option Elab.async false

/-! ## The start of a capture (O31) -/

/-- The check of a context reads the words alone. -/
theorem Chip.armCheck_congr {m t : Chip} (b : Bank) (h : t.regs = m.regs) : t.armCheck b = m.armCheck b := by
  have hwords (x : Chip) : x.armCheck b = Chip.armCheck { Chip.reset with regs := x.regs } b := rfl
  rw [hwords t, hwords m, h]

theorem Chip.latchCtx_congr {m t : Chip} (k : Nat) (h : t.regs = m.regs) : t.latchCtx k = m.latchCtx k := by
  rw [Chip.latchCtx, Chip.latchCtx, h]

theorem Chip.insrcTake_parts (m : Chip) : ∃ p, m.insrcTake = { m with pipe := p } := by
  unfold Chip.insrcTake
  split
  · exact ⟨m.pipe, rfl⟩
  · exact ⟨_, rfl⟩

theorem Keeps.heldTrig {o m : Chip} (h : Keeps (.wide false) o m) : m.cc.heldTrig = o.cc.heldTrig :=
  h.part (·.cc.heldTrig)

/-- What the start of a capture leaves. -/
def Started (m : Chip) (k : Fin 16) (t : Chip) : Prop :=
  t.cc.frameNum = m.cc.frameNum + 1 ∧ t.cc.lastFn = t.cc.frameNum ∧ t.cc.cap.map (·.ctx) = some k ∧
  t.cc.cap.map (·.fn) = some t.cc.frameNum ∧ t.cc.heldTrig = m.cc.heldTrig ∧ t.loam.running = true ∧
  t.loam.t0 = m.tb.stb + 4

/-- The start of the first frame, of a chip that holds the capture and its Loam. -/
theorem started_frameBegin {m u v t : Chip} {k : Fin 16} {c : Capture} {d : Drift} {l : Loam} (hk : c.ctx = k)
    (hrun : l.running = true) (ht0 : l.t0 = m.tb.stb + 4)
    (hcc : u.cc = { m.cc with cap := some c, drift := d }) (hl : u.loam = l)
    (hv : Keeps (.wide false) u v) (htcc : t.cc = v.cc) (htl : t.loam = v.loam) : Started m k t.frameBegin := by
  have hctx : t.cc.cap.map (·.ctx) = some c.ctx := by
    rw [htcc, hv.cap_map (·.ctx), hcc]
    rfl
  have hnum : t.cc.frameNum = m.cc.frameNum := by rw [htcc, hv.frameNum, hcc]
  have hheld : t.cc.heldTrig = m.cc.heldTrig := by rw [htcc, hv.heldTrig, hcc]
  have hloam : t.loam = l := by rw [htl, hv.loam, hl]
  obtain ⟨c1, hc1, hctx1⟩ := Option.map_eq_some_iff.1 hctx
  obtain ⟨c2, hfn, hctx2, hb⟩ := keeps_frameBegin hc1
  have hn : t.frameBegin.cc.frameNum = m.cc.frameNum + 1 := hb.frameNum.trans (congrArg (· + 1) hnum)
  refine ⟨hn, (hb.lastFn.trans (congrArg (· + 1) hnum)).trans hn.symm, ?_, ?_, hb.heldTrig.trans hheld, ?_, ?_⟩
  · exact (hb.cap_map (·.ctx)).trans (congrArg some (hctx2.trans (hctx1.trans hk)))
  · exact (hb.cap_map (·.fn)).trans (congrArg some (hfn.trans ((congrArg (· + 1) hnum).trans hn.symm)))
  · rw [hb.loam]
    exact (congrArg Loam.running hloam).trans hrun
  · rw [hb.loam]
    exact (congrArg Loam.t0 hloam).trans ht0

theorem Started.of {m u t : Chip} {k : Fin 16} (h : Started u k t) (hcc : u.cc = m.cc) (htb : u.tb = m.tb) :
    Started m k t := by
  rw [Started, hcc, htb] at h
  exact h

/-- A capture whose context passes its check starts. -/
theorem started_startCapture {m : Chip} {k : Fin 16} (white : Bool) (hok : (m.armCheck (m.latchCtx k.val)).1 = 0) :
    Started m k (m.startCapture k white) := by
  obtain ⟨p, hp⟩ := m.insrcTake_parts
  have hregs : m.insrcTake.regs = m.regs := by rw [hp]
  have hcc : m.insrcTake.cc = m.cc := by rw [hp]
  have htb : m.insrcTake.tb = m.tb := by rw [hp]
  rw [← Chip.armCheck_congr _ hregs, ← Chip.latchCtx_congr _ hregs] at hok
  unfold Chip.startCapture
  generalize m.insrcTake = m1 at hok hcc htb
  extract_lets m0 b r m2 act c _ l _ m3 _ _ m4 m5 m6 m7 _ m8
  rw [if_neg (not_not.2 hok)]
  refine Started.of ?_ hcc htb
  by_cases hmode : c.mode = 3
  · have h6 : Keeps (.wide false) m4 m6 := .wr32 (.wr (.refl _ _))
    have h7 : Keeps (.wide false) m4 m7 := by
      unfold m7
      split
      · exact (h6.lowCheck h6.mapStream).peak
      · exact h6
    have h8 : m8 = if tst (c.word 1) 15 then { m7 with pins := { m7.pins with trigOut := true } } else m7 := if_pos hmode
    rw [h8]
    split
    · exact started_frameBegin (c := c) (l := l) rfl rfl rfl rfl rfl h7 rfl rfl
    · exact started_frameBegin (c := c) (l := l) rfl rfl rfl rfl rfl h7 rfl rfl
  · have h8 : m8 = { m1 with loam := l, cc := { m1.cc with cap := some c, drift := Drift.reset } } := if_neg hmode
    rw [h8]
    exact started_frameBegin (c := c) (l := l) rfl rfl rfl rfl rfl (.refl _ _) rfl rfl

/-- Of a fold's elements only one does anything. -/
theorem foldl_single {α β : Type} {l : List α} {k : α} {f : β → α → β} (hl : l.Nodup) (hk : k ∈ l)
    (hf : ∀ b, ∀ a ∈ l, a ≠ k → f b a = b) (b : β) : l.foldl f b = f b k := by
  induction l generalizing b with
  | nil => exact absurd hk List.not_mem_nil
  | cons a r ih =>
    obtain ⟨ha, hr⟩ := List.nodup_cons.1 hl
    by_cases hak : a = k
    · subst hak
      have hnone (b : β) : r.foldl f b = b := by
        refine List.foldlRecOn r f (motive := (· = b)) rfl fun b' hb' x hx => ?_
        rw [hb', hf b x (List.mem_cons_of_mem _ hx) fun h => ha (h ▸ hx)]
      exact hnone _
    · rw [List.foldl_cons, hf b a List.mem_cons_self hak]
      refine ih hr ((List.mem_cons.1 hk).resolve_left (Ne.symm hak)) (fun b x hx => hf b x (List.mem_cons_of_mem _ hx)) b

/-- A mask of one context triggers that context. -/
theorem triggerMask_bit (m : Chip) (src : Nat) (k : Fin 16) :
    (m.triggerMask src (bitW k.val)).1 = (m.triggerFrom src k).1 := by
  have hbit (j : Fin 16) : tst (bitW k.val) j.val = decide (k = j) := by
    rw [tst_bitW, decide_eq_true (by omega : j.val < 16), Bool.true_and]
    exact decide_eq_decide.2 (Fin.ext_iff.symm)
  unfold Chip.triggerMask
  rw [foldl_single (k := k) (List.nodup_finRange 16) (List.mem_finRange k)]
  · simp [hbit]
  · intro b j _ hj
    rw [hbit, if_neg (by simpa using Ne.symm hj)]

theorem triggerMask_zero (m : Chip) (src : Nat) : (m.triggerMask src 0).1 = m := by
  unfold Chip.triggerMask
  have h (l : List (Fin 16)) (a : Chip × Bool) : l.foldl (fun (a : Chip × Bool) k =>
      if tst 0 k.val then ((a.1.triggerFrom src k).1, a.2 || (a.1.triggerFrom src k).2) else a) a = a := by
    induction l generalizing a with
    | nil => rfl
    | cons k r ih =>
      rw [List.foldl_cons, if_neg (by simp [tst]), ih]
  exact congrArg Prod.fst (h _ _)

/-- The chip with the trigger of a context counted in the present cycle. -/
def Chip.marked (m : Chip) (k : Fin 16) : Chip :=
  { m with cyc := { m.cyc with triggered := m.cyc.triggered ||| BitVec.ofNat 16 (2 ^ k.val) } }

/-- A trigger from an enabled source, the first of its context in the cycle. -/
theorem triggerFrom_first {m : Chip} {src : Nat} {k : Fin 16} (hen : tst (m.rd spCtx (0x100 * k.val + 1)) src = true)
    (hfirst : m.cyc.triggered = 0) : m.triggerFrom src k = (m.marked k).trigger k := by
  rw [Chip.triggerFrom, if_pos hen, hfirst, if_neg (by simp)]
  rw [Chip.marked, hfirst]

/-- A trigger of an armed context whose capture is not Continuous and that is not being checked is taken. -/
theorem trigger_taken {m : Chip} {k : Fin 16} (harm : m.armed k.val = true) (hcheck : m.cc.checking = none)
    (hcap : ∀ c, m.cc.cap = some c → c.ctx ≠ k) (hsusp : m.cc.susp = []) :
    m.trigger k = if m.arrayBusy || !m.cc.heldTrig.isEmpty then
      if tst (m.rd spCtx (0x100 * k.val)) 3 || m.cc.heldTrig.any (fun x => x == k) then (m.overrun k.val, true)
      else (Chip.autorun { m with cc := { m.cc with heldTrig := m.cc.heldTrig ++ [k] } }, true)
    else (m.startCapture k false, true) := by
  have hcont : m.cc.cap.any (fun c => c.ctx = k && c.mode == 2) = false := by
    cases hc : m.cc.cap with
    | none => rfl
    | some c => simp [hcap c hc]
  unfold Chip.trigger
  dsimp only
  rw [hcont, harm, hcheck, hsusp]
  rfl

theorem Chip.cap_of_idle {m : Chip} (h : m.arrayBusy = false) : m.cc.cap = none := by
  simp only [Chip.arrayBusy, Chip.capBusy, Bool.or_eq_false_iff, Option.isSome_eq_false_iff, Option.isNone_iff_eq_none] at h
  exact h.1.1.1.1.1

/-- A trigger that finds the array free and no other held starts its capture. -/
theorem started_trigger {m : Chip} {src : Nat} {k : Fin 16} (hen : tst (m.rd spCtx (0x100 * k.val + 1)) src = true)
    (harm : m.armed k.val = true) (hcheck : m.cc.checking = none) (hsusp : m.cc.susp = []) (hidle : m.arrayBusy = false)
    (hheld : m.cc.heldTrig = []) (hfirst : m.cyc.triggered = 0)
    (hok : (m.armCheck (m.latchCtx k.val)).1 = 0) : Started m k (m.triggerFrom src k).1 := by
  have htake := trigger_taken (m := m.marked k) harm hcheck
    (fun c hc => absurd ((Chip.cap_of_idle hidle).symm.trans hc) (by simp)) hsusp
  have hbusy : ¬((m.marked k).arrayBusy || !(m.marked k).cc.heldTrig.isEmpty) = true := by
    rw [show (m.marked k).arrayBusy = m.arrayBusy from rfl, show (m.marked k).cc.heldTrig = m.cc.heldTrig from rfl, hidle,
      hheld]
    simp
  rw [triggerFrom_first hen hfirst, htake, if_neg hbusy]
  exact (started_startCapture (m := m.marked k) false hok).of rfl rfl

/-- The contexts that an edge of a pin triggers, where one context alone names the pin. -/
theorem pinTrigger_mask {m : Chip} {k : Fin 16} {p : Nat} (rising : Bool)
    (hp : ∀ j, j < 16 → (fld (m.rd spCtx (0x100 * j + 1)) 8 5 = p ↔ j = k.val))
    (he : fld (m.rd spCtx (0x100 * k.val + 1)) 13 2 = 0) :
    (List.range 16).foldl (fun w j =>
      let t := m.rd spCtx (0x100 * j + 1)
      let e := fld t 13 2
      if fld t 8 5 = p ∧ (e = 2 ∨ (e = 0 ∧ rising) ∨ (e = 1 ∧ !rising)) then setBit w j true else w) 0 =
      if rising then bitW k.val else 0 := by
  rw [foldl_single (k := k.val) List.nodup_range (List.mem_range.2 k.isLt)]
  · dsimp only
    rw [he]
    cases rising
    · simp
    · simp [(hp k.val k.isLt).2 rfl, setBit]
  · intro w j hj hne
    exact if_neg fun h => hne ((hp j (List.mem_range.1 hj)).1 h.1)

theorem exec_pinTrigger {s : State} {k : Fin 16} {p : Fin 32} (rising : Bool) (hcore : s.chip.pw.core = true)
    (hf : s.chip.fsel p.val = 3) (hp : ∀ j, j < 16 → (fld (s.chip.rd spCtx (0x100 * j + 1)) 8 5 = p.val ↔ j = k.val))
    (he : fld (s.chip.rd spCtx (0x100 * k.val + 1)) 13 2 = 0) :
    exec (.pinTrigger p rising) s =
      done s ((s.chip.begin (100 + p.val)).triggerMask 0 (if rising then bitW k.val else 0)).1 := by
  have hexec : exec (.pinTrigger p rising) s = execPinTrigger p rising s := rfl
  rw [hexec, execPinTrigger]
  simp only [hcore, hf, pinTrigger_mask rising hp he]
  rfl

/-- In a cycle without a trigger the next source finds none either. -/
theorem triggered_begin {m : Chip} (src : Nat) (h : m.cyc.triggered = 0) : (m.begin src).cyc.triggered = 0 := by
  unfold Chip.begin
  dsimp only
  split
  · rfl
  · exact h

/-- Settles O31: a held trigger, and one of the software or a pin, that finds the array free starts its capture. -/
theorem capturesStart : Obligations.CapturesStart := by
  unfold Obligations.CapturesStart
  refine ⟨?release, ?held, ?software, ?pin⟩
  case release =>
    intro s k rest hcore hheld hidle
    refine completes_guarded (m := Chip.startCapture _ k false) ?_ hcore
    show guarded s s.chip.pw.core s.chip.releaseHeld = _
    rw [Chip.releaseHeld, hheld]
    simp only [hidle, Bool.false_eq_true, if_false]
  case held =>
    intro s k rest hcore hheld hidle hok
    have hrel : s.chip.releaseHeld = Chip.startCapture { s.chip with cc := { s.chip.cc with heldTrig := rest } } k false := by
      rw [Chip.releaseHeld, hheld]
      simp only [hidle, Bool.false_eq_true, if_false]
    refine answers_guarded (m := s.chip.releaseHeld) rfl hcore ?_
    rw [hrel]
    exact started_startCapture (m := { s.chip with cc := { s.chip.cc with heldTrig := rest } }) false hok
  case software =>
    intro s k hr hen harm hcheck hsusp hidle hheld hfirst hok
    refine answers_hostWrite (f := fun m => (m.triggerMask 3 (bitW k.val)).1) rfl hr ?_
    rw [triggerMask_bit]
    obtain ⟨hfn, -, hctx, -, -, hrun, ht0⟩ := started_trigger (m := s.host) (src := 3) hen harm hcheck hsusp hidle hheld
      (triggered_begin 0 hfirst) hok
    exact ⟨hfn, hctx, hrun, ht0⟩
  case pin =>
    intro s k p hcore hf hp hen he harm hcheck hsusp hidle hheld hfirst hok
    refine answers_of_done (exec_pinTrigger true hcore hf hp he) ?_
    rw [if_pos rfl, triggerMask_bit]
    obtain ⟨hfn, -, hctx, -, -, hrun, ht0⟩ := started_trigger (m := s.chip.begin (100 + p.val)) (src := 0) hen harm hcheck
      hsusp hidle hheld (triggered_begin _ hfirst) hok
    exact ⟨hfn, hctx, hrun, ht0⟩

/-! ## Triggers that start nothing (O30) -/

/-- A trigger of a context that is not armed counts in its TRGIGN. -/
theorem triggerFrom_ignored {m : Chip} {src : Nat} {k : Fin 16} (hen : tst (m.rd spCtx (0x100 * k.val + 1)) src = true)
    (hfirst : m.cyc.triggered = 0) (harm : m.armed k.val = false) :
    (m.triggerFrom src k).1 = (m.marked k).bump spCtx (0x100 * k.val + 0xA) 1 := by
  rw [triggerFrom_first hen hfirst, Chip.trigger]
  dsimp only
  rw [show (m.marked k).armed k.val = m.armed k.val from rfl, harm]
  rfl

theorem ignored_counts {m o : Chip} {k : Fin 16} (h : OnlyThese o m []) :
    ((m.marked k).bump spCtx (0x100 * k.val + 0xA) 1).settle.rd spCtx (0x100 * k.val + 0xA) =
      satAdd (o.rd spCtx (0x100 * k.val + 0xA)) 1 ∧
    OnlyThese o ((m.marked k).bump spCtx (0x100 * k.val + 0xA) 1).settle [(spCtx, 0x100 * k.val + 0xA)] := by
  refine ⟨?_, .settle (.bump (.cyc (h.mono (List.nil_subset _)) _) _ (by simp))⟩
  rw [Chip.rd_settle, Chip.rd_bump, if_pos rfl]
  exact congrArg (satAdd · 1) (h.2 _ fun w hw => absurd hw List.not_mem_nil)

theorem Chip.autorun_parts (m : Chip) : ∃ p, m.autorun = { m with pw := p } := by
  unfold Chip.autorun
  split
  · exact ⟨_, rfl⟩
  · exact ⟨m.pw, rfl⟩

section
variable {m : Chip} {src : Nat} {k : Fin 16}

/-- While the array is busy a trigger of an armed context is held. -/
theorem triggerFrom_held (hen : tst (m.rd spCtx (0x100 * k.val + 1)) src = true) (hfirst : m.cyc.triggered = 0)
    (harm : m.armed k.val = true) (hcheck : m.cc.checking = none) (hsusp : m.cc.susp = [])
    (hcap : ∀ c, m.cc.cap = some c → c.ctx ≠ k) (hbusy : m.cc.cap.isSome = true) (hnot : k ∉ m.cc.heldTrig)
    (hhold : tst (m.rd spCtx (0x100 * k.val)) 3 = false) :
    (m.triggerFrom src k).1.settle.cc = { m.cc with heldTrig := m.cc.heldTrig ++ [k] } ∧
    (m.triggerFrom src k).1.settle.regs = m.regs ∧ (m.triggerFrom src k).1.settle.loam = m.loam := by
  have hb : ((m.marked k).arrayBusy || !(m.marked k).cc.heldTrig.isEmpty) = true := by
    rw [show (m.marked k).arrayBusy = m.arrayBusy from rfl]
    simp [Chip.arrayBusy, Chip.capBusy, hbusy]
  have hno : ¬(tst ((m.marked k).rd spCtx (0x100 * k.val)) 3 || (m.marked k).cc.heldTrig.any (fun x => x == k)) = true := by
    rw [show (m.marked k).rd spCtx (0x100 * k.val) = m.rd spCtx (0x100 * k.val) from rfl, hhold,
      show (m.marked k).cc.heldTrig = m.cc.heldTrig from rfl]
    simpa using hnot
  rw [triggerFrom_first hen hfirst, trigger_taken (m := m.marked k) harm hcheck hcap hsusp, if_pos hb, if_neg hno]
  obtain ⟨p, hp⟩ := Chip.autorun_parts
    { m.marked k with cc := { (m.marked k).cc with heldTrig := (m.marked k).cc.heldTrig ++ [k] } }
  rw [hp]
  exact ⟨rfl, rfl, rfl⟩

/-- With HOLD off it is an overrun. -/
theorem triggerFrom_overrun (hen : tst (m.rd spCtx (0x100 * k.val + 1)) src = true) (hfirst : m.cyc.triggered = 0)
    (harm : m.armed k.val = true) (hcheck : m.cc.checking = none) (hsusp : m.cc.susp = [])
    (hcap : ∀ c, m.cc.cap = some c → c.ctx ≠ k) (hbusy : m.cc.cap.isSome = true)
    (hhold : tst (m.rd spCtx (0x100 * k.val)) 3 = true) : (m.triggerFrom src k).1 = (m.marked k).overrun k.val := by
  have hb : ((m.marked k).arrayBusy || !(m.marked k).cc.heldTrig.isEmpty) = true := by
    rw [show (m.marked k).arrayBusy = m.arrayBusy from rfl]
    simp [Chip.arrayBusy, Chip.capBusy, hbusy]
  rw [triggerFrom_first hen hfirst, trigger_taken (m := m.marked k) harm hcheck hcap hsusp, if_pos hb,
    if_pos (by rw [show (m.marked k).rd spCtx (0x100 * k.val) = m.rd spCtx (0x100 * k.val) from rfl, hhold]; rfl)]

end

/-- An overrun counts in OVRCNT and raises TRIG_OVERRUN. -/
theorem overrun_counts {m : Chip} (k : Nat) (hcore : m.pw.core = true) :
    (m.overrun k).cc = m.cc ∧ (m.overrun k).rd spCtx (0x100 * k + 9) = satAdd (m.rd spCtx (0x100 * k + 9)) 1 ∧
    tst ((m.overrun k).rd 0 0x13) 3 = true ∧ WordsKept m (m.overrun k) [(spCtx, 0x100 * k + 9), (0, 0x13)] := by
  have hne : key spCtx (0x100 * k + 9) ≠ key 0 (0x13 + evTrigOverrun / 16) := by
    unfold key spCtx evTrigOverrun
    omega
  refine ⟨Chip.raise_cc _ _, ?_, tst_raise evTrigOverrun hcore, ?_⟩
  · rw [Chip.overrun, Chip.rd_raise (m.bump _ _ _) _ _ _ hcore, if_neg hne, Chip.rd_bump, if_pos rfl]
  · have hb : WordsKept m (m.bump spCtx (0x100 * k + 9) 1) [(spCtx, 0x100 * k + 9), (0, 0x13)] :=
      .bump (.refl _ _) _ List.mem_cons_self
    rw [Chip.overrun, Chip.raise_on _ _ (by exact hcore)]
    exact .orBits hb _ (List.mem_cons_of_mem _ (List.mem_singleton.2 rfl))

/-- Settles O30: a trigger is coincident, ignored, held or an overrun. -/
theorem triggersWait : Obligations.TriggersWait := by
  unfold Obligations.TriggersWait
  refine ⟨fun s k hr hen hmark => ?coincident, fun s k hr hen hfirst => ⟨fun harm => ?ignored,
    fun harm hcheck hsusp hrun hcap hbusy hnot => ⟨fun hhold => ?held, fun hhold => ?overrun⟩⟩,
    fun s k p hcore hf hp hen hfirst => ⟨fun harm he hcheck hsusp hrun hcap hbusy hnot hhold => ?pinHeld,
      fun harm he => ⟨?pinIgnored, ?pinOther⟩⟩⟩
  case coincident =>
    refine answers_hostWrite (f := fun m => (m.triggerMask 3 (bitW k.val)).1) rfl hr ?_
    rw [triggerMask_bit, Chip.triggerFrom, if_pos (show tst (s.host.rd _ _) 3 = true from hen), if_pos hmark]
    exact unchanged_begin _ _
  case ignored =>
    refine answers_hostWrite (f := fun m => (m.triggerMask 3 (bitW k.val)).1) rfl hr ?_
    rw [triggerMask_bit, triggerFrom_ignored (m := s.host) hen (triggered_begin 0 hfirst) harm]
    exact ignored_counts (onlyThese_host s [])
  case held =>
    refine answers_hostWrite (f := fun m => (m.triggerMask 3 (bitW k.val)).1) rfl hr ?_
    rw [triggerMask_bit]
    exact triggerFrom_held (m := s.host) hen (triggered_begin 0 hfirst) harm hcheck hsusp hcap hbusy hnot hhold
  case overrun =>
    refine answers_hostWrite (f := fun m => (m.triggerMask 3 (bitW k.val)).1) rfl hr ?_
    rw [triggerMask_bit, triggerFrom_overrun (m := s.host) hen (triggered_begin 0 hfirst) harm hcheck hsusp hcap hbusy hhold]
    exact overrun_counts (m := s.host.marked k) k.val (reaches_core hr (by decide))
  case pinHeld =>
    refine answers_of_done (exec_pinTrigger true hcore hf hp he) ?_
    rw [if_pos rfl, triggerMask_bit]
    exact triggerFrom_held (m := s.chip.begin _) hen (triggered_begin _ hfirst) harm hcheck hsusp hcap hbusy hnot hhold
  case pinIgnored =>
    refine answers_of_done (exec_pinTrigger true hcore hf hp he) ?_
    rw [if_pos rfl, triggerMask_bit, triggerFrom_ignored (m := s.chip.begin _) hen (triggered_begin _ hfirst) harm]
    exact ignored_counts (onlyThese_begin s.chip _ [])
  case pinOther =>
    refine answers_of_done (exec_pinTrigger false hcore hf hp he) ?_
    rw [if_neg (by decide), triggerMask_zero]
    exact unchanged_begin _ _

/-! ## The check of a context and DISARM (O29) -/

/-- Where the ARMED bits stand, no event is recorded. -/
theorem armWord_ne_event (k n : Nat) (hn : n < 64) : key spCtx (0x100 * k + 8) ≠ key 0 (0x13 + n / 16) := by
  unfold key spCtx
  omega

theorem Chip.armed_raise (m : Chip) (k n : Nat) (hn : n < 64) : (m.raise n).armed k = m.armed k := by
  have hrd : (m.raise n).rd spCtx (0x100 * k + 8) = m.rd spCtx (0x100 * k + 8) := by
    unfold Chip.raise
    split
    · rw [Chip.rd_orBits, if_neg (armWord_ne_event k n hn)]
    · rfl
  rw [Chip.armed, hrd, Chip.armed]

/-- What the failure of a WHITE run leaves of the capture control. -/
structure LeavesCapture (k : Nat) (m t : Chip) : Prop where
  armed : t.armed k = m.armed k
  heldTrig : t.cc.heldTrig = m.cc.heldTrig
  checking : t.cc.checking = m.cc.checking
  susp : t.cc.susp = m.cc.susp
  loam : t.loam = m.loam
  cap : t.cc.cap.map (fun c => (c.ctx, c.fn, c.stop)) = m.cc.cap.map (fun c => (c.ctx, c.fn, c.stop))

theorem LeavesCapture.refl (k : Nat) (m : Chip) : LeavesCapture k m m := ⟨rfl, rfl, rfl, rfl, rfl, rfl⟩

theorem LeavesCapture.raise {k n : Nat} {m t : Chip} (h : LeavesCapture k m t) (hn : n < 64) :
    LeavesCapture k m (t.raise n) := by
  refine ⟨(t.armed_raise k n hn).trans h.armed, ?_, ?_, ?_, (Chip.raise_loam _ _).trans h.loam, ?_⟩
  all_goals rw [Chip.raise_cc]
  · exact h.heldTrig
  · exact h.checking
  · exact h.susp
  · exact h.cap

theorem leavesCapture_runEnd (k : Nat) (m : Chip) (pass : Bool) : LeavesCapture k m (m.runEnd pass) := by
  unfold Chip.runEnd
  extract_lets m1 _ m2 _
  have h1 : LeavesCapture k m m1 := by
    refine ⟨rfl, rfl, rfl, rfl, rfl, ?_⟩
    show (m.cc.cap.map _).map _ = _
    rw [Option.map_map]
    rfl
  have h2 : LeavesCapture k m m2 := ⟨h1.armed, h1.heldTrig, h1.checking, h1.susp, h1.loam, h1.cap⟩
  have h3 : LeavesCapture k m (Chip.raise { m2 with
      cal := { m2.cal with run := .none, result := if pass then 1 else 2 } } evCalDone) :=
    .raise ⟨h2.armed, h2.heldTrig, h2.checking, h2.susp, h2.loam, h2.cap⟩ (by decide)
  unfold Chip.raiseIf
  split
  · exact h3.raise (by decide)
  · exact h3

theorem leavesCapture_whiteFail (k j : Nat) (m : Chip) : LeavesCapture k m (m.whiteFail j) := by
  unfold Chip.whiteFail
  split
  · split
    · exact leavesCapture_runEnd k m false
    · exact .refl k m
  · exact .refl k m

/-- A dropped trigger is no longer held, and counts. -/
theorem Chip.dropTrigger_parts (m : Chip) (k : Nat) :
    (m.dropTrigger k).cc = { m.cc with heldTrig := m.cc.heldTrig.filter (fun x => x.val != k) } ∧
    (m.dropTrigger k).armed k = m.armed k ∧ (m.dropTrigger k).loam = m.loam := by
  unfold Chip.dropTrigger
  split
  · refine ⟨Chip.raise_cc _ _, ?_, Chip.raise_loam _ _⟩
    rw [Chip.overrun, Chip.armed_raise _ _ _ (by decide), Chip.armed, Chip.rd_bump, if_neg (by unfold key; omega)]
    rfl
  next hno =>
    have hall : m.cc.heldTrig.filter (fun x => x.val != k) = m.cc.heldTrig := by
      rw [List.filter_eq_self]
      intro x hx
      have := fun h => hno (List.any_eq_true.2 ⟨x, hx, h⟩)
      simpa [bne] using this
    rw [hall]
    exact ⟨rfl, rfl, rfl⟩

theorem Chip.setArmed_parts (m : Chip) (k : Nat) :
    (m.setArmed k false).armed k = false ∧ (m.setArmed k false).loam = m.loam ∧
    (m.setArmed k false).cc = { m.cc with
      cap := m.cc.cap.map (fun c => if c.ctx.val = k then { c with stop := true } else c)
      susp := m.cc.susp.filter (fun x => x.cap.ctx.val != k) } := by
  refine ⟨?_, rfl, rfl⟩
  rw [Chip.armed, Chip.setArmed, Chip.rd_wr, if_pos rfl]
  exact tst_setBit_same _ false (by decide)

/-- DISARM (R169). -/
theorem disarmCtx_leaves (m : Chip) (k : Nat) :
    (m.disarmCtx k).armed k = false ∧ (∀ x ∈ (m.disarmCtx k).cc.heldTrig, x.val ≠ k) ∧
    (∀ x, (m.disarmCtx k).cc.checking = some x → x.val ≠ k) ∧ (m.disarmCtx k).loam = m.loam ∧
    (m.disarmCtx k).cc.cap.map (fun c => (c.ctx, c.fn, c.stop)) =
      m.cc.cap.map (fun c => (c.ctx, c.fn, c.stop || decide (c.ctx.val = k))) ∧
    (∀ x ∈ (m.disarmCtx k).cc.susp, x.cap.ctx.val ≠ k) := by
  unfold Chip.disarmCtx
  obtain ⟨harm1, hloam1, hcc1⟩ := m.setArmed_parts k
  generalize m.setArmed k false = m1 at harm1 hloam1 hcc1
  obtain ⟨hcc2, harm2, hloam2⟩ := m1.dropTrigger_parts k
  generalize m1.dropTrigger k = m2 at hcc2 harm2 hloam2
  extract_lets m0 _ m3
  have h3 : m3.cc = { m2.cc with checking := if m2.cc.checking.any (fun x => x.val == k) then none else m2.cc.checking } ∧
      m3.armed k = m2.armed k ∧ m3.loam = m2.loam := by
    unfold m3
    split
    · exact ⟨rfl, rfl, rfl⟩
    · exact ⟨rfl, rfl, rfl⟩
  obtain ⟨hcc3, harm3, hloam3⟩ := h3
  have h4 := leavesCapture_whiteFail k k m3
  refine ⟨h4.armed.trans (harm3.trans (harm2.trans harm1)), ?_, ?_, h4.loam.trans (hloam3.trans (hloam2.trans hloam1)),
    ?_, ?_⟩
  · intro x hx
    rw [h4.heldTrig, hcc3, hcc2] at hx
    simpa using (List.mem_filter.1 hx).2
  · intro x hx
    rw [h4.checking, hcc3] at hx
    dsimp only at hx
    split at hx
    · cases hx
    next hno => simpa [hx] using hno
  · rw [h4.cap, hcc3, hcc2, hcc1]
    show (m.cc.cap.map _).map _ = _
    rw [Option.map_map]
    refine congrArg (fun f => m.cc.cap.map f) (funext fun c => ?_)
    by_cases hk : c.ctx.val = k
    · simp [hk]
    · simp [hk]
  · intro x hx
    rw [h4.susp, hcc3, hcc2, hcc1] at hx
    simpa using (List.mem_filter.1 hx).2

theorem fst_ite_lt {p : Prop} [Decidable p] {n a x : Nat} {e : Nat × Nat} (ha : a < n) (he : e.1 < n) :
    (if p then (a, x) else e).1 < n := by
  split
  · exact ha
  · exact he

/-- The codes of a failed check fit their field. -/
theorem Chip.armCheck_lt (m : Chip) (b : Bank) : (m.armCheck b).1 < 2 ^ 4 := by
  unfold Chip.armCheck
  extract_lets
  iterate 10 refine fst_ite_lt (by decide) ?_
  decide

/-- The end of a check is recorded in CAPSTAT. -/
theorem setArmErr_parts {m : Chip} {k code item : Nat} (hk : k < 16) (hcode : code < 2 ^ 4) :
    fld ((m.setArmErr k code item).rd 0 0x2B) 4 4 = code ∧
    (code ≠ 0 → fld ((m.setArmErr k code item).rd 0 0x2B) 0 4 = k) ∧ (m.setArmErr k code item).cc = m.cc ∧
    (m.setArmErr k code item).loam = m.loam ∧ (m.setArmErr k code item).cal = m.cal := by
  have hne : key 0 0x2B ≠ key spCtx (0x100 * k + 0xD0) := by
    unfold key spCtx
    omega
  have hrd : (m.setArmErr k code item).rd 0 0x2B =
      if code = 0 then setFld (m.rd 0 0x2B) 4 4 0 else setFld (setFld (m.rd 0 0x2B) 4 4 code) 0 4 k := by
    unfold Chip.setArmErr
    extract_lets w m1
    rw [Chip.rd_wr, if_neg hne, Chip.rd_wr, if_pos rfl]
  refine ⟨?_, fun hc => ?_, rfl, rfl, rfl⟩
  · rw [hrd]
    split
    next h => rw [h, fld_setFld_same _ (by decide) (by decide)]
    next => rw [fld_setFld_ne _ (by decide) hk (by decide), fld_setFld_same _ (by decide) hcode]
  · rw [hrd, if_neg hc, fld_setFld_same _ (by decide) hk]

/-- The end of a context's check (R167). -/
theorem checkEnd_leaves {m : Chip} {k : Fin 16} (hcheck : m.cc.checking = some k) :
    ((m.armCheck (m.latchCtx k.val)).1 = 0 →
      m.checkEnd.armed k.val = true ∧ fld (m.checkEnd.rd 0 0x2B) 4 4 = 0 ∧
        m.checkEnd.cc = { m.cc with checking := none } ∧ m.checkEnd.loam = m.loam) ∧
    ((m.armCheck (m.latchCtx k.val)).1 ≠ 0 → k ∉ m.cc.heldTrig → m.cal.run = .none →
      (∀ c, m.cc.cap = some c → c.ctx ≠ k) → m.cc.susp = [] →
      m.checkEnd.armed k.val = false ∧ fld (m.checkEnd.rd 0 0x2B) 4 4 = (m.armCheck (m.latchCtx k.val)).1 ∧
        fld (m.checkEnd.rd 0 0x2B) 0 4 = k.val ∧ m.checkEnd.cc = { m.cc with checking := none } ∧
        m.checkEnd.loam = m.loam) := by
  have hend : m.checkEnd = if (m.armCheck (m.latchCtx k.val)).1 = 0 then
      (Chip.setArmErr { m with cc := { m.cc with checking := none } } k.val (m.armCheck (m.latchCtx k.val)).1
        (m.armCheck (m.latchCtx k.val)).2).setArmed k.val true
      else (((Chip.setArmErr { m with cc := { m.cc with checking := none } } k.val (m.armCheck (m.latchCtx k.val)).1
        (m.armCheck (m.latchCtx k.val)).2).setArmed k.val false).dropTrigger k.val).whiteFail k.val := by
    unfold Chip.checkEnd
    rw [hcheck]
  obtain ⟨hcode, hctx, hcc, hloam, hcal⟩ := setArmErr_parts (m := { m with cc := { m.cc with checking := none } })
    (item := (m.armCheck (m.latchCtx k.val)).2) k.isLt (m.armCheck_lt (m.latchCtx k.val))
  rw [hend]
  generalize Chip.setArmErr _ _ _ _ = e at hcode hctx hcc hloam hcal
  have hne : key 0 0x2B ≠ key spCtx (0x100 * k.val + 8) := by
    unfold key spCtx
    omega
  have hrd (b : Bool) : (e.setArmed k.val b).rd 0 0x2B = e.rd 0 0x2B := by
    unfold Chip.setArmed
    rw [Chip.rd_wr, if_neg hne]
    cases b
    · rfl
    · rfl
  refine ⟨fun h0 => ?_, fun h0 hheld hrun hcap hsusp => ?_⟩
  · rw [if_pos h0, hrd, hcode]
    refine ⟨?_, h0, hcc, hloam⟩
    rw [Chip.armed, Chip.setArmed, Chip.rd_wr, if_pos rfl]
    exact tst_setBit_same _ true (by decide)
  · obtain ⟨harm1, hloam1, hcc1⟩ := e.setArmed_parts k.val
    have hsame : (e.setArmed k.val false).cc = e.cc := by
      rw [hcc1, hcc]
      dsimp only
      rw [hsusp]
      cases hc : m.cc.cap with
      | none => rfl
      | some c => simp [Fin.val_ne_of_ne (hcap c hc)]
    have hdrop : (e.setArmed k.val false).dropTrigger k.val = e.setArmed k.val false := by
      refine if_neg ?_
      rw [hsame, hcc, List.any_eq_true]
      rintro ⟨x, hx, hxk⟩
      exact hheld (Fin.ext (beq_iff_eq.1 hxk) ▸ hx)
    have hwhite : (e.setArmed k.val false).whiteFail k.val = e.setArmed k.val false := by
      have : (e.setArmed k.val false).cal.run = .none := (congrArg Calib.run hcal).trans hrun
      rw [Chip.whiteFail, this]
    rw [if_neg h0, hdrop, hwhite, hrd]
    exact ⟨harm1, hcode, hctx h0, hsame.trans hcc, hloam1.trans hloam⟩

/-- The host's write of CAPCTL with one command bit. -/
theorem writeCapctl_one {m : Chip} {v : Word} (h : ¬1 < b2n (tst v 9) + b2n (tst v 10) + b2n (tst v 11)) :
    m.writeCapctl v = if tst v 9 then
        { (m.plainWrite 0 0x2A v).checkEnd with
          cc := { (m.plainWrite 0 0x2A v).checkEnd.cc with checking := some (Fin.ofNat 16 (fld v 0 4)) } }
      else if tst v 10 then (m.plainWrite 0 0x2A v).disarmCtx (fld v 0 4)
      else if tst v 11 then (m.plainWrite 0 0x2A v).abortCapture else m.plainWrite 0 0x2A v := if_neg h

/-- Settles O29: CAPCTL's commands and the two ends of a check. -/
theorem armAndDisarm : Obligations.ArmAndDisarm := by
  unfold Obligations.ArmAndDisarm
  refine ⟨fun s v hr => ⟨fun h => ?many, fun h9 h10 h11 hcheck => ?arm, fun h9 h10 h11 => ?disarm⟩,
    fun s k hcore hcheck => ⟨completes_guarded rfl hcore, fun h => answers_guarded rfl hcore ((checkEnd_leaves hcheck).1 h),
      fun h hheld hrun hcap hsusp => answers_guarded rfl hcore ((checkEnd_leaves hcheck).2 h hheld hrun hcap hsusp)⟩⟩
  case many =>
    have hmany (c : Instr) (hexec : exec c s = hostWrite s 0 0x2A (·.writeCapctl v)) : Answers c s (Unchanged s.chip) := by
      refine answers_hostWrite hexec hr ?_
      rw [show s.host.writeCapctl v = s.host from if_pos h]
      exact unchanged_begin _ _
    exact ⟨hmany _ rfl, hmany _ rfl, hmany _ rfl⟩
  case arm =>
    obtain ⟨heq, hwords⟩ := (onlyThese_host s [(0, 0x2A)]).plainWrite v (List.mem_singleton.2 rfl)
    refine answers_hostWrite (f := (·.writeCapctl v)) rfl hr ?_
    rw [writeCapctl_one (by simp [h9, h10, h11, b2n]), if_pos h9]
    have hcc := heq.cc
    have hloam := heq.loam
    generalize s.host.plainWrite 0 0x2A v = m at *
    have hend : m.checkEnd = m := by
      unfold Chip.checkEnd
      rw [hcc, hcheck]
    rw [hend]
    refine ⟨?_, hwords, hloam⟩
    exact congrArg (fun x : CaptureCtl => { x with checking := some (Fin.ofNat 16 (fld v 0 4)) }) hcc
  case disarm =>
    obtain ⟨heq, -⟩ := (onlyThese_host s [(0, 0x2A)]).plainWrite v (List.mem_singleton.2 rfl)
    refine answers_hostWrite (f := (·.writeCapctl v)) rfl hr ?_
    rw [writeCapctl_one (by simp [h9, h10, h11, b2n]), if_neg (ne_true_of_eq_false h9), if_pos h10]
    have h := disarmCtx_leaves (s.host.plainWrite 0 0x2A v) (fld v 0 4)
    rw [heq.cc, heq.loam] at h
    exact h

/-! ## The words of the TMR space -/

theorem key_same (sp a b : Nat) : key sp a = key sp b ↔ a = b := by
  unfold key
  omega

/-- No word of the TMR space is one of the direct map. -/
theorem tmr_ne_direct (o : Nat) {d : Nat} (hd : d < 0x1000000) : key spTmr o ≠ key 0 d := by
  unfold key spTmr
  omega

theorem Chip.rd32_kept {m t : Chip} {sp off : Nat} (h0 : t.rd sp off = m.rd sp off)
    (h1 : t.rd sp (off + 1) = m.rd sp (off + 1)) : t.rd32 sp off = m.rd32 sp off := by
  rw [Chip.rd32, h0, h1, Chip.rd32]

/-- The item of 32 bits that its two words hold. -/
theorem WordsKept.rd32 {m t : Chip} {ws : List (Nat × Nat)} (h : WordsKept m t ws) {sp off : Nat}
    (h0 : ∀ w ∈ ws, key sp off ≠ key w.1 w.2) (h1 : ∀ w ∈ ws, key sp (off + 1) ≠ key w.1 w.2) :
    t.rd32 sp off = m.rd32 sp off :=
  Chip.rd32_kept (h.rd h0) (h.rd h1)

/-- An item of 64 bits reads back what was stored. -/
theorem Chip.rd64_wr64 (m : Chip) (sp off v : Nat) : (m.wr64 sp off v).rd64 sp off = v % 2 ^ 64 := by
  simp [Chip.wr64, Chip.wr32, Chip.rd64, Chip.rd32, Chip.rd_wr, key_same, wd, Nat.add_assoc]
  omega

theorem Chip.rd_wr64_ne (m : Chip) {sp off o : Nat} (v : Nat) (h : o < off ∨ off + 3 < o) :
    (m.wr64 sp off v).rd sp o = m.rd sp o := by
  unfold Chip.wr64 Chip.wr32
  rw [Chip.rd_wr, if_neg (by rw [key_same]; omega), Chip.rd_wr, if_neg (by rw [key_same]; omega), Chip.rd_wr,
    if_neg (by rw [key_same]; omega), Chip.rd_wr, if_neg (by rw [key_same]; omega)]

theorem Chip.rd_clrBits_ne (m : Chip) {sp off o : Nat} (b : Word) (h : o ≠ off) : (m.clrBits sp off b).rd sp o = m.rd sp o := by
  rw [Chip.rd_clrBits, if_neg (by rwa [key_same])]

/-! ## Compare channels (O26) -/

/-- The four words of MATCH load in one step (R121). -/
theorem Chip.cmpMatch_loaded (m : Chip) (n : Nat) (a b c d : Word) :
    (m.wrList spTmr (cmpOff n 0) [a, b, c, d]).cmpMatch n =
      BitVec.ofNat 64 (a.toNat + 0x10000 * b.toNat + 0x100000000 * (c.toNat + 0x10000 * d.toNat)) := by
  simp [Chip.cmpMatch, Chip.rd64, Chip.rd32, Chip.wrList, Chip.rd_wr, key_same, cmpOff, Nat.add_assoc]

theorem OnlyThese.wrList_four {m t : Chip} {ws : List (Nat × Nat)} {sp off : Nat} (h : OnlyThese m t ws) (a b c d : Word)
    (h0 : (sp, off) ∈ ws) (h1 : (sp, off + 1) ∈ ws) (h2 : (sp, off + 2) ∈ ws) (h3 : (sp, off + 3) ∈ ws) :
    OnlyThese m (t.wrList sp off [a, b, c, d]) ws :=
  (((h.wr a h0).wr b h1).wr c h2).wr d h3

/-- The words that a load of MATCH changes. -/
def matchWords (n : Nat) : List (Nat × Nat) :=
  [(spTmr, cmpOff n 0), (spTmr, cmpOff n 1), (spTmr, cmpOff n 2), (spTmr, cmpOff n 3)]

/-- A match that is missed under LATE skip, without a period (R123, R142). -/
theorem Chip.cmpMiss_skip {m : Chip} {n : Nat} (hlate : tst (m.rd spTmr (cmpOff n 6)) 14 = true)
    (hp : m.rd32 spTmr (cmpOff n 4) = 0) :
    m.cmpMiss n = (((m.bump spTmr (cmpOff n 8) 1).orBits spTmr 0x09 (bitW n)).raise evTmrMissed).clrBits
      spTmr (cmpOff n 6) 0x8000 := by
  have hk : m.cmpPassed n = 1 := if_pos hp
  have hkept : WordsKept m (((m.bump spTmr (cmpOff n 8) 1).orBits spTmr 0x09 (bitW n)).raise evTmrMissed)
      [(spTmr, cmpOff n 8), (spTmr, 9), (0, 0x13)] :=
    (((WordsKept.refl m _).bump 1 (by simp)).orBits _ (by simp)).raise (by simp [evTmrMissed])
  unfold Chip.cmpMiss
  dsimp only
  rw [hk]
  generalize Chip.raise (Chip.orBits (Chip.bump m spTmr (cmpOff n 8) 1) spTmr 0x09 (bitW n)) evTmrMissed = t at hkept ⊢
  have hw (i : Nat) (hi : i < 8) : ∀ w ∈ [(spTmr, cmpOff n 8), (spTmr, 9), (0, 0x13)],
      key spTmr (cmpOff n i) ≠ key w.1 w.2 := by
    simp only [List.forall_mem_cons, ne_eq, key_same, tmr_ne_direct _ (show 0x13 < 0x1000000 by decide), cmpOff]
    simp
    omega
  have hctl : t.rd spTmr (cmpOff n 6) = m.rd spTmr (cmpOff n 6) := hkept.rd (hw 6 (by decide))
  have hp' : t.rd32 spTmr (cmpOff n 4) = 0 := (hkept.rd32 (hw 4 (by decide)) (hw 5 (by decide))).trans hp
  rw [hctl, hlate, Bool.true_or, if_pos rfl, Chip.cmpNext]
  exact if_pos hp'

/-- The words after a missed match under LATE skip. -/
theorem rd_skipped (m : Chip) (n : Nat) (hcore : m.pw.core = true) (o : Nat) :
    ((((m.bump spTmr (cmpOff n 8) 1).orBits spTmr 0x09 (bitW n)).raise evTmrMissed).clrBits
      spTmr (cmpOff n 6) 0x8000).rd spTmr o =
    if o = cmpOff n 6 then m.rd spTmr (cmpOff n 6) &&& ~~~0x8000 else if o = 9 then m.rd spTmr 9 ||| bitW n else
      if o = cmpOff n 8 then satAdd (m.rd spTmr (cmpOff n 8)) 1 else m.rd spTmr o := by
  have hraise (o : Nat) := Chip.rd_raise ((m.bump spTmr (cmpOff n 8) 1).orBits spTmr 0x09 (bitW n)) evTmrMissed spTmr o hcore
  simp only [Chip.rd_clrBits, hraise, if_neg (tmr_ne_direct _ (show 0x13 + evTmrMissed / 16 < 0x1000000 by decide)),
    Chip.rd_orBits, Chip.rd_bump, key_same]
  have h6 : cmpOff n 6 ≠ 9 ∧ cmpOff n 6 ≠ cmpOff n 8 ∧ 9 ≠ cmpOff n 8 := by
    unfold cmpOff
    omega
  obtain ⟨h69, h68, h98⟩ := h6
  rw [if_neg h69, if_neg h68, if_neg h98]

theorem Chip.cmpMatch_kept {m t : Chip} {n : Nat} (h : ∀ i < 4, t.rd spTmr (cmpOff n i) = m.rd spTmr (cmpOff n i)) :
    t.cmpMatch n = m.cmpMatch n := by
  have h0 : t.rd32 spTmr (cmpOff n 0) = m.rd32 spTmr (cmpOff n 0) := Chip.rd32_kept (h 0 (by decide)) (h 1 (by decide))
  have h2 : t.rd32 spTmr (cmpOff n 0 + 2) = m.rd32 spTmr (cmpOff n 0 + 2) :=
    Chip.rd32_kept (h 2 (by decide)) (h 3 (by decide))
  rw [Chip.cmpMatch, Chip.rd64, h0, h2, Chip.cmpMatch, Chip.rd64]

/-- The action of a channel that performs none (R122). -/
theorem Chip.cmpAct_plain {m : Chip} {n : Nat} (hsync : m.syncMode ≠ 2) (hbar : m.tb.barred = [])
    (hact : fld (m.rd spTmr (cmpOff n 6)) 8 4 = 0) :
    m.cmpAct n = (m.orBits spTmr 0x08 (bitW n)).raiseIf (tst (m.rd spTmr (cmpOff n 6)) 13) evTmrMatch := by
  have hbarred : m.cmpBarred n = false := by rw [Chip.cmpBarred, hbar]; rfl
  have hnote : m.noteActed n = m := if_neg hsync
  have hdo : m.doAction (1 + n) (m.rd spTmr (cmpOff n 6)) = m := by simp [Chip.doAction, hact]
  unfold Chip.cmpAct
  dsimp only
  rw [hbarred, hnote, hdo]
  rfl

theorem reached_eq {m t : Chip} (h : t.tb = m.tb) (x : Tick) : t.reached x = m.reached x := by
  rw [Chip.reached, h, Chip.reached]

theorem OnlyThese.tb {m t : Chip} {ws : List (Nat × Nat)} (h : OnlyThese m t ws) : t.tb = m.tb := by
  obtain ⟨r, c, i, rfl⟩ := onlyWords_iff.mp h.1
  rfl

theorem opens_tmr_core {s : State} {o : Nat} (h : s.opens spTmr o) : s.chip.pw.core = true := by
  have ho : s.chip.coreOn = true := h.1.2
  simp only [Chip.coreOn, Bool.and_eq_true] at ho
  exact ho.1.1.2

/-- The match of a channel that performs no action sets its flag and, where enabled, its event (R122). -/
theorem cmpAct_leaves {m : Chip} {n : Fin 16} (hcore : m.pw.core = true) (hsync : m.syncMode ≠ 2) (hbar : m.tb.barred = [])
    (hact : fld (m.rd spTmr (cmpOff n.val 6)) 8 4 = 0) :
    tst (((m.begin (1 + n.val)).cmpAct n.val).rd spTmr 8) n.val = true ∧
    (tst (m.rd spTmr (cmpOff n.val 6)) 13 = true → tst (((m.begin (1 + n.val)).cmpAct n.val).rd 0 0x13) 11 = true) ∧
    OnlyThese m ((m.begin (1 + n.val)).cmpAct n.val) [(spTmr, 8), (0, 0x13)] := by
  have hraise (sp o : Nat) := Chip.rd_raise ((m.begin (1 + n.val)).orBits spTmr 0x08 (bitW n.val)) evTmrMatch sp o hcore
  rw [Chip.cmpAct_plain (m := m.begin (1 + n.val)) hsync hbar hact]
  refine ⟨?_, fun hie => ?_, ((onlyThese_begin m _ _).orBits _ (by simp)).raiseIf hcore (by simp [evTmrMatch])⟩
  · have hset : tst (((m.begin (1 + n.val)).orBits spTmr 0x08 (bitW n.val)).rd spTmr 8) n.val = true := by
      rw [Chip.rd_orBits, if_pos rfl]
      exact tst_or_bitW _ n.isLt
    unfold Chip.raiseIf
    split
    · rw [hraise, if_neg (tmr_ne_direct _ (by decide))]
      exact hset
    · exact hset
  · rw [Chip.rd_begin, Chip.raiseIf, if_pos hie, hraise, if_pos (show key 0 0x13 = key 0 (0x13 + evTmrMatch / 16) from rfl)]
    exact tst_or_bitW _ (by decide)

/-- A load of MATCH where no match is due performs none and loads. -/
theorem writeMatch_loads {s : State} {n : Fin 16} {v : Word} {new : Tick}
    (hnew : new.toNat = (s.chip.rdHeld spTmr (cmpOff n.val 0)).toNat + 0x10000 * (s.chip.rdHeld spTmr (cmpOff n.val 1)).toNat +
      0x100000000 * ((s.chip.rdHeld spTmr (cmpOff n.val 2)).toNat + 0x10000 * v.toNat))
    (hidle : (s.chip.cmpEn n.val && s.chip.reached (s.chip.cmpMatch n.val)) = false) :
    ∃ t, s.host.writeSpace spTmr (cmpOff n.val 3) v = (if t.cmpEn n.val && t.reached (t.cmpMatch n.val) then t.cmpMiss n.val else t) ∧
      t.cmpMatch n.val = new ∧ t.cmpEn n.val = s.chip.cmpEn n.val ∧ OnlyThese s.chip t (matchWords n.val) := by
  refine ⟨s.host.wrList spTmr (cmpOff n.val 0) [s.chip.rdHeld spTmr (cmpOff n.val 0), s.chip.rdHeld spTmr (cmpOff n.val 1),
    s.chip.rdHeld spTmr (cmpOff n.val 2), v], ?_, ?_, ?_, ?_⟩
  · have hoff : s.host.writeSpace spTmr (cmpOff n.val 3) v = s.host.writeMatch n.val 3 v := by
      show s.host.writeTmr (cmpOff n.val 3) v = _
      unfold Chip.writeTmr cmpOff
      rw [if_neg (by omega), if_neg (by omega), if_neg (by omega), if_pos (by omega)]
      dsimp only
      rw [if_pos (by omega)]
      congr 1
      · omega
      · omega
    have hfirst : s.host.cmpFirst n.val = s.host := by
      refine if_neg ?_
      rw [show (s.host.cmpEn n.val && s.host.reached (s.host.cmpMatch n.val)) = false from hidle]
      decide
    rw [hoff, Chip.writeMatch, if_neg (by decide), hfirst]
    rfl
  · rw [Chip.cmpMatch_loaded, ← hnew, BitVec.ofNat_toNat, BitVec.setWidth_eq]
  · simp [Chip.cmpEn, Chip.wrList, Chip.rd_wr, key_same, cmpOff, Nat.add_assoc]
  · exact (onlyThese_host s (matchWords n.val)).wrList_four _ _ _ _ (by simp [matchWords]) (by simp [matchWords, cmpOff])
      (by simp [matchWords, cmpOff]) (by simp [matchWords, cmpOff])

/-- Settles O26: the compare channels' load, missed match, match and period. -/
theorem compareChannels : Obligations.CompareChannels := by
  unfold Obligations.CompareChannels
  refine ⟨fun s n v new ho hnew => ⟨fun hidle => ?load, fun hen hnot hpast hlate hp => ?missed⟩, fun s n hcore hen hdue => ?fires⟩
  case load =>
    have hfirst : (s.chip.cmpEn n.val && s.chip.reached (s.chip.cmpMatch n.val)) = false := by
      rcases hidle with h | ⟨h, -⟩
      · rw [h, Bool.false_and]
      · rw [h, Bool.and_false]
    obtain ⟨t, ht, hmatch, hen, honly⟩ := writeMatch_loads hnew hfirst
    have hnone : (t.cmpEn n.val && t.reached (t.cmpMatch n.val)) = false := by
      rw [hmatch, hen, reached_eq honly.tb]
      rcases hidle with h | ⟨-, h⟩
      · rw [h, Bool.false_and]
      · rw [h, Bool.and_false]
    refine answers_hostWindow (sp := spTmr) rfl ho ?_
    rw [ht, hnone]
    exact ⟨hmatch, hen, honly.settle⟩
  case missed =>
    obtain ⟨t, ht, hmatch, hen', honly⟩ := writeMatch_loads hnew (by rw [hnot, Bool.and_false])
    have hctl (i : Nat) (hi : 3 < i ∧ i < 16) : t.rd spTmr (cmpOff n.val i) = s.chip.rd spTmr (cmpOff n.val i) :=
      honly.2.rd (by simp [matchWords, key_same, cmpOff]; omega)
    have hmiss : (t.cmpEn n.val && t.reached (t.cmpMatch n.val)) = true := by
      rw [hmatch, hen', reached_eq honly.tb, hen, hpast]
      rfl
    have hskip := Chip.cmpMiss_skip (m := t) (n := n.val) ((hctl 6 (by decide)).symm ▸ hlate)
      ((Chip.rd32_kept (hctl 4 (by decide)) (hctl 5 (by decide))).trans hp)
    refine answers_hostWindow (sp := spTmr) rfl ho ?_
    have hcore : t.pw.core = true := honly.pw ▸ opens_tmr_core ho
    rw [ht, if_pos hmiss, hskip]
    refine ⟨?_, ?_, ?_, ?_, ?_, ?_, ?_⟩
    · rw [← hmatch]
      exact Chip.cmpMatch_kept fun i hi => by
        rw [Chip.rd_settle, rd_skipped _ _ hcore, if_neg (by simp [cmpOff]; omega), if_neg (by simp [cmpOff]; omega),
          if_neg (by simp [cmpOff]; omega)]
    · simp [Chip.cmpEn, tst]
    · rw [Chip.rd_settle, rd_skipped _ _ hcore, if_neg (by simp [cmpOff]), if_neg (by simp [cmpOff]; omega), if_pos rfl,
        hctl 8 (by decide)]
    · rw [Chip.rd_settle, rd_skipped _ _ hcore, if_neg (by simp [cmpOff]; omega), if_pos rfl]
      exact tst_or_bitW _ n.isLt
    · rw [Chip.rd_settle, rd_skipped _ _ hcore, if_neg (by simp [cmpOff]; omega), if_neg (by decide), if_neg (by simp [cmpOff])]
      exact honly.2.rd (by simp [matchWords, key_same, cmpOff]; omega)
    · exact (Chip.raise_tb _ _).trans honly.tb
    · exact (Chip.raise_cc _ _).trans honly.1.cc
  case fires =>
    have hrun : (s.chip.pw.core && s.chip.cmpEn n.val && s.chip.reached (s.chip.cmpMatch n.val)) = true := by
      rw [hcore, hen, hdue]
      rfl
    refine ⟨completes_guarded rfl hrun, fun hsync hbar hact => ?_⟩
    obtain ⟨hflag, hevent, honly⟩ := cmpAct_leaves hcore hsync hbar hact
    have hctl (i : Nat) (hi : i < 16) : ((s.chip.begin (1 + n.val)).cmpAct n.val).rd spTmr (cmpOff n.val i) =
        s.chip.rd spTmr (cmpOff n.val i) := honly.2.rd (by
      simp only [List.forall_mem_cons, ne_eq, key_same, tmr_ne_direct _ (show 0x13 < 0x1000000 by decide), cmpOff]
      simp
      omega)
    have hp : ((s.chip.begin (1 + n.val)).cmpAct n.val).rd32 spTmr (cmpOff n.val 4) = s.chip.rd32 spTmr (cmpOff n.val 4) :=
      Chip.rd32_kept (hctl 4 (by decide)) (hctl 5 (by decide))
    have hmatch : ((s.chip.begin (1 + n.val)).cmpAct n.val).cmpMatch n.val = s.chip.cmpMatch n.val :=
      Chip.cmpMatch_kept fun i hi => hctl i (by omega)
    refine ⟨fun hzero => answers_guarded rfl hrun ?once, fun hperiod => answers_guarded rfl hrun ?again⟩
    case once =>
      rw [Chip.cmpFire, Chip.cmpNext]
      generalize Chip.cmpAct _ _ = t at *
      rw [if_pos (hp.trans hzero)]
      refine ⟨?_, ?_, ?_, ?_, ?_⟩
      · rw [Chip.rd_settle, Chip.rd_clrBits_ne _ _ (by simp [cmpOff]; omega)]
        exact hflag
      · simp [Chip.cmpEn, tst]
      · rw [← hmatch]
        exact Chip.cmpMatch_kept fun i hi => by
          rw [Chip.rd_settle, Chip.rd_clrBits_ne _ _ (by simp [cmpOff]; omega)]
      · intro hie
        rw [Chip.rd_settle, Chip.rd_clrBits, if_neg (tmr_ne_direct _ (by decide)).symm]
        exact hevent hie
      · exact ((honly.mono (by simp)).clrBits _ (by simp)).settle
    case again =>
      rw [Chip.cmpFire, Chip.cmpNext]
      generalize Chip.cmpAct _ _ = t at *
      rw [if_neg (hp ▸ hperiod), hp, hmatch, Nat.one_mul]
      refine ⟨?_, ?_, ?_⟩
      · rw [Chip.rd_settle, Chip.rd_wr64_ne _ _ (.inl (by unfold cmpOff; omega))]
        exact hflag
      · show tst (Chip.rd (Chip.wr64 t _ _ _) _ _) 15 = true
        rw [Chip.rd_wr64_ne _ _ (.inr (by simp [cmpOff])), hctl 6 (by decide)]
        exact hen
      · show BitVec.ofNat 64 ((Chip.wr64 t spTmr (cmpOff n.val 0) _).rd64 spTmr (cmpOff n.val 0)) = _
        rw [Chip.rd64_wr64]
        refine BitVec.eq_of_toNat_eq ?_
        simp

/-! ## The sync link (O27) -/

/-- The bits of a value, in order, make the value again. -/
theorem ofBoolListLE_bits {w : Nat} (x : BitVec w) :
    (BitVec.ofBoolListLE ((List.range w).map x.getLsbD)).setWidth w = x := by
  refine BitVec.eq_of_getLsbD_eq fun i hi => ?_
  rw [BitVec.getLsbD_setWidth, BitVec.getLsbD_ofBoolListLE]
  simp [hi]

/-- A pulse of each length reads as its bit. -/
theorem pulseBit_cell (b : Bool) : pulseBit (if b then 48 else 16) = some b := by
  cases b
  · rfl
  · rfl

theorem syncBits_length (v : AonTick) : (syncBits v).length = 56 := by simp [syncBits]

/-- A receiver reads the value from the cells of its frame (R115, R116). -/
theorem syncValue_syncCells (v : AonTick) : syncValue 32 (syncCells v).tail = some v := by
  have hbits : (syncCells v).tail.filterMap pulseBit = syncBits v := by
    rw [syncCells, List.tail_cons, List.filterMap_map]
    have : (pulseBit ∘ fun b => if b then 48 else 16) = some := funext pulseBit_cell
    rw [this, List.filterMap_some]
  have hlen : (syncCells v).tail.length = 56 := by simp [syncCells, syncBits_length]
  have htake : (syncBits v).take 48 = (List.range 48).map v.getLsbD := by simp [syncBits]
  have hdrop : (syncBits v).drop 48 = (List.range 8).map (crc8Of ((List.range 48).map v.getLsbD)).getLsbD := by
    simp [syncBits]
  have hcrc (bits : List Bool) (x : BitVec 8) (hb : bits = (List.range 8).map x.getLsbD) :
      BitVec.ofBoolListLE bits = x.setWidth _ := by
    subst hb
    refine BitVec.eq_of_getLsbD_eq fun i hi => ?_
    rw [BitVec.getLsbD_setWidth, BitVec.getLsbD_ofBoolListLE]
    simp at hi
    simp [hi]
  unfold syncValue
  rw [hbits, if_pos ⟨by decide, by decide, hlen⟩]
  dsimp only
  rw [if_pos (syncBits_length v), if_pos (hcrc _ _ (htake ▸ hdrop)), htake, ofBoolListLE_bits]

/-- A discarded frame counts, and no other word changes (R116). -/
theorem crcErr_leaves (m : Chip) :
    fld (m.crcErr.rd spTmr 1) 4 4 = min (fld (m.rd spTmr 1) 4 4 + 1) 15 ∧ OnlyThese m m.crcErr [(spTmr, 1)] := by
  refine ⟨?_, ((OnlyThese.refl m _).cyc _).wr _ (by simp)⟩
  rw [Chip.crcErr, Chip.bumpField, Chip.rd_wr, if_pos rfl]
  exact fld_setFld_same _ (by decide) (by omega)

/-- The planned corrections are a part of the time base that leaves the STB and the lock alone. -/
structure OnlySlews (m t : Chip) : Prop where
  regs : t.regs = m.regs
  stb : t.tb.stb = m.tb.stb
  locked : t.tb.locked = m.tb.locked

theorem onlySlews_planSlews (m : Chip) (k : Int) (left : Nat) : OnlySlews m (m.planSlews k left) := by
  unfold Chip.planSlews
  extract_lets n w _ m1
  have h1 : OnlySlews m m1 := ⟨rfl, rfl, rfl⟩
  refine List.foldlRecOn _ _ h1 ?_
  intro t h i _
  exact ⟨h.regs, h.stb, h.locked⟩

theorem Chip.missFrom_none {m : Chip} (h : ∀ n, n < 16 → m.cmpEn n = false) (old : Tick) : m.missFrom old = m := by
  unfold Chip.missFrom
  have (l : List Nat) (hl : ∀ n ∈ l, n < 16) : l.foldl (fun m n =>
      if m.cmpEn n && decide (old.toNat < (m.cmpMatch n).toNat) && decide ((m.cmpMatch n).toNat < m.now.toNat)
      then m.cmpMiss n else m) m = m := by
    induction l with
    | nil => rfl
    | cons n l ih =>
      obtain ⟨hn, hl⟩ := List.forall_mem_cons.1 hl
      rw [List.foldl_cons, h n hn, Bool.false_and, Bool.false_and, if_neg (by decide)]
      exact ih hl
  exact this _ fun n hn => List.mem_range.1 hn

/-- A step of the STB with no channel enabled misses no match. -/
theorem Chip.stbStep_none {m : Chip} (h : ∀ n, n < 16 → m.cmpEn n = false) (t : Tick) :
    m.stbStep t = { m with tb := { m.tb with stb := t, barred := m.tb.acted ++ m.tb.barred, acted := [] } } :=
  Chip.missFrom_none (m := { m with tb := { m.tb with stb := t, barred := m.tb.acted ++ m.tb.barred, acted := [] } }) h _

/-- The first good frame steps the STB and locks (R117). -/
theorem syncReceive_locks {m : Chip} {start e : Nat} {pulses : List Nat} {v : AonTick} (hv : syncValue start pulses = some v)
    (hlock : m.tb.locked = false) (hcmp : ∀ n, n < 16 → m.cmpEn n = false) :
    (m.syncReceive start pulses e).tb.stb = ((v.setWidth 64) <<< 16) + BitVec.ofNat 64 e ∧
    (m.syncReceive start pulses e).tb.locked = true ∧ tst ((m.syncReceive start pulses e).rd spTmr 1) 0 = true ∧
    WordsKept m (m.syncReceive start pulses e) [(spTmr, 1)] := by
  have hacc : m.syncReceive start pulses e = m.syncAccept v e := by
    unfold Chip.syncReceive
    simp [hv, hlock]
  rw [hacc]
  unfold Chip.syncAccept
  extract_lets base mark lock stepTo left m1
  have h1 : m1.regs = (m.orBits spTmr 1 0x0001).regs ∧ m1.tb.stb = base + BitVec.ofNat 64 e := by
    unfold m1 stepTo
    dsimp only
    rw [Chip.stbStep_none hcmp]
    exact ⟨rfl, rfl⟩
  obtain ⟨hregs, hstb⟩ := h1
  rw [hlock, if_pos (show (!false) = true from rfl)]
  have h2 := onlySlews_planSlews { m1 with tb := { m1.tb with locked := true, stepRun := 0 } } (-m1.tb.drift) left
  have hr := h2.regs.trans hregs
  refine ⟨h2.stb.trans hstb, h2.locked, ?_, fun k hk => ?_⟩
  · rw [Chip.rd, hr]
    show tst ((m.orBits spTmr 1 0x0001).rd spTmr 1) 0 = true
    rw [Chip.rd_orBits, if_pos rfl]
    simp [tst]
  · rw [hr]
    exact ((WordsKept.refl m _).orBits _ (by simp)) k hk

/-- Four epochs without a good frame lose the lock (R119). -/
theorem syncLose_leaves {m : Chip} (hcore : m.pw.core = true) (hoff : m.moversOff) :
    tst (m.syncLose.rd spTmr 1) 0 = false ∧ tst (m.syncLose.rd spTmr 1) 2 = true ∧
    m.syncLose.rd spFault 0 = m.rd spFault 0 + 1 ∧ m.syncLose.tb = { m.tb with lost := true } := by
  unfold Chip.syncLose
  generalize ha : (Chip.clrBits { m with tb := { m.tb with lost := true } } spTmr 1 0x0001).orBits spTmr 1 0x0004 = a
  have hacore : a.pw.core = true := ha ▸ hcore
  have haoff : a.moversOff := ha ▸ hoff
  have hword : a.rd spTmr 1 = (m.rd spTmr 1 &&& ~~~0x0001) ||| 0x0004 := by
    rw [← ha, Chip.rd_orBits, if_pos rfl, Chip.rd_clrBits, if_pos rfl]
    rfl
  have hcount : a.rd spFault 0 = m.rd spFault 0 := by
    rw [← ha, Chip.rd_orBits, if_neg (by decide), Chip.rd_clrBits, if_neg (by decide)]
    rfl
  have honly := onlyFault_fault a 0x0F (bytes2 (m.rd spTmr 3)) hacore haoff
  refine ⟨?_, ?_, ?_, ?_⟩
  · rw [honly.rd (by decide) (by decide), hword]
    simp [tst]
  · rw [honly.rd (by decide) (by decide), hword]
    simp [tst]
  · rw [Chip.rd_count_fault a _ _ hacore haoff, hcount]
  · rw [honly.1, ← ha]
    rfl

/-- Settles O27: the sync link's frames, lock and loss. -/
theorem syncLink : Obligations.SyncLink := by
  unfold Obligations.SyncLink
  refine ⟨fun s hcore hmode hepoch => ?send, fun v => ⟨rfl, syncValue_syncCells v⟩, fun s start pulses e hcore hmode => ?frame,
    fun s hcore hmode hlost hlate => ?lost⟩
  case send => exact answers_guarded rfl (by simp [hcore, hmode, Chip.now, hepoch]) ⟨rfl, rfl⟩
  case frame =>
    have hrun : (s.chip.pw.core && decide (s.chip.syncMode = 2)) = true := by simp [hcore, hmode]
    refine ⟨completes_guarded rfl hrun, fun hbad => answers_guarded rfl hrun ?_, fun v hv hlock hcmp => answers_guarded rfl hrun ?_⟩
    · have hrej : s.chip.syncReceive start pulses e = s.chip.crcErr := by
        unfold Chip.syncReceive
        rw [hbad]
      rw [hrej]
      exact ⟨(crcErr_leaves s.chip).1, (crcErr_leaves s.chip).2.settle⟩
    · exact syncReceive_locks hv hlock hcmp
  case lost =>
    have hrun : (s.chip.pw.core && decide (s.chip.syncMode = 2) && !s.chip.tb.lost &&
        decide (s.chip.tb.syncFrom.toNat + 4 * 65536 ≤ s.chip.now.toNat)) = true := by
      simp [hcore, hmode, hlost, Chip.now, hlate]
    exact ⟨completes_guarded rfl hrun, fun hoff => answers_guarded rfl hrun (syncLose_leaves hcore hoff)⟩

/-! ## Timers (O28) -/

/-- An item of 32 bits reads back what was stored. -/
theorem Chip.rd32_wr32_same (m : Chip) (sp off v : Nat) : (m.wr32 sp off v).rd32 sp off = v % 0x100000000 := by
  simp [Chip.wr32, Chip.rd32, Chip.rd_wr, key_same, wd]
  omega

@[simp] theorem Chip.rd32_settle (m : Chip) (sp off : Nat) : m.settle.rd32 sp off = m.rd32 sp off := rfl

theorem Chip.rd_wr32_ne (m : Chip) {sp off o : Nat} (v : Nat) (h : o ≠ off) (h' : o ≠ off + 1) :
    (m.wr32 sp off v).rd sp o = m.rd sp o := by
  rw [Chip.wr32, Chip.rd_wr, if_neg (by rwa [key_same]), Chip.rd_wr, if_neg (by rwa [key_same])]

theorem Chip.rd32_wr32_ne (m : Chip) {sp off o : Nat} (v : Nat) (h : o + 1 < off ∨ off + 1 < o) :
    (m.wr32 sp off v).rd32 sp o = m.rd32 sp o :=
  Chip.rd32_kept (Chip.rd_wr32_ne m v (by omega) (by omega)) (Chip.rd_wr32_ne m v (by omega) (by omega))

theorem Chip.rd_tmSet_ne (m : Chip) (n i : Nat) (b : Bool) {o : Nat} (h : o ≠ tmOff n 0xF) :
    (m.tmSet n i b).rd spTmr o = m.rd spTmr o := by
  rw [Chip.tmSet, Chip.rd_wr, if_neg (by rwa [key_same])]

theorem Chip.tmBit_tmSet_same (m : Chip) (n : Nat) {i : Nat} (b : Bool) (h : i < 16) : (m.tmSet n i b).tmBit n i = b := by
  rw [Chip.tmBit, Chip.tmSet, Chip.rd_wr, if_pos rfl, tst_setBit_same _ _ h]

theorem tst_setBit_ne (w : Word) {i j : Nat} (b : Bool) (h : i ≠ j) : tst (setBit w i b) j = tst w j := by
  have hclr : ∀ v : Word, tst (~~~v) j = (decide (j < 16) && !tst v j) := fun v => BitVec.getLsbD_not
  have hout (hj : ¬j < 16) : tst w j = false := BitVec.getLsbD_of_ge _ _ (by omega)
  unfold setBit
  cases b
  · by_cases hj : j < 16
    · simp [hclr, tst_bitW, h, hj]
    · simp [hout hj]
  · simp [tst_bitW, h]

/-- The one bit of a timer's mask. -/
theorem getLsbD_two_pow {n i : Nat} (hi : i < 8) : (BitVec.ofNat 8 (2 ^ n)).getLsbD i = decide (n = i) := by
  rw [BitVec.getLsbD_ofNat, Nat.testBit_two_pow, decide_eq_true hi, Bool.true_and]

theorem Chip.tmBit_tmSet_ne (m : Chip) (n : Nat) {i j : Nat} (b : Bool) (hne : i ≠ j) :
    (m.tmSet n i b).tmBit n j = m.tmBit n j := by
  rw [Chip.tmBit, Chip.tmSet, Chip.rd_wr, if_pos rfl, tst_setBit_ne _ _ hne, Chip.tmBit]

theorem Chip.tmBit_tmSet_other (m : Chip) {n k : Nat} (i j : Nat) (b : Bool) (h : k ≠ n) :
    (m.tmSet n i b).tmBit k j = m.tmBit k j := by
  rw [Chip.tmBit, Chip.rd_tmSet_ne _ _ _ _ (by unfold tmOff; omega), Chip.tmBit]

theorem Chip.tmBit_wr32 (m : Chip) {n o : Nat} (v i : Nat) (h : o + 1 < 0xF ∨ 0xF < o) :
    (m.wr32 spTmr (tmOff n o) v).tmBit n i = m.tmBit n i := by
  rw [Chip.tmBit, Chip.rd_wr32_ne _ _ (by unfold tmOff; omega) (by unfold tmOff; omega), Chip.tmBit]

/-- An edge with no action due and no Drift capture (R131). -/
theorem Chip.sourceEdge_quiet {m : Chip} {n : Nat} (hmatch : m.tb.matchDue = 0) (hterm : m.tb.termDue = 0)
    (hdrift : m.driftCap = none) :
    (m.timerFlush n).driftEdge n = m := by
  have hflush : m.timerFlush n = m := by
    unfold Chip.timerFlush
    rw [hmatch]
    simp [hterm]
  rw [hflush, Chip.driftEdge, hdrift]

/-- A counted edge below the prescaler (R131). -/
theorem Chip.sourceEdge_accumulates {m : Chip} {n : Nat} (hmatch : m.tb.matchDue = 0) (hterm : m.tb.termDue = 0)
    (hdrift : m.driftCap = none) (hpsc : m.rd32 spTmr (tmOff n 8) + 0x10000 < m.rd32 spTmr (tmOff n 6)) :
    m.sourceEdge n = m.wr32 spTmr (tmOff n 8) (m.rd32 spTmr (tmOff n 8) + 0x10000) := by
  unfold Chip.sourceEdge
  rw [Chip.sourceEdge_quiet hmatch hterm hdrift]
  exact if_neg (by omega)

/-- The counter words that the accumulator leaves. -/
theorem Chip.acc_leaves (m : Chip) (n a : Nat) :
    (m.wr32 spTmr (tmOff n 8) a).rd32 spTmr (tmOff n 0) = m.rd32 spTmr (tmOff n 0) ∧
    (m.wr32 spTmr (tmOff n 8) a).rd32 spTmr (tmOff n 2) = m.rd32 spTmr (tmOff n 2) ∧
    (m.wr32 spTmr (tmOff n 8) a).rd spTmr (tmOff n 0xA) = m.rd spTmr (tmOff n 0xA) :=
  ⟨Chip.rd32_wr32_ne _ _ (.inl (by unfold tmOff; omega)), Chip.rd32_wr32_ne _ _ (.inl (by unfold tmOff; omega)),
    Chip.rd_wr32_ne _ _ (by unfold tmOff; omega) (by unfold tmOff; omega)⟩

/-- What a count changes (R132). -/
structure Counts (m : Chip) (n : Nat) (r : Chip × Bool × Bool) : Prop where
  tb : r.1.tb = m.tb
  up : m.rd32 spTmr (tmOff n 0) ≠ m.rd32 spTmr (tmOff n 2) →
    r.1.rd32 spTmr (tmOff n 0) = (m.rd32 spTmr (tmOff n 0) + 1) % 0x100000000 ∧ r.1.tmBit n 0 = m.tmBit n 0 ∧ r.2.1 = false
  stop : m.rd32 spTmr (tmOff n 0) = m.rd32 spTmr (tmOff n 2) → tst (m.rd spTmr (tmOff n 0xA)) 15 = true →
    r.1.rd32 spTmr (tmOff n 0) = m.rd32 spTmr (tmOff n 0) ∧ r.1.tmBit n 0 = false ∧ r.1.tmBit n 1 = true ∧ r.2.1 = true
  wrap : m.rd32 spTmr (tmOff n 0) = m.rd32 spTmr (tmOff n 2) → tst (m.rd spTmr (tmOff n 0xA)) 15 = false →
    r.1.rd32 spTmr (tmOff n 0) = 0 ∧ r.1.tmBit n 0 = m.tmBit n 0 ∧ r.2.1 = true

theorem counts_countOnce (m : Chip) (n : Nat) : Counts m n (m.countOnce n) := by
  unfold Chip.countOnce
  extract_lets c tc mt v
  by_cases htc : c = tc
  · rw [if_pos htc]
    cases hone : tst (m.rd spTmr (tmOff n 0xA)) 15 with
    | true =>
      refine ⟨rfl, fun h => absurd htc h, fun _ _ => ⟨?_, ?_, ?_, rfl⟩, fun _ h => by simp [hone] at h⟩
      · exact Chip.rd32_kept ((Chip.rd_tmSet_ne _ _ _ _ (by unfold tmOff; omega)).trans
          (Chip.rd_tmSet_ne _ _ _ _ (by unfold tmOff; omega))) ((Chip.rd_tmSet_ne _ _ _ _ (by unfold tmOff; omega)).trans
          (Chip.rd_tmSet_ne _ _ _ _ (by unfold tmOff; omega)))
      · exact (Chip.tmBit_tmSet_ne _ _ _ (by decide)).trans (Chip.tmBit_tmSet_same _ _ _ (by decide))
      · exact Chip.tmBit_tmSet_same _ _ _ (by decide)
    | false =>
      refine ⟨rfl, fun h => absurd htc h, fun _ h => by simp [hone] at h, fun _ _ => ⟨?_, ?_, rfl⟩⟩
      · exact Chip.rd32_wr32_same _ _ _ _
      · exact Chip.tmBit_wr32 _ _ _ (.inl (by decide))
  · rw [if_neg htc]
    refine ⟨rfl, fun _ => ⟨?_, Chip.tmBit_wr32 _ _ _ (.inl (by decide)), rfl⟩, fun h => absurd h htc, fun h => absurd h htc⟩
    exact (Chip.rd32_wr32_same _ _ _ _).trans (Nat.mod_mod _ _)

/-- An edge that passes the prescaler counts, and the actions that are due wait (R131, R132). -/
theorem sourceEdge_counts {m : Chip} {n : Nat} (hn : n < 8) (hmatch : m.tb.matchDue = 0) (hterm : m.tb.termDue = 0)
    (hdrift : m.driftCap = none) (hpsc : m.rd32 spTmr (tmOff n 6) ≤ m.rd32 spTmr (tmOff n 8) + 0x10000) :
    (m.rd32 spTmr (tmOff n 0) ≠ m.rd32 spTmr (tmOff n 2) →
      (m.sourceEdge n).rd32 spTmr (tmOff n 0) = (m.rd32 spTmr (tmOff n 0) + 1) % 0x100000000 ∧
      (m.sourceEdge n).tb.termDue = 0 ∧ (m.sourceEdge n).tmBit n 0 = m.tmBit n 0) ∧
    (m.rd32 spTmr (tmOff n 0) = m.rd32 spTmr (tmOff n 2) → tst (m.rd spTmr (tmOff n 0xA)) 15 = true →
      (m.sourceEdge n).tmBit n 0 = false ∧ (m.sourceEdge n).tmBit n 1 = true ∧
      (m.sourceEdge n).rd32 spTmr (tmOff n 0) = m.rd32 spTmr (tmOff n 0) ∧ (m.sourceEdge n).tb.termDue.getLsbD n = true) ∧
    (m.rd32 spTmr (tmOff n 0) = m.rd32 spTmr (tmOff n 2) → tst (m.rd spTmr (tmOff n 0xA)) 15 = false →
      (m.sourceEdge n).rd32 spTmr (tmOff n 0) = 0 ∧ (m.sourceEdge n).tmBit n 0 = m.tmBit n 0 ∧
      (m.sourceEdge n).tb.termDue.getLsbD n = true) := by
  unfold Chip.sourceEdge
  rw [Chip.sourceEdge_quiet hmatch hterm hdrift]
  dsimp only
  rw [if_pos hpsc]
  generalize m.rd32 spTmr (tmOff n 8) + 0x10000 - m.rd32 spTmr (tmOff n 6) = x
  obtain ⟨h0, h2, hA⟩ := m.acc_leaves n x
  have hacc : (m.wr32 spTmr (tmOff n 8) x).tmBit n 0 = m.tmBit n 0 := Chip.tmBit_wr32 _ _ _ (.inl (by decide))
  have hc := counts_countOnce (m.wr32 spTmr (tmOff n 8) x) n
  generalize Chip.countOnce _ _ = r at hc
  have hdue : r.2.1 = true →
      (r.1.tb.termDue ||| if r.2.1 = true then BitVec.ofNat 8 (2 ^ n) else 0).getLsbD n = true := fun h => by
    rw [h, if_pos rfl, BitVec.getLsbD_or, getLsbD_two_pow hn, decide_eq_true rfl, Bool.or_true]
  refine ⟨fun h => ?_, fun h hone => ?_, fun h hone => ?_⟩
  · obtain ⟨hcount, hbit, hnot⟩ := hc.up (by rwa [h0, h2])
    refine ⟨hcount.trans (by rw [h0]), ?_, hbit.trans hacc⟩
    show r.1.tb.termDue ||| _ = 0
    rw [hc.tb, hnot]
    simp [hterm]
  · obtain ⟨hcount, hbit, hdone, his⟩ := hc.stop (by rwa [h0, h2]) (by rwa [hA])
    exact ⟨hbit, hdone, hcount.trans h0, hdue his⟩
  · obtain ⟨hcount, hbit, his⟩ := hc.wrap (by rwa [h0, h2]) (by rwa [hA])
    exact ⟨hcount, hbit.trans hacc, hdue his⟩

/-- A timer's flag with its event. -/
theorem flagged_leaves {m t : Chip} (n : Fin 8) (hcore : t.pw.core = true) (hregs : t.regs = m.regs) (w : Word) :
    ((t.orBits spTmr 0x0A (bitW n.val)).raiseIf (tst w 15) evTmrMatch).rd spTmr 0x0A = m.rd spTmr 0x0A ||| bitW n.val ∧
    ((t.orBits spTmr 0x0A (bitW n.val)).raiseIf (tst w 15) evTmrMatch).tb = t.tb ∧
    (tst w 15 = true → tst (((t.orBits spTmr 0x0A (bitW n.val)).raiseIf (tst w 15) evTmrMatch).rd 0 0x13) 11 = true) ∧
    WordsKept m ((t.orBits spTmr 0x0A (bitW n.val)).raiseIf (tst w 15) evTmrMatch) [(spTmr, 0x0A), (0, 0x13)] := by
  have hraise (sp o : Nat) := Chip.rd_raise (t.orBits spTmr 0x0A (bitW n.val)) evTmrMatch sp o hcore
  have hflag : (t.orBits spTmr 0x0A (bitW n.val)).rd spTmr 0x0A = m.rd spTmr 0x0A ||| bitW n.val := by
    rw [Chip.rd_orBits, if_pos rfl, Chip.rd, hregs, ← Chip.rd]
  refine ⟨?_, ?_, fun hie => ?_, ?_⟩
  · unfold Chip.raiseIf
    split
    · rw [hraise, if_neg (tmr_ne_direct _ (by decide)), hflag]
    · exact hflag
  · unfold Chip.raiseIf
    split
    · exact Chip.raise_tb _ _
    · rfl
  · rw [Chip.raiseIf, if_pos hie, hraise, if_pos (show key 0 0x13 = key 0 (0x13 + evTmrMatch / 16) from rfl)]
    exact tst_or_bitW _ (by decide)
  · have h0 : WordsKept m t [(spTmr, 0x0A), (0, 0x13)] := fun k _ => congrArg (Bank.get · k) hregs
    exact (h0.orBits _ (by simp)).raiseIf (by simp [evTmrMatch])

/-- The match action of a timer that performs none sets the flag and, where enabled, the event (R132). -/
theorem timerMatch_leaves {m : Chip} {n : Fin 8} (hact : fld (m.rd spTmr (tmOff n.val 0xB)) 8 4 = 0) (hcore : m.pw.core = true) :
    (m.timerMatch n.val).rd spTmr 0x0A = m.rd spTmr 0x0A ||| bitW n.val ∧
    (m.timerMatch n.val).tb.matchDue = m.tb.matchDue &&& ~~~BitVec.ofNat 8 (2 ^ n.val) ∧
    (tst (m.rd spTmr (tmOff n.val 0xB)) 15 = true → tst ((m.timerMatch n.val).rd 0 0x13) 11 = true) ∧
    WordsKept m (m.timerMatch n.val) [(spTmr, 0x0A), (0, 0x13)] := by
  unfold Chip.timerMatch
  extract_lets w _ m1
  have hdo : m1.doAction (17 + 2 * n.val) w = m1 := by
    unfold Chip.doAction
    rw [show fld w 8 4 = 0 from hact]
    rfl
  rw [hdo]
  obtain ⟨hflag, htb, hevent, hkept⟩ := flagged_leaves (m := m) (t := m1) n hcore rfl w
  exact ⟨hflag, congrArg TimeBase.matchDue htb, hevent, hkept⟩

/-- The terminal action of a timer that performs none and steps no Drift capture (R132). -/
theorem timerFlush_leaves {m : Chip} {n : Fin 8} (hact : fld (m.rd spTmr (tmOff n.val 0xC)) 8 4 = 0) (hcore : m.pw.core = true)
    (hdrift : m.driftCap = none) (hterm : m.tb.termDue.getLsbD n.val = true) (hmatch : m.tb.matchDue.getLsbD n.val = false) :
    (m.timerFlush n.val).rd spTmr 0x0A = m.rd spTmr 0x0A ||| bitW n.val ∧
    (m.timerFlush n.val).tb.termDue = m.tb.termDue &&& ~~~BitVec.ofNat 8 (2 ^ n.val) ∧
    WordsKept m (m.timerFlush n.val) [(spTmr, 0x0A), (0, 0x13)] := by
  unfold Chip.timerFlush
  simp only [hmatch, hterm, if_true, Bool.false_eq_true, if_false]
  unfold Chip.timerTerminal
  extract_lets w _ m1
  have hstep : m1.driftStep n.val = m1 := by
    unfold Chip.driftStep
    rw [show m1.driftCap = none from hdrift]
  have hdo : m1.doAction (18 + 2 * n.val) w = m1 := by
    unfold Chip.doAction
    rw [show fld w 8 4 = 0 from hact]
    rfl
  rw [hstep, hdo]
  obtain ⟨hflag, htb, -, hkept⟩ := flagged_leaves (m := m) (t := m1) n hcore rfl w
  exact ⟨hflag, congrArg TimeBase.termDue htb, hkept⟩

/-- A pass over other timers leaves the bits of a timer. -/
theorem foldl_tmBit_notMem {f : Chip → Nat → Chip} (hother : ∀ m n k, k ≠ n → ∀ j, (f m n).tmBit k j = m.tmBit k j) {k : Nat}
    (l : List Nat) (hk : k ∉ l) (m : Chip) (j : Nat) : (l.foldl f m).tmBit k j = m.tmBit k j := by
  induction l generalizing m with
  | nil => rfl
  | cons n l ih =>
    obtain ⟨hn, hl⟩ := not_or.1 (mt List.mem_cons.2 hk)
    exact (ih hl _).trans (hother m n k hn j)

/-- In a pass over the timers each timer is met as it stood, and keeps what it then takes. -/
theorem foldl_tmBit_mem {f : Chip → Nat → Chip} {P : Chip → Prop} (hstep : ∀ m n, P m → P (f m n))
    (hother : ∀ m n k, k ≠ n → ∀ j, (f m n).tmBit k j = m.tmBit k j) {k : Nat} (hk : k < 8) {m : Chip} (hP : P m) (j : Nat) :
    ∃ t, P t ∧ (∀ i, t.tmBit k i = m.tmBit k i) ∧ ((List.range 8).foldl f m).tmBit k j = (f t k).tmBit k j := by
  obtain ⟨before, after, hsplit⟩ := List.append_of_mem (List.mem_range.2 hk)
  have hnd : (before ++ k :: after).Nodup := hsplit ▸ List.nodup_range
  obtain ⟨-, hrest, hdisj⟩ := List.nodup_append.1 hnd
  have hbefore : k ∉ before := fun h => hdisj _ h _ (List.mem_cons_self ..) rfl
  refine ⟨before.foldl f m, ?_, foldl_tmBit_notMem hother before hbefore m, ?_⟩
  · exact List.foldlRecOn _ _ hP fun t ht n _ => hstep t n ht
  · rw [hsplit, List.foldl_append, List.foldl_cons]
    exact foldl_tmBit_notMem hother after (List.nodup_cons.1 hrest).1 _ j

theorem begin_stopped (m : Chip) (src : Nat) (h : m.cyc.stopped = 0) : (m.begin src).cyc.stopped = 0 := by
  unfold Chip.begin
  dsimp only
  split
  · rfl
  · exact h

/-- TSTART starts the timers of its mask that neither run nor are done (R136). -/
theorem tmBit_writeTstart_start {m : Chip} {v : Word} (hv : tst v 15 = false) (hstop : m.cyc.stopped = 0) {n : Nat} (hn : n < 8) :
    (m.writeTstart v).tmBit n 0 = (m.tmBit n 0 || (tst v n && !m.tmBit n 1)) := by
  have hstart (t : Chip) (ht : t.cyc.stopped = 0) (k : Nat) :
      t.startTimer k = if t.tmBit k 0 || t.tmBit k 1 then t else t.tmSet k 0 true := by
    simp [Chip.startTimer, ht]
  unfold Chip.writeTstart
  rw [hv]
  obtain ⟨t, ht, hsame, hres⟩ := foldl_tmBit_mem (P := fun t => t.cyc.stopped = 0) (k := n) (m := m) (j := 0)
    (f := fun m n => if tst v n then (if false then m.stopTimer n else m.startTimer n) else m)
    (fun t k ht => by
      split
      · rw [if_neg (by decide), hstart t ht]
        split
        · exact ht
        · exact ht
      · exact ht)
    (fun t i k hk j => by
      split
      · unfold Chip.startTimer
        rw [if_neg (by decide)]
        split
        · rfl
        · exact Chip.tmBit_tmSet_other _ _ _ _ hk
      · rfl) hn hstop
  rw [hres, ← hsame 0, ← hsame 1, hstart t ht]
  cases hn0 : t.tmBit n 0
  · cases hn1 : t.tmBit n 1
    · cases tst v n
      · simp [hn0]
      · simp [Chip.tmBit_tmSet_same]
    · simp [hn0]
  · simp [hn0]

/-- TSTART with STOP stops those of its mask (R136). -/
theorem tmBit_writeTstart_stop {m : Chip} {v : Word} (hv : tst v 15 = true) {n : Nat} (hn : n < 8) :
    (m.writeTstart v).tmBit n 0 = (m.tmBit n 0 && !tst v n) := by
  unfold Chip.writeTstart
  rw [hv]
  obtain ⟨t, -, hsame, hres⟩ := foldl_tmBit_mem (P := fun _ => True) (k := n) (m := m) (j := 0)
    (f := fun m n => if tst v n then (if true then m.stopTimer n else m.startTimer n) else m)
    (fun _ _ _ => trivial)
    (fun t i k hk j => by
      split
      · exact Chip.tmBit_tmSet_other _ _ _ _ hk
      · rfl) hn trivial
  rw [hres, ← hsame 0]
  cases tst v n
  · simp
  · simp [Chip.stopTimer, Chip.tmBit_tmSet_same]

/-- REARM (R135). -/
theorem writeTmCmd_leaves {s : State} {n : Fin 8} {v : Word} (hv : tst v 0 = true) :
    s.host.writeSpace spTmr (tmOff n.val 0xE) v = (s.host.wr32 spTmr (tmOff n.val 0) 0).tmSet n.val 1 false := by
  have hoff : s.host.writeSpace spTmr (tmOff n.val 0xE) v = s.host.writeTm n.val 0xE v := by
    show s.host.writeTmr (tmOff n.val 0xE) v = _
    unfold Chip.writeTmr tmOff
    rw [if_neg (by omega), if_neg (by omega), if_neg (by omega), if_neg (by omega), if_pos (by omega)]
    congr 1
    · omega
    · omega
  rw [hoff]
  exact if_pos hv

/-- The values of a capture are items of 32 bits. -/
theorem Chip.rd32_lt (m : Chip) (sp off : Nat) : m.rd32 sp off < 0x100000000 := by
  have h0 := (m.rd sp off).isLt
  have h1 := (m.rd sp (off + 1)).isLt
  unfold Chip.rd32
  omega

/-- The value that an edge of the capture input stores (R140). -/
def Chip.capValue (m : Chip) (n : Nat) : Nat :=
  if tst (m.rd spTmr (tmOff n 0xD)) 15 then m.tb.stb.toNat % 0x100000000 else m.rd32 spTmr (tmOff n 0)

theorem Chip.capValue_lt (m : Chip) (n : Nat) : m.capValue n < 0x100000000 := by
  unfold Chip.capValue
  split
  · exact Nat.mod_lt _ (by decide)
  · exact m.rd32_lt _ _

/-- What follows the value's store: the edge counts, the flag is set, and where enabled the event. -/
def Chip.capFlag (m : Chip) (n : Nat) (ie : Bool) : Chip :=
  let w := m.rd spTmr (tmOff n 0xF)
  ((m.wr spTmr (tmOff n 0xF) (setFld w 8 8 (fld w 8 8 + 1))).orBits spTmr 0x0A (bitW (8 + n))).raiseIf ie evTmrCapture

theorem capFlag_leaves (m : Chip) (n : Fin 8) (ie : Bool) :
    tst ((m.capFlag n.val ie).rd spTmr 0x0A) (8 + n.val) = true ∧ (m.capFlag n.val ie).tb = m.tb ∧
    WordsKept m (m.capFlag n.val ie) [(spTmr, tmOff n.val 0xF), (spTmr, 0x0A), (0, 0x13)] := by
  unfold Chip.capFlag
  extract_lets w
  have hflag : tst (((m.wr spTmr (tmOff n.val 0xF) (setFld w 8 8 (fld w 8 8 + 1))).orBits spTmr 0x0A (bitW (8 + n.val))).rd
      spTmr 0x0A) (8 + n.val) = true := by
    rw [Chip.rd_orBits, if_pos rfl]
    exact tst_or_bitW _ (by omega)
  have hkept : WordsKept m ((m.wr spTmr (tmOff n.val 0xF) (setFld w 8 8 (fld w 8 8 + 1))).orBits spTmr 0x0A (bitW (8 + n.val)))
      [(spTmr, tmOff n.val 0xF), (spTmr, 0x0A), (0, 0x13)] := ((WordsKept.refl m _).wr _ (by simp)).orBits _ (by simp)
  refine ⟨?_, ?_, hkept.raiseIf (by simp [evTmrCapture])⟩
  · have hraised : WordsKept ((m.wr spTmr (tmOff n.val 0xF) (setFld w 8 8 (fld w 8 8 + 1))).orBits spTmr 0x0A (bitW (8 + n.val)))
        (((m.wr spTmr (tmOff n.val 0xF) (setFld w 8 8 (fld w 8 8 + 1))).orBits spTmr 0x0A (bitW (8 + n.val))).raiseIf ie evTmrCapture)
        [(0, 0x13)] := (WordsKept.refl _ _).raiseIf (by simp [evTmrCapture])
    rw [hraised.rd (by
      intro x hx
      obtain rfl := List.mem_singleton.1 hx
      exact tmr_ne_direct _ (by decide))]
    exact hflag
  · unfold Chip.raiseIf
    split
    · exact Chip.raise_tb _ _
    · rfl
theorem capFlag_cc (m : Chip) (n : Nat) (ie : Bool) : (m.capFlag n ie).cc = m.cc := by
  unfold Chip.capFlag Chip.raiseIf
  extract_lets w
  split
  · exact Chip.raise_cc _ _
  · rfl

/-- A value stored before the flag stays (R140). -/
theorem capFlag_value (m : Chip) (n : Fin 8) (ie : Bool) {o : Nat} (ho : 0xF < o) :
    (m.capFlag n.val ie).rd32 spTmr (tmOff n.val o) = m.rd32 spTmr (tmOff n.val o) := by
  obtain ⟨-, -, hkept⟩ := capFlag_leaves m n ie
  have hw (i : Nat) (hi : 0xF < i) : ∀ w ∈ [(spTmr, tmOff n.val 0xF), (spTmr, 0x0A), (0, 0x13)],
      key spTmr (tmOff n.val i) ≠ key w.1 w.2 := by
    simp only [List.forall_mem_cons, ne_eq, key_same, tmr_ne_direct _ (show 0x13 < 0x1000000 by decide), tmOff]
    simp
    omega
  exact hkept.rd32 (hw o ho) (hw (o + 1) (by omega))

/-- A rising edge at the capture input stores the value and is remembered (R140). -/
def Chip.capRise (m : Chip) (n : Nat) : Chip :=
  { m.wr32 spTmr (tmOff n 0x12) (m.capValue n) with tb := { m.tb with rose := m.tb.rose ||| BitVec.ofNat 8 (2 ^ n) } }

theorem Chip.rd32_capValue (m : Chip) (n o : Nat) :
    (m.wr32 spTmr (tmOff n o) (m.capValue n)).rd32 spTmr (tmOff n o) = m.capValue n := by
  rw [Chip.rd32_wr32_same, Nat.mod_eq_of_lt (m.capValue_lt n)]

theorem capRise_leaves (m : Chip) (n : Fin 8) :
    (m.capRise n.val).rd32 spTmr (tmOff n.val 0x12) = m.capValue n.val ∧ (m.capRise n.val).tb.stb = m.tb.stb ∧
    (m.capRise n.val).tb.rose.getLsbD n.val = true := by
  refine ⟨m.rd32_capValue n.val 0x12, rfl, ?_⟩
  show (m.tb.rose ||| BitVec.ofNat 8 (2 ^ n.val)).getLsbD n.val = true
  rw [BitVec.getLsbD_or, getLsbD_two_pow n.isLt, decide_eq_true rfl, Bool.or_true]

/-- An edge with no earlier rising one, without a Drift capture (R140). -/
theorem timerCap_first {m : Chip} {n : Nat} (hdrift : m.driftCap = none) (hrose : m.tb.rose.getLsbD n = false) :
    (∃ ie, m.timerCap n true = (m.capRise n).capFlag n ie) ∧
    ∃ ie, m.timerCap n false = (m.wr32 spTmr (tmOff n 0x14) (m.capValue n)).capFlag n ie := by
  refine ⟨⟨tst (m.rd spTmr (tmOff n 0xD)) 14, ?_⟩, tst (m.rd spTmr (tmOff n 0xD)) 13, ?_⟩
  · have hnone : ((m.capRise n).capFlag n (tst (m.rd spTmr (tmOff n 0xD)) 14)).driftCap = none := by
      rw [Chip.driftCap, (capFlag_cc _ _ _)]
      exact hdrift
    unfold Chip.timerCap
    rw [hrose]
    simp only [Bool.false_eq_true, if_false, if_true]
    show Chip.driftCapture ((m.capRise n).capFlag n (tst (m.rd spTmr (tmOff n 0xD)) 14)) n = _
    rw [Chip.driftCapture, hnone]
  · unfold Chip.timerCap
    rw [hrose]
    rfl

/-- The edges of a timer that counts. -/
theorem timer_counts (s : State) (n : Fin 8) (src : ClkSource) (hcore : s.chip.pw.core = true)
    (hclk : s.chip.clocks n.val src = true) (hrun : s.chip.tmBit n.val 0 = true) (hfroz : s.chip.frozen n.val = false)
    (hmatch : s.chip.tb.matchDue = 0) (hterm : s.chip.tb.termDue = 0) (hdrift : s.chip.driftCap = none) :
    (s.chip.rd32 spTmr (tmOff n.val 8) + 0x10000 < s.chip.rd32 spTmr (tmOff n.val 6) →
      Answers (.timerSourceEdge (n, src)) s (fun t =>
        t.rd32 spTmr (tmOff n.val 8) = (s.chip.rd32 spTmr (tmOff n.val 8) + 0x10000) % 0x100000000 ∧
        OnlyThese s.chip t [(spTmr, tmOff n.val 8), (spTmr, tmOff n.val 9)])) ∧
    (s.chip.rd32 spTmr (tmOff n.val 6) ≤ s.chip.rd32 spTmr (tmOff n.val 8) + 0x10000 →
      (s.chip.rd32 spTmr (tmOff n.val 0) ≠ s.chip.rd32 spTmr (tmOff n.val 2) →
        Answers (.timerSourceEdge (n, src)) s (fun t =>
          t.rd32 spTmr (tmOff n.val 0) = (s.chip.rd32 spTmr (tmOff n.val 0) + 1) % 0x100000000 ∧ t.tb.termDue = 0 ∧
          t.tmBit n.val 0 = true)) ∧
      (s.chip.rd32 spTmr (tmOff n.val 0) = s.chip.rd32 spTmr (tmOff n.val 2) →
        (tst (s.chip.rd spTmr (tmOff n.val 0xA)) 15 = true →
          Answers (.timerSourceEdge (n, src)) s (fun t => t.tmBit n.val 0 = false ∧ t.tmBit n.val 1 = true ∧
            t.rd32 spTmr (tmOff n.val 0) = s.chip.rd32 spTmr (tmOff n.val 0) ∧ t.tb.termDue.getLsbD n.val = true)) ∧
        (tst (s.chip.rd spTmr (tmOff n.val 0xA)) 15 = false →
          Answers (.timerSourceEdge (n, src)) s (fun t => t.rd32 spTmr (tmOff n.val 0) = 0 ∧ t.tmBit n.val 0 = true ∧
            t.tb.termDue.getLsbD n.val = true)))) := by
  have hgo : (s.chip.pw.core && s.chip.clocks n.val src && s.chip.tmBit n.val 0 && !s.chip.frozen n.val) = true := by
    simp [hcore, hclk, hrun, hfroz]
  have hanswers (P : Chip → Prop) : P ((s.chip.begin (40 + n.val)).sourceEdge n.val).settle →
      Answers (.timerSourceEdge (n, src)) s P := answers_guarded rfl hgo
  refine ⟨fun hpsc => hanswers _ ?_, fun hpsc => ?_⟩
  · rw [Chip.sourceEdge_accumulates (m := s.chip.begin (40 + n.val)) hmatch hterm hdrift hpsc]
    exact ⟨(Chip.rd32_settle _ _ _).trans <| Chip.rd32_wr32_same _ _ _ _, (((onlyThese_begin s.chip _ _).wr32 _ (by simp) (by simp [tmOff]))).settle⟩
  · obtain ⟨hup, hstop, hwrap⟩ := sourceEdge_counts (m := s.chip.begin (40 + n.val)) n.isLt hmatch hterm hdrift hpsc
    generalize Chip.sourceEdge _ _ = t at *
    refine ⟨fun h => hanswers _ ?_, fun h => ⟨fun hone => hanswers _ ?_, fun hone => hanswers _ ?_⟩⟩
    · obtain ⟨hcount, hnone, hbit⟩ := hup h
      exact ⟨hcount, hnone, hbit.trans hrun⟩
    · exact hstop h hone
    · obtain ⟨hcount, hbit, hdue⟩ := hwrap h hone
      exact ⟨hcount, hbit.trans hrun, hdue⟩

/-- Settles O28: the timers' counts, actions, start, stop, rearm and capture. -/
theorem timers : Obligations.Timers := by
  unfold Obligations.Timers
  refine ⟨fun s n src hcore hclk hrun hfroz => ?edge, timer_counts,
    fun s n hcore => ?due, fun s n hcore hdrift => ?actions, fun s v hr => ?tstart, fun s n v ho hv => ?rearm,
    fun s n rising hcore hawake hen hpin => ?capture, fun s n hcore hawake hen hpin hdrift hrose => ?captured⟩
  case edge => exact completes_guarded rfl (by simp [hcore, hclk, hrun, hfroz])
  case due =>
    exact ⟨fun h => completes_guarded rfl (by simp [hcore, h]), fun h => completes_guarded rfl (by simp [hcore, h])⟩
  case actions =>
    refine ⟨fun hmatch hact => answers_guarded rfl (by simp [hcore, hmatch]) ?_,
      fun hterm hmatch hact => answers_guarded rfl (by simp [hcore, hterm]) ?_⟩
    · exact timerMatch_leaves (m := s.chip.begin (17 + 2 * n.val)) hact hcore
    · exact timerFlush_leaves (m := s.chip.begin (18 + 2 * n.val)) hact hcore hdrift hterm hmatch
  case tstart =>
    refine ⟨fun hv hstop => answers_hostWrite (f := (·.writeTstart v)) rfl hr fun n hn => ?_,
      fun hv => answers_hostWrite (f := (·.writeTstart v)) rfl hr fun n hn => ?_⟩
    · exact tmBit_writeTstart_start (m := s.host) hv (begin_stopped _ _ hstop) hn
    · exact tmBit_writeTstart_stop (m := s.host) hv hn
  case rearm =>
    refine answers_hostWindow rfl ho ?_
    rw [writeTmCmd_leaves hv]
    refine ⟨?_, ?_, ?_, ?_⟩
    · exact (Chip.rd32_kept (Chip.rd_tmSet_ne _ _ _ _ (by unfold tmOff; omega))
        (Chip.rd_tmSet_ne _ _ _ _ (by unfold tmOff; omega))).trans (Chip.rd32_wr32_same _ _ _ _)
    · exact Chip.tmBit_tmSet_same _ _ _ (by decide)
    · exact (Chip.tmBit_tmSet_ne _ _ _ (by decide)).trans (Chip.tmBit_wr32 _ _ _ (.inl (by decide)))
    · exact (((onlyThese_host s _).wr32 _ (by simp) (by simp [tmOff])).wr _ (by simp)).settle
  case capture => exact completes_guarded rfl (by simp [hcore, hawake, hen, hpin])
  case captured =>
    have hrun : (s.chip.pw.core && !s.chip.pins.asleep && tst (s.chip.rd spTmr (tmOff n.val 0xD)) 12 &&
        (s.chip.capPin n.val).isSome) = true := by simp [hcore, hawake, hen, hpin]
    obtain ⟨⟨ie, hrise⟩, ie', hfall⟩ := timerCap_first hdrift hrose
    refine ⟨answers_guarded rfl hrun ?_, answers_guarded rfl hrun ?_⟩
    · rw [hrise]
      obtain ⟨hvalue, hstb, hseen⟩ := capRise_leaves s.chip n
      generalize s.chip.capRise n.val = t at *
      obtain ⟨hflag, htb, -⟩ := capFlag_leaves t n ie
      exact ⟨(capFlag_value t n ie (by decide)).trans hvalue, hflag, (congrArg (·.rose.getLsbD n.val) htb).trans hseen,
        (congrArg TimeBase.stb htb).trans hstb⟩
    · rw [hfall]
      obtain ⟨hflag, htb, -⟩ := capFlag_leaves (s.chip.wr32 spTmr (tmOff n.val 0x14) (s.chip.capValue n.val)) n ie'
      exact ⟨(capFlag_value _ n ie' (by decide)).trans (s.chip.rd32_capValue n.val 0x14), hflag, htb⟩

end Sys2Proof.Machine

end


section
/-! PROOFS. Strobes and regulators, the HKC's modes, its requests and its results. -/

namespace Sys2Proof.Machine
-- What the steps below change is compared with the model by unfolding: one elaboration at a time.
set_option Elab.async false

/-! ## Strobes and regulators (O33) -/

/-- A fault record leaves the channels, the time base and Loam, whatever the state of CORE. -/
theorem fault_leaves {m : Chip} (code : Nat) (detail : List Byte) (h : m.moversOff) :
    (m.fault code detail).chans = m.chans ∧ (m.fault code detail).tb = m.tb ∧ (m.fault code detail).loam = m.loam ∧
    ∀ sp off, sp ≠ spFault → off < 0x1000000 → (m.fault code detail).rd sp off = m.rd sp off := by
  cases hcore : m.pw.core with
  | true =>
    have honly := onlyFault_fault m code detail hcore h
    obtain ⟨r, c, heq, -⟩ := onlyFault_iff.1 honly
    refine ⟨?_, ?_, ?_, fun sp off hsp hoff => honly.rd hsp hoff⟩
    all_goals rw [heq]
  | false =>
    rw [Chip.fault, if_neg (ne_true_of_eq_false hcore)]
    exact ⟨rfl, rfl, rfl, fun _ _ _ _ => rfl⟩

/-- FLT of a channel that is low (R198). -/
theorem setFlt_leaves {m : Chip} {c : Fin 8} (hlow : (m.chan c.val).level = false) :
    (m.setFlt c.val).chans = m.chans ∧ (m.setFlt c.val).tb = m.tb ∧ (m.setFlt c.val).loam = m.loam ∧
    (m.setFlt c.val).movers = m.movers ∧ tst ((m.setFlt c.val).rd spIllum 0) (8 + c.val) = true := by
  unfold Chip.setFlt
  generalize hm1 : (m.orBits spIllum 0 (bitW (8 + c.val))).raise evIllumFault = m1
  have h1 : m1.chans = m.chans ∧ m1.tb = m.tb ∧ m1.loam = m.loam ∧ m1.movers = m.movers ∧
      tst (m1.rd spIllum 0) (8 + c.val) = true := by
    rw [← hm1]
    refine ⟨Chip.raise_chans _ _, Chip.raise_tb _ _, Chip.raise_loam _ _, Chip.raise_movers _ _, ?_⟩
    have hkept : WordsKept (m.orBits spIllum 0 (bitW (8 + c.val))) ((m.orBits spIllum 0 (bitW (8 + c.val))).raise evIllumFault)
        [(0, 0x13)] := (WordsKept.refl _ _).raise (by simp [evIllumFault])
    rw [hkept.rd (by decide), Chip.rd_orBits, if_pos rfl]
    exact tst_or_bitW _ (by omega)
  have hflag (x : BitVec 4) : (m1.flagIllum x).chans = m1.chans ∧ (m1.flagIllum x).tb = m1.tb ∧ (m1.flagIllum x).loam = m1.loam ∧
      (m1.flagIllum x).movers = m1.movers ∧ (m1.flagIllum x).rd spIllum 0 = m1.rd spIllum 0 := by
    unfold Chip.flagIllum
    split
    · exact ⟨rfl, rfl, rfl, rfl, rfl⟩
    · refine ⟨rfl, rfl, rfl, rfl, ?_⟩
      rw [Chip.rd_orBits, if_neg (by decide)]
      rfl
  obtain ⟨hchans1, htb1, hloam1, hmov1, hset1⟩ := h1
  have hstays (m2 : Chip) (h : m2.chans = m.chans) : (if m2.fltHolds c.val then m2.strobeFall c.val m2.now else m2) = m2 := by
    have hlow2 : (m2.chan c.val).level = false := by rw [Chip.chan, h]; exact hlow
    have hfall : m2.strobeFall c.val m2.now = m2 := by simp [Chip.strobeFall, hlow2]
    rw [hfall, ite_self]
  cases hc : m1.cc.cap with
  | none =>
    simp only [hc]
    rw [hstays m1 hchans1]
    exact ⟨hchans1, htb1, hloam1, hmov1, hset1⟩
  | some cap =>
    obtain ⟨hchans, htb, hloam, hmov, hrd⟩ := hflag (cap.lit c.val)
    simp only [hc]
    rw [hstays _ (hchans.trans hchans1)]
    exact ⟨hchans.trans hchans1, htb.trans htb1, hloam.trans hloam1, hmov.trans hmov1, by rwa [hrd]⟩

/-- A strobe that is high belongs to a channel of the chip. -/
theorem Chip.chan_lt {m : Chip} {c : Nat} (h : (m.chan c).level = true) : c < m.chans.length := by
  refine Nat.lt_of_not_le fun hle => ?_
  rw [Chip.chan, List.getD_eq_default _ _ hle] at h
  cases h

/-- A strobe that is forced low (R188). -/
theorem forcedLow_leaves {m : Chip} {c : Fin 8} (t : Tick) (hhigh : (m.chan c.val).level = true) (hoff : m.moversOff)
    (detail : List Byte) :
    ((((m.strobeFall c.val t).setFlt c.val).fault 0x03 detail).chan c.val).level = false ∧
    tst ((((m.strobeFall c.val t).setFlt c.val).fault 0x03 detail).rd spIllum 0) (8 + c.val) = true ∧
    (((m.strobeFall c.val t).setFlt c.val).fault 0x03 detail).tb = m.tb ∧
    (((m.strobeFall c.val t).setFlt c.val).fault 0x03 detail).loam = m.loam := by
  obtain ⟨hlow, -⟩ := Chip.strobeFall_level t c.isLt (Chip.chan_lt hhigh)
  obtain ⟨r, y, k, l, heq, -⟩ := onlyStrobes_iff.1 (onlyStrobes_strobeFall m t c.isLt)
  have htb : (m.strobeFall c.val t).tb = m.tb := by rw [heq]
  have hloam : (m.strobeFall c.val t).loam = m.loam := by rw [heq]
  have hmov : (m.strobeFall c.val t).movers = m.movers := by rw [heq]
  generalize m.strobeFall c.val t = a at *
  obtain ⟨hchans, htb', hloam', hmov', hset⟩ := setFlt_leaves hlow
  generalize a.setFlt c.val = b at *
  have hb : b.moversOff := fun i hi => by
    rw [Chip.mover, hmov', hmov]
    exact hoff i hi
  obtain ⟨hchans'', htb'', hloam'', hrd⟩ := fault_leaves 0x03 detail hb
  refine ⟨?_, ?_, htb''.trans (htb'.trans htb), hloam''.trans (hloam'.trans hloam)⟩
  · rw [Chip.chan, hchans'', hchans]
    exact hlow
  · rw [hrd _ _ (by decide) (by decide)]
    exact hset

theorem regRow_regctl : ∀ c : Fin 8, regRow spIllum (chanOff c.val 4) = some ⟨0x104, 8, 32, 1, 0, 0x87FF, 0x0800, 0⟩ := by decide

/-- A REGCTL write stores EN and the slot. -/
theorem regctl_written (m : Chip) (c : Fin 8) (v : Word) {i : Nat} (hi : i < 16) (hrw : tst 0x87FF i = true) :
    tst ((m.plainWrite spIllum (chanOff c.val 4) v).rd spIllum (chanOff c.val 4)) i = tst v i := by
  have hw1c : tst 0x0800 i = false := by
    unfold tst at hrw ⊢
    interval_cases i
    all_goals simp at hrw ⊢
  rw [Chip.rd_plainWrite_same _ _ _ _ _ (regRow_regctl c), tst_and_not _ _ hi, tst_merge _ _ _ hi, hrw, tst_and, tst_and, hw1c]
  simp

theorem Chip.writeSpace_illum (m : Chip) (c : Fin 8) {o : Nat} (ho : o < 0x20) (v : Word) :
    m.writeSpace spIllum (chanOff c.val o) v =
      if o = 0 then m.writeStrbcfg c.val v else if o = 3 then m.writeIsetval c.val v else if o = 4 then m.writeRegctl c.val v
      else if o = 6 then m.writeBound c.val false v else if o = 7 then m.writeBound c.val true v
      else m.plainWrite spIllum (chanOff c.val o) v := by
  show m.writeIllum (chanOff c.val o) v = _
  unfold Chip.writeIllum chanOff
  rw [if_pos (by omega), show (0x100 + 0x20 * c.val + o - 0x100) / 0x20 = c.val by omega,
    show (0x100 + 0x20 * c.val + o) % 0x20 = o by omega]
  dsimp only
  split
  all_goals simp_all

theorem Chip.writeSpace_isetval (m : Chip) (c : Fin 8) (v : Word) :
    m.writeSpace spIllum (chanOff c.val 3) v = m.writeIsetval c.val v := m.writeSpace_illum c (by decide) v

theorem Chip.writeSpace_regctl (m : Chip) (c : Fin 8) (v : Word) :
    m.writeSpace spIllum (chanOff c.val 4) v = m.writeRegctl c.val v := m.writeSpace_illum c (by decide) v

theorem Chip.writeSpace_bound (m : Chip) (c : Fin 8) (hi : Bool) (v : Word) :
    m.writeSpace spIllum (chanOff c.val (if hi then 7 else 6)) v = m.writeBound c.val hi v := by
  cases hi
  · exact m.writeSpace_illum c (by decide) v
  · exact m.writeSpace_illum c (by decide) v

/-- A regulator that starts (R194). -/
theorem writeRegctl_starts {m : Chip} {c : Fin 8} {v : Word} (hlen : m.chans.length = 8) (hidle : (m.chan c.val).act = false)
    (hen : tst v 15 = true) :
    ((m.writeRegctl c.val v).chan c.val).act = true ∧
    ((m.writeRegctl c.val v).chan c.val).reg = (m.rd spIllum (chanOff c.val 6)).setWidth 10 ∧
    WordsKept m (m.writeRegctl c.val v) [(spIllum, chanOff c.val 4)] ∧ (m.writeRegctl c.val v).hkc = m.hkc := by
  have hc : c.val < m.chans.length := by rw [hlen]; exact c.isLt
  unfold Chip.writeRegctl
  extract_lets x r m1
  have hr : r.1 = true := by
    show (tst v 15 && !(m.chan c.val).act) = true
    rw [hen, hidle]
    rfl
  have hkept : WordsKept m m1 [(spIllum, chanOff c.val 4)] := (WordsKept.refl m _).plainWrite v (by simp)
  have hhkc : m1.hkc = m.hkc := Chip.plainWrite_hkc ..
  have hlen1 : c.val < m1.chans.length := by
    rw [Chip.length_mapChan, Chip.plainWrite_chans]
    exact hc
  have hlo : m1.rd spIllum (chanOff c.val 6) = m.rd spIllum (chanOff c.val 6) := hkept.rd (by simp [key_same, chanOff])
  rw [if_pos hr, Chip.regStart, hlo, Chip.regApply, Chip.chan_mapChan_same _ (by rwa [Chip.length_mapChan]),
    Chip.chan_mapChan_same _ hlen1]
  refine ⟨?_, ?_, hkept, hhkc⟩
  · dsimp only
    split
    · rfl
    · rfl
  · dsimp only
    split
    · rfl
    · rfl

/-- An idle regulator ends with its EN (R194). -/
theorem writeRegctl_ends {m : Chip} {c : Fin 8} {v : Word} (hlen : m.chans.length = 8) (hact : (m.chan c.val).act = true)
    (hen : tst v 15 = false) (hslot : m.slotBusy (fld v 8 3) = false) :
    ((m.writeRegctl c.val v).chan c.val).act = false ∧ ((m.writeRegctl c.val v).chan c.val).pend = false ∧
    ((m.writeRegctl c.val v).chan c.val).dac = (m.chan c.val).dac ∧
    WordsKept m (m.writeRegctl c.val v) [(spIllum, chanOff c.val 4)] := by
  have hc : c.val < m.chans.length := by rw [hlen]; exact c.isLt
  unfold Chip.writeRegctl
  extract_lets x r m1
  have hr : r.1 = false := by
    show (tst v 15 && !(m.chan c.val).act) = false
    rw [hen]
    rfl
  have hkept : WordsKept m m1 [(spIllum, chanOff c.val 4)] := (WordsKept.refl m _).plainWrite v (by simp)
  have hlen1 : c.val < m1.chans.length := by
    rw [Chip.length_mapChan, Chip.plainWrite_chans]
    exact hc
  have hchan : m1.chan c.val = { m.chan c.val with pend := false } := by
    have hp : r.2.1 = false := by
      show (tst v 15 && _ && _) = false
      rw [hen]
      rfl
    show Chip.chan (Chip.mapChan _ _ _) _ = _
    rw [Chip.chan_mapChan_same _ (by rw [Chip.plainWrite_chans]; exact hc), hp, Chip.chan, Chip.plainWrite_chans, ← Chip.chan]
  have hctl15 : tst (m1.rd spIllum (chanOff c.val 4)) 15 = false :=
    (regctl_written m c v (by decide) (by decide)).trans hen
  have hctl : fld (m1.rd spIllum (chanOff c.val 4)) 8 3 = fld v 8 3 := fld_congr fun i hi =>
    regctl_written m c v (by omega) (by interval_cases i <;> decide)
  have hbusy : m1.slotBusy (fld (m1.rd spIllum (chanOff c.val 4)) 8 3) = false := by
    have hhkc : m1.hkc = m.hkc := Chip.plainWrite_hkc ..
    rw [hctl, Chip.slotBusy, Chip.slotReq, hhkc]
    exact hslot
  have hidle : m1.regIdle c.val = m1.mapChan c.val (fun x => { x with act := false }) := by
    simp [Chip.regIdle, hctl15, hbusy, hchan, hact]
  rw [hr, if_neg (by decide), hidle, Chip.chan_mapChan_same _ hlen1, hchan]
  exact ⟨rfl, rfl, rfl, hkept⟩

/-- ISETVAL of an idle regulator goes to the DAC of its channel alone (R195). -/
theorem writeIsetval_loads {m : Chip} {c : Nat} {v : Word} (hc : c < m.chans.length) (hidle : (m.chan c).act = false) :
    ((m.writeIsetval c v).chan c).dac = v.setWidth 10 ∧ AllWordsKept m (m.writeIsetval c v) ∧
    (∀ j, j ≠ c → (m.writeIsetval c v).chan j = m.chan j) := by
  have hw : m.writeIsetval c v = m.mapChan c (fun x => { x with dac := v.setWidth 10, waiting := false }) :=
    if_neg (by rw [hidle]; decide)
  rw [hw, Chip.chan_mapChan_same _ hc]
  exact ⟨rfl, rfl, fun j hj => Chip.chan_mapChan_ne _ hj⟩

/-- Bounds move no channel whose regulator is idle. -/
theorem Chip.mapChan_idle {m : Chip} {c : Nat} {f : Channel → Channel} (h : f (m.chan c) = m.chan c) :
    (m.mapChan c f).chans = m.chans := by
  refine List.ext_getElem? fun i => ?_
  show (m.chans.modify c f)[i]? = _
  rw [List.getElem?_modify]
  by_cases hi : c = i
  · subst hi
    cases hx : m.chans[c]? with
    | none => rfl
    | some x =>
      have : m.chan c = x := by rw [Chip.chan, List.getD_eq_getElem?_getD, hx, Option.getD_some]
      rw [this] at h
      simp [h]
  · simp [hi]

/-- Bounds that take effect (R192). -/
theorem boundsApply_leaves (m : Chip) (c : Nat) (x : BitVec 10) :
    ((m.boundsApply c (some x) none).rd spIllum (chanOff c 6) = x.setWidth 16 ∧
      WordsKept m (m.boundsApply c (some x) none) [(spIllum, chanOff c 6)] ∧
      ((m.chan c).act = false → (m.boundsApply c (some x) none).chans = m.chans)) ∧
    (m.boundsApply c none (some x)).rd spIllum (chanOff c 7) = x.setWidth 16 ∧
      WordsKept m (m.boundsApply c none (some x)) [(spIllum, chanOff c 7)] := by
  refine ⟨⟨?_, (WordsKept.refl m _).wr _ (by simp), fun hidle => ?_⟩, ?_, (WordsKept.refl m _).wr _ (by simp)⟩
  · exact (Chip.rd_wr ..).trans (if_pos rfl)
  · exact Chip.mapChan_idle (m := m.wr spIllum (chanOff c 6) (x.setWidth 16)) (if_neg (by
      show ¬(m.chan c).act = true
      rw [hidle]
      decide))
  · exact (Chip.rd_wr ..).trans (if_pos rfl)

/-- REGLO of a low channel with no bound held (R192). -/
theorem writeBound_lo {m : Chip} {c : Nat} {v : Word} (hlow : (m.chan c).level = false) (h : (m.chan c).heldHi = none) :
    (((m.rd spIllum (chanOff c 7)).setWidth 10 : BitVec 10).toNat < (v.setWidth 10 : BitVec 10).toNat →
      m.writeBound c false v = m.orBits spIllum (chanOff c 4) 0x0800) ∧
    ((v.setWidth 10 : BitVec 10).toNat ≤ ((m.rd spIllum (chanOff c 7)).setWidth 10 : BitVec 10).toNat →
      m.writeBound c false v = m.boundsApply c (some (v.setWidth 10)) none) := by
  have hw : m.writeBound c false v =
      if ((m.rd spIllum (chanOff c 7)).setWidth 10 : BitVec 10).toNat < (v.setWidth 10 : BitVec 10).toNat then
        m.orBits spIllum (chanOff c 4) 0x0800 else m.boundsApply c (some (v.setWidth 10)) none := by
    simp [Chip.writeBound, h, hlow]
  exact ⟨fun hlt => hw.trans (if_pos hlt), fun hle => hw.trans (if_neg (Nat.not_lt.2 hle))⟩

/-- REGHI of a low channel with no bound held (R192). -/
theorem writeBound_hi {m : Chip} {c : Nat} {v : Word} (hlow : (m.chan c).level = false) (h : (m.chan c).heldLo = none)
    (hle : ((m.rd spIllum (chanOff c 6)).setWidth 10 : BitVec 10).toNat ≤ (v.setWidth 10 : BitVec 10).toNat) :
    m.writeBound c true v = m.boundsApply c none (some (v.setWidth 10)) := by
  have hw : m.writeBound c true v =
      if (v.setWidth 10 : BitVec 10).toNat < ((m.rd spIllum (chanOff c 6)).setWidth 10 : BitVec 10).toNat then
        m.orBits spIllum (chanOff c 4) 0x0800 else m.boundsApply c none (some (v.setWidth 10)) := by
    simp [Chip.writeBound, h, hlow]
  exact hw.trans (if_neg (Nat.not_lt.2 hle))

/-- Settles O33: strobes forced low, regulators, ISETVAL and the bounds. -/
theorem strobesAndRegulators : Obligations.StrobesAndRegulators := by
  unfold Obligations.StrobesAndRegulators
  refine ⟨fun s c hhigh hlim hoff hfalls hreached => ?limit, fun s c v ho hshape => ?writes⟩
  case limit =>
    refine answers_guarded rfl ?_ (forcedLow_leaves _ hhigh hoff _)
    simp [hhigh, show ¬(s.chip.chan c.val).limit = 0#32 from hlim, hfalls, hreached]
  case writes =>
    have hlen : s.host.chans.length = 8 := hshape.1
    have hc : c.val < s.host.chans.length := by rw [hlen]; exact c.isLt
    refine ⟨fun hidle hen => ?start, fun hact hen hslot => ?finish, fun hidle => ?isetval, fun hact => ?rejected,
      fun hlevel hhi hlo => ⟨fun hbad => ?cfgerr, fun hok => ?low, fun hok => ?high⟩⟩
    case start =>
      refine answers_hostWindow (sp := spIllum) rfl ho ?_
      rw [Chip.writeSpace_regctl]
      exact writeRegctl_starts hlen hidle hen
    case finish =>
      refine answers_hostWindow (sp := spIllum) rfl ho ?_
      rw [Chip.writeSpace_regctl]
      exact writeRegctl_ends hlen hact hen hslot
    case isetval =>
      refine answers_hostWindow (sp := spIllum) rfl ho ?_
      rw [Chip.writeSpace_isetval]
      exact writeIsetval_loads hc hidle
    case rejected =>
      refine answers_hostWindow (sp := spIllum) rfl ho ?_
      rw [Chip.writeSpace_isetval,
        show s.host.writeIsetval c.val v = s.host.bump spIllum (chanOff c.val 0xA) 1 from if_pos hact]
      exact ⟨(Chip.rd_bump ..).trans (if_pos rfl), ((onlyThese_host s _).bump 1 (by simp)).settle⟩
    case cfgerr =>
      refine answers_hostWindow (sp := spIllum) rfl ho ?_
      rw [Chip.writeSpace_bound, (writeBound_lo (m := s.host) hlevel hhi).1 hbad]
      exact ⟨(Chip.rd_orBits ..).trans (if_pos rfl), ((onlyThese_host s _).orBits _ (by simp)).settle⟩
    case low =>
      refine answers_hostWindow (sp := spIllum) rfl ho ?_
      rw [Chip.writeSpace_bound, (writeBound_lo (m := s.host) hlevel hhi).2 hok]
      exact (boundsApply_leaves s.host c.val (v.setWidth 10)).1
    case high =>
      refine answers_hostWindow (sp := spIllum) rfl ho ?_
      rw [Chip.writeSpace_bound, writeBound_hi (m := s.host) hlevel hlo hok]
      exact (boundsApply_leaves s.host c.val (v.setWidth 10)).2

/-! ## The modes of the HKC (O35) -/

/-- The shut-downs of the regulators change channels alone. -/
theorem regsIdle_chans (m : Chip) : ∃ l, m.regsIdle = { m with chans := l } := by
  have hone (t : Chip) (c : Nat) : ∃ l, t.regIdle c = { t with chans := l } := by
    unfold Chip.regIdle
    extract_lets x ctl
    split
    · split
      · exact ⟨_, rfl⟩
      · exact ⟨_, rfl⟩
    · exact ⟨t.chans, rfl⟩
  unfold Chip.regsIdle
  induction List.range 8 generalizing m with
  | nil => exact ⟨m.chans, rfl⟩
  | cons c l ih =>
    obtain ⟨a, ha⟩ := hone m c
    obtain ⟨b, hb⟩ := ih (m.regIdle c)
    exact ⟨b, by rw [List.foldl_cons, hb, ha]⟩

/-- What CALMODE's taking effect changes: the calibration mode alone. -/
theorem calmodeTake_leaves (m : Chip) :
    (∃ b s h f t w, m.calmodeTake = { m with hkc := { m.hkc with
      background := b, spareOn := s, shadowB := h, spareFrom := f, turn := t, windows := w } }) ∧
    (m.hkcReady = true → m.calmodeTake.hkc.background = tst (m.rd spHkc 0) 8) ∧
    (tst (m.rd spHkc 0) 8 = m.hkc.background → m.calmodeTake = m) := by
  unfold Chip.calmodeTake
  extract_lets b
  by_cases h : (m.hkcReady && b != m.hkc.background) = true
  · rw [if_pos h]
    refine ⟨⟨_, _, _, _, _, _, rfl⟩, fun _ => rfl, fun hb => ?_⟩
    have : b = m.hkc.background := hb
    simp [this] at h
  · rw [if_neg h]
    refine ⟨⟨_, _, _, _, _, _, rfl⟩, fun hr => ?_, fun _ => rfl⟩
    rw [hr, Bool.true_and] at h
    exact (by simpa using h : b = m.hkc.background).symm

/-- The end of a run leaves the HKC and its words. -/
theorem runEnd_hkc (m : Chip) (pass : Bool) : (m.runEnd pass).hkc = m.hkc := by
  unfold Chip.runEnd Chip.raiseIf
  extract_lets m1 _ m2
  split
  · rw [Chip.raise_hkc, Chip.raise_hkc]
    rfl
  · rw [Chip.raise_hkc]
    rfl

/-- A write of HKCCTL leaves the HKC as `writeHkcctl` does, and the words too while EN stays 1. -/
theorem writeHkcEn_leaves (m : Chip) (v : Word) :
    (m.writeHkcEn v).hkc = (m.writeHkcctl v).hkc ∧
    ((tst (m.rd spHkc 0) 15 && !tst ((m.writeHkcctl v).rd spHkc 0) 15) = false → m.writeHkcEn v = m.writeHkcctl v) := by
  unfold Chip.writeHkcEn
  extract_lets was m1
  split
  · refine ⟨?_, fun h => if_neg (by rw [show (was && !tst (m1.rd spHkc 0) 15) = false from h]; decide)⟩
    split
    · exact runEnd_hkc m1 false
    · rfl
  · exact ⟨rfl, fun _ => rfl⟩

/-- A value of QTHRESH above 64 discards the write (R221). -/
theorem writeHkcEn_discards {m : Chip} {v : Word} (h : 64 < fld v 0 7) : m.writeHkcEn v = m := by
  have hw : m.writeHkcctl v = m := if_pos h
  rw [(writeHkcEn_leaves m v).2, hw]
  rw [hw]
  simp

theorem hkcctl_written (m : Chip) (v : Word) {i : Nat} (hi : i < 16) (hrw : tst 0x817F i = true) :
    tst ((m.plainWrite spHkc 0 v).rd spHkc 0) i = tst v i := by
  rw [Chip.rd_plainWrite_merge m v (r := ⟨0, 1, 1, 1, 0x0100, 0x817F, 0, 0⟩) (by decide) rfl, tst_merge _ _ _ hi, if_pos hrw]

/-- HKCCTL before CALMODE takes effect. -/
def Chip.hkcctlSet (m : Chip) (v : Word) : Chip :=
  let r := enPattern m.hkc.act m.hkc.pend (tst (m.rd spHkc 0) 15) (tst v 15)
  { m.plainWrite spHkc 0 v with hkc := { m.hkc with act := m.hkc.act || r.1, pend := r.2.1 } }

theorem writeHkcctl_takes {m : Chip} {v : Word} (h : fld v 0 7 ≤ 64) :
    m.writeHkcctl v = (if tst (m.rd spHkc 0) 15 && !tst v 15 && m.hkc.act then (m.hkcctlSet v).cancelRequests
      else m.hkcctlSet v).calmodeTake := by
  have hset : m.hkcctlSet v = { m.plainWrite spHkc 0 v with hkc := { (m.plainWrite spHkc 0 v).hkc with
      act := (m.plainWrite spHkc 0 v).hkc.act || (enPattern m.hkc.act m.hkc.pend (tst (m.rd spHkc 0) 15) (tst v 15)).1,
      pend := (enPattern m.hkc.act m.hkc.pend (tst (m.rd spHkc 0) 15) (tst v 15)).2.1 } } := by
    rw [Chip.plainWrite_hkc]
    rfl
  rw [hset]
  exact if_neg (Nat.not_lt.2 h)

/-- EN starts an idle converter (R221). -/
theorem writeHkcEn_starts {m : Chip} {v : Word} (h : fld v 0 7 ≤ 64) (hidle : m.hkc.act = false) (hen : tst v 15 = true) :
    (m.writeHkcEn v).hkc.act = true ∧ (m.writeHkcEn v).hkc.queue = m.hkc.queue ∧
    WordsKept m (m.writeHkcEn v) [(spHkc, 0)] := by
  have hw : m.writeHkcctl v = (m.hkcctlSet v).calmodeTake := by
    rw [writeHkcctl_takes h, hidle, Bool.and_false, if_neg (by decide)]
  obtain ⟨⟨b, s, sh, f, t, w, htake⟩, -⟩ := calmodeTake_leaves (m.hkcctlSet v)
  have hstay : tst ((m.writeHkcctl v).rd spHkc 0) 15 = true := by
    rw [hw, htake]
    exact (hkcctl_written m v (by decide) (by decide)).trans hen
  rw [(writeHkcEn_leaves m v).2 (by rw [hstay, Bool.not_true, Bool.and_false]), hw, htake]
  refine ⟨?_, rfl, ?_⟩
  · show (m.hkc.act || (tst v 15 && !m.hkc.act)) = true
    rw [hidle, hen]
    rfl
  · exact (WordsKept.refl m _).plainWrite v (by simp)

/-- A cleared EN cancels every request (R221). -/
theorem writeHkcEn_stops {m : Chip} {v : Word} (h : fld v 0 7 ≤ 64) (hact : m.hkc.act = true) (hwas : tst (m.rd spHkc 0) 15 = true)
    (hen : tst v 15 = false) :
    (m.writeHkcEn v).hkc.act = true ∧ (m.writeHkcEn v).hkc.reqs = List.replicate 8 none ∧
    (m.writeHkcEn v).hkc.conv = m.hkc.conv := by
  have hw : m.writeHkcctl v = (m.hkcctlSet v).cancelRequests.calmodeTake := by
    rw [writeHkcctl_takes h, hact, hwas, hen, if_pos (by decide)]
  obtain ⟨⟨b, s, sh, f, t, w, htake⟩, -⟩ := calmodeTake_leaves (m.hkcctlSet v).cancelRequests
  obtain ⟨l, hidle⟩ := regsIdle_chans { m.hkcctlSet v with hkc := { (m.hkcctlSet v).hkc with reqs := List.replicate 8 none } }
  rw [(writeHkcEn_leaves m v).1, hw, htake]
  unfold Chip.cancelRequests
  rw [hidle]
  refine ⟨?_, rfl, rfl⟩
  show (m.hkc.act || _) = true
  rw [hact, Bool.true_or]

/-- CALMODE takes effect in a ready cycle (R226). -/
theorem writeHkcEn_calmode {m : Chip} {v : Word} (h : fld v 0 7 ≤ 64) (hready : m.hkcReady = true) :
    (m.writeHkcEn v).hkc.background = tst v 8 ∧ (m.writeHkcEn v).hkc.queue = m.hkc.queue := by
  have hset : ∃ x : Chip, m.writeHkcctl v = x.calmodeTake ∧ x.hkcReady = true ∧ tst (x.rd spHkc 0) 8 = tst v 8 ∧
      x.hkc.queue = m.hkc.queue := by
    have hbit : tst ((m.plainWrite spHkc 0 v).rd spHkc 0) 8 = tst v 8 := hkcctl_written m v (by decide) (by decide)
    have hnow : (m.hkcctlSet v).tb = m.tb := Chip.plainWrite_tb ..
    have hr : (m.hkcctlSet v).hkcReady = true := by
      rw [Chip.hkcReady, Chip.now, hnow]
      exact hready
    rw [writeHkcctl_takes h]
    split
    · obtain ⟨l, hidle⟩ := regsIdle_chans { m.hkcctlSet v with hkc := { (m.hkcctlSet v).hkc with reqs := List.replicate 8 none } }
      refine ⟨_, rfl, ?_⟩
      unfold Chip.cancelRequests
      rw [hidle]
      exact ⟨hr, hbit, rfl⟩
    · exact ⟨_, rfl, hr, hbit, rfl⟩
  obtain ⟨x, hx, hxready, hxbit, hxqueue⟩ := hset
  obtain ⟨⟨b, s, sh, f, t, w, htake⟩, hback, -⟩ := calmodeTake_leaves x
  rw [(writeHkcEn_leaves m v).1, hx]
  refine ⟨(hback hxready).trans hxbit, ?_⟩
  rw [htake]
  exact hxqueue

/-- A window without a comparison only restarts (R225). -/
theorem hkcWindow_empty {m : Chip} {x n : Nat} {held : Bool} (hw : m.hkcWin x = ([], n, held)) :
    m.hkcWindow x = (m.setWin x ([], 0, false)).setPrev x none := by
  unfold Chip.hkcWindow
  rw [hw]
  rfl

/-- A window of a discarded learning that disagrees by more than 4 codes sets the slice's fault (R227). -/
theorem hkcWindow_fault {m : Chip} {x : Nat} {l : List (Nat × Nat)} {n : Nat} (hx : x < 2) (hw : m.hkcWin x = (l, n, true))
    (hn : 256 ≤ n) (hbad : 4 * l.length < ((l.map (fun p => (p.1 : Int) - (p.2 : Int))).sum).natAbs)
    (hcore : m.pw.core = true) (hoff : m.moversOff) :
    tst ((m.hkcWindow x).rd spHkc 1) (13 + x) = true ∧ tst ((m.hkcWindow x).rd 0 0x14) 9 = true ∧
    ((m.hkcWindow x).hkcWin x).2.1 = 0 ∧ (m.hkcWindow x).tb = m.tb := by
  have hne : l ≠ [] := by
    rintro rfl
    simp at hbad
  have hlen : x < m.hkc.windows.length := by
    refine Nat.lt_of_not_le fun hle => ?_
    rw [Chip.hkcWin, List.getD_eq_default _ _ hle] at hw
    have : n = 0 := by simpa using (congrArg (·.2.1) hw).symm
    omega
  have hwin : m.hkcWindow x = ((((m.setWin x ([], 0, false)).orBits spHkc 1 (bitW (13 + x))).raise evCalFail).fault 0x08
      [BitVec.ofNat 8 x]).setPrev x none := by
    unfold Chip.hkcWindow Chip.hkcJudge
    simp [hw, hne, hbad]
  rw [hwin]
  generalize ha : ((m.setWin x ([], 0, false)).orBits spHkc 1 (bitW (13 + x))).raise evCalFail = a
  have hraise (sp o : Nat) := Chip.rd_raise ((m.setWin x ([], 0, false)).orBits spHkc 1 (bitW (13 + x))) evCalFail sp o hcore
  have hacore : a.pw.core = true := by
    rw [← ha, Chip.raise_on _ _ (show ((m.setWin x ([], 0, false)).orBits spHkc 1 (bitW (13 + x))).pw.core = true from hcore)]
    exact hcore
  have hahkc : a.hkc = (m.setWin x ([], 0, false)).hkc := by rw [← ha, Chip.raise_hkc]; rfl
  have hatb : a.tb = m.tb := by rw [← ha, Chip.raise_tb]; rfl
  have haoff : a.moversOff := fun c hc => by
    rw [← ha, Chip.mover, Chip.raise_movers]
    exact hoff c hc
  have honly := onlyFault_fault a 0x08 [BitVec.ofNat 8 x] hacore haoff
  obtain ⟨r, y, heq, -⟩ := onlyFault_iff.1 honly
  refine ⟨?_, ?_, ?_, ?_⟩
  · show tst ((a.fault 0x08 [BitVec.ofNat 8 x]).rd spHkc 1) (13 + x) = true
    rw [honly.rd (by decide) (by decide), ← ha, hraise, if_neg (by decide), Chip.rd_orBits, if_pos rfl]
    exact tst_or_bitW _ (by omega)
  · show tst ((a.fault 0x08 [BitVec.ofNat 8 x]).rd 0 0x14) 9 = true
    rw [honly.rd (by decide) (by decide), ← ha, hraise, if_pos (by decide)]
    exact tst_or_bitW _ (by decide)
  · rw [heq]
    show (a.hkc.windows.getD x ([], 0, false)).2.1 = 0
    rw [hahkc]
    show ((upd m.hkc.windows x _).getD x _).2.1 = 0
    rw [getD_upd_same _ _ hlen]
  · rw [heq]
    exact hatb

/-- Settles O35: HKCCTL, CALMODE, slice C and its shadow windows. -/
theorem hkcModes : Obligations.HkcModes := by
  unfold Obligations.HkcModes
  refine ⟨fun s v ho => ⟨fun h => ?discard, fun h hidle hen => answers_hostWindow rfl ho (writeHkcEn_starts (m := s.host) h hidle hen),
      fun h hact hwas hen => answers_hostWindow rfl ho (writeHkcEn_stops (m := s.host) h hact hwas hen),
      fun h hready => answers_hostWindow rfl ho (writeHkcEn_calmode (m := s.host) h hready)⟩,
    fun s hact hgo hconv => ?shutdown, fun s hcore hback hbit hspare hsettled => ?settled,
    fun s x l n held hcore hwin hn => ?window⟩
  case discard =>
    have hsame : s.host.writeSpace spHkc 0 v = s.host := writeHkcEn_discards h
    refine ⟨answers_hostWindow rfl ho ?_, answers_hostWindow rfl ho ?_⟩
    · rw [hsame]
      exact unchanged_begin _ _
    · rw [hsame]
      exact unchanged_begin _ _
  case shutdown =>
    refine answers_guarded rfl ?_ ⟨rfl, rfl⟩
    rcases hgo with h | h
    · simp [hact, h, hconv]
    · simp [hact, h, hconv]
  case settled =>
    have hsame : s.chip.calmodeTake = s.chip := (calmodeTake_leaves s.chip).2.2 (hbit.trans hback.symm)
    have hexec : exec .hkcSpareSettled s = guarded s (s.chip.pw.core && s.chip.spareReady && !s.chip.hkc.spareOn)
        { s.chip with hkc := { s.chip.hkc with spareOn := true, shadowB := false, turn := 0 } } := by
      show execHkcSpareSettled s = _
      unfold execHkcSpareSettled
      rw [hsame]
    refine answers_guarded hexec ?_ ⟨rfl, rfl⟩
    simp [hcore, hspare, Chip.spareReady, hback, Chip.now, hsettled]
  case window =>
    have hrun : (s.chip.pw.core && decide (256 ≤ (s.chip.hkcWin x.val).2.1)) = true := by simp [hcore, hwin, hn]
    refine ⟨completes_guarded rfl hrun, fun hl => answers_guarded rfl hrun ?_, fun hbad hheld hoff => answers_guarded rfl hrun ?_⟩
    · rw [hkcWindow_empty (hl ▸ hwin)]
      exact ⟨rfl, rfl⟩
    · exact hkcWindow_fault x.isLt (hheld ▸ hwin) hn hbad hcore hoff

/-! ## The conversions of the HKC (O34) -/

/-- The HKC but its requests, the last sample of slot s and the clocking of CORE are as before. -/
structure SampleKept (s : Nat) (o m : Chip) : Prop where
  hkc : m.hkc = { o.hkc with reqs := m.hkc.reqs }
  sample : m.rd spHkc (slotOff s 7) = o.rd spHkc (slotOff s 7)
  core : m.pw.core = o.pw.core

theorem illum_ne_slot (o s : Nat) (ho : o < 0x1000) (hs : s < 8) : key spIllum o ≠ key spHkc (slotOff s 7) := by
  unfold key spIllum spHkc slotOff
  omega

theorem direct_ne_slot (o s : Nat) (ho : o < 0x1000) : key 0 o ≠ key spHkc (slotOff s 7) := by
  unfold key spHkc slotOff
  omega

section
variable {s : Nat} {o m : Chip}

theorem SampleKept.refl (s : Nat) (m : Chip) : SampleKept s m m := ⟨rfl, rfl, rfl⟩

/-- A change of other parts of the chip. -/
theorem SampleKept.update {t : Chip} (h : SampleKept s o m) (hregs : t.regs = m.regs := by rfl) (hhkc : t.hkc = m.hkc := by rfl)
    (hcore : t.pw.core = m.pw.core := by rfl) : SampleKept s o t :=
  ⟨hhkc ▸ h.hkc, (congrArg (Bank.get · _) hregs).trans h.sample, hcore.trans h.core⟩

theorem SampleKept.ite {c : Prop} [Decidable c] {a b : Chip} (ha : SampleKept s o a) (hb : SampleKept s o b) :
    SampleKept s o (if c then a else b) := by
  split
  · exact ha
  · exact hb

theorem SampleKept.wr {sp off : Nat} {v : Word} (h : SampleKept s o m) (hne : key sp off ≠ key spHkc (slotOff s 7)) :
    SampleKept s o (m.wr sp off v) :=
  ⟨h.hkc, by rw [Chip.rd_wr, if_neg (Ne.symm hne), h.sample], h.core⟩

theorem SampleKept.bump {sp off n : Nat} (h : SampleKept s o m) (hne : key sp off ≠ key spHkc (slotOff s 7)) :
    SampleKept s o (m.bump sp off n) := SampleKept.wr (m := { m with cyc := _ }) h.update hne

theorem SampleKept.orBits {sp off : Nat} {b : Word} (h : SampleKept s o m) (hne : key sp off ≠ key spHkc (slotOff s 7)) :
    SampleKept s o (m.orBits sp off b) := SampleKept.wr (m := { m with cyc := _ }) h.update hne

theorem SampleKept.raise {n : Nat} (h : SampleKept s o m) (hn : n < 0x1000) : SampleKept s o (m.raise n) := by
  unfold Chip.raise
  exact .ite (h.orBits (direct_ne_slot _ _ (by omega))) h.update

theorem SampleKept.raiseIf {n : Nat} {c : Bool} (h : SampleKept s o m) (hn : n < 0x1000) : SampleKept s o (m.raiseIf c n) :=
  .ite (h.raise hn) h

theorem SampleKept.foldl {α : Type} {f : Chip → α → Chip} {l : List α} (h : SampleKept s o m)
    (hf : ∀ t, ∀ a ∈ l, SampleKept s o t → SampleKept s o (f t a)) : SampleKept s o (l.foldl f m) :=
  List.foldlRecOn l f h fun t ht a ha => hf t a ha ht

theorem SampleKept.range {f : Chip → Nat → Chip} {n : Nat} (h : SampleKept s o m)
    (hf : ∀ t a, a < n → SampleKept s o t → SampleKept s o (f t a)) : SampleKept s o ((List.range n).foldl f m) :=
  h.foldl fun t a ha => hf t a (List.mem_range.1 ha)

theorem SampleKept.mapChan {c : Nat} {f : Channel → Channel} (h : SampleKept s o m) : SampleKept s o (m.mapChan c f) := h.update

theorem SampleKept.setReq {i : Nat} {r : Option HkcReq} (h : SampleKept s o m) : SampleKept s o (m.setReq i r) := by
  exact ⟨congrArg (fun k : Hkc => { k with reqs := upd m.hkc.reqs i (fun _ => r) }) h.hkc, h.sample, h.core⟩

variable (hs : s < 8)
include hs

theorem SampleKept.missSlot {i : Nat} (h : SampleKept s o m) : SampleKept s o (m.missSlot i) :=
  h.range fun _ c hc ht => .ite (ht.bump (illum_ne_slot _ _ (by unfold chanOff; omega) hs)) ht

theorem SampleKept.dropSlot {i : Nat} (h : SampleKept s o m) : SampleKept s o (m.dropSlot i) := by
  have hne : key spHkc (slotOff i 6) ≠ key spHkc (slotOff s 7) := by
    unfold key slotOff
    omega
  exact ((h.bump hne).raise (by decide)).missSlot hs

theorem SampleKept.slotEvent {i : Nat} {t : Tick} (h : SampleKept s o m) : SampleKept s o (m.slotEvent i t) := by
  unfold Chip.slotEvent
  dsimp only
  refine .ite (.ite (h.missSlot hs) ?_) h
  split
  · exact h.dropSlot hs
  · exact h.setReq

theorem SampleKept.sourceEvent {src sel : Nat} {t : Tick} (h : SampleKept s o m) : SampleKept s o (m.sourceEvent src sel t) :=
  h.range fun _ _ _ ht => .ite (ht.slotEvent hs) ht

theorem SampleKept.boundsApply {c : Nat} {lo hi : Option (BitVec 10)} (h : SampleKept s o m) (hc : c < 8) :
    SampleKept s o (m.boundsApply c lo hi) := by
  unfold Chip.boundsApply
  extract_lets m1 m2
  have h1 : SampleKept s o m1 := by
    unfold m1
    split
    · exact h.wr (illum_ne_slot _ _ (by unfold chanOff; omega) hs)
    · exact h
  have h2 : SampleKept s o m2 := by
    unfold m2
    split
    · exact h1.wr (illum_ne_slot _ _ (by unfold chanOff; omega) hs)
    · exact h1
  exact h2.mapChan

theorem SampleKept.strobeFall {c : Nat} {t : Tick} (h : SampleKept s o m) (hc : c < 8) : SampleKept s o (m.strobeFall c t) := by
  unfold Chip.strobeFall
  extract_lets x m1 m2 m3
  have h1 : SampleKept s o m1 := h.mapChan
  have h2 : SampleKept s o m2 := .ite h1.mapChan h1
  have h3 : SampleKept s o m3 := .ite (h2.boundsApply hs hc) h2
  exact .ite (h3.sourceEvent hs) h

omit hs in
theorem SampleKept.flagIllum {x : BitVec 4} (h : SampleKept s o m) : SampleKept s o (m.flagIllum x) := by
  unfold Chip.flagIllum
  extract_lets fn _ m1
  exact .ite h (SampleKept.orBits (m := m1.mapCap _) h.update (direct_ne_slot _ _ (by decide)))

theorem SampleKept.setFlt {c : Nat} (h : SampleKept s o m) (hc : c < 8) : SampleKept s o (m.setFlt c) := by
  unfold Chip.setFlt
  extract_lets m1 m2
  have h1 : SampleKept s o m1 := (h.orBits (illum_ne_slot _ _ (by decide) hs)).raise (by decide)
  have h2 : SampleKept s o m2 := by
    unfold m2
    split
    · exact h1.flagIllum
    · exact h1
  exact .ite (h2.strobeFall hs hc) h2

theorem SampleKept.regStep {c x : Nat} (h : SampleKept s o m) (hc : c < 8) : SampleKept s o (m.regStep c x) := by
  have hne (i : Nat) (hi : i < 0x20) : key spIllum (chanOff c i) ≠ key spHkc (slotOff s 7) :=
    illum_ne_slot _ _ (by unfold chanOff; omega) hs
  unfold Chip.regStep
  extract_lets r e m1 ms step want v sat was m2 m3
  have h1 : SampleKept s o m1 := h.wr (hne _ (by decide))
  have h2 : SampleKept s o m2 := h1.wr (hne _ (by decide))
  have h3 : SampleKept s o m3 := .ite (h2.bump (hne _ (by decide))) h2
  exact .ite h1 (h3.raiseIf (by decide)).mapChan.mapChan

theorem SampleKept.regResult {i x : Nat} {t : Tick} (h : SampleKept s o m) : SampleKept s o (m.regResult i x t) :=
  h.range fun _ c hc ht => .ite (.ite (ht.regStep hs hc)
    (ht.bump (illum_ne_slot _ _ (by unfold chanOff; omega) hs))) ht

theorem SampleKept.driverFaults {i : Nat} (h : SampleKept s o m) : SampleKept s o (m.driverFaults i) :=
  h.range fun _ _ hc ht => .ite (ht.setFlt hs hc) ht

omit hs in
theorem SampleKept.regsIdle (h : SampleKept s o m) : SampleKept s o m.regsIdle := by
  obtain ⟨l, hl⟩ := regsIdle_chans m
  rw [hl]
  exact h.update

end

/-- Reading HKQ0 (R214). -/
theorem popHkq_leaves (m : Chip) :
    (∀ e r, m.hkc.queue = e :: r → m.popHkq = (e.1, { m with hkc := { m.hkc with queue := r, popped := (e.2.1, wd e.2.2.toNat) } })) ∧
    (m.hkc.queue = [] → m.popHkq = (0, { m with hkc := { m.hkc with popped := (0, 0) } })) := by
  refine ⟨fun e r h => ?_, fun h => ?_⟩
  · rw [Chip.popHkq, h]
  · rw [Chip.popHkq, h]

theorem Chip.raise_core (m : Chip) (n : Nat) : (m.raise n).pw.core = m.pw.core := by
  unfold Chip.raise
  split
  · rfl
  · rfl

/-- The limit comparison changes a run and a flag (R219). -/
theorem limits_leaves (m : Chip) (s code : Nat) :
    (m.limits s code).2.hkc.conv = m.hkc.conv ∧ (m.limits s code).2.hkc.queue = m.hkc.queue ∧
    (m.limits s code).2.movers = m.movers ∧ (m.limits s code).2.pw.core = m.pw.core := by
  unfold Chip.limits
  extract_lets ctl out setRun n lim was m1
  split
  · dsimp only
    split
    · unfold Chip.raiseIf
      split
      · rw [Chip.raise_hkc, Chip.raise_movers, Chip.raise_core]
        exact ⟨rfl, rfl, rfl, rfl⟩
      · exact ⟨rfl, rfl, rfl, rfl⟩
    · exact ⟨rfl, rfl, rfl, rfl⟩
  · exact ⟨rfl, rfl, rfl, rfl⟩

/-- A result enters the queue or is lost (R212); with the movers off nothing else follows. -/
theorem enqueue_leaves {m : Chip} {s : Nat} (hoff : m.moversOff) (c : HkcConv) (code : Nat) (lim clip : Bool) :
    (m.enqueue c code lim clip).hkc.conv = m.hkc.conv ∧
    (m.enqueue c code lim clip).rd spHkc (slotOff s 7) = m.rd spHkc (slotOff s 7) := by
  have hne : key spHkc (slotOff s 7) ≠ key spHkc 2 := by
    unfold key slotOff
    omega
  unfold Chip.enqueue
  extract_lets m1 _ e _ m2
  split
  · refine ⟨rfl, ?_⟩
    show ((m.bump spHkc 2 1).orBits 0 0x31 0x8000).rd _ _ = _
    rw [Chip.rd_orBits, if_neg (direct_ne_slot _ _ (by decide)).symm, Chip.rd_bump, if_neg hne]
  · have hoff2 : (m2.raise evHkcThresh).moversOff := fun i hi => by
      rw [Chip.mover, Chip.raise_movers]
      exact hoff i hi
    have hk : SampleKept s m2 (m2.raise evHkcThresh) := (SampleKept.refl s m2).raise (by decide)
    split
    · rw [Chip.thrTrig_of_moversOff hoff2, hk.hkc, hk.sample]
      exact ⟨rfl, rfl⟩
    · exact ⟨rfl, rfl⟩

/-- The delivery of a slot's conversion (R202, R217). -/
theorem deliver_leaves {m : Chip} {c : HkcConv} (raw : Nat) (hs : c.slot < 8) (hoff : m.moversOff) :
    (m.deliver c raw).hkc.conv = m.hkc.conv ∧
    (m.deliver c raw).rd spHkc (slotOff c.slot 7) = wd (0x8000 + (correct (min raw 4095) c.ofs c.gain).1) ∧
    (c.req.qen = false → (m.deliver c raw).hkc.queue = m.hkc.queue) := by
  unfold Chip.deliver
  generalize correct (min raw 4095) c.ofs c.gain = r
  obtain ⟨hconv, hqueue, hmov, -⟩ := limits_leaves m c.slot r.1
  dsimp only
  generalize m.limits c.slot r.1 = q at *
  have hw : ((q.2.wr spHkc (slotOff c.slot 7) (wd (0x8000 + r.1))).wr32 spHkc (slotOff c.slot 8)
      (c.at_.toNat % 0x100000000)).rd spHkc (slotOff c.slot 7) = wd (0x8000 + r.1) := by
    rw [Chip.rd_wr32_ne _ _ (by simp [slotOff]) (by simp [slotOff]), Chip.rd_wr, if_pos rfl]
  have hwhkc : ((q.2.wr spHkc (slotOff c.slot 7) (wd (0x8000 + r.1))).wr32 spHkc (slotOff c.slot 8)
      (c.at_.toNat % 0x100000000)).hkc = q.2.hkc := rfl
  have hwoff : ((q.2.wr spHkc (slotOff c.slot 7) (wd (0x8000 + r.1))).wr32 spHkc (slotOff c.slot 8)
      (c.at_.toNat % 0x100000000)).moversOff := fun i hi => (congrArg (·.getD i Mover.reset |>.act) hmov).trans (hoff i hi)
  generalize Chip.wr32 _ _ _ _ = w at *
  have he : (if c.req.qen = true then w.enqueue c r.1 q.1 r.2 else w).hkc.conv = w.hkc.conv ∧
      (if c.req.qen = true then w.enqueue c r.1 q.1 r.2 else w).rd spHkc (slotOff c.slot 7) = w.rd spHkc (slotOff c.slot 7) ∧
      (c.req.qen = false → (if c.req.qen = true then w.enqueue c r.1 q.1 r.2 else w).hkc.queue = w.hkc.queue) := by
    split
    next hq =>
      obtain ⟨h1, h2⟩ := enqueue_leaves (s := c.slot) hwoff c r.1 q.1 r.2
      exact ⟨h1, h2, fun hno => by simp [hno] at hq⟩
    · exact ⟨rfl, rfl, fun _ => rfl⟩
  obtain ⟨heconv, herd, hequeue⟩ := he
  generalize (if c.req.qen = true then w.enqueue c r.1 q.1 r.2 else w) = e at *
  have hreg : SampleKept c.slot e (e.regResult c.slot r.1 c.at_) := (SampleKept.refl _ e).regResult hs
  have hk : SampleKept c.slot e (if q.1 = true then (e.regResult c.slot r.1 c.at_).driverFaults c.slot
      else e.regResult c.slot r.1 c.at_).regsIdle := (SampleKept.ite (hreg.driverFaults hs) hreg).regsIdle
  rw [hk.hkc, hk.sample]
  exact ⟨heconv.trans (hwhkc ▸ hconv), herd.trans hw, fun hno => (hequeue hno).trans (hwhkc ▸ hqueue)⟩

/-- A result's way to the queue leaves the clocking of CORE. -/
theorem enqueue_core (m : Chip) (c : HkcConv) (code : Nat) (lim clip : Bool) : (m.enqueue c code lim clip).pw.core = m.pw.core := by
  unfold Chip.enqueue
  extract_lets m1 _ e _ m2
  split
  · rfl
  · have hk : Keeps (.wide true) m2 ((m2.raise evHkcThresh).thrTrig 0) := ((Keeps.refl _ m2).raise).thrTrig
    split
    · exact hk.core
    · rfl

/-- A delivery leaves the clocking of CORE. -/
theorem deliver_core (m : Chip) (c : HkcConv) (raw : Nat) : (m.deliver c raw).pw.core = m.pw.core := by
  unfold Chip.deliver
  generalize correct (min raw 4095) c.ofs c.gain = r
  obtain ⟨-, -, -, hcore⟩ := limits_leaves m c.slot r.1
  dsimp only
  generalize m.limits c.slot r.1 = q at *
  have hw : ((q.2.wr spHkc (slotOff c.slot 7) (wd (0x8000 + r.1))).wr32 spHkc (slotOff c.slot 8)
      (c.at_.toNat % 0x100000000)).pw.core = q.2.pw.core := rfl
  generalize Chip.wr32 _ _ _ _ = w at *
  have he : (if c.req.qen = true then w.enqueue c r.1 q.1 r.2 else w).pw.core = w.pw.core := by
    split
    · exact enqueue_core ..
    · rfl
  generalize (if c.req.qen = true then w.enqueue c r.1 q.1 r.2 else w) = e at *
  have hreg : SampleKept 0 e (e.regResult c.slot r.1 c.at_) := (SampleKept.refl _ e).regResult (by decide)
  have hk : SampleKept 0 e (if q.1 = true then (e.regResult c.slot r.1 c.at_).driverFaults c.slot
      else e.regResult c.slot r.1 c.at_).regsIdle := (SampleKept.ite (hreg.driverFaults (by decide)) hreg).regsIdle
  exact hk.core.trans (he.trans (hw.trans hcore))

/-- A slice C that is off is not ready where CALMODE has just taken effect (R226). -/
theorem calmodeTake_unready {m : Chip} (hback : m.hkc.background = false) (hspare : m.hkc.spareOn = false) :
    m.calmodeTake.spareReady = false ∧ m.calmodeTake.hkc.spareOn = false := by
  unfold Chip.calmodeTake
  extract_lets b
  split
  · refine ⟨?_, rfl⟩
    show (_ && decide (m.now.toNat + 2000 ≤ m.now.toNat)) = false
    rw [decide_eq_false (by omega), Bool.and_false]
  · exact ⟨by rw [Chip.spareReady, hback, Bool.false_and], hspare⟩

/-- A conversion that starts (R200, R225): the HKC alone changes. -/
theorem sampleTaken_leaves (m : Chip) : ∃ k, m.sampleTaken.2.2 = { m with hkc := k } ∧ k.last = some m.tb.stb ∧
    k.queue = m.hkc.queue ∧ k.conv = m.hkc.conv ∧ k.reqs = m.hkc.reqs ∧ k.nextB = (!m.hkc.nextB) ∧
    (m.hkc.background = false → m.hkc.spareOn = false → m.sampleTaken.2.1 = false) := by
  unfold Chip.sampleTaken
  extract_lets m1 _ m2 b sh count full
  obtain ⟨⟨bg, sp, sb, fr, tu, w, htake⟩, -⟩ := calmodeTake_leaves m
  have h1 : m1 = _ := htake
  have hoff : m.hkc.background = false → m.hkc.spareOn = false → m2.hkc.spareOn = false := fun hback hspare => by
    obtain ⟨hready, hon⟩ := calmodeTake_unready hback hspare
    rw [show m2 = m1 from if_neg (ne_true_of_eq_false hready)]
    exact hon
  have h2 : ∃ k, m2 = { m with hkc := k } ∧ k.queue = m.hkc.queue ∧ k.conv = m.hkc.conv ∧ k.reqs = m.hkc.reqs ∧
      k.nextB = m.hkc.nextB := by
    unfold m2
    clear_value m1
    subst h1
    split
    · exact ⟨_, rfl, rfl, rfl, rfl, rfl⟩
    · exact ⟨_, rfl, rfl, rfl, rfl, rfl⟩
  obtain ⟨k, hk, hqueue, hconv, hreqs, hnext⟩ := h2
  have hsh : m.hkc.background = false → m.hkc.spareOn = false → sh = false := fun hback hspare => by
    show (m2.hkc.spareOn && _) = false
    rw [hoff hback hspare, Bool.false_and]
  refine ⟨{ k with
    last := some m.tb.stb, nextB := !b, sinceStep := count, turn := if full then 0 else k.turn + b2n sh,
    shadowB := if full then !k.shadowB else k.shadowB }, ?_, rfl, hqueue, hconv, hreqs, ?_, hsh⟩
  · show ({ m2 with
      hkc := { m2.hkc with
        last := some m2.now
        nextB := !b
        sinceStep := count
        turn := if full then 0 else m2.hkc.turn + b2n sh
        shadowB := if full then !m2.hkc.shadowB else m2.hkc.shadowB } } : Chip) = _
    clear_value sh full count b
    clear_value m2
    subst hk
    rfl
  · show (!m2.hkc.nextB) = _
    rw [hk, hnext]

theorem Chip.slotReq_setReq_same {m : Chip} {j : Nat} (r : Option HkcReq) (hj : j < m.hkc.reqs.length) :
    (m.setReq j r).slotReq j = r := getD_upd_same _ _ hj

theorem Chip.slotReq_setReq_none (m : Chip) (j : Nat) : (m.setReq j none).slotReq j = none := by
  by_cases h : j < m.hkc.reqs.length
  · exact Chip.slotReq_setReq_same none h
  · exact List.getD_eq_default _ _ (by simpa [Chip.setReq, upd] using h)

theorem Chip.slotReq_setReq_ne {m : Chip} {i j : Nat} (r : Option HkcReq) (hi : i ≠ j) :
    (m.setReq j r).slotReq i = m.slotReq i := by
  simp [Chip.slotReq, Chip.setReq, upd, List.getD_eq_getElem?_getD, Ne.symm hi]

/-- A conversion that no slot asked for, with slice C off, joins the sum of the VREF run (R363). -/
theorem ownConversion_leaves {m : Chip} {raw spare n : Nat} {sp : Bool} {sums : List Nat} (hfree : m.hkcFree = true)
    (hrun : m.cal.run = .vref sp n sums) (hn : n < 3072) (hback : m.hkc.background = false) (hspare : m.hkc.spareOn = false) :
    (m.ownConversion raw spare).cal.run = .vref (sp || m.warn) (n + 1)
      (if n % 64 = 0 then sums ++ [raw] else upd sums (n / 64) (· + raw)) ∧
    (m.ownConversion raw spare).hkc.last = some m.tb.stb ∧ (m.ownConversion raw spare).hkc.queue = m.hkc.queue ∧
    AllWordsKept m (m.ownConversion raw spare) := by
  have hopen : (m.hkcFree && (m.vrefOpen || m.hkc.background)) = true := by
    simp [hfree, Chip.vrefOpen, hrun, hn]
  obtain ⟨k, hk, hlast, hqueue, -, -, -, hshadow⟩ := sampleTaken_leaves m
  have hown : m.ownConversion raw spare = Chip.vrefSample { m with hkc := k } raw := by
    unfold Chip.ownConversion
    rw [if_pos hopen]
    dsimp only
    rw [hshadow hback hspare, hk]
    rfl
  have hadd : Chip.vrefSample { m with hkc := k } raw = { m with
      hkc := k
      cal := { m.cal with
        run := .vref (sp || m.warn) (n + 1) (if n % 64 = 0 then sums ++ [raw] else upd sums (n / 64) (· + raw)) } } := by
    unfold Chip.vrefSample
    rw [show ({ m with hkc := k } : Chip).cal.run = .vref sp n sums from hrun]
    rfl
  rw [hown, hadd]
  exact ⟨rfl, hlast, hqueue, rfl⟩

/-- A software event of a slot without a request makes one due after its delay (R204, R205). -/
theorem softEvent_requests {m : Chip} {j : Nat} (t : Tick) (hj : j < m.hkc.reqs.length) (hsrc : m.slotSrc j = 1)
    (hcfg : tst (m.rd spHkc (slotOff j 0)) 15 = true) (hon : m.slotsOn = true) (hrst : tst (m.rd 0 0x12) 1 = false)
    (hnone : m.slotReq j = none) :
    ((m.targetEvent 1 j t).slotReq j).map (·.due) = some (t + BitVec.ofNat 64 (max (m.rd spHkc (slotOff j 2)).toNat 2)) ∧
    ((m.targetEvent 1 j t).slotReq j).map (·.ch) = some (fld (m.rd spHkc (slotOff j 0)) 8 4) ∧
    (∀ i, i ≠ j → (m.targetEvent 1 j t).slotReq i = m.slotReq i) ∧ AllWordsKept m (m.targetEvent 1 j t) := by
  have hleast : (if fld (m.rd spHkc (slotOff j 1)) 12 4 = 8 then 4 else 2) = 2 := by
    rw [show fld (m.rd spHkc (slotOff j 1)) 12 4 = 1 from hsrc]
    rfl
  have heq : m.targetEvent 1 j t = m.setReq j (some
      { due := t + BitVec.ofNat 64 (max (m.rd spHkc (slotOff j 2)).toNat 2)
        ch := fld (m.rd spHkc (slotOff j 0)) 8 4
        prio := fld (m.rd spHkc (slotOff j 0)) 5 3
        drop := tst (m.rd spHkc (slotOff j 0)) 14
        qen := tst (m.rd spHkc (slotOff j 0)) 13
        waited := false }) := by
    rw [Chip.targetEvent, if_pos hsrc, Chip.slotEvent]
    simp only [hcfg, hon, hrst, hnone, hleast, Bool.and_self, if_true, Bool.false_eq_true, if_false]
  rw [heq, Chip.slotReq_setReq_same _ hj]
  exact ⟨rfl, rfl, fun i hi => Chip.slotReq_setReq_ne _ hi, rfl⟩

/-- A software event of a slot that has a request drops it (R206). -/
theorem softEvent_drops {m : Chip} {j : Nat} (t : Tick) (hsrc : m.slotSrc j = 1) (hcfg : tst (m.rd spHkc (slotOff j 0)) 15 = true)
    (hon : m.slotsOn = true) (hrst : tst (m.rd 0 0x12) 1 = false) (hsome : m.slotReq j ≠ none) :
    m.targetEvent 1 j t = m.dropSlot j := by
  obtain ⟨q, hq⟩ := Option.ne_none_iff_exists'.1 hsome
  rw [Chip.targetEvent, if_pos hsrc, Chip.slotEvent]
  simp only [hcfg, hon, hrst, hq, Bool.and_self, if_true, Bool.false_eq_true, if_false]

/-- A request that is dropped counts, with its event (R206, R208). -/
theorem dropSlot_leaves {m : Chip} {j : Nat} (hj : j < 8) (hcore : m.pw.core = true) :
    (m.dropSlot j).rd spHkc (slotOff j 6) = satAdd (m.rd spHkc (slotOff j 6)) 1 ∧ tst ((m.dropSlot j).rd 0 0x13) 9 = true ∧
    (m.dropSlot j).hkc = m.hkc := by
  have hraise (sp o : Nat) := Chip.rd_raise (m.bump spHkc (slotOff j 6) 1) evHkcDrop sp o hcore
  have hkept (t : Chip) : WordsKept t (t.missSlot j) ((List.range 8).map fun c => (spIllum, chanOff c 0xB)) ∧
      (t.missSlot j).hkc = t.hkc := by
    refine List.foldlRecOn (motive := fun u => WordsKept t u _ ∧ u.hkc = t.hkc) _ _ ⟨.refl t _, rfl⟩ ?_
    rintro u ⟨hu, hh⟩ c hc
    split
    · exact ⟨hu.bump 1 (List.mem_map.2 ⟨c, hc, rfl⟩), hh⟩
    · exact ⟨hu, hh⟩
  obtain ⟨hk, hh⟩ := hkept ((m.bump spHkc (slotOff j 6) 1).raise evHkcDrop)
  have hne (sp o : Nat) (h : key sp o < key spIllum 0) :
      ∀ w ∈ (List.range 8).map fun c => (spIllum, chanOff c 0xB), key sp o ≠ key w.1 w.2 := by
    intro w hw
    obtain ⟨c, -, rfl⟩ := List.mem_map.1 hw
    dsimp only
    unfold key at h ⊢
    omega
  unfold Chip.dropSlot
  refine ⟨?_, ?_, hh.trans (Chip.raise_hkc _ _)⟩
  · rw [hk.rd (hne _ _ (by unfold key slotOff spHkc spIllum; omega)), hraise, if_neg (by unfold key slotOff spHkc evHkcDrop; omega),
      Chip.rd_bump, if_pos rfl]
  · rw [hk.rd (hne _ _ (by decide)), hraise, if_pos (by decide)]
    exact tst_or_bitW _ (by decide)

/-- A write of HKCTRIG that names one slot. -/
theorem writeHkctrig_one (m : Chip) (j : Fin 8) : m.writeHkctrig (bitW j.val) = m.targetEvent 1 j.val m.tb.stb := by
  have hbit (i : Nat) : tst (bitW j.val) i = decide (i = j.val) := by
    rw [tst_bitW]
    by_cases h : i = j.val
    · simp [h]
      omega
    · simp [h, Ne.symm h]
  have hone := foldl_single (f := fun m s => if tst (bitW j.val) s then m.targetEvent 1 s m.now else m) List.nodup_range
    (List.mem_range.2 j.isLt) (fun t i _ hi => if_neg (by rw [hbit]; simpa using hi)) m
  exact hone.trans (if_pos (by rw [hbit]; exact decide_eq_true rfl))

theorem writeSpace_hkctrig (m : Chip) (j : Fin 8) : m.writeSpace spHkc 3 (bitW j.val) = m.targetEvent 1 j.val m.tb.stb :=
  writeHkctrig_one m j

/-- The request that wins in its due cycle starts (R207). -/
theorem serve_starts {m : Chip} {j : Nat} {r : HkcReq} (hreq : m.slotReq j = some r) (hdue : r.due = m.tb.stb)
    (hready : m.hkcReady = true) (hothers : ∀ i, i < 8 → i ≠ j → m.slotReq i = none) : m.serve j = m.convert j r := by
  have hd : m.isDue r = true := by simp [Chip.isDue, hdue, Chip.now]
  have hw : m.wins j r = true := by
    unfold Chip.wins
    rw [List.all_eq_true]
    intro i hi
    by_cases hij : i = j
    · subst hij
      simp [hreq]
    · rw [hothers i (List.mem_range.1 hi) hij]
  unfold Chip.serve
  rw [hreq]
  simp [hd, hw, hready, hdue, Chip.now]

/-- A slot's conversion that starts (R200, R207). -/
theorem convert_leaves (m : Chip) (j : Nat) (r : HkcReq) :
    (m.convert j r).slotReq j = none ∧ (m.convert j r).hkc.conv.length = m.hkc.conv.length + 1 ∧
    (m.convert j r).hkc.last = some m.tb.stb ∧ (m.convert j r).hkc.nextB = (!m.hkc.nextB) ∧
    AllWordsKept m (m.convert j r) := by
  obtain ⟨k, hk, hlast, -, hconv, -, hnext, -⟩ := sampleTaken_leaves m
  unfold Chip.convert
  extract_lets x m1 waited c m2
  have h2 : m2 = Chip.setReq { m with hkc := k } j none := congrArg (Chip.setReq · j none) hk
  clear_value m2 c
  subst h2
  refine ⟨?_, ?_, hlast, hnext, rfl⟩
  · show (upd k.reqs j (fun _ => none)).getD j none = none
    exact Chip.slotReq_setReq_none { m with hkc := k } j
  · show (k.conv ++ [c]).length = _
    rw [List.length_append, hconv]
    rfl

/-- A request that is dropped (R208). -/
theorem dropReq_leaves {m : Chip} {j : Nat} (hj : j < 8) (hcore : m.pw.core = true) :
    (m.dropReq j).slotReq j = none ∧ (m.dropReq j).rd spHkc (slotOff j 6) = satAdd (m.rd spHkc (slotOff j 6)) 1 ∧
    tst ((m.dropReq j).rd 0 0x13) 9 = true ∧ (m.dropReq j).hkc.conv = m.hkc.conv := by
  obtain ⟨hrd, hev, hhkc⟩ := dropSlot_leaves (m := m.setReq j none) hj hcore
  have hbefore : (m.setReq j none).rd spHkc (slotOff j 6) = m.rd spHkc (slotOff j 6) := rfl
  rw [hbefore] at hrd
  unfold Chip.dropReq
  generalize (m.setReq j none).dropSlot j = d at *
  obtain ⟨l, hl⟩ := regsIdle_chans d
  rw [hl]
  have hconv : d.hkc.conv = m.hkc.conv := by
    rw [hhkc]
    rfl
  refine ⟨?_, hrd, hev, hconv⟩
  show d.hkc.reqs.getD j none = none
  rw [hhkc]
  exact m.slotReq_setReq_none j

theorem exec_hkcResult_cons {s : State} {c : HkcConv} {r : List HkcConv} {raw spare : Nat} (h : s.chip.hkc.conv = c :: r) :
    exec (.hkcResult (raw, spare)) s = guarded s s.chip.pw.core
      (if c.shadow then
        (Chip.deliver { s.chip with hkc := { s.chip.hkc with conv := r } } c raw).hkcPair (b2n c.sliceB) raw spare c.supply
      else Chip.deliver { s.chip with hkc := { s.chip.hkc with conv := r } } c raw) := by
  have hcore : (Chip.deliver { s.chip with hkc := { s.chip.hkc with conv := r } } c raw).pw.core = s.chip.pw.core :=
    deliver_core _ _ _
  show execHkcResult (raw, spare) s = _
  unfold execHkcResult
  dsimp only
  rw [h]
  dsimp only
  rw [hcore]

theorem exec_hkcResult_nil {s : State} {raw spare : Nat} (h : s.chip.hkc.conv = []) :
    exec (.hkcResult (raw, spare)) s = guarded s s.chip.pw.core (s.chip.ownConversion raw spare) := by
  show execHkcResult (raw, spare) s = _
  unfold execHkcResult
  dsimp only
  rw [h]

/-- Settles O34: the requests of the HKC slots, their results, the queue and the conversions of a VREF run. -/
theorem hkcConversions : Obligations.HkcConversions := by
  unfold Obligations.HkcConversions
  refine ⟨⟨fun s j ho hshape hsrc hcfg hon hrst => ⟨fun hnone => ?request, fun hsome => ?second⟩,
      fun s j r hcore hreq => ⟨completes_guarded rfl hcore, fun hdue hready hothers => ?starts, fun hlate => ?expires⟩⟩,
    fun s c r raw spare hcore hconv m hm => ?result, fun s raw spare n sp sums hcore hconv hfree hrun hn => ?own,
    fun s hbus hon => ?read⟩
  case request =>
    refine answers_hostWindow rfl ho ?_
    rw [writeSpace_hkctrig]
    exact softEvent_requests (m := s.host) s.chip.tb.stb (by show j.val < s.chip.hkc.reqs.length; rw [hshape.2.1]; exact j.isLt)
      hsrc hcfg hon hrst hnone
  case second =>
    have hcore : s.chip.pw.core = true := by
      simp only [Chip.slotsOn, Bool.and_eq_true] at hon
      exact hon.1.1.1
    refine answers_hostWindow rfl ho ?_
    rw [writeSpace_hkctrig, softEvent_drops (m := s.host) _ hsrc hcfg hon hrst hsome]
    obtain ⟨hrd, hev, hhkc⟩ := dropSlot_leaves (m := s.host) j.isLt hcore
    generalize s.host.dropSlot j.val = d at *
    exact ⟨hrd, hev, hhkc⟩
  case starts =>
    refine answers_guarded rfl hcore ?_
    rw [serve_starts hreq hdue hready hothers]
    exact convert_leaves s.chip j.val r
  case expires =>
    have hrun : (s.chip.pw.core && (s.chip.slotReq j.val).any (fun r => decide (r.due.toNat + 20 ≤ s.chip.now.toNat))) = true := by
      simp [hcore, hreq, Chip.now, hlate]
    have hexec : exec (.hkcWaitExpiry j) s = guarded s (s.chip.pw.core && (s.chip.slotReq j.val).any
        (fun r => decide (r.due.toNat + 20 ≤ s.chip.now.toNat))) (s.chip.dropReq j.val) := rfl
    refine answers_guarded hexec hrun ?_
    have h := dropReq_leaves (m := s.chip) j.isLt hcore
    generalize s.chip.dropReq j.val = d at h
    exact h
  case result =>
    subst hm
    refine ⟨completes_guarded (exec_hkcResult_cons hconv) hcore, fun hslot hoff hshadow =>
      answers_guarded (exec_hkcResult_cons hconv) hcore ?_⟩
    have h := deliver_leaves (m := { s.chip with hkc := { s.chip.hkc with conv := r } }) raw hslot hoff
    rw [hshadow, if_neg (by decide)]
    generalize Chip.deliver _ _ _ = d at h
    exact h
  case own =>
    exact ⟨completes_guarded (exec_hkcResult_nil hconv) hcore, fun hback hspare =>
      answers_guarded (exec_hkcResult_nil hconv) hcore (ownConversion_leaves hfree hrun hn hback hspare)⟩
  case read =>
    obtain ⟨hsome, hnone⟩ := popHkq_leaves s.host
    have hr : s.reaches 0 0x2E := ⟨hbus, hon⟩
    refine ⟨fun e r hq => answers_hostRead (f := fun m => m.popHkq.2.drive m.popHkq.1) rfl hr ?_,
      fun hq => answers_hostRead (f := fun m => m.popHkq.2.drive m.popHkq.1) rfl hr ?_⟩
    · rw [hsome e r hq]
      exact ⟨rfl, rfl, rfl⟩
    · rw [hnone hq]
      exact ⟨rfl, rfl, rfl⟩

end Sys2Proof.Machine
end


section
/-! PROOFS. The steps of a Drift document, and the parts of the chip that its band reads leave. -/

namespace Sys2Proof.Machine
-- What the steps below change is compared with the model by unfolding: one elaboration at a time.
set_option Elab.async false

/-! ## What windows, walks and rows leave -/

section
variable {lv : Level} {bd : Bool} {o m : Chip}

theorem Keeps.wr64 {sp off v : Nat} (h : Keeps lv o m) : Keeps lv o (m.wr64 sp off v) := by
  unfold Chip.wr64
  exact h.wr32.wr32

theorem Keeps.takeFree (h : Keeps (.wide bd) o m) : Keeps (.wide bd) o m.takeFree.2 := h

theorem Keeps.verdict {g : Nat} {failed : Bool} (h : Keeps (.wide bd) o m) : Keeps (.wide bd) o (m.verdict g failed) := by
  unfold Chip.verdict
  extract_lets _ _ _ _ ref m1 m2 declare
  clear_value ref
  have h2 : Keeps (.wide bd) o m2 := h.mapHist.setG.setG
  have hdec (p : Nat) : Keeps (.wide bd) o (declare p) := .ite h2 h2.failSlice
  split
  · exact .ite (hdec _) (hdec _)
  · refine .ite ?_ h2
    split
    · exact hdec _
    · exact hdec _
    · exact h2.mapHist.setG

theorem Keeps.skipWindow {g : Nat} (h : Keeps (.wide bd) o m) : Keeps (.wide bd) o (m.skipWindow g) := by
  unfold Chip.skipWindow
  extract_lets _ m1
  have h1 : Keeps (.wide bd) o m1 := h.bump
  exact h1.setG

theorem Keeps.groupRow {c : Capture} {r : GroupRow} {k row step : Nat} (h : Keeps (.wide bd) o m) :
    Keeps (.wide bd) o (m.groupRow c r k row step) := by
  unfold Chip.groupRow
  extract_lets _ _ _ _ _ _ _ m1
  have h1 : Keeps (.wide bd) o m1 := h.update
  exact h1.mapHist

theorem Keeps.groupRows {c : Capture} {codes : List GroupRow} {k row step : Nat} (h : Keeps (.wide bd) o m) :
    Keeps (.wide bd) o (m.groupRows c codes k row step) := by
  unfold Chip.groupRows
  exact h.foldl (fun _ _ h => h.groupRow)

theorem Keeps.estOr {e : Est} (h : Keeps (.wide bd) o m) : Keeps (.wide bd) o (m.estOr e).2 := by
  unfold Chip.estOr
  split
  · exact h
  · exact h.takeFree

theorem Keeps.setTrim {g p t base : Nat} {v : ℤ} (h : Keeps (.wide bd) o m) : Keeps (.wide bd) o (m.setTrim g p t base v) := by
  unfold Chip.setTrim
  extract_lets
  exact h.wr

theorem Keeps.moveTarget {g p t : Nat} {taps : ℤ} (h : Keeps (.wide bd) o m) :
    Keeps (.wide bd) o (m.moveTarget g p t taps) := by
  unfold Chip.moveTarget
  refine .ite h ?_
  extract_lets _ _ _ _ _ m1 m2
  have h1 : Keeps (.wide bd) o m1 := h.setTrim
  have h2 : Keeps (.wide bd) o m2 := .ite h1.orBits h1
  exact .ite h2.fault h2

theorem Keeps.learn {g p t tol : Nat} {e1 e2 : Est} (h : Keeps (.wide bd) o m) :
    Keeps (.wide bd) o (m.learn g p t tol e1 e2).1 := by
  unfold Chip.learn
  extract_lets a b m1
  have h1 : Keeps (.wide bd) o m1 := h.estOr.estOr
  split
  · split
    · exact h1.moveTarget
    · split
      · exact h1.moveTarget
      · exact h1
  · split
    · exact h1.moveTarget
    · exact h1

theorem Keeps.calTime {c : Nat} {all : Bool} (h : Keeps (.wide bd) o m) : Keeps (.wide bd) o (m.calTime c all) := by
  unfold Chip.calTime
  extract_lets _ m1 m2
  have h1 : Keeps (.wide bd) o m1 := h.wr32
  have h2 : Keeps (.wide bd) o m2 := h1.wr64
  exact .ite h2.wr32.wr h.bump

theorem Keeps.colTrim {g : Nat} (h : Keeps (.wide bd) o m) : Keeps (.wide bd) o (m.colTrim g) := by
  unfold Chip.colTrim
  extract_lets d r
  have hr : Keeps (.wide bd) o r.1 := Keeps.foldl_fst h fun _ _ h => h.learn
  exact hr.calTime

theorem Keeps.colRef {g : Nat} (h : Keeps (.wide bd) o m) : Keeps (.wide bd) o (m.colRef g) := by
  unfold Chip.colRef
  extract_lets ps p r
  split
  · exact h
  · have hr : Keeps (.wide bd) o r.1 := by
      refine Keeps.foldl_fst h fun a t h => ?_
      dsimp only
      split
      · exact h.learn
      · exact h
    exact hr.calTime

theorem Keeps.dwellEnd {g : Nat} (h : Keeps (.wide bd) o m) : Keeps (.wide bd) o (m.dwellEnd g) := by
  unfold Chip.dwellEnd
  exact h.colTrim.colRef.marlLeave

theorem Keeps.dwellAdd {role : Nat} {rows : List (Nat × List (ℤ × ℤ))} (h : Keeps (.wide bd) o m) :
    Keeps (.wide bd) o (m.dwellAdd role rows) := by
  unfold Chip.dwellAdd
  extract_lets
  exact .ite h h.update

theorem Keeps.windowEnd {g : Nat} (h : Keeps (.wide bd) o m) : Keeps (.wide bd) o (m.windowEnd g) := by
  unfold Chip.windowEnd
  extract_lets role hh stop
  have hstop {m : Chip} (h : Keeps (.wide bd) o m) : Keeps (.wide bd) o (stop m) := .ite h.mapHist.marlLeave h.mapHist
  exact .ite (hstop h.skipWindow) (hstop (.ite h.verdict.dwellAdd h.verdict))

theorem Keeps.windowsEnd (h : Keeps (.wide bd) o m) : Keeps (.wide bd) o m.windowsEnd := by
  unfold Chip.windowsEnd
  exact h.foldl (fun _ _ h => h.windowEnd)

theorem Keeps.trimStep {g p t : Nat} (h : Keeps (.wide bd) o m) : Keeps (.wide bd) o (m.trimStep g p t) := by
  unfold Chip.trimStep
  extract_lets _ m1 _ _
  have h1 : Keeps (.wide bd) o m1 := h.setTrim
  clear_value m1
  exact h1.update

theorem Keeps.walkAll {c : Capture} (h : Keeps (.wide bd) o m) : Keeps (.wide bd) o (m.walkAll c) := by
  unfold Chip.walkAll
  exact h.foldl (fun _ _ h => (h.foldl (fun _ _ h => (h.foldl (fun _ _ h => (.ite h.trimStep h))))))

theorem Keeps.growStrips {x : DStep} (h : Keeps (.wide bd) o m) : Keeps (.wide bd) o (m.growStrips x) := by
  unfold Chip.growStrips
  exact h.mapCap


end

/-! ## Dropped steps and the lines they complete -/

/-- The counters of a Drift capture that its lines advance. -/
def Capture.lineWords (c : Capture) : List (Nat × Nat) :=
  [(spCtx, c.off 0xD2), (spCtx, c.off 0xD3), (spCtx, c.off 0xD4)]

/-- Steps that are accounted for: the ring, the lines and their counters are all that changed. -/
def LinesOnly (c : Capture) (o m : Chip) : Prop :=
  (∃ r y f l d ri mi n la, m = { o with
    regs := r
    cyc := y
    free := f
    pipe := { o.pipe with lines := l }
    cc := { o.cc with drift := { o.cc.drift with
      droppedSteps := d, rings := ri, mids := mi, nextLine := n, lastLine := la } } }) ∧
  WordsKept o m c.lineWords

section
variable {c : Capture} {o m t : Chip}

theorem LinesOnly.refl (c : Capture) (m : Chip) : LinesOnly c m m := ⟨⟨_, _, _, _, _, _, _, _, _, rfl⟩, .refl _ _⟩

theorem LinesOnly.trans (h : LinesOnly c o m) (h' : LinesOnly c m t) : LinesOnly c o t := by
  obtain ⟨⟨r, y, f, l, d, ri, mi, n, la, rfl⟩, hk⟩ := h
  obtain ⟨⟨r', y', f', l', d', ri', mi', n', la', rfl⟩, hk'⟩ := h'
  exact ⟨⟨r', y', f', l', d', ri', mi', n', la', rfl⟩, fun k hw => (hk' k hw).trans (hk k hw)⟩

theorem LinesOnly.ite {p : Prop} [Decidable p] {a b : Chip} (ha : LinesOnly c o a) (hb : LinesOnly c o b) :
    LinesOnly c o (if p then a else b) := by
  split
  · exact ha
  · exact hb

theorem LinesOnly.foldl {α : Type} {f : Chip → α → Chip} {l : List α} (hf : ∀ t a, LinesOnly c t (f t a)) (m : Chip) :
    LinesOnly c m (l.foldl f m) :=
  List.foldlRecOn l f (.refl c m) fun t ht a _ => ht.trans (hf t a)

end

theorem linesOnly_lineStamp (c : Capture) (m : Chip) (l : Nat) : LinesOnly c m (m.lineStamp l).2 := by
  unfold Chip.lineStamp
  extract_lets ps
  split
  · exact .refl c m
  · exact ⟨⟨_, _, _, _, _, _, _, _, _, rfl⟩, .refl m _⟩

theorem linesOnly_lineSend (c : Capture) (m : Chip) (x : DLine) : LinesOnly c m (m.lineSend c x) := by
  unfold Chip.lineSend
  split
  · exact .refl c m
  · split
    · exact .refl c m
    · exact ⟨⟨_, _, _, _, _, _, _, _, _, rfl⟩, .refl m _⟩

theorem linesOnly_lineOut (c : Capture) (m : Chip) (k l : Nat) : LinesOnly c m (m.lineOut c k l).2 := by
  unfold Chip.lineOut
  extract_lets
  split
  · exact ⟨⟨_, _, _, _, _, _, _, _, _, rfl⟩, .refl m _⟩
  · exact .refl c m

theorem linesOnly_emitDrift (c : Capture) (m : Chip) (k n : Nat) (repeated : Bool) (stamp : Tick) :
    LinesOnly c m (m.emitDrift c k n repeated stamp) := by
  unfold Chip.emitDrift
  extract_lets width bl last line px r m1
  have h1 : LinesOnly c m m1 :=
    (linesOnly_lineOut c m k _).trans ⟨⟨_, _, _, _, _, _, _, _, _, rfl⟩, .refl r.2 _⟩
  exact .ite (linesOnly_lineSend c m _) (h1.trans (linesOnly_lineSend c m1 _))

theorem linesOnly_emitRow (c : Capture) (m : Chip) (n : Nat) (repeated : Bool) : LinesOnly c m (m.emitRow c n repeated) := by
  unfold Chip.emitRow
  extract_lets r m1
  have h1 : LinesOnly c m m1 := by
    refine (linesOnly_lineStamp c m _).trans (.foldl (fun t k => ?_) _)
    extract_lets t1
    have ht : LinesOnly c t t1 := linesOnly_emitDrift c t k n repeated r.1
    exact .ite (ht.trans ⟨⟨_, _, _, _, _, _, _, _, _, rfl⟩, (WordsKept.refl t1 _).bump 1 (by simp [Capture.lineWords])⟩) ht
  exact h1.trans ⟨⟨_, _, _, _, _, _, _, _, _, rfl⟩,
    (WordsKept.refl m1 _).wr32 _ (by simp [Capture.lineWords]) (by simp [Capture.lineWords, Capture.off])⟩

theorem linesOnly_completeLines (c : Capture) (m : Chip) (x16 : Nat) (repeated : Bool) :
    LinesOnly c m (m.completeLines c x16 repeated) := by
  unfold Chip.completeLines
  extract_lets n upTo m1 low
  have h1 : LinesOnly c m m1 := .foldl (fun t i => linesOnly_emitRow c t (n + i) repeated) m
  exact h1.trans ⟨⟨_, _, _, _, _, _, _, _, _, rfl⟩, .refl m1 _⟩

theorem linesOnly_noteMid (c : Capture) (m : Chip) (x : DStep) (dropped : Bool) (x16 : Nat) :
    LinesOnly c m (m.noteMid c x dropped x16) := ⟨⟨_, _, _, _, _, _, _, _, _, rfl⟩, .refl m _⟩

theorem linesOnly_passSteps (c : Capture) (m : Chip) (p : DStep → Bool) : LinesOnly c m (m.passSteps c p) := by
  unfold Chip.passSteps
  extract_lets l m1
  have h1 : LinesOnly c m m1 := ⟨⟨_, _, _, _, _, _, _, _, _, rfl⟩, .refl m _⟩
  exact h1.trans (.foldl (fun t x => (linesOnly_noteMid c t x true _).trans (linesOnly_completeLines c _ _ true)) m1)

theorem linesOnly_passDropped (c : Capture) (m : Chip) : LinesOnly c m (m.passDropped c) := linesOnly_passSteps c m _

/-! ## The end of a document -/

theorem LinesOnly.loam {c : Capture} {o m : Chip} (h : LinesOnly c o m) : m.loam = o.loam := by
  obtain ⟨⟨r, y, f, l, d, ri, mi, n, la, rfl⟩, -⟩ := h
  rfl

/-- The parts of a Drift capture that lines leave. -/
theorem LinesOnly.drift {c : Capture} {o m : Chip} (h : LinesOnly c o m) :
    m.cc.nodes = o.cc.nodes ∧ m.cc.drift.reading = o.cc.drift.reading ∧ m.cc.drift.ending = o.cc.drift.ending ∧
    m.cc.drift.outstanding = o.cc.drift.outstanding ∧ m.cc.drift.taken = o.cc.drift.taken ∧
    m.cc.drift.exposing = o.cc.drift.exposing ∧ m.cc.drift.stalled = o.cc.drift.stalled := by
  obtain ⟨⟨r, y, f, l, d, ri, mi, n, la, rfl⟩, -⟩ := h
  exact ⟨rfl, rfl, rfl, rfl, rfl, rfl, rfl⟩

/-- The status word of a capture is none of the words that its lines count in. -/
theorem LinesOnly.status {c : Capture} {o m : Chip} (h : LinesOnly c o m) :
    m.rd spCtx (c.off 0xD0) = o.rd spCtx (c.off 0xD0) :=
  h.2.rd (by simp [Capture.lineWords, key_same, Capture.off])

/-- A document that has ended (R285). -/
structure Ended (c : Capture) (o m : Chip) : Prop where
  loam : m.loam = o.loam
  nodes : m.cc.nodes = o.cc.nodes
  reading : m.cc.drift.reading = o.cc.drift.reading
  ending : m.cc.drift.ending = o.cc.drift.ending
  outstanding : m.cc.drift.outstanding = o.cc.drift.outstanding
  taken : m.cc.drift.taken = o.cc.drift.taken
  exposing : m.cc.drift.exposing = o.cc.drift.exposing
  stalled : m.cc.drift.stalled = o.cc.drift.stalled
  ended : m.cc.drift.ended = true
  status : m.rd spCtx (c.off 0xD0) = o.rd spCtx (c.off 0xD0) ||| 0x4000

theorem ended_docFinish (c : Capture) (m : Chip) : Ended c m (m.docFinish c) := by
  have h := linesOnly_passDropped c m
  obtain ⟨hnodes, hreading, hending, hout, htaken, hexp, hstall⟩ := h.drift
  refine ⟨h.loam, hnodes, hreading, hending, hout, htaken, hexp, hstall, rfl, ?_⟩
  rw [← h.status]
  exact (Chip.rd_orBits ..).trans (if_pos rfl)

/-- What the end of a document gives up at once (R285). -/
def Chip.docGiveUp (m : Chip) : Chip :=
  m.captureLow.mapDrift (fun d =>
    { d with ending := true, outstanding := [], taken := [], exposing := none, closed := [], readb := none })

theorem docGiveUp_leaves (m : Chip) :
    m.docGiveUp.loam = m.loam ∧ m.docGiveUp.cc.nodes = m.cc.nodes ∧ m.docGiveUp.cc.drift =
      { m.cc.drift with ending := true, outstanding := [], taken := [], exposing := none, closed := [], readb := none } ∧
    ∀ off, off < 0x1000000 → m.docGiveUp.rd spCtx off = m.rd spCtx off := by
  have hlow : OnlyStrobes m m.captureLow := onlyStrobes_captureStrobe _ _ _ _
  have hrd (off : Nat) (hoff : off < 0x1000000) : m.captureLow.rd spCtx off = m.rd spCtx off :=
    hlow.rd (not_strobeWord hoff (by decide) (by decide) (.inl (by decide)))
  obtain ⟨r, y, k, l, heq, -⟩ := onlyStrobes_iff.1 hlow
  unfold Chip.docGiveUp
  generalize m.captureLow = a at *
  subst heq
  exact ⟨rfl, rfl, rfl, hrd⟩

/-- The end of a document with Loam not waiting (R285). -/
theorem docEnd_leaves {m : Chip} (c : Capture) (hending : m.cc.drift.ending = false) (hwait : m.loam.wait = none) :
    m.docEnd c = if m.cc.drift.reading.isNone then m.docGiveUp.docFinish c else m.docGiveUp := by
  obtain ⟨hloam, -, hdrift, -⟩ := docGiveUp_leaves m
  have hread : m.docGiveUp.cc.drift.reading = m.cc.drift.reading := by rw [hdrift]
  have hfinish : (m.docGiveUp.docFinish c).advanceLoam = m.docGiveUp.docFinish c :=
    Chip.advanceLoam_of_none (by rw [(ended_docFinish c m.docGiveUp).loam, hloam, hwait])
  unfold Chip.docEnd
  rw [if_neg (ne_true_of_eq_false hending)]
  show (if m.docGiveUp.cc.drift.reading.isNone then (m.docGiveUp.docFinish c).advanceLoam else m.docGiveUp) = _
  rw [hread, hfinish]

/-- What stands after the end of a document (R284, R285). -/
theorem docEnd_ends {m : Chip} (c : Capture) (hending : m.cc.drift.ending = false) (hwait : m.loam.wait = none) :
    (m.docEnd c).cc.drift.ending = true ∧ (m.docEnd c).cc.drift.outstanding = [] ∧ (m.docEnd c).cc.drift.taken = [] ∧
    (m.docEnd c).cc.drift.exposing = none ∧ (m.docEnd c).cc.drift.reading = m.cc.drift.reading ∧
    (m.cc.drift.reading = none → (m.docEnd c).cc.drift.ended = true ∧ tst ((m.docEnd c).rd spCtx (c.off 0xD0)) 14 = true) ∧
    (m.docEnd c).loam = m.loam ∧ (m.docEnd c).cc.drift.stalled = m.cc.drift.stalled ∧
    (m.docEnd c).cc.nodes = m.cc.nodes ∧
    (tst (m.rd spCtx (c.off 0xD0)) 15 = true → tst ((m.docEnd c).rd spCtx (c.off 0xD0)) 15 = true) := by
  obtain ⟨hloam, hnodes, hdrift, hrd⟩ := docGiveUp_leaves m
  have hstatus := hrd (c.off 0xD0) (by unfold Capture.off; omega)
  rw [docEnd_leaves c hending hwait]
  generalize m.docGiveUp = g at *
  cases hr : m.cc.drift.reading with
  | none =>
    have h := ended_docFinish c g
    rw [Option.isNone_none, if_pos rfl]
    generalize g.docFinish c = t at *
    rw [h.ending, h.outstanding, h.taken, h.exposing, h.reading, h.ended, h.status, h.loam, h.stalled, h.nodes, hdrift, hstatus]
    refine ⟨rfl, rfl, rfl, rfl, hr, fun _ => ⟨rfl, ?_⟩, hloam, rfl, hnodes, fun h15 => ?_⟩
    · simp [tst]
    · rw [tst_or, h15, Bool.true_or]
  | some x =>
    rw [Option.isNone_some, if_neg (by decide), hdrift]
    exact ⟨rfl, rfl, rfl, rfl, hr, (fun h => nomatch h), hloam, rfl, hnodes, fun h15 => hstatus.symm ▸ h15⟩

/-! ## A band that is read -/

/-- Loam, the nodes and the band in progress are as before. -/
structure BandKept (o m : Chip) : Prop where
  loam : m.loam = o.loam
  nodes : m.cc.nodes = o.cc.nodes
  reading : m.cc.drift.reading = o.cc.drift.reading

theorem BandKept.refl (m : Chip) : BandKept m m := ⟨rfl, rfl, rfl⟩

theorem BandKept.trans {o m t : Chip} (h : BandKept o m) (h' : BandKept m t) : BandKept o t :=
  ⟨h'.loam.trans h.loam, h'.nodes.trans h.nodes, h'.reading.trans h.reading⟩

theorem Keeps.band {o m : Chip} (h : Keeps (.wide false) o m) : BandKept o m :=
  ⟨h.loam, h.nodes, h.part (·.cc.drift.reading)⟩

theorem LinesOnly.band {c : Capture} {o m : Chip} (h : LinesOnly c o m) : BandKept o m := by
  obtain ⟨hnodes, hreading, -⟩ := h.drift
  exact ⟨h.loam, hnodes, hreading⟩

/-- The black level follows a band row in the pipeline alone (R417). -/
theorem bandBlack_pipe (m : Chip) (c : Capture) (k row : Nat) (vals : List Nat) : ∃ p, m.bandBlack c k row vals = { m with pipe := p } := by
  have htrack (f : PFrame) (r : PRow) : ∃ p, (m.blTrack f r).1 = { m with pipe := p } := by
    unfold Chip.blTrack
    split
    · exact ⟨m.pipe, rfl⟩
    · extract_lets
      split
      · exact ⟨m.pipe, rfl⟩
      · refine List.foldlRecOn (motive := fun a : Chip × PFrame => ∃ p, a.1 = { m with pipe := p }) _ _ ⟨m.pipe, rfl⟩ ?_
        rintro a ⟨p, hp⟩ i -
        exact ⟨_, by rw [hp]⟩
  unfold Chip.bandBlack
  split
  · exact ⟨m.pipe, rfl⟩
  · generalize hq : Chip.blTrack m _ _ = q
    obtain ⟨p, hp⟩ : ∃ p, q.1 = { m with pipe := p } := hq ▸ htrack _ _
    obtain ⟨a, b⟩ := q
    subst hp
    exact ⟨_, rfl⟩

theorem bandKept_bandRow (m : Chip) (c : Capture) (x : DStep) (x16 j : Nat) (codes : List GroupRow) :
    BandKept m (m.bandRow c x x16 j codes) := by
  unfold Chip.bandRow
  extract_lets row m1 m2 vals m3 u
  have h1 : Keeps (.wide false) m m1 := (Keeps.refl _ m).windowsEnd.applyForces
  have h2 : Keeps (.wide false) m m2 := .ite h1 h1.walkAll
  have h3 : BandKept m m3 := by
    obtain ⟨p, hp⟩ := bandBlack_pipe (m2.groupRows c codes x.stratum row x.num) c x.stratum row vals
    have hm3 : m3 = _ := hp
    have h := (h2.groupRows (c := c) (codes := codes) (k := x.stratum) (row := row) (step := x.num)).band
    exact ⟨by rw [hm3]; exact h.loam, by rw [hm3]; exact h.nodes, by rw [hm3]; exact h.reading⟩
  exact h3.trans ⟨rfl, rfl, rfl⟩

/-- After a band the document's end or its line limit leaves Loam and the nodes as they are (R284, R285). -/
theorem bandKept_bandStop {m : Chip} {c : Capture} (hwait : m.loam.wait = none) :
    BandKept m (if m.cc.drift.ending then m.docFinish c else m.lineLimit c) := by
  split
  · have h := ended_docFinish c m
    exact ⟨h.loam, h.nodes, h.reading⟩
  next hending =>
    unfold Chip.lineLimit
    split
    · obtain ⟨-, -, -, -, hreading, -, hloam, -, hnodes, -⟩ := docEnd_ends c (eq_false_of_ne_true hending) hwait
      exact ⟨hloam, hnodes, hreading⟩
    · exact .refl m

/-- A band that has been read, with Loam not waiting (R249, R273). -/
theorem bandEnd_leaves {m : Chip} (c : Capture) (x : DStep) (rows : List (List GroupRow)) (hwait : m.loam.wait = none) :
    (m.bandEnd c x rows).cc.drift.reading = none ∧ (m.bandEnd c x rows).loam.watch = 0 ∧
    (m.bandEnd c x rows).cc.nodes = m.cc.nodes &&& ~~~BitVec.ofNat 4 (2 ^ x.stratum) := by
  unfold Chip.bandEnd
  extract_lets m1 p m2 m3 m4 _ m5 m6 m7 m8
  have h1 : BandKept m m1 := (linesOnly_passSteps c m _).band
  have h2 : BandKept m1 m2 := List.foldlRecOn _ _ (BandKept.refl m1) fun t ht j _ =>
    ht.trans (bandKept_bandRow t c x p j _)
  have h3 : BandKept m m3 := (h1.trans h2).trans ((Keeps.refl _ m2).growStrips.band)
  have h5 : m5.loam = m.loam ∧ m5.cc.nodes = m.cc.nodes &&& ~~~BitVec.ofNat 4 (2 ^ x.stratum) ∧ m5.cc.drift.reading = none :=
    ⟨h3.loam, congrArg (· &&& ~~~BitVec.ofNat 4 (2 ^ x.stratum)) h3.nodes, rfl⟩
  obtain ⟨hloam5, hnodes5, hread5⟩ := h5
  have h6 : BandKept m5 m6 := ((linesOnly_noteMid c m5 x false p).trans (linesOnly_completeLines c _ p false)).band
  have hpass : BandKept m6 (m6.passDropped c) := (linesOnly_passDropped c m6).band
  have hloam7 : m7.loam = { m.loam with watch := 0 } :=
    congrArg (fun l : Loam => { l with watch := 0 }) (hpass.loam.trans (h6.loam.trans hloam5))
  have hnodes7 : m7.cc.nodes = _ := hpass.nodes.trans (h6.nodes.trans hnodes5)
  have hread7 : m7.cc.drift.reading = none := hpass.reading.trans (h6.reading.trans hread5)
  have h8 : BandKept m7 m8 := bandKept_bandStop (by rw [hloam7]; exact hwait)
  rw [Chip.advanceLoam_of_none (by rw [h8.loam, hloam7]; exact hwait)]
  exact ⟨h8.reading.trans hread7, by rw [h8.loam, hloam7], h8.nodes.trans hnodes7⟩

/-! ## Drift steps and documents (O45) -/

/-- The ISET levels of a stratum go to channels alone. -/
theorem isetApply_chans (m : Chip) (c : Capture) (k : Nat) : ∃ l, m.isetApply c k = { m with chans := l } := by
  unfold Chip.isetApply
  refine List.foldlRecOn (motive := fun t : Chip => ∃ l, t = { m with chans := l }) _ _ ⟨m.chans, rfl⟩ ?_
  rintro t ⟨l, rfl⟩ i -
  split
  · exact ⟨_, rfl⟩
  · exact ⟨l, rfl⟩

/-- A step that is taken up with Loam not waiting (R271). -/
theorem takeUp_leaves {m : Chip} {c : Capture} {x : DStep} {rest : List DStep} (hout : m.cc.drift.outstanding = x :: rest)
    (hwait : m.loam.wait = none) :
    (m.takeUp c).cc.drift.outstanding = rest ∧ (m.takeUp c).cc.drift.readb = none ∧
    (m.takeUp c).cc.drift.taken = m.cc.drift.taken ++ [m.planStep c x] ∧ (m.takeUp c).cc.cap = m.cc.cap ∧
    AllWordsKept m (m.takeUp c) ∧ (m.takeUp c).loam = m.loam := by
  unfold Chip.takeUp
  rw [hout]
  dsimp only
  generalize hm1 : Chip.mapDrift m _ = m1
  obtain ⟨l, hl⟩ := isetApply_chans m1 c (m.planStep c x).stratum
  subst hm1
  rw [hl, Chip.advanceLoam_of_none (by exact hwait)]
  exact ⟨rfl, rfl, rfl, rfl, rfl, rfl⟩

/-- The times of a step that no earlier one holds back (R271). -/
theorem planStep_first {m : Chip} {c : Capture} {x : DStep} (hclose : m.cc.drift.lastClose = none) (hband : m.cc.drift.bandEnd = []) :
    (m.planStep c x).openAt = BitVec.ofNat 64 (max (x.ts.toNat + c.offT x.stratum) (m.tb.stb.toNat + c.leadT x.stratum)) ∧
    (m.planStep c x).closeAt = (m.planStep c x).openAt + BitVec.ofNat 64 (c.durT x.stratum) := by
  simp [Chip.planStep, hclose, hband, BitVec.ofNat_add, Chip.now]

/-- The strobes of the oldest step rise (R272). -/
theorem lightStep_leaves {m : Chip} {c : Capture} {x : DStep} {rest : List DStep} (htaken : m.cc.drift.taken = x :: rest)
    (hlit : x.lit = false) :
    ((m.lightStep c x).cc.drift.taken.head?).map (·.lit) = some true ∧ (m.lightStep c x).loam = m.loam := by
  unfold Chip.lightStep
  rw [if_neg (ne_true_of_eq_false hlit)]
  obtain ⟨r, y, k, l, heq, -⟩ := onlyStrobes_iff.1 (onlyStrobes_captureStrobe m (c.strbMask x.stratum) true (c.riseAt x))
  generalize m.captureStrobe (c.strbMask x.stratum) true (c.riseAt x) = a at *
  subst heq
  refine ⟨?_, rfl⟩
  show ((m.cc.drift.taken.map _).head?).map _ = _
  rw [htaken]
  simp

/-- The exposure of a step whose strobes have risen opens (R271). -/
theorem openStep_leaves {m : Chip} {c : Capture} {x : DStep} {rest : List DStep} (htaken : m.cc.drift.taken = x :: rest)
    (hlit : x.lit = true) :
    (m.openStep c).cc = { m.cc with drift := { m.cc.drift with taken := rest, exposing := some x } } ∧
    (m.openStep c).loam = m.loam ∧ (m.openStep c).chans = m.chans := by
  have hx : { x with lit := true } = x := by rw [← hlit]
  have hlight : m.lightStep c x = m := if_pos hlit
  unfold Chip.openStep
  rw [htaken]
  dsimp only
  rw [hlight, hx]
  obtain ⟨hcc, hloam, hchans, -⟩ := (onlyRequests_sourceEvent (m.mapDrift (fun d => { d with
    taken := d.taken.drop 1, exposing := some x })) 5 x.stratum x.openAt).parts
  refine ⟨hcc.trans ?_, hloam, hchans⟩
  show { m.cc with drift := { m.cc.drift with taken := m.cc.drift.taken.drop 1, exposing := some x } } = _
  rw [htaken]
  rfl

/-- The open exposure closes (R271, R272). -/
theorem closeStep_leaves {m : Chip} {c : Capture} {x : DStep} (hexp : m.cc.drift.exposing = some x) :
    (m.closeStep c).cc = { m.cc with
      drift := { m.cc.drift with exposing := none, closed := m.cc.drift.closed ++ [x] }
      nodes := m.cc.nodes ||| BitVec.ofNat 4 (2 ^ x.stratum)
      charge := upd m.cc.charge x.stratum (fun l => (List.range 8).map (fun i => min 9500 (nth l i + 1280 * i))) } ∧
    (m.closeStep c).loam = m.loam := by
  unfold Chip.closeStep
  rw [hexp]
  dsimp only
  generalize hm1 : Chip.nodeClosed _ x.stratum = m1
  obtain ⟨r, y, k, l, heq, -⟩ := onlyStrobes_iff.1 (onlyStrobes_captureStrobe m1 (c.strbMask x.stratum &&& ~~~m1.litMask c)
    false x.closeAt)
  rw [heq, ← hm1]
  exact ⟨rfl, rfl⟩

/-! What the commands of a Drift capture run. -/

section
variable {s : State} {c : Capture} (hc : s.chip.driftCap = some c)
include hc

theorem exec_stepTakeUp : exec .stepTakeUp s = guarded s (s.chip.pw.array && s.chip.cc.drift.readb.isSome &&
    !s.chip.cc.drift.outstanding.isEmpty && !s.chip.cc.drift.ending) (s.chip.takeUp c) := by
  show execStepTakeUp s = _
  simp only [execStepTakeUp, hc]

theorem exec_strbEdge_drift {x : DStep} (hdue : s.chip.dueAction 2 = none) (hlit : s.chip.nextLit c = some x) :
    exec .strbEdge s = done s (s.chip.lightStep c x) := by
  show execStrbEdge s = _
  simp only [execStrbEdge, hdue, hc, hlit]

theorem exec_driftExposureOpen {x : DStep} {rest : List DStep} (h : s.chip.cc.drift.taken = x :: rest) :
    exec .driftExposureOpen s = guarded s (s.chip.pw.array && s.chip.cc.drift.exposing.isNone && s.chip.reached x.openAt)
      (s.chip.openStep c) := by
  show execDriftExposureOpen s = _
  simp only [execDriftExposureOpen, hc, h]

theorem exec_driftExposureClose {x : DStep} (h : s.chip.cc.drift.exposing = some x) :
    exec .driftExposureClose s = guarded s (s.chip.pw.array && s.chip.reached x.closeAt) (s.chip.closeStep c) := by
  show execDriftExposureClose s = _
  simp only [execDriftExposureClose, hc, h]

theorem exec_bandReadStart {x : DStep} {rest : List DStep} (h : s.chip.cc.drift.closed = x :: rest) :
    exec .bandReadStart s = guarded s (s.chip.pw.array && s.chip.cc.drift.reading.isNone && s.chip.reached x.bandFrom)
      (s.chip.mapDrift (fun d => { d with closed := rest, reading := some x })) := by
  show execBandReadStart s = _
  simp only [execBandReadStart, hc, h]

theorem exec_bandReadEnd {x : DStep} (rows : List (List GroupRow)) (h : s.chip.cc.drift.reading = some x) :
    exec (.bandReadEnd rows) s = guarded s (s.chip.pw.array && s.chip.reached x.bandTo) (s.chip.bandEnd c x rows) := by
  show execBandReadEnd rows s = _
  simp only [execBandReadEnd, hc, h]

theorem exec_driftEndPin (rising : Bool) : exec (.driftEndPin rising) s =
    guarded s (s.chip.pw.core && decide (fld (c.word 0xC0) 12 2 ≠ 0) &&
        (fld (c.word 0xC1) 5 2 == 2 || (fld (c.word 0xC1) 5 2 == 0 && rising) || (fld (c.word 0xC1) 5 2 == 1 && !rising)) &&
        s.chip.cc.drift.tail.isNone && !s.chip.cc.drift.ending)
      (s.chip.mapDrift (fun d => { d with tail := some (c.word 0xC3).toNat })) := by
  show execDriftEndPin rising s = _
  simp only [execDriftEndPin, hc]

theorem exec_driftTailExpiry : exec .driftTailExpiry s = guarded s
    (s.chip.pw.core && decide (s.chip.cc.drift.tail = some 0) && !s.chip.cc.drift.ending) (s.chip.docEnd c) := by
  show execDriftTailExpiry s = _
  simp only [execDriftTailExpiry, hc]

theorem exec_driftStall : exec .driftStall s = guarded s (s.chip.pw.core && decide ((c.word 0xC6).toNat ≠ 0) &&
      !s.chip.cc.drift.ending && decide (s.chip.cc.drift.lastStep.toNat + 100000 * (c.word 0xC6).toNat ≤ s.chip.now.toNat))
    (((s.chip.orBits spCtx (c.off 0xD0) 0x8000).mapDrift (fun d => { d with stalled := true })).docEnd c) := by
  show execDriftStall s = _
  simp only [execDriftStall, hc]

end

/-- Settles O45: the steps of a Drift document and its end. -/
theorem driftDocument : Obligations.DriftDocument := by
  unfold Obligations.DriftDocument
  refine ⟨fun s c hc harr => ⟨fun hreadb hout hending => ?takeUp,
      fun x hdue hlit => completes_of_done (exec_strbEdge_drift hc hdue hlit), fun x rest htaken hexp hopen => ?opens,
      fun x hexp hclose => completes_guarded (exec_driftExposureClose hc hexp) (by simp [harr, hclose]),
      fun x rows hread hto => completes_guarded (exec_bandReadEnd hc rows hread) (by simp [harr, hto])⟩,
    ⟨fun s c x rest hc harr hreadb hout hending hwait => ⟨?taken, planStep_first⟩,
      fun s c x rest hc harr htaken hexp => ⟨fun hlit hdue hrise => ?lights, fun hlit hopen => ?opened⟩,
      fun s c x hc harr hexp hclose => ?closed,
      fun s c x rest hc harr hclosed hread hfrom => answers_guarded (exec_bandReadStart hc hclosed) (by simp [harr, hread, hfrom])
        ⟨rfl, rfl, rfl⟩,
      fun s c x rows hc harr hread hto hwait => ?band⟩,
    fun s c r e hcore hc he hsrc htail hending => ⟨fun hedge => ?pin, fun hedge => ?other⟩,
    fun s c hcore hc hending hwait => ⟨fun htail => ?tail, fun htmo hlast => ?stall⟩⟩
  case takeUp =>
    exact completes_guarded (exec_stepTakeUp hc) (by simp [harr, hreadb, hout, hending])
  case opens =>
    exact completes_guarded (exec_driftExposureOpen hc htaken) (by simp [harr, hexp, hopen])
  case taken =>
    refine answers_guarded (exec_stepTakeUp hc) (by simp [harr, hreadb, hout, hending]) ?_
    have h := takeUp_leaves (c := c) hout hwait
    generalize s.chip.takeUp c = t at h
    exact h
  case closed =>
    refine answers_guarded (exec_driftExposureClose hc hexp) (by simp [harr, hclose]) ?_
    have h := closeStep_leaves (c := c) hexp
    generalize s.chip.closeStep c = t at h
    exact h
  case band =>
    refine answers_guarded (exec_bandReadEnd hc rows hread) (by simp [harr, hto]) ?_
    have h := bandEnd_leaves c x rows hwait
    generalize s.chip.bandEnd c x rows = t at h
    exact h
  case lights =>
    have hnext : s.chip.nextLit c = some x := by
      unfold Chip.nextLit
      rw [htaken, List.find?_cons_of_pos (by simp [hlit, Capture.riseAt, hrise])]
    refine answers_of_done (exec_strbEdge_drift hc hdue hnext) ?_
    have h := lightStep_leaves (c := c) htaken hlit
    generalize s.chip.lightStep c x = t at h
    exact h
  case opened =>
    refine answers_guarded (exec_driftExposureOpen hc htaken) (by simp [harr, hexp, hopen]) ?_
    have h := openStep_leaves (c := c) htaken hlit
    generalize s.chip.openStep c = t at h
    exact h
  case pin =>
    refine answers_guarded (exec_driftEndPin hc r) ?_ ⟨rfl, rfl, rfl⟩
    subst he
    rw [hcore, htail, hending, decide_eq_true hsrc]
    rcases hedge with h | ⟨h, hr⟩ | ⟨h, hr⟩
    · simp [h]
    · simp [h, hr]
    · simp [h, hr]
  case other =>
    have hno : (s.chip.pw.core && decide (fld (c.word 0xC0) 12 2 ≠ 0) &&
        (fld (c.word 0xC1) 5 2 == 2 || (fld (c.word 0xC1) 5 2 == 0 && r) || (fld (c.word 0xC1) 5 2 == 1 && !r)) &&
        s.chip.cc.drift.tail.isNone && !s.chip.cc.drift.ending) = false := by
      subst he
      rw [← Bool.not_eq_true]
      intro h
      simp at h
      exact hedge (by tauto)
    refine answers_of_done (exec_driftEndPin hc r) ?_
    rw [hno]
    rfl
  case tail =>
    refine answers_guarded (exec_driftTailExpiry hc) (by simp [hcore, htail, hending]) ?_
    obtain ⟨h1, h2, h3, h4, h5, h6, h7, -⟩ := docEnd_ends c hending hwait
    generalize s.chip.docEnd c = t at *
    exact ⟨h1, h2, h3, h4, h5, h6, h7⟩
  case stall =>
    refine answers_guarded (exec_driftStall hc) (by simp [hcore, htmo, hending, Chip.now, hlast]) ?_
    obtain ⟨hend, hout, -, -, -, -, hloam, hstall, -, hstatus⟩ := docEnd_ends
      (m := (s.chip.orBits spCtx (c.off 0xD0) 0x8000).mapDrift (fun d => { d with stalled := true })) c hending hwait
    have hset : tst ((s.chip.orBits spCtx (c.off 0xD0) 0x8000).rd spCtx (c.off 0xD0)) 15 = true := by
      rw [Chip.rd_orBits, if_pos rfl]
      simp [tst]
    have hstatus := hstatus hset
    generalize Chip.docEnd _ _ = t at *
    exact ⟨hend, hstall, hstatus, hout, hloam⟩

end Sys2Proof.Machine

end


section
/-! PROOFS. The pipeline's segments, the column slices and the trims. -/

namespace Sys2Proof.Machine
-- What the steps below change is compared with the model by unfolding: one elaboration at a time.
set_option Elab.async false

/-! ## The words after a cut and after a list of writes -/

theorem Bank.putAll_cons (b : Bank) (w : Nat × Word) (ws : List (Nat × Word)) :
    Bank.putAll b (w :: ws) = Bank.putAll (Bank.put b w.1 w.2) ws := rfl

theorem Bank.get_putAll_of_not_mem (ws : List (Nat × Word)) (k : Nat) (h : ∀ w ∈ ws, k ≠ w.1) (b : Bank) :
    Bank.get (Bank.putAll b ws) k = Bank.get b k := by
  induction ws generalizing b with
  | nil => rfl
  | cons w ws ih =>
    obtain ⟨hw, hr⟩ := List.forall_mem_cons.mp h
    rw [Bank.putAll_cons, ih hr, Bank.get_put_ne _ _ hw]

/-- Written to the store, a canonical list of words reads as itself where its keys are reset. -/
theorem Bank.get_putAll_pairwise (ws : List (Nat × Word)) (k : Nat) (hws : ws.Pairwise (fun c d => c.1 < d.1)) (b : Bank)
    (hb : Bank.get b k = unlisted k) : Bank.get (Bank.putAll b ws) k = Bank.get ws k := by
  induction ws generalizing b with
  | nil => exact hb
  | cons w ws ih =>
    obtain ⟨hw, hr⟩ := List.pairwise_cons.mp hws
    rw [Bank.putAll_cons, Bank.get_cons]
    by_cases hk : w.1 = k
    · rw [if_pos hk, Bank.get_putAll_of_not_mem ws k (fun c hc => hk ▸ Nat.ne_of_lt (hw c hc)), ← hk, Bank.get_put_same]
    · rw [if_neg hk, ih hr _ (by rw [Bank.get_put_ne _ _ (Ne.symm hk), hb])]

/-! ## The waiting statistics set is shown (R448) -/

section
variable (m : Chip) {b : Bank} {k : Nat}

theorem Chip.get_setFront_inside (hb : b.wf = true) (hlo : key spStat 0xF0 ≤ k) (hhi : k < key spStat 0x5000) :
    Bank.get (m.setFront b).regs k = Bank.get b k := by
  refine Bank.get_putAll_pairwise b k (Bank.wf_iff b |>.mp hb).1 _ ?_
  rw [Bank.get_keepIf, if_neg (by simp only [Bool.or_eq_true, decide_eq_true_eq]; omega)]

theorem Chip.get_setFront_outside (hb : ∀ c ∈ b, key spStat 0xF0 ≤ c.1 ∧ c.1 < key spStat 0x5000)
    (hk : k < key spStat 0xF0 ∨ key spStat 0x5000 ≤ k) : Bank.get (m.setFront b).regs k = Bank.get m.regs k := by
  refine (Bank.get_putAll_of_not_mem b k (fun c hc hkc => ?_) _).trans ?_
  · have := hb c hc
    omega
  · rw [Bank.get_keepIf, if_pos (by simpa only [Bool.or_eq_true, decide_eq_true_eq] using hk)]

end

theorem Chip.frontUpdate_shows {m : Chip} {b : Bank} (hw : m.pipe.waiting = some b) (hlock : tst (m.rd spStat 0) 15 = false)
    (hheld : m.statHeld = false) :
    m.frontUpdate = { m.setFront b with pipe := { m.pipe with waiting := none } } := by
  unfold Chip.frontUpdate
  simp only [hw, hlock, hheld, Bool.or_self, Bool.false_eq_true, if_false]

/-- A STATCTL write keeps LOCK as written. -/
theorem Chip.statctl_lock (m : Chip) (v : Word) : tst ((m.plainWrite spStat 0 v).rd spStat 0) 15 = tst v 15 := by
  obtain ⟨r, hr, hrw, hw1c⟩ : ∃ r, regRow spStat 0 = some r ∧ r.rw = 0x8000 ∧ r.w1c = 0 := ⟨_, rfl, rfl, rfl⟩
  rw [Chip.rd_plainWrite_merge m v hr hw1c, hrw, tst_merge _ _ _ (by decide)]
  rfl

theorem Chip.regs_plainWrite_ne (m : Chip) {sp off k : Nat} (v : Word) (hk : k ≠ key sp off) :
    Bank.get (m.plainWrite sp off v).regs k = Bank.get m.regs k := by
  unfold Chip.plainWrite
  split
  · rfl
  · exact Bank.get_put_ne _ _ hk

/-- A STATCTL write that clears LOCK. -/
theorem Chip.writeStat_shows (m : Chip) {v : Word} {b : Bank} (hv : tst v 15 = false) (hheld : m.statHeld = false)
    (hwait : m.pipe.waiting = some b) :
    m.writeSpace spStat 0 v =
      { (m.plainWrite spStat 0 v).setFront b with pipe := { m.pipe with waiting := none } } := by
  have hpipe : (m.plainWrite spStat 0 v).pipe = m.pipe := Chip.plainWrite_pipe m spStat 0 v
  have hlock : tst ((m.plainWrite spStat 0 v).rd spStat 0) 15 = false := (Chip.statctl_lock m v).trans hv
  have hheld' : (m.plainWrite spStat 0 v).statHeld = false := by
    unfold Chip.statHeld
    rw [Chip.plainWrite_movers]
    exact hheld
  have h := Chip.frontUpdate_shows (hpipe ▸ hwait) hlock hheld'
  rw [hpipe] at h
  exact h

theorem statctlUnlock_shows {s : State} {v : Word} {b : Bank} (ho : s.opens spStat 0) (hv : tst v 15 = false)
    (hheld : s.chip.statHeld = false) (hwait : s.chip.pipe.waiting = some b) (hwf : b.wf = true)
    (hrange : ∀ c ∈ b, key spStat 0xF0 ≤ c.1 ∧ c.1 < key spStat 0x5000) :
    Answers (.statctlUnlock v) s (fun t => t.pipe = { s.chip.pipe with waiting := none } ∧ tst (t.rd spStat 0) 15 = false ∧
      (∀ k, key spStat 0xF0 ≤ k → k < key spStat 0x5000 → Bank.get t.regs k = Bank.get b k) ∧
      (∀ k, k ≠ key spStat 0 → k < key spStat 0xF0 ∨ key spStat 0x5000 ≤ k → Bank.get t.regs k = Bank.get s.chip.regs k)) := by
  refine answers_hostWindow (sp := spStat) rfl ho ?_
  rw [Chip.writeStat_shows s.host hv hheld hwait]
  have hbelow : key spStat 0 < key spStat 0xF0 := by decide
  refine ⟨rfl, ?_, fun k hlo hhi => Chip.get_setFront_inside _ hwf hlo hhi, fun k hk hout => ?_⟩
  · refine (congrArg (fun w => tst w 15) (Chip.get_setFront_outside _ hrange (.inl hbelow))).trans ?_
    exact (Chip.statctl_lock s.host v).trans hv
  · refine (Chip.get_setFront_outside _ hrange hout).trans ?_
    exact Chip.regs_plainWrite_ne s.host v hk

/-! ## One segment of the pipeline (R435) -/

/-- What the pipeline's work and its source switch answer. -/
theorem answers_onlyPipe {c : Instr} {s : State} {m : Chip} {p : Pipe} (hexec : exec c s = guarded s s.chip.pw.pipe m)
    (hp : s.chip.pw.pipe = true) (hm : m = { s.chip with pipe := p }) : Answers c s (fun t => OnlyPipe s.chip t p) := by
  subst hm
  exact answers_guarded hexec hp rfl

section
variable {s : State} {rest : List PRow}

theorem segment_line {l : DLine} {rest : List DLine} (hl : s.chip.pipe.lines = l :: rest) (hleft : 256 < l.left) :
    s.chip.segment = { s.chip with pipe := { s.chip.pipe with lines := { l with left := l.left - 256 } :: rest } } := by
  unfold Chip.segment
  simp only [hl, if_neg (Nat.not_le.mpr hleft)]

theorem segment_inline {r : PRow} (hl : s.chip.pipe.lines = []) (hi : s.chip.pipe.inline = r :: rest) (hleft : 256 < r.left) :
    s.chip.segment = { s.chip with pipe := { s.chip.pipe with inline := { r with left := r.left - 256 } :: rest } } := by
  unfold Chip.segment
  simp only [hl, hi, if_neg (Nat.not_le.mpr hleft)]

/-- The last segment of a row that no open frame waits for. -/
theorem segment_inline_ends {r : PRow} (hl : s.chip.pipe.lines = []) (hi : s.chip.pipe.inline = r :: rest)
    (hleft : r.left ≤ 256) (hstore : r.store = none)
    (hframe : s.chip.pipe.frames.find? (fun f => f.is r.src r.id r.fn) = none) :
    s.chip.segment = { s.chip with pipe := { s.chip.pipe with inline := rest } } := by
  unfold Chip.segment
  simp only [hl, hi, if_pos hleft]
  unfold Chip.rowDone
  simp only [hstore, hframe]

theorem segment_memory {r : PRow} (hl : s.chip.pipe.lines = []) (hi : s.chip.pipe.inline = []) (hm : s.chip.pipe.memory = r :: rest)
    (hleft : 256 < r.left) :
    s.chip.segment = { s.chip with pipe := { s.chip.pipe with memory := { r with left := r.left - 256 } :: rest } } := by
  unfold Chip.segment
  simp only [hl, hi, hm, if_neg (Nat.not_le.mpr hleft)]

end

theorem insrcTake_closed {m : Chip} (h : m.sourceOpen = false) :
    m.insrcTake = { m with pipe := { m.pipe with act := fld (m.rd spPipe 0x10) 0 2 } } := by
  unfold Chip.insrcTake
  rw [h]
  rfl

theorem insrcTake_open {m : Chip} (h : m.sourceOpen = true) : m.insrcTake = m := by
  unfold Chip.insrcTake
  rw [if_pos h]

/-- Settles O46: one segment by the source in hand, the source switch by its open frames, the statistics set by what the
waiting bank reads as once the front one is reset. -/
theorem pipelineWork : Obligations.PipelineWork := by
  unfold Obligations.PipelineWork
  refine ⟨fun s hp => ⟨fun l rest hl hleft => ?_, fun r rest hl hi hleft => ?_, fun r rest hl hi hleft hstore hframe => ?_,
    fun r rest hl hi hm hleft => ?_, fun hsrc => ?_, fun hsrc => ?_⟩,
    fun s v b ho hv hheld hwait hwf hrange => statctlUnlock_shows ho hv hheld hwait hwf hrange⟩
  · exact answers_onlyPipe rfl hp (segment_line hl hleft)
  · exact answers_onlyPipe rfl hp (segment_inline hl hi hleft)
  · exact answers_onlyPipe rfl hp (segment_inline_ends hl hi hleft hstore hframe)
  · exact answers_onlyPipe rfl hp (segment_memory hl hi hm hleft)
  · exact answers_onlyPipe rfl hp (insrcTake_closed hsrc)
  · refine answers_guarded (c := .insrcSwitch) rfl hp ?_
    rw [insrcTake_open hsrc]
    rfl

/-! ## The status words and the histories of the groups -/

section
variable (m : Chip) (g : Nat)

theorem Chip.gstat_setG (lo n v : Nat) : (m.setG g lo n v).gstat g = setFld (m.gstat g) lo n v := by
  unfold Chip.setG Chip.gstat
  rw [Chip.rd_wr, if_pos rfl]

@[simp] theorem Chip.gstat_mapHist (f : GroupHist → GroupHist) : (m.mapHist g f).gstat g = m.gstat g := rfl

@[simp] theorem Chip.hist_setG (lo n v : Nat) : (m.setG g lo n v).hist g = m.hist g := rfl

theorem Chip.group_hist : (m.hist g).group = g := by
  unfold Chip.hist
  cases h : m.cal.hist.find? (fun h => h.group == g) with
  | none => rfl
  | some a => exact beq_iff_eq.mp (List.find?_some (p := fun h : GroupHist => h.group == g) h)

/-- The history of a group after a change that keeps its group. -/
theorem Chip.hist_mapHist {f : GroupHist → GroupHist} (hf : ∀ h, (f h).group = h.group) :
    (m.mapHist g f).hist g = f (m.hist g) := by
  have hg : (f (m.hist g)).group = g := (hf _).trans (m.group_hist g)
  have hrest : (m.cal.hist.filter (fun x => x.group != g)).find? (fun h => h.group == g) = none := by
    refine List.find?_eq_none.mpr fun a ha => ?_
    simpa using (List.mem_filter.mp ha).2
  show (List.find? (fun h => h.group == g) (if f (m.hist g) = GroupHist.fresh g then _ else _)).getD (GroupHist.fresh g) = _
  split
  next hfresh => rw [hrest, hfresh, Option.getD_none]
  next => rw [List.find?_cons_of_pos (by simpa using hg), Option.getD_some]

end

/-- The state of Marl and of the groups, and words listed here, are all that changed. -/
def OnlyCal (m t : Chip) (ws : List (Nat × Nat)) : Prop := OnlyThese { m with cal := t.cal } t ws

section
variable {m t : Chip} {ws : List (Nat × Nat)}

theorem OnlyCal.refl (m : Chip) (ws : List (Nat × Nat)) : OnlyCal m m ws := ⟨rfl, fun _ _ => rfl⟩

theorem OnlyCal.mapHist (h : OnlyCal m t ws) (g : Nat) (f : GroupHist → GroupHist) : OnlyCal m (t.mapHist g f) ws := by
  obtain ⟨r, c, i, ht⟩ := onlyWords_iff.mp h.1
  refine ⟨onlyWords_iff.mpr ⟨r, c, i, ?_⟩, h.2⟩
  unfold Chip.mapHist
  rw [ht]

theorem OnlyCal.wr (h : OnlyCal m t ws) {sp off : Nat} (v : Word) (hmem : (sp, off) ∈ ws) : OnlyCal m (t.wr sp off v) ws :=
  OnlyThese.wr h v hmem

theorem OnlyCal.bump (h : OnlyCal m t ws) {sp off : Nat} (n : Nat) (hmem : (sp, off) ∈ ws) : OnlyCal m (t.bump sp off n) ws :=
  OnlyThese.bump h n hmem

theorem OnlyCal.setG (h : OnlyCal m t ws) {g : Nat} (lo n v : Nat) (hmem : (spCal, 0x100 + g) ∈ ws) :
    OnlyCal m (t.setG g lo n v) ws := h.wr _ hmem

theorem OnlyCal.clearHist (h : OnlyCal m t ws) {g : Nat} (hmem : (spCal, 0x100 + g) ∈ ws) : OnlyCal m (t.clearHist g) ws :=
  ((h.mapHist g _).setG _ _ _ hmem).setG _ _ _ hmem

theorem OnlyCal.settle (h : OnlyCal m t ws) : OnlyCal m t.settle ws := OnlyThese.settle h

end

theorem toNat_satAdd (w : Word) (n : Nat) : (satAdd w n).toNat = min (w.toNat + n) 0xFFFF := by
  unfold satAdd wd
  rw [BitVec.toNat_ofNat, Nat.mod_eq_of_lt (by omega)]

theorem GroupHist.group_nextWindow (h : GroupHist) : h.nextWindow.group = h.group := by
  unfold GroupHist.nextWindow
  rfl

/-! ## The end of a shadow window (R321, R323, R326) -/

theorem fld_one_of_two {w : Word} {lo x : Nat} (h : fld w lo 2 = x) (hx : x < 2) : fld w lo 1 = x := by
  unfold fld at *
  omega

theorem answers_windowEnd {s : State} {g : Fin 162} {x : Fin 2} {P : Chip → Prop} (harray : s.chip.pw.array = true)
    (hconv : 256 ≤ (s.chip.hist g.val).conv) (hst : groupState (s.chip.gstat g.val) = 0)
    (hx : fld (s.chip.gstat g.val) 2 1 = x.val) (hP : P (s.chip.windowEnd g.val).settle) :
    Answers (.shadowWindowEnd g x) s P := by
  refine answers_guarded (c := .shadowWindowEnd g x) rfl ?_ hP
  simp [harray, hx, Chip.windowDue, hconv, hst]

/-- A window that passes turns to the other role. -/
theorem Chip.verdict_passes {m : Chip} {g : Nat} (hdef : (m.hist g).deferred = none) :
    ∃ f : GroupHist → GroupHist, (∀ h, (f h).group = h.group ∧ (f h).conv = h.conv) ∧
      m.verdict g false = ((m.mapHist g f).setG g 2 2 (1 - fld (m.gstat g) 2 2)).setG g 1 1 0 := by
  unfold Chip.verdict
  simp only [hdef, Bool.false_eq_true, if_false]
  refine ⟨_, fun h => ?_, rfl⟩
  split
  · exact ⟨rfl, rfl⟩
  · exact ⟨rfl, rfl⟩

/-- A window of a group that Marl does not visit ends with its verdict. -/
theorem Chip.windowEnd_unvisited {m : Chip} {g : Nat} (hgroup : m.cal.group ≠ some g) (hwarn : (m.hist g).warned = false)
    {t : Chip} (ht : m.verdict g (windowFails (windowDiffs (m.hist g).pairs)) = t) (htg : t.cal.group = m.cal.group) :
    m.windowEnd g = t.mapHist g GroupHist.nextWindow := by
  have hb : (m.cal.group == some g) = false := beq_eq_false_iff_ne.mpr hgroup
  have hn : (t.mapHist g GroupHist.nextWindow).cal.group = m.cal.group := htg
  unfold Chip.windowEnd
  simp only [hwarn, Bool.false_eq_true, if_false, ht, htg, hn, hb, Bool.false_and, Bool.and_false]

/-- A window under a supply warning, of a group that Marl does not visit, is skipped. -/
theorem Chip.windowEnd_warned {m : Chip} {g : Nat} (hgroup : m.cal.group ≠ some g) (hwarn : (m.hist g).warned = true) :
    m.windowEnd g = (m.skipWindow g).mapHist g GroupHist.nextWindow := by
  have hb : (m.cal.group == some g) = false := beq_eq_false_iff_ne.mpr hgroup
  have hn : ((m.skipWindow g).mapHist g GroupHist.nextWindow).cal.group = m.cal.group := rfl
  unfold Chip.windowEnd
  simp only [hwarn, if_true, hn, hb, Bool.false_eq_true, if_false, Bool.false_and, Bool.and_false]

theorem windowEnd_passes {m : Chip} {g : Nat} {x : Fin 2} (hst : groupState (m.gstat g) = 0) (hgroup : m.cal.group ≠ some g)
    (hx : fld (m.gstat g) 2 2 = x.val) (hwarn : (m.hist g).warned = false) (hdef : (m.hist g).deferred = none)
    (hpass : windowFails (windowDiffs (m.hist g).pairs) = false) :
    fld ((m.windowEnd g).gstat g) 2 2 = 1 - fld (m.gstat g) 2 2 ∧ groupState ((m.windowEnd g).gstat g) = 0 ∧
      ((m.windowEnd g).hist g).conv = (m.hist g).conv - 256 ∧ OnlyCal m (m.windowEnd g) [(spCal, 0x100 + g)] := by
  obtain ⟨f, hf, hv⟩ := Chip.verdict_passes hdef
  have hrole : 1 - fld (m.gstat g) 2 2 < 2 ^ 2 := by omega
  rw [Chip.windowEnd_unvisited hgroup hwarn ((congrArg _ hpass).trans hv) rfl]
  refine ⟨?_, ?_, ?_, ?_⟩
  · rw [Chip.gstat_mapHist, Chip.gstat_setG, Chip.gstat_setG, Chip.gstat_mapHist,
      fld_setFld_ne _ (by decide) (by decide) (by decide), fld_setFld_same _ (by decide) hrole]
  · rw [Chip.gstat_mapHist, Chip.gstat_setG, Chip.gstat_setG, Chip.gstat_mapHist]
    unfold groupState
    rw [fld_setFld_ne _ (by decide) (by decide) (by decide), fld_setFld_ne _ (by decide) hrole (by decide)]
    exact hst
  · rw [Chip.hist_mapHist _ _ GroupHist.group_nextWindow, Chip.hist_setG, Chip.hist_setG, Chip.hist_mapHist _ _ (fun h => (hf h).1)]
    exact congrArg (· - 256) (hf _).2
  · have hmem : (spCal, 0x100 + g) ∈ [(spCal, 0x100 + g)] := List.mem_cons_self
    exact (((OnlyCal.refl m _).mapHist g f).setG 2 2 _ hmem |>.setG 1 1 _ hmem).mapHist g _

theorem windowEnd_skips {m : Chip} {g p : Nat} (hgroup : m.cal.group ≠ some g) (hx : fld (m.gstat g) 2 2 < 2)
    (hwarn : (m.hist g).warned = true) (hp : p = physIn (m.gstat g) (fld (m.gstat g) 2 2)) (hg : g < 162) :
    fld ((m.windowEnd g).gstat g) 2 2 = 1 - fld (m.gstat g) 2 2 ∧
      ((m.windowEnd g).hist g).warned = (m.hist g).nextWarned ∧
      ((m.windowEnd g).rd spCal (trimOff g p 7)).toNat = min 0xFFFF ((m.rd spCal (trimOff g p 7)).toNat + 1) ∧
      OnlyCal m (m.windowEnd g) [(spCal, 0x100 + g), (spCal, trimOff g p 7)] := by
  have hrole : 1 - fld (m.gstat g) 2 2 < 2 ^ 2 := by omega
  have hne : ¬key spCal (0x100 + g) = key spCal (trimOff g p 7) := by
    rw [key_same]
    unfold trimOff
    omega
  have hskip : m.skipWindow g = (m.bump spCal (trimOff g p 7) 1).setG g 2 2 (1 - fld (m.gstat g) 2 2) := by
    rw [hp]
    rfl
  have hgs : (m.bump spCal (trimOff g p 7) 1).gstat g = m.gstat g := by
    unfold Chip.gstat
    rw [Chip.rd_bump, if_neg hne]
  rw [Chip.windowEnd_warned hgroup hwarn, hskip]
  refine ⟨?_, ?_, ?_, ?_⟩
  · rw [Chip.gstat_mapHist, Chip.gstat_setG, fld_setFld_same _ (by decide) hrole]
  · rw [Chip.hist_mapHist _ _ GroupHist.group_nextWindow, Chip.hist_setG]
    rfl
  · have hrd : (((m.bump spCal (trimOff g p 7) 1).setG g 2 2 (1 - fld (m.gstat g) 2 2)).mapHist g GroupHist.nextWindow).rd spCal
        (trimOff g p 7) = satAdd (m.rd spCal (trimOff g p 7)) 1 := by
      refine (Chip.rd_wr _ _ _ _ _ _).trans ?_
      rw [if_neg (Ne.symm hne), Chip.rd_bump, if_pos rfl]
    rw [hrd]
    exact (toNat_satAdd _ _).trans (min_comm _ _)
  · have hmem : (spCal, 0x100 + g) ∈ [(spCal, 0x100 + g), (spCal, trimOff g p 7)] := List.mem_cons_self
    have hmem' : (spCal, trimOff g p 7) ∈ [(spCal, 0x100 + g), (spCal, trimOff g p 7)] := List.mem_cons_of_mem _ List.mem_cons_self
    exact (((OnlyCal.refl m _).bump 1 hmem').setG 2 2 _ hmem).mapHist g _

/-! ## FORCE and RESTORE (R337, R338) -/

theorem opens_cal_core {s : State} {o : Nat} (h : s.opens spCal o) : s.chip.pw.core = true := by
  have ho : s.chip.coreOn = true := h.1.2
  simp only [Chip.coreOn, Bool.and_eq_true] at ho
  exact ho.1.1.2

/-- A write of a group's command word. -/
theorem answers_gcmd {c : Instr} {s : State} {g : Fin 162} {v : Word} {P : Chip → Prop}
    (hexec : exec c s = hostWindow s spCal (0x200 + g.val) v) (ho : s.opens spCal 0x200)
    (hP : P (s.host.writeGcmd g.val v).settle) : Answers c s P := by
  have hw : s.host.writeSpace spCal (0x200 + g.val) v = s.host.writeGcmd g.val v := by
    show s.host.writeCal (0x200 + g.val) v = _
    have hg := g.isLt
    unfold Chip.writeCal
    rw [if_neg (by omega), if_neg (by omega), if_pos (by omega), Nat.add_sub_cancel_left]
  refine answers_hostWindow (sp := spCal) hexec ho ?_
  rw [hw]
  exact hP

/-- A FORCE that waits for the row boundary. -/
def GroupHist.addForce (p : Nat) (h : GroupHist) : GroupHist := { h with force := h.force ++ [p] }

theorem Chip.force_addForce (m : Chip) (g p : Nat) : ((m.mapHist g (.addForce p)).hist g).force = (m.hist g).force ++ [p] := by
  rw [Chip.hist_mapHist m g (f := .addForce p) (fun h => by unfold GroupHist.addForce; rfl)]
  rfl

theorem writeGcmd_force {m : Chip} {g p : Nat} {v : Word} (hp : p = fld v 0 2) (h3 : p ≠ 3) (h15 : tst v 15 = false)
    (h14 : tst v 14 = true) (hnew : tst (m.gstat g) (6 + p) = false) :
    m.writeGcmd g v =
      if m.cc.cap.isSome then m.mapHist g (.addForce p)
      else (m.mapHist g (.addForce p)).applyForce g := by
  subst hp
  unfold Chip.writeGcmd
  simp only [h15, h14, hnew, h3, Bool.false_eq_true, false_and, or_self, if_false, if_true]
  rfl

theorem writeGcmd_restore {m : Chip} {g p : Nat} {v : Word} (hp : p = fld v 0 2) (h3 : p ≠ 3) (h15 : tst v 15 = true) :
    m.writeGcmd g v = if tst v 14 then m else m.restoreSlice g p := by
  subst hp
  unfold Chip.writeGcmd
  simp only [h15, h3, true_and, false_or, if_true]

/-- A slice that FORCE fails while its group is NORMAL and no capture runs: the spare takes its role. -/
theorem Chip.failSlice_forced {m : Chip} {g p : Nat} (hp : p < 3) (hrole : roleOf (m.gstat g) p ≤ 1)
    (hst : groupState (m.gstat g) = 0) :
    ∃ (l : List Byte) (f : GroupHist → GroupHist), m.failSlice g p 4 =
      ((((((((((m.setG g (6 + p) 1 1).ledger 2 1).setG g (14 - 2 * roleOf (m.gstat g) p) 2 (physIn (m.gstat g) 2)).setG g 10 2 3).setG g
        4 2 1).fault 0x06 l).mapHist g f).raise evSliceSwap).clearHist g).marlLeave g) := by
  have h3 : ¬(roleOf (m.gstat g) p = 3 ∨ 3 ≤ p) := by omega
  have h2 : roleOf (m.gstat g) p ≠ 2 := by omega
  unfold Chip.failSlice
  simp only [h3, h2, hst, or_true, if_true, if_false]
  exact ⟨_, _, rfl⟩

theorem key_ne_of_space {sp sp' off off' : Nat} (h : sp ≠ sp') (ho : off < 0x1000000) (ho' : off' < 0x1000000) :
    ¬key sp off = key sp' off' := by
  unfold key
  omega

theorem Chip.gstat_clearHist (m : Chip) (g : Nat) :
    ∃ x, x < 2 ^ 2 ∧ (m.clearHist g).gstat g = setFld (setFld (m.gstat g) 1 1 0) 2 2 x := by
  unfold Chip.clearHist
  extract_lets n
  refine ⟨if groupState (n.gstat g) = 0 then 0 else 2, ?_, ?_⟩
  · split
    · decide
    · decide
  · rw [Chip.gstat_setG, Chip.gstat_setG]
    rfl

theorem Chip.rd_setG (m : Chip) (g lo n v : Nat) {sp off : Nat} (h : ¬key sp off = key spCal (0x100 + g)) :
    (m.setG g lo n v).rd sp off = m.rd sp off := by
  unfold Chip.setG
  rw [Chip.rd_wr, if_neg h]

theorem Chip.rd_clearHist (m : Chip) (g : Nat) {sp off : Nat} (h : ¬key sp off = key spCal (0x100 + g)) :
    (m.clearHist g).rd sp off = m.rd sp off := by
  unfold Chip.clearHist
  extract_lets n
  rw [Chip.rd_setG _ _ _ _ _ h, Chip.rd_setG _ _ _ _ _ h]
  rfl

/-- Without a capture Marl picks no next group. -/
theorem Chip.regs_marlLeave {m : Chip} (g : Nat) (hcap : m.cc.cap = none) : (m.marlLeave g).regs = m.regs := by
  unfold Chip.marlLeave
  split
  · unfold Chip.marlPick
    rw [show (Chip.dwellClear { m with cal := { m.cal with group := none, from_ := g + 1, stopping := false } }).cc.cap = none
      from hcap]
    rfl
  · rfl

/-- The status word once the spare of a NORMAL group has taken the failed slice's role. -/
def swapped (w : Word) (p role : Nat) : Word :=
  setFld (setFld (setFld (setFld w (6 + p) 1 1) (14 - 2 * role) 2 (physIn w 2)) 10 2 3) 4 2 1

theorem fld_lt (w : Word) (lo n : Nat) : fld w lo n < 2 ^ n := Nat.mod_lt _ (Nat.two_pow_pos n)

/-- Its fields stand beside those of the window history. -/
theorem swapped_fields (w : Word) {p role x : Nat} (hp : p < 3) (hrole : role ≤ 1) (hx : x < 2 ^ 2) :
    tst (setFld (setFld (swapped w p role) 1 1 0) 2 2 x) (6 + p) = true ∧
      groupState (setFld (setFld (swapped w p role) 1 1 0) 2 2 x) = 1 ∧
      physIn (setFld (setFld (swapped w p role) 1 1 0) 2 2 x) role = physIn w 2 ∧
      physIn (setFld (setFld (swapped w p role) 1 1 0) 2 2 x) 2 = 3 := by
  have hq : physIn w 2 < 2 ^ 2 := fld_lt w _ 2
  unfold swapped
  refine ⟨?_, ?_, ?_, ?_⟩
  · rw [tst_setFld _ (by omega) hx, if_neg (by omega), tst_setFld _ (by omega) (by decide), if_neg (by omega),
      tst_setFld _ (by omega) (by decide), if_neg (by omega), tst_setFld _ (by omega) (by decide), if_neg (by omega),
      tst_setFld _ (by omega) hq, if_neg (by omega), tst_setFld _ (by omega) (by decide), if_pos (by omega), Nat.sub_self]
    rfl
  · unfold groupState
    rw [fld_setFld_ne _ (by omega) hx (by omega), fld_setFld_ne _ (by omega) (by decide) (by omega),
      fld_setFld_same _ (by omega) (by decide)]
  · generalize hr : physIn w 2 = q at hq ⊢
    unfold physIn
    rw [fld_setFld_ne _ (by omega) hx (by omega), fld_setFld_ne _ (by omega) (by decide) (by omega),
      fld_setFld_ne _ (by omega) (by decide) (by omega), fld_setFld_ne _ (by omega) (by decide) (by omega),
      fld_setFld_same _ (by omega) hq]
  · generalize physIn w 2 = q at hq ⊢
    unfold physIn
    rw [fld_setFld_ne _ (by omega) hx (by omega), fld_setFld_ne _ (by omega) (by decide) (by omega),
      fld_setFld_ne _ (by omega) (by decide) (by omega), fld_setFld_same _ (by omega) (by decide)]

theorem failSlice_forced_leaves {m : Chip} {g p : Nat} (hg : g < 162) (hcore : m.pw.core = true) (hcap : m.cc.cap = none) (hmov : m.moversOff)
    (hp : p < 3) (hrole : roleOf (m.gstat g) p ≤ 1) (hst : groupState (m.gstat g) = 0) :
    tst ((m.failSlice g p 4).gstat g) (6 + p) = true ∧ groupState ((m.failSlice g p 4).gstat g) = 1 ∧
      physIn ((m.failSlice g p 4).gstat g) (roleOf (m.gstat g) p) = physIn (m.gstat g) 2 ∧
      physIn ((m.failSlice g p 4).gstat g) 2 = 3 ∧ tst ((m.failSlice g p 4).rd 0 0x14) 10 = true ∧
      (m.failSlice g p 4).rd spFault 0 = m.rd spFault 0 + 1 := by
  obtain ⟨l, f, heq⟩ := Chip.failSlice_forced hp hrole hst
  generalize hrr : roleOf (m.gstat g) p = role at hrole heq ⊢
  -- the status word, the fault record, the event, the history
  generalize hm1 : ((((m.setG g (6 + p) 1 1).ledger 2 1).setG g (14 - 2 * role) 2 (physIn (m.gstat g) 2)).setG g 10 2 3).setG g
    4 2 1 = m1 at heq
  have hg1 : m1.gstat g = swapped (m.gstat g) p role := by
    rw [← hm1, Chip.gstat_setG, Chip.gstat_setG, Chip.gstat_setG]
    exact congrArg (fun w => setFld (setFld (setFld w _ 2 _) 10 2 3) 4 2 1) (m.gstat_setG g _ _ _)
  have hc1 : m1.pw.core = true := by rw [← hm1]; exact hcore
  have hmov1 : m1.moversOff := by rw [← hm1]; exact hmov
  have hcap1 : m1.cc = m.cc := by rw [← hm1]; rfl
  have hne : ¬key spFault 0 = key spCal (0x100 + g) := key_ne_of_space (by decide) (by decide) (by omega)
  have hcount1 : m1.rd spFault 0 = m.rd spFault 0 := by
    rw [← hm1, Chip.rd_setG _ _ _ _ _ hne, Chip.rd_setG _ _ _ _ _ hne, Chip.rd_setG _ _ _ _ _ hne]
    exact Chip.rd_setG _ _ _ _ _ hne
  have hfault := onlyFault_fault m1 0x06 l hc1 hmov1
  have hcount := Chip.rd_count_fault m1 0x06 l hc1 hmov1
  generalize m1.fault 0x06 l = m2 at heq hfault hcount
  have hg2 : m2.gstat g = swapped (m.gstat g) p role := (hfault.rd (by decide) (by omega)).trans hg1
  obtain ⟨r, c, hm2, _⟩ := onlyFault_iff.mp hfault
  have hc2 : m2.pw.core = true := by rw [hm2]; exact hc1
  have hcap2 : m2.cc = m.cc := by rw [hm2]; exact hcap1
  have hraise (sp off : Nat) := Chip.rd_raise (m2.mapHist g f) evSliceSwap sp off hc2
  have hcap3 : ((m2.mapHist g f).raise evSliceSwap).cc = m.cc := by rw [Chip.raise_cc]; exact hcap2
  generalize (m2.mapHist g f).raise evSliceSwap = m3 at heq hraise hcap3
  have hg3 : m3.gstat g = swapped (m.gstat g) p role := by
    refine (hraise spCal (0x100 + g)).trans ?_
    rw [if_neg (key_ne_of_space (by decide) (by omega) (by decide))]
    exact hg2
  have hregs : (m.failSlice g p 4).regs = (m3.clearHist g).regs := by
    rw [heq]
    exact Chip.regs_marlLeave g (hcap3 ▸ hcap)
  have hrd (sp off : Nat) : (m.failSlice g p 4).rd sp off = (m3.clearHist g).rd sp off := congrArg (Bank.get · _) hregs
  obtain ⟨x, hx, hgc⟩ := m3.gstat_clearHist g
  have hg4 : (m.failSlice g p 4).gstat g = setFld (setFld (swapped (m.gstat g) p role) 1 1 0) 2 2 x := by
    rw [← hg3, ← hgc]
    exact hrd _ _
  obtain ⟨hbit, hstate, hspare, hnone⟩ := swapped_fields (m.gstat g) hp hrole hx
  rw [hg4, hrd, hrd, Chip.rd_clearHist _ _ (key_ne_of_space (by decide) (by decide) (by omega)), Chip.rd_clearHist _ _ hne,
    hraise, hraise, if_pos (by decide), if_neg (by decide)]
  exact ⟨hbit, hstate, hspare, hnone, tst_or_bitW _ (by decide), (hcount.trans (congrArg (· + 1) hcount1))⟩

/-- With no FORCE waiting the one that is written fails its slice at once. -/
theorem Chip.applyForce_single {m : Chip} {g p : Nat} (hforce : (m.hist g).force = []) :
    (m.mapHist g (.addForce p)).applyForce g =
      ((m.mapHist g (.addForce p)).mapHist g (fun h => { h with force := [] })).failSlice g p 4 := by
  unfold Chip.applyForce
  have hl : ((m.mapHist g (.addForce p)).hist g).force = [p] := by
    rw [Chip.force_addForce, hforce]
    rfl
  rw [hl]
  rfl

/-- A slice that RESTORE gives back to its FROZEN group becomes its spare. -/
theorem restoreSlice_frozen {m : Chip} {g p : Nat} (hp : p < 3) (hbusy : m.capBusy = false)
    (hfailed : tst (m.gstat g) (6 + p) = true) (hst : groupState (m.gstat g) = 1) :
    tst ((m.restoreSlice g p).gstat g) (6 + p) = false ∧ groupState ((m.restoreSlice g p).gstat g) = 0 ∧
      physIn ((m.restoreSlice g p).gstat g) 2 = p ∧ OnlyCal m (m.restoreSlice g p) [(spCal, 0x100 + g)] := by
  have heq : m.restoreSlice g p = (((m.setG g (6 + p) 1 0).setG g 10 2 p).setG g 4 2 0).clearHist g := by
    unfold Chip.restoreSlice
    simp only [hbusy, hfailed, hst, Bool.not_true, Bool.or_self, Bool.false_eq_true, if_false]
  rw [heq]
  obtain ⟨x, hx, hgc⟩ := Chip.gstat_clearHist (((m.setG g (6 + p) 1 0).setG g 10 2 p).setG g 4 2 0) g
  have hp2 : p < 2 ^ 2 := by omega
  have hmem : (spCal, 0x100 + g) ∈ [(spCal, 0x100 + g)] := List.mem_cons_self
  rw [hgc, Chip.gstat_setG, Chip.gstat_setG, Chip.gstat_setG]
  refine ⟨?_, ?_, ?_, ((((OnlyCal.refl m _).setG _ _ _ hmem).setG _ _ _ hmem).setG _ _ _ hmem).clearHist hmem⟩
  · rw [tst_setFld _ (by omega) hx, if_neg (by omega), tst_setFld _ (by omega) (by decide), if_neg (by omega),
      tst_setFld _ (by omega) (by decide), if_neg (by omega), tst_setFld _ (by omega) hp2, if_neg (by omega),
      tst_setFld _ (by omega) (by decide), if_pos (by omega), Nat.sub_self]
    rfl
  · unfold groupState
    rw [fld_setFld_ne _ (by omega) hx (by omega), fld_setFld_ne _ (by omega) (by decide) (by omega),
      fld_setFld_same _ (by omega) (by decide)]
  · unfold physIn
    rw [fld_setFld_ne _ (by omega) hx (by omega), fld_setFld_ne _ (by omega) (by decide) (by omega),
      fld_setFld_ne _ (by omega) (by decide) (by omega), fld_setFld_same _ (by omega) hp2]

section
variable {s : State} {g : Fin 162} {v : Word} {p : Nat}

theorem force_waits (ho : s.opens spCal 0x200) (hp : p = fld v 0 2) (h3 : p ≠ 3) (h15 : tst v 15 = false) (h14 : tst v 14 = true)
    (hnew : tst (s.chip.gstat g.val) (6 + p) = false) (hcap : s.chip.cc.cap.isSome = true) :
    Answers (.force g v) s (fun t => (t.hist g.val).force = (s.chip.hist g.val).force ++ [p] ∧
      AllWordsKept s.chip t ∧ t.cc = s.chip.cc) := by
  refine answers_gcmd rfl ho ?_
  rw [writeGcmd_force (m := s.host) hp h3 h15 h14 hnew, if_pos (show s.host.cc.cap.isSome = true from hcap)]
  exact ⟨s.host.force_addForce g.val p, rfl, rfl⟩

theorem force_fails (ho : s.opens spCal 0x200) (hp : p = fld v 0 2) (h3 : p ≠ 3) (h15 : tst v 15 = false) (h14 : tst v 14 = true)
    (hnew : tst (s.chip.gstat g.val) (6 + p) = false) (hcap : s.chip.cc.cap = none) (hforce : (s.chip.hist g.val).force = [])
    (hrole : roleOf (s.chip.gstat g.val) p ≤ 1) (hst : groupState (s.chip.gstat g.val) = 0) (hmov : s.chip.moversOff) :
    Answers (.force g v) s (fun t => tst (t.gstat g.val) (6 + p) = true ∧ groupState (t.gstat g.val) = 1 ∧
      physIn (t.gstat g.val) (roleOf (s.chip.gstat g.val) p) = physIn (s.chip.gstat g.val) 2 ∧
      physIn (t.gstat g.val) 2 = 3 ∧ tst (t.rd 0 0x14) 10 = true ∧ t.rd spFault 0 = s.chip.rd spFault 0 + 1) := by
  have hlt := fld_lt v 0 2
  refine answers_gcmd rfl ho ?_
  rw [writeGcmd_force (m := s.host) hp h3 h15 h14 hnew, if_neg (by rw [show s.host.cc.cap = none from hcap]; decide),
    Chip.applyForce_single (m := s.host) hforce]
  exact failSlice_forced_leaves (m := (s.host.mapHist g.val _).mapHist g.val _) g.isLt (opens_cal_core ho) hcap hmov (by omega)
    hrole hst

theorem restore_frozen (ho : s.opens spCal 0x200) (hp : p = fld v 0 2) (h3 : p ≠ 3) (h15 : tst v 15 = true) (h14 : tst v 14 = false)
    (hbusy : s.chip.capBusy = false) (hfailed : tst (s.chip.gstat g.val) (6 + p) = true)
    (hst : groupState (s.chip.gstat g.val) = 1) :
    Answers (.restore g v) s (fun t => tst (t.gstat g.val) (6 + p) = false ∧ groupState (t.gstat g.val) = 0 ∧
      physIn (t.gstat g.val) 2 = p ∧ OnlyThese { s.chip with cal := t.cal } t [(spCal, 0x100 + g.val)]) := by
  have hlt := fld_lt v 0 2
  have h := restoreSlice_frozen (m := s.host) (g := g.val) (p := p) (by omega) hbusy hfailed hst
  refine answers_gcmd rfl ho ?_
  rw [writeGcmd_restore (m := s.host) hp h3 h15, if_neg (by rw [h14]; decide)]
  generalize s.host.restoreSlice g.val p = t at h
  obtain ⟨hbit, hstate, hspare, honly⟩ := h
  exact ⟨hbit, hstate, hspare, OnlyThese.settle ⟨honly.1, honly.2⟩⟩

theorem restore_busy (ho : s.opens spCal 0x200) (hp : p = fld v 0 2) (h3 : p ≠ 3) (h15 : tst v 15 = true)
    (hbusy : s.chip.capBusy = true) : Answers (.restore g v) s (Unchanged s.chip) := by
  refine answers_gcmd rfl ho ?_
  have hstay : s.host.restoreSlice g.val p = s.host := by
    unfold Chip.restoreSlice
    rw [show s.host.capBusy = true from hbusy]
    rfl
  rw [writeGcmd_restore (m := s.host) hp h3 h15, hstay, ite_self]
  exact unchanged_begin s.chip 0

end

/-- Settles O47: a window's end by its verdict, FORCE and RESTORE by what they write into the group's status word. -/
theorem slices : Obligations.Slices := by
  unfold Obligations.Slices
  refine ⟨fun s g x harray hconv hst hx => ?_, fun s g x harray hconv hst hgroup hx => ⟨fun hwarn hdef hpass => ?_, fun hwarn => ?_⟩,
    fun s g v p ho hp h3 => ⟨fun h15 h14 hnew => ⟨fun hcap => ?_, fun hcap hforce hrole hst hmov => ?_⟩,
      fun h15 h14 hbusy hfailed hst => ?_, fun h15 hbusy => ?_⟩⟩
  · refine completes_guarded (c := .shadowWindowEnd g x) rfl ?_
    simp [harray, hx, Chip.windowDue, hconv, hst]
  · have h := windowEnd_passes hst hgroup hx hwarn hdef hpass
    refine answers_windowEnd harray hconv hst (fld_one_of_two hx x.isLt) ?_
    generalize s.chip.windowEnd g.val = t at h
    obtain ⟨hrole, hstate, hcv, honly⟩ := h
    exact ⟨hrole, hstate, hcv, OnlyCal.settle honly⟩
  · have h := windowEnd_skips hgroup (hx ▸ x.isLt) hwarn rfl g.isLt
    refine answers_windowEnd harray hconv hst (fld_one_of_two hx x.isLt) ?_
    generalize s.chip.windowEnd g.val = t at h
    obtain ⟨hrole, hw, hcount, honly⟩ := h
    exact ⟨hrole, hw, hcount, OnlyCal.settle honly⟩
  · exact force_waits ho hp h3 h15 h14 hnew hcap
  · exact force_fails ho hp h3 h15 h14 hnew hcap hforce hrole hst hmov
  · exact restore_frozen ho hp h3 h15 h14 hbusy hfailed hst
  · exact restore_busy ho hp h3 h15 hbusy

/-! ## What a dwell's learning changes -/

/-- Words outside the direct map, the record of the cycle and the values taken are all that changed. -/
def Learns (m t : Chip) : Prop :=
  t = { m with regs := t.regs, cyc := t.cyc, free := t.free } ∧ ∀ k, k < key 1 0 → Bank.get t.regs k = Bank.get m.regs k

theorem learns_iff {m t : Chip} :
    Learns m t ↔ ∃ r c f, t = { m with regs := r, cyc := c, free := f } ∧ ∀ k, k < key 1 0 → Bank.get r k = Bank.get m.regs k := by
  constructor
  · rintro ⟨ht, hk⟩
    exact ⟨_, _, _, ht, hk⟩
  · rintro ⟨r, c, f, rfl, hk⟩
    exact ⟨rfl, hk⟩

theorem Learns.refl (m : Chip) : Learns m m := ⟨rfl, fun _ _ => rfl⟩

section
variable {o m : Chip}

theorem Learns.trans {t : Chip} (h : Learns o m) (h' : Learns m t) : Learns o t := by
  obtain ⟨r, c, f, rfl, hk⟩ := learns_iff.mp h
  obtain ⟨r', c', f', rfl, hk'⟩ := learns_iff.mp h'
  exact learns_iff.mpr ⟨r', c', f', rfl, fun k hlt => (hk' k hlt).trans (hk k hlt)⟩

theorem Learns.ite {a b : Chip} {c : Prop} [Decidable c] (ha : Learns o a) (hb : Learns o b) : Learns o (if c then a else b) := by
  split
  · exact ha
  · exact hb

theorem Learns.wr {off : Nat} {v : Word} (h : Learns o m) : Learns o (m.wr spCal off v) := by
  obtain ⟨ht, hk⟩ := h
  refine ⟨?_, fun k hlt => (Bank.get_put_ne _ _ ?_).trans (hk k hlt)⟩
  · rw [ht]
    rfl
  · intro heq
    rw [heq] at hlt
    unfold key at hlt
    rw [show spCal = 5 from rfl] at hlt
    omega

theorem Learns.orBits {off : Nat} {b : Word} (h : Learns o m) : Learns o (m.orBits spCal off b) :=
  Learns.wr (m := { m with cyc := _ }) (h.trans ⟨rfl, fun _ _ => rfl⟩)

theorem Learns.bump {off n : Nat} (h : Learns o m) : Learns o (m.bump spCal off n) :=
  Learns.wr (m := { m with cyc := _ }) (h.trans ⟨rfl, fun _ _ => rfl⟩)

theorem Learns.wr32 {off v : Nat} (h : Learns o m) : Learns o (m.wr32 spCal off v) := h.wr.wr

theorem Learns.wr64 {off v : Nat} (h : Learns o m) : Learns o (m.wr64 spCal off v) := h.wr32.wr32

theorem Learns.fault {code : Nat} {detail : List Byte} (h : Learns o m) (hc : o.pw.core = true) (hm : o.moversOff) :
    Learns o (m.fault code detail) := by
  refine h.trans ?_
  obtain ⟨r, c, f, rfl, _⟩ := learns_iff.mp h
  obtain ⟨r', c', heq, hk⟩ := onlyFault_iff.mp
    (onlyFault_fault { o with regs := r, cyc := c, free := f } code detail hc hm)
  rw [heq]
  refine learns_iff.mpr ⟨r', c', f, rfl, fun k hlt => hk k (.inl (hlt.trans (by decide)))⟩

theorem Learns.setTrim {g p t base : Nat} {v : Int} (h : Learns o m) : Learns o (m.setTrim g p t base v) := h.wr

theorem Learns.takeFree (h : Learns o m) : Learns o m.takeFree.2 := h.trans ⟨rfl, fun _ _ => rfl⟩

theorem Learns.estOr {e : Est} (h : Learns o m) : Learns o (m.estOr e).2 := by
  unfold Chip.estOr
  split
  · exact h
  · exact h.takeFree

theorem Learns.calTime {c : Nat} {all : Bool} (h : Learns o m) : Learns o (m.calTime c all) := by
  unfold Chip.calTime
  extract_lets off m1 m2
  have h2 : Learns o m2 := h.wr32.wr64
  exact .ite h2.wr32.wr h.bump

theorem Learns.foldl_fst {α β : Type} {l : List α} {a : Chip × β} {f : Chip × β → α → Chip × β} (h : Learns o a.1)
    (hf : ∀ a x, Learns o a.1 → Learns o (f a x).1) : Learns o (l.foldl f a).1 := by
  induction l generalizing a with
  | nil => exact h
  | cons x r ih => exact ih (hf a x h)

section
variable (hc : o.pw.core = true) (hm : o.moversOff)
include hc hm

theorem Learns.moveTarget {g p t : Nat} {taps : Int} (h : Learns o m) : Learns o (m.moveTarget g p t taps) := by
  unfold Chip.moveTarget
  extract_lets _ _ _ _ rise m1 m2
  have h1 : Learns o m1 := h.setTrim
  have h2 : Learns o m2 := .ite h1.orBits h1
  exact .ite h (.ite (h2.fault hc hm) h2)

theorem Learns.learn {g p t tol : Nat} {e1 e2 : Est} (h : Learns o m) : Learns o (m.learn g p t tol e1 e2).1 := by
  unfold Chip.learn
  extract_lets a b m1 both
  have h1 : Learns o m1 := h.estOr.estOr
  split
  · split
    · exact h1.moveTarget hc hm
    · split
      · exact h1.moveTarget hc hm
      · exact h1
  · split
    · exact h1.moveTarget hc hm
    · exact h1

theorem Learns.colTrim {g : Nat} (h : Learns o m) : Learns o (m.colTrim g) := by
  unfold Chip.colTrim
  extract_lets d r
  have hr : Learns o r.1 := .foldl_fst h (fun a x h => h.learn hc hm)
  exact hr.calTime

theorem Learns.colRef {g : Nat} (h : Learns o m) : Learns o (m.colRef g) := by
  unfold Chip.colRef
  extract_lets ps p r
  have hr : Learns o r.1 := by
    refine .foldl_fst h (fun a x h => ?_)
    dsimp only
    generalize (if x = 3 then 8 else 3) = tol
    split
    · exact h.learn hc hm
    · exact h
  exact .ite h hr.calTime

end

end

/-- Without MARLEN Marl leaves the group and picks none (R359). -/
theorem Chip.marlLeave_disabled {m : Chip} {g : Nat} (hg : m.cal.group = some g) (hen : tst (m.rd 0 0x34) 15 = false) :
    m.marlLeave g = Chip.dwellClear { m with cal := { m.cal with group := none, from_ := g + 1, stopping := false } } := by
  unfold Chip.marlLeave Chip.marlPick
  rw [if_pos hg]
  split
  · exact if_neg (fun h : tst (m.rd 0 0x34) 15 = true => absurd (hen.symm.trans h) (by decide))
  · rfl

theorem dwellEnd_disabled {m : Chip} {g : Nat} (hcore : m.pw.core = true) (hmov : m.moversOff) (hg : m.cal.group = some g)
    (hen : tst (m.rd 0 0x34) 15 = false) :
    (m.dwellEnd g).cal.group = none ∧ (m.dwellEnd g).cal.from_ = g + 1 ∧ (m.dwellEnd g).cal.dwell = Dwell.zero ∧
      (m.dwellEnd g).cc = m.cc ∧ (m.dwellEnd g).hkc = m.hkc := by
  have h : Learns m ((m.colTrim g).colRef g) := ((Learns.refl m).colTrim hcore hmov).colRef hcore hmov
  unfold Chip.dwellEnd
  generalize (m.colTrim g).colRef g = t at h
  obtain ⟨r, c, f, rfl, hk⟩ := learns_iff.mp h
  rw [Chip.marlLeave_disabled (m := { m with regs := r, cyc := c, free := f }) hg
    ((congrArg (tst · 15) (hk (key 0 0x34) (by decide))).trans hen)]
  exact ⟨rfl, rfl, rfl, rfl, rfl⟩

/-! ## A trim's walk (R354) -/

/-- One tap towards the target stays in the range of both. -/
theorem step_towards {lo hi a t : Int} (ha : lo ≤ a ∧ a ≤ hi) (ht : lo ≤ t ∧ t ≤ hi) :
    lo ≤ a + (t - a).sign ∧ a + (t - a).sign ≤ hi := by
  rcases lt_trichotomy (t - a) 0 with h | h | h
  · rw [Int.sign_eq_neg_one_of_neg h]
    omega
  · rw [h, Int.sign_zero]
    omega
  · rw [Int.sign_eq_one_of_pos h]
    omega

theorem enc_lt (v : Int) (n : Nat) : enc v n < 2 ^ n := by
  have hpos : (0 : Int) < (2 ^ n : Nat) := by exact_mod_cast Nat.two_pow_pos n
  have h1 := Int.emod_lt_of_pos v hpos
  have h0 := Int.emod_nonneg v hpos.ne'
  unfold enc
  omega

theorem sext_enc {v : Int} {n : Nat} (hlo : -(2 ^ n : Nat) ≤ 2 * v) (hhi : 2 * v < (2 ^ n : Nat)) : sext (enc v n) n = v := by
  unfold sext
  rw [Nat.mod_eq_of_lt (enc_lt v n)]
  unfold enc
  generalize 2 ^ n = b at *
  have hmod : v % (b : Int) = if 0 ≤ v then v else v + b := by
    split
    · exact Int.emod_eq_of_lt (by omega) (by omega)
    · rw [← Int.add_emod_right]
      exact Int.emod_eq_of_lt (by omega) (by omega)
  rw [hmod]
  split <;> split <;> omega

theorem sext_range (x n : Nat) : -(2 ^ n : Nat) ≤ 2 * sext x n ∧ 2 * sext x n < (2 ^ n : Nat) := by
  have hlt := Nat.mod_lt x (Nat.two_pow_pos n)
  unfold sext
  generalize 2 ^ n = b at *
  split
  · omega
  · omega

/-- The ranges of the trims: the first is unsigned, the others are signed. -/
theorem trimField_range : ∀ i : Fin 4, (trimField i.val).2.1 + (trimField i.val).2.2.1 ≤ 16 ∧
    (if i.val = 0 then (trimField i.val).2.2.2.1 = 0 ∧ (trimField i.val).2.2.2.2 + 1 = (2 ^ (trimField i.val).2.2.1 : Nat)
     else 2 * (trimField i.val).2.2.2.1 = -(2 ^ (trimField i.val).2.2.1 : Nat) ∧
      2 * (trimField i.val).2.2.2.2 + 2 = (2 ^ (trimField i.val).2.2.1 : Nat)) := by decide

section
variable (m : Chip) (g p : Nat) (i : Fin 4) (base : Nat)

theorem Chip.trimVal_range : (trimField i.val).2.2.2.1 ≤ m.trimVal g p i.val base ∧
    m.trimVal g p i.val base ≤ (trimField i.val).2.2.2.2 := by
  unfold Chip.trimVal
  extract_lets f v
  obtain ⟨_, hr⟩ := trimField_range i
  have hv : v < 2 ^ f.2.2.1 := fld_lt _ _ _
  have hs := sext_range v f.2.2.1
  show f.2.2.2.1 ≤ _ ∧ _ ≤ f.2.2.2.2
  generalize hb : 2 ^ f.2.2.1 = b at hv hs
  rw [show 2 ^ (trimField i.val).2.2.1 = b from hb] at hr
  split at hr
  next h0 =>
    rw [if_pos h0]
    obtain ⟨hlo, hhi⟩ : f.2.2.2.1 = 0 ∧ f.2.2.2.2 + 1 = (b : Int) := hr
    omega
  next h0 =>
    rw [if_neg h0]
    obtain ⟨hlo, hhi⟩ : 2 * f.2.2.2.1 = -(b : Int) ∧ 2 * f.2.2.2.2 + 2 = (b : Int) := hr
    omega

/-- A trim's field holds what is put into it. -/
theorem Chip.trimVal_setTrim {v : Int} (hv : (trimField i.val).2.2.2.1 ≤ v ∧ v ≤ (trimField i.val).2.2.2.2) :
    (m.setTrim g p i.val base v).trimVal g p i.val base = v := by
  obtain ⟨hlen, hr⟩ := trimField_range i
  unfold Chip.trimVal Chip.setTrim
  extract_lets f o v'
  have hv' : v' = enc v f.2.2.1 := by
    show fld (Chip.rd (Chip.wr m spCal o _) spCal o) _ _ = _
    rw [Chip.rd_wr, if_pos rfl, fld_setFld_same _ hlen (enc_lt _ _)]
  rw [hv']
  split at hr
  next h0 =>
    rw [if_pos h0]
    obtain ⟨hlo, hhi⟩ : f.2.2.2.1 = 0 ∧ f.2.2.2.2 + 1 = ((2 ^ f.2.2.1 : Nat) : Int) := hr
    obtain ⟨hl, hu⟩ : f.2.2.2.1 ≤ v ∧ v ≤ f.2.2.2.2 := hv
    unfold enc
    rw [Int.emod_eq_of_lt (by omega) (by omega)]
    omega
  next h0 =>
    rw [if_neg h0]
    obtain ⟨hlo, hhi⟩ : 2 * f.2.2.2.1 = -((2 ^ f.2.2.1 : Nat) : Int) ∧ 2 * f.2.2.2.2 + 2 = ((2 ^ f.2.2.1 : Nat) : Int) := hr
    obtain ⟨hl, hu⟩ : f.2.2.2.1 ≤ v ∧ v ≤ f.2.2.2.2 := hv
    exact sext_enc (by omega) (by omega)

end

/-- One step of a trim's walk. -/
theorem trimStep_leaves (m : Chip) (g p : Nat) (i : Fin 4) :
    (m.trimStep g p i.val).trimVal g p i.val 4 =
        m.trimVal g p i.val 4 + (m.trimVal g p i.val 0 - m.trimVal g p i.val 4).sign ∧
      OnlyCal m (m.trimStep g p i.val) [(spCal, trimOff g p (4 + (trimField i.val).1))] := by
  constructor
  · exact m.trimVal_setTrim g p i 4 (step_towards (m.trimVal_range g p i 4) (m.trimVal_range g p i 0))
  · have h := (OnlyCal.refl m [(spCal, trimOff g p (4 + (trimField i.val).1))]).wr
      (setFld (m.rd spCal (trimOff g p (4 + (trimField i.val).1))) (trimField i.val).2.1 (trimField i.val).2.2.1
        (enc (m.trimVal g p i.val 4 + (m.trimVal g p i.val 0 - m.trimVal g p i.val 4).sign) (trimField i.val).2.2.1))
      List.mem_cons_self
    exact ⟨rfl, h.2⟩

/-- A FROZEN group's trims stand unless the host has written them. -/
theorem mayWalk_frozen {m : Chip} {g p i : Nat} (hst : groupState (m.gstat g) = 1) (hpin : m.pinned g p i = false) :
    m.mayWalk g p i = false := by
  have hstand : m.trimStands g p i = true := by
    unfold Chip.trimStands
    rw [hst, hpin]
    rfl
  unfold Chip.mayWalk
  rw [hstand, Bool.not_true, Bool.and_false, Bool.false_and]

/-! ## A step of the converter's trims -/

theorem hkcTrimStep_leaves {m : Chip} (i : Fin 6) (hlen : m.hkc.applied.length = 6) :
    ((m.hkcTrimStep i.val).hkcApplied i.val).toInt = (m.hkcApplied i.val).toInt +
        (sext (m.rd spHkc (0x300 + i.val)).toNat 8 - (m.hkcApplied i.val).toInt).sign := by
  have ht := sext_range (m.rd spHkc (0x300 + i.val)).toNat 8
  have ha := BitVec.le_toInt (m.hkcApplied i.val)
  have hb := BitVec.toInt_lt (x := m.hkcApplied i.val)
  have hr := step_towards (lo := -128) (hi := 127) ⟨by omega, by omega⟩
    (t := sext (m.rd spHkc (0x300 + i.val)).toNat 8) (a := (m.hkcApplied i.val).toInt) ⟨by omega, by omega⟩
  have happ : (m.hkcTrimStep i.val).hkcApplied i.val = BitVec.ofInt 8 ((m.hkcApplied i.val).toInt +
      (sext (m.rd spHkc (0x300 + i.val)).toNat 8 - (m.hkcApplied i.val).toInt).sign) := by
    have hi : i.val < m.hkc.applied.length := by
      rw [hlen]
      exact i.isLt
    exact getD_upd_same _ _ hi
  rw [happ, BitVec.toInt_ofInt_eq_self (by decide) (by omega) (by omega)]

/-! ## Target writes and UNPINALL (R354, R355) -/

/-- The row of the third target words. -/
theorem regRow_target : ∀ (g : Fin 162) (p : Fin 3),
    regRow spCal (trimOff g.val p.val 2) = some ⟨0x1002, 486, 8, 1, 0, 0x0FFF, 0, 0⟩ := by decide +kernel

theorem answers_target {s : State} {g : Fin 162} {p i : Fin 3} {v : Word} {P : Chip → Prop} (ho : s.opens spCal 0)
    (hP : P (s.host.writeTrim (trimOff g.val p.val i.val) v).settle) :
    Answers (.trimTargetWrite (trimOff g.val p.val i.val) v) s P := by
  have hg := g.isLt
  have hp := p.isLt
  have hi := i.isLt
  have hoff : trimOff g.val p.val i.val = 0x1000 + 0x18 * g.val + 8 * p.val + i.val := rfl
  generalize trimOff g.val p.val i.val = off at hoff hP ⊢
  have hexec : exec (.trimTargetWrite off v) s = hostWindow s spCal off v := by
    show execTrimTargetWrite off v s = _
    unfold execTrimTargetWrite
    rw [if_neg (by omega), if_pos (by omega)]
  have hw : s.host.writeSpace spCal off v = s.host.writeTrim off v := by
    show s.host.writeCal off v = _
    unfold Chip.writeCal
    rw [if_neg (by omega), if_neg (by omega), if_neg (by omega), if_pos (by omega)]
  refine answers_hostWindow (sp := spCal) hexec ho ?_
  rw [hw]
  exact hP

/-- The pin bits that a write of a target word sets. -/
def targetPins (i : Nat) : Nat := if i = 0 then 3 else if i = 1 then 4 else 8

theorem writeTrim_target (m : Chip) (g : Fin 162) (p i : Fin 3) (v : Word) :
    m.writeTrim (trimOff g.val p.val i.val) v =
      (m.plainWrite spCal (trimOff g.val p.val i.val) v).orBits spCal (0x300 + g.val) (wd (targetPins i.val * 2 ^ (4 * p.val))) := by
  have hp := p.isLt
  have hi := i.isLt
  have hoff : trimOff g.val p.val i.val - 0x1000 = 24 * g.val + 8 * p.val + i.val := by
    unfold trimOff
    omega
  unfold Chip.writeTrim
  dsimp only
  rw [hoff, show (24 * g.val + 8 * p.val + i.val) / 24 = g.val by omega,
    show (24 * g.val + 8 * p.val + i.val) % 24 / 8 = p.val by omega, show (24 * g.val + 8 * p.val + i.val) % 8 = i.val by omega]
  generalize m.plainWrite spCal (trimOff g.val p.val i.val) v = t
  obtain h | h | h : i.val = 0 ∨ i.val = 1 ∨ i.val = 2 := by omega
  all_goals
    rw [h]
    rfl

theorem tst_targetPins : ∀ (p i : Fin 3) (t : Fin 4),
    (i.val = 0 ∧ t.val < 2) ∨ (i.val ≠ 0 ∧ t.val = i.val + 1) → tst (wd (targetPins i.val * 2 ^ (4 * p.val))) (4 * p.val + t.val) = true := by
  decide

theorem trimTarget_leaves (m : Chip) (g : Fin 162) (p i : Fin 3) (v : Word) :
    (∀ t, t < 4 → (i.val = 0 ∧ t < 2) ∨ (i.val ≠ 0 ∧ t = i.val + 1) →
      (m.writeTrim (trimOff g.val p.val i.val) v).pinned g.val p.val t = true) ∧
    (i.val = 2 → fld ((m.writeTrim (trimOff g.val p.val i.val) v).rd spCal (trimOff g.val p.val i.val)) 0 12 = fld v 0 12) ∧
    OnlyThese m (m.writeTrim (trimOff g.val p.val i.val) v) [(spCal, trimOff g.val p.val i.val), (spCal, 0x300 + g.val)] := by
  have hne : ¬key spCal (trimOff g.val p.val i.val) = key spCal (0x300 + g.val) := by
    have hg := g.isLt
    rw [key_same]
    unfold trimOff
    omega
  rw [writeTrim_target]
  refine ⟨fun t h4 ht => ?_, fun hi => ?_, ?_⟩
  · unfold Chip.pinned
    rw [Chip.rd_orBits, if_pos rfl, tst_or, tst_targetPins p i ⟨t, h4⟩ ht, Bool.or_true]
  · rw [Chip.rd_orBits, if_neg hne]
    rw [hi, Chip.rd_plainWrite_merge m v (regRow_target g p) rfl, fld_merge (by decide) (by decide)]
  · exact ((OnlyThese.refl m _).plainWrite v List.mem_cons_self).orBits _ (List.mem_cons_of_mem _ List.mem_cons_self)

theorem hkcTarget_leaves {s : State} {i : Fin 6} {v : Word} (ho : s.opens spCal 0) :
    Answers (.trimTargetWrite (0x300 + i.val) v) s (fun t => tst (t.rd spCal 6) i.val = true ∧
      OnlyThese s.chip t [(spHkc, 0x300 + i.val), (spCal, 6)]) := by
  have hi := i.isLt
  have hexec : exec (.trimTargetWrite (0x300 + i.val) v) s = hostWindow s spHkc (0x300 + i.val) v := by
    show execTrimTargetWrite (0x300 + i.val) v s = _
    unfold execTrimTargetWrite
    rw [if_pos (by omega)]
  have hw : s.host.writeSpace spHkc (0x300 + i.val) v = (s.host.plainWrite spHkc (0x300 + i.val) v).orBits spCal 6 (bitW i.val) := by
    have hoff : 0x300 + i.val - 0x300 = i.val := by omega
    show (if 0x300 + i.val = 0 then s.host.writeHkcEn v else s.host.writeHkc (0x300 + i.val) v) = _
    rw [if_neg (by omega)]
    unfold Chip.writeHkc
    rw [if_neg (by omega), if_neg (by omega), if_neg (by omega), if_neg (by omega), if_pos (by omega), hoff]
  refine answers_hostWindow (sp := spHkc) hexec ho ?_
  rw [hw]
  constructor
  · rw [Chip.rd_settle, Chip.rd_orBits, if_pos rfl, tst_or_bitW _ (by omega)]
  · exact (((onlyThese_host s _).plainWrite v List.mem_cons_self).orBits _ (List.mem_cons_of_mem _ List.mem_cons_self)).settle

/-- A CALCTL write of no run and no cancellation (R359). -/
theorem Chip.writeCalctl_marl {m : Chip} {v : Word} (h10 : tst v 10 = false) (h11 : tst v 11 = false) :
    m.writeCalctl v =
      let m1 := m.plainWrite 0 0x34 v
      let m2 := Chip.marlPick { m1 with cal := { m1.cal with stopping := !tst v 15 && m1.cal.group.isSome } }
      if tst v 12 then m2.unpinAll else m2 := by
  unfold Chip.writeCalctl
  simp only [h10, h11, Bool.false_and, Bool.false_eq_true, if_false]

theorem Chip.marlPick_visiting {m : Chip} (h : m.cal.group.isSome = true) : m.marlPick = m := by
  obtain ⟨g, hg⟩ := Option.isSome_iff_exists.mp h
  unfold Chip.marlPick
  rw [hg]
  split
  next hc => exact absurd hc (by simp)
  next => rfl

/-- Clearing MARLEN while Marl visits a group stops it. -/
theorem Chip.writeCalctl_stops {m : Chip} {v : Word} (h10 : tst v 10 = false) (h11 : tst v 11 = false) (h12 : tst v 12 = false)
    (h15 : tst v 15 = false) (hg : m.cal.group.isSome = true) :
    m.writeCalctl v = { m.plainWrite 0 0x34 v with cal := { m.cal with stopping := true } } := by
  rw [Chip.writeCalctl_marl h10 h11]
  dsimp only
  rw [h12, if_neg (by decide), Chip.marlPick_visiting (by rw [Chip.plainWrite_cal]; exact hg), Chip.plainWrite_cal, h15, hg]
  rfl

theorem marlenClear_stops {s : State} {v : Word} (hr : s.reaches 0 0x34) (h10 : tst v 10 = false) (h11 : tst v 11 = false)
    (h12 : tst v 12 = false) (h15 : tst v 15 = false) (hg : s.chip.cal.group.isSome = true) :
    Answers (.marlenClear v) s (fun t => t.cal = { s.chip.cal with stopping := true } ∧
      WordsKept s.chip t [(0, 0x34)] ∧ t.cc = s.chip.cc) := by
  have hp := (onlyThese_host s [(0, 0x34)]).plainWrite v List.mem_cons_self
  refine answers_hostWrite (f := (·.writeCalctl v)) rfl hr ?_
  dsimp only
  rw [Chip.writeCalctl_stops (m := s.host) h10 h11 h12 h15 hg]
  exact ⟨rfl, hp.2, Chip.plainWrite_cc s.host 0 0x34 v⟩

/-- The pins of every group are cleared, the first n of them first. -/
theorem rd_clrPins (m : Chip) (n g : Nat) :
    (((List.range n).foldl (fun m g => m.clrBits spCal (0x300 + g) 0x0FFF) m).rd spCal (0x300 + g)) =
      if g < n then m.rd spCal (0x300 + g) &&& ~~~0x0FFF else m.rd spCal (0x300 + g) := by
  induction n with
  | zero => rfl
  | succ n ih =>
    rw [List.range_succ, List.foldl_append, List.foldl_cons, List.foldl_nil, Chip.rd_clrBits]
    by_cases hn : g = n
    · subst hn
      rw [if_pos rfl, ih, if_neg (by omega), if_pos (by omega)]
    · rw [if_neg (by rw [key_same]; omega), ih]
      split
      · rw [if_pos (by omega)]
      · rw [if_neg (by omega)]

theorem cc_clrPins (l : List Nat) (m : Chip) : (l.foldl (fun m g => m.clrBits spCal (0x300 + g) 0x0FFF) m).cc = m.cc := by
  induction l generalizing m with
  | nil => rfl
  | cons g l ih => exact (ih _).trans rfl

theorem tst_pins : ∀ (p : Fin 3) (i : Fin 4), tst (0x0FFF : Word) (4 * p.val + i.val) = true := by decide

theorem unpinAll_leaves (m : Chip) : (∀ g p i, g < 162 → p < 3 → i < 4 → m.unpinAll.pinned g p i = false) ∧
    m.unpinAll.rd spCal 6 &&& 0x003F = 0 ∧ m.unpinAll.cc = m.cc := by
  unfold Chip.unpinAll
  refine ⟨fun g p i hg hp hi => ?_, ?_, ?_⟩
  · have hbit := tst_pins ⟨p, hp⟩ ⟨i, hi⟩
    unfold Chip.pinned
    rw [Chip.rd_clrBits, if_neg (by rw [key_same]; omega), rd_clrPins, if_pos hg, tst_and]
    have hn : tst (~~~(0x0FFF : Word)) (4 * p + i) = false := by
      unfold tst at hbit ⊢
      rw [BitVec.getLsbD_not, hbit, Bool.not_true, Bool.and_false]
    rw [hn, Bool.and_false]
  · rw [Chip.rd_clrBits, if_pos rfl]
    rw [BitVec.and_assoc]
    exact BitVec.and_zero
  · generalize List.range 162 = l
    exact cc_clrPins l m

theorem Chip.cc_marlPick (m : Chip) : m.marlPick.cc = m.cc := by
  unfold Chip.marlPick
  split
  · split
    · extract_lets ok n
      split
      · rfl
      · split
        · unfold Chip.raiseIf
          split
          · rw [Chip.raise_cc]
            rfl
          · rfl
        · rfl
    · rfl
  · rfl

theorem writeCalctl_unpins {m : Chip} {v : Word} (h10 : tst v 10 = false) (h11 : tst v 11 = false) (h12 : tst v 12 = true) :
    (∀ g p i, g < 162 → p < 3 → i < 4 → (m.writeCalctl v).pinned g p i = false) ∧
      (m.writeCalctl v).rd spCal 6 &&& 0x003F = 0 ∧ (m.writeCalctl v).cc = m.cc := by
  rw [Chip.writeCalctl_marl h10 h11]
  extract_lets m1 _ m2
  have hcc : m2.cc = m.cc := (Chip.cc_marlPick _).trans (Chip.plainWrite_cc m 0 0x34 v)
  rw [if_pos h12]
  obtain ⟨hpins, hconv, hkeep⟩ := unpinAll_leaves m2
  exact ⟨hpins, hconv, hkeep.trans hcc⟩

theorem unpinall_unpins {s : State} {v : Word} (hr : s.reaches 0 0x34) (h10 : tst v 10 = false) (h11 : tst v 11 = false)
    (h12 : tst v 12 = true) :
    Answers (.unpinall v) s (fun t =>
      (∀ g p i, g < 162 → p < 3 → i < 4 → t.pinned g p i = false) ∧ t.rd spCal 6 &&& 0x003F = 0 ∧ t.cc = s.chip.cc) := by
  have h := writeCalctl_unpins (m := s.host) h10 h11 h12
  refine answers_hostWrite (f := (·.writeCalctl v)) rfl hr ?_
  generalize s.host.writeCalctl v = t at h ⊢
  exact h

theorem exec_marlDwellEnd {s : State} {g : Nat} (hg : s.chip.cal.group = some g) :
    exec .marlDwellEnd s = guarded s (s.chip.pw.core && s.chip.dwellFull) (s.chip.dwellEnd g) := by
  show execMarlDwellEnd s = _
  unfold execMarlDwellEnd
  simp only [hg]

theorem marlDwellEnd_disabled {s : State} {g : Nat} (hcore : s.chip.pw.core = true) (hg : s.chip.cal.group = some g)
    (hfull : s.chip.dwellFull = true) (hen : tst (s.chip.rd 0 0x34) 15 = false) (hmov : s.chip.moversOff) :
    Answers .marlDwellEnd s (fun t => t.cal.group = none ∧ t.cal.from_ = g + 1 ∧ t.cal.dwell = Dwell.zero ∧
      t.cc = s.chip.cc ∧ t.hkc = s.chip.hkc) := by
  have h := dwellEnd_disabled hcore hmov hg hen
  refine answers_guarded (exec_marlDwellEnd hg) (by rw [hcore, hfull]; rfl) ?_
  generalize s.chip.dwellEnd g = t at h
  exact h

theorem trimStep_walks {s : State} {g : Fin 162} {p : Fin 3} {i : Fin 4} (hcore : s.chip.pw.core = true)
    (hwalk : s.chip.mayWalk g.val p.val i.val = true) :
    Answers (.trimStep g p i) s (fun t =>
      t.trimVal g.val p.val i.val 4 = s.chip.trimVal g.val p.val i.val 4 +
        (s.chip.trimVal g.val p.val i.val 0 - s.chip.trimVal g.val p.val i.val 4).sign ∧
      OnlyThese { s.chip with cal := t.cal } t [(spCal, trimOff g.val p.val (4 + (trimField i.val).1))]) := by
  have h := trimStep_leaves s.chip g.val p.val i
  refine answers_guarded (c := .trimStep g p i) rfl (by rw [hcore, hwalk]; rfl) ?_
  generalize s.chip.trimStep g.val p.val i.val = t at h
  exact ⟨h.1, h.2.settle⟩

theorem trimStep_stands {s : State} {g : Fin 162} {p : Fin 3} {i : Fin 4} (hwalk : s.chip.mayWalk g.val p.val i.val = false) :
    Answers (.trimStep g p i) s (Unchanged s.chip) := by
  have hexec : exec (.trimStep g p i) s = done s s.chip := by
    show guarded s _ _ = _
    rw [hwalk, Bool.and_false]
    rfl
  exact answers_of_done hexec rfl

theorem hkcTrimStep_walks {s : State} {i : Fin 6} (hcore : s.chip.pw.core = true) (hsh : s.chip.shaped)
    (hsince : 256 ≤ nth s.chip.hkc.sinceStep i.val)
    (hne : (s.chip.hkcApplied i.val).toInt ≠ sext (s.chip.rd spHkc (0x300 + i.val)).toNat 8) :
    Answers (.hkcTrimStep i) s (fun t =>
      (t.hkcApplied i.val).toInt = (s.chip.hkcApplied i.val).toInt +
        (sext (s.chip.rd spHkc (0x300 + i.val)).toNat 8 - (s.chip.hkcApplied i.val).toInt).sign ∧
      AllWordsKept s.chip t ∧ t.hkc.queue = s.chip.hkc.queue) := by
  have h : _ ∧ AllWordsKept s.chip (s.chip.hkcTrimStep i.val) ∧ (s.chip.hkcTrimStep i.val).hkc.queue = s.chip.hkc.queue :=
    ⟨hkcTrimStep_leaves i hsh.applied, rfl, rfl⟩
  refine answers_guarded (c := .hkcTrimStep i) rfl (by simp [hcore, hsince, hne]) ?_
  generalize s.chip.hkcTrimStep i.val = t at h
  exact h

theorem Chip.pinned_settle (m : Chip) (g p i : Nat) : m.settle.pinned g p i = m.pinned g p i := by
  unfold Chip.pinned
  rw [Chip.rd_settle]

theorem trimTarget_pins {s : State} {g : Fin 162} {p i : Fin 3} {v : Word} (ho : s.opens spCal 0) :
    Answers (.trimTargetWrite (trimOff g.val p.val i.val) v) s (fun t =>
      (i.val = 0 → t.pinned g.val p.val 0 = true ∧ t.pinned g.val p.val 1 = true) ∧
      (i.val = 1 → t.pinned g.val p.val 2 = true) ∧
      (i.val = 2 → t.pinned g.val p.val 3 = true ∧ fld (t.rd spCal (trimOff g.val p.val 2)) 0 12 = fld v 0 12) ∧
      OnlyThese s.chip t [(spCal, trimOff g.val p.val i.val), (spCal, 0x300 + g.val)]) := by
  obtain ⟨hpin, hfld, honly⟩ := trimTarget_leaves s.host g p i v
  refine answers_target ho ?_
  generalize s.host.writeTrim (trimOff g.val p.val i.val) v = t at *
  refine ⟨fun hi => ⟨?_, ?_⟩, fun hi => ?_, fun hi => ⟨?_, ?_⟩, OnlyThese.settle ⟨honly.1, honly.2⟩⟩
  · rw [Chip.pinned_settle]
    exact hpin 0 (by decide) (.inl ⟨hi, by decide⟩)
  · rw [Chip.pinned_settle]
    exact hpin 1 (by decide) (.inl ⟨hi, by decide⟩)
  · rw [Chip.pinned_settle]
    exact hpin 2 (by decide) (.inr ⟨by omega, by omega⟩)
  · rw [Chip.pinned_settle]
    exact hpin 3 (by decide) (.inr ⟨by omega, by omega⟩)
  · rw [Chip.rd_settle, ← hfld hi, hi]

/-- Settles O48: a dwell that ends without MARLEN, a trim's step within its range, what target writes pin and UNPINALL
clears. -/
theorem trimming : Obligations.Trimming := by
  unfold Obligations.Trimming
  refine ⟨fun s g hcore hg hfull => completes_guarded (exec_marlDwellEnd hg) (by rw [hcore, hfull]; rfl),
    fun s g hcore hg hfull hen hmov => marlDwellEnd_disabled hcore hg hfull hen hmov,
    fun s g p i hcore => ⟨fun hwalk => trimStep_walks hcore hwalk, fun hst hpin => mayWalk_frozen hst hpin,
      fun hwalk => trimStep_stands hwalk⟩,
    fun s i hcore hsh hsince hne => hkcTrimStep_walks hcore hsh hsince hne,
    fun s v ho => ⟨fun g p i => trimTarget_pins ho, fun i => hkcTarget_leaves ho⟩,
    fun s v hr h10 h11 => ⟨fun h12 h15 hg => marlenClear_stops hr h10 h11 h12 h15 hg, fun h12 => unpinall_unpins hr h10 h11 h12⟩⟩

/-! ## A WHITE run that is cancelled during its capture (O49) -/

/-- A chip in RUN whose WHITE run has its first capture in progress. -/
def whiteState : State :=
  { pending := []
    chip := { Chip.reset with
      pw := { Power.reset with cur := .run, vddaon := true, ready := true, core := true, array := true }
      cc := { CaptureCtl.reset with cap := some { narrowCapture with white := true } }
      cal := { Calib.reset with run := .white 0 1 0 false } } }

theorem white_reaches : whiteState.chip.busOn = true ∧ whiteState.chip.owned 0 0x34 = true := by decide +kernel

/-- The cancellation takes the capture out of the run. -/
theorem white_cancelled : (whiteState.host.writeCalctl 0x0800).cc.cap.map Capture.white = some false := by decide +kernel

/-- Refutes O49: CANCEL of a WHITE run whose capture is in progress ends the run, and the capture in progress is then no
capture of a run: the capture control does not stay as it was. -/
theorem not_calibrationRuns : ¬Obligations.CalibrationRuns := by
  unfold Obligations.CalibrationRuns
  intro ⟨_, hcancel, _⟩
  obtain ⟨t, ht, _, _, _, _, _, hcc⟩ := hcancel whiteState 0x0800 white_reaches (by decide) (by decide) (by decide)
    (fun h => nomatch h)
  have hexec : exec (.cancel 0x0800) whiteState = .next { whiteState with chip := (whiteState.host.writeCalctl 0x0800).settle } :=
    hostWrite_on whiteState 0 0x34 (·.writeCalctl 0x0800) white_reaches.1 white_reaches.2
  obtain rfl : { whiteState with chip := (whiteState.host.writeCalctl 0x0800).settle } = t := by
    rw [hexec] at ht
    injection ht
  have hwhite : (whiteState.host.writeCalctl 0x0800).cc.cap.map Capture.white = some true := congrArg (fun c : CaptureCtl => c.cap.map Capture.white) hcc
  rw [white_cancelled] at hwhite
  exact absurd hwhite (by decide)

end Sys2Proof.Machine
end


section
/-! PROOFS. The non-volatile stores and the one-time-programmable memory. -/

namespace Sys2Proof.Machine
-- What the steps below change is compared with the model by unfolding: one elaboration at a time.
set_option Elab.async false

/-- A step answers what its chip meets, where the level of IRQ_N is of no account. -/
theorem answers_leaves {c : Instr} {s : State} {b : Bool} {m : Chip} {P : Chip → Prop} (hexec : exec c s = guarded s b m)
    (hb : b = true) (h : P m) (hset : ∀ t : Chip, P t → P t.settle := by exact fun _ h => h) : Answers c s P :=
  answers_guarded hexec hb (hset m h)

/-! ## NVMCTL (O50) -/

section
variable {m : Chip} {v : Word}

/-- STAGE alone. -/
theorem Chip.writeNvmctl_stage (h14 : tst v 14 = true) (h15 : tst v 15 = false) (h12 : tst v 12 = false)
    (h11 : tst v 11 = false) (hbusy : m.nvmBusy = false) :
    m.writeNvmctl v = { m with st := { m.st with staging := true } } := by
  unfold Chip.writeNvmctl
  simp only [h14, h15, h12, h11, hbusy, Bool.not_false, Bool.and_self, Bool.false_and, Bool.false_eq_true, if_true, if_false]

/-- COMMIT alone, with no staging copy in progress. -/
theorem Chip.writeNvmctl_commit (h15 : tst v 15 = true) (h14 : tst v 14 = false) (h12 : tst v 12 = false)
    (h11 : tst v 11 = false) (hbusy : m.nvmBusy = false) (hst : m.st.staging = false) :
    m.writeNvmctl v = Chip.tryCommit { m with st := { m.st with retryPend := false, retryDue := false } } (tst v 13) := by
  unfold Chip.writeNvmctl
  simp only [h14, h15, h12, h11, hbusy, hst, Bool.not_false, Bool.and_self, Bool.false_and, Bool.false_eq_true, if_true, if_false]

/-- LOAD alone, with a slot in force. -/
theorem Chip.writeNvmctl_load {n : Nat} (h12 : tst v 12 = true) (h15 : tst v 15 = false) (h14 : tst v 14 = false)
    (h11 : tst v 11 = false) (hn : m.slotInForce = some n) :
    m.writeNvmctl v = { m with cal := { m.cal with atBoundary := some (m.cal.atBoundary.getD [] ++ m.setWordsOf n) } } := by
  unfold Chip.writeNvmctl
  simp only [h14, h15, h12, h11, hn, Bool.false_and, Bool.false_eq_true, if_true, if_false]

/-- LOAD alone, with none. -/
theorem Chip.writeNvmctl_load_none (h12 : tst v 12 = true) (h15 : tst v 15 = false) (h14 : tst v 14 = false)
    (h11 : tst v 11 = false) (hn : m.slotInForce = none) : m.writeNvmctl v = m := by
  unfold Chip.writeNvmctl
  simp only [h14, h15, h12, h11, hn, Bool.false_and, Bool.false_eq_true, if_true, if_false]

/-- LFLUSH alone. -/
theorem Chip.writeNvmctl_lflush (h11 : tst v 11 = true) (h15 : tst v 15 = false) (h14 : tst v 14 = false) (h12 : tst v 12 = false) :
    m.writeNvmctl v = m.startFlush false := by
  unfold Chip.writeNvmctl
  simp only [h14, h15, h12, h11, Bool.false_and, Bool.false_eq_true, if_true, if_false]

theorem Chip.commit_of_not_busy (h : m.nvmBusy = false) : m.st.commit = none ∧ m.st.waiting = none := by
  simpa only [Chip.nvmBusy, Bool.or_eq_false_iff, Option.isSome_eq_false_iff, Option.isNone_iff_eq_none] using h

/-- A COMMIT without a valid staging image fails with cause 4 (R380). -/
theorem Chip.tryCommit_invalid {force : Bool} (hv : m.st.stgValid = false) :
    m.tryCommit force = Chip.nvmFail { m with st := { m.st with waiting := none } } 4 := by
  unfold Chip.tryCommit
  simp only [hv, Bool.not_false, if_true]

/-- The state of the stores once a commit has begun. -/
def Chip.withCommit (m : Chip) (n : Nat) : Stores :=
  { m.st with commit := some ⟨n, m.nextSeq, m.tb.aon, false, nth m.st.ecnt n, 0, 0, m.warn⟩, lastSlot := n, waiting := none,
              retryPend := false, retryDue := false, ecnt := upd m.st.ecnt n (fun _ => min (nth m.st.ecnt n + 1) 0xFFFF) }

theorem Chip.startCommit_some {n : Nat} (ht : m.commitTarget = some n) :
    m.startCommit false = Chip.eraseSlot { m with st := m.withCommit n } n := by
  unfold Chip.startCommit
  rw [ht]
  rfl

/-- One that the rules allow starts. -/
theorem Chip.tryCommit_starts {force : Bool} {n : Nat} (hv : m.st.stgValid = true) (ht : m.commitTarget = some n)
    (hi : m.intervalLeft = 0) (hf : m.st.flush = none) :
    m.tryCommit force = Chip.startCommit { m with st := { m.st with waiting := none } } false := by
  unfold Chip.tryCommit
  generalize hm : ({ m with st := { m.st with waiting := none } } : Chip) = m'
  have ht' : m'.commitTarget = some n := hm ▸ ht
  have hi' : m'.intervalLeft = 0 := hm ▸ hi
  have hv' : m'.st.stgValid = true := hm ▸ hv
  have hf' : m'.st.flush = none := hm ▸ hf
  simp only [hv', ht', hi', hf', Bool.not_true, Option.isNone_some, bne_self_eq_false, Bool.false_and, Option.isSome_none,
    Bool.false_eq_true, if_false]

theorem Chip.commitTarget_lt {n : Nat} (h : m.commitTarget = some n) : n < 32 := by
  obtain ⟨i, _, rfl⟩ := List.mem_map.mp (List.mem_of_find?_eq_some h)
  exact Nat.mod_lt _ (by decide)

/-- The words that an erase leaves. -/
theorem Chip.get_eraseSlot (m : Chip) (n k : Nat) :
    Bank.get (m.eraseSlot n).regs k =
      if k < key spNvm (0x100000 + 0x8000 * n) ∨ key spNvm (0x100000 + 0x8000 * n) + 0x8000 ≤ k then Bank.get m.regs k
      else unlisted k := by
  unfold Chip.eraseSlot
  simp only [Bank.get_keepIf, Bool.or_eq_true, decide_eq_true_eq]

theorem unlisted_slot : ∀ n : Fin 32, unlisted (key spNvm (0x100000 + 0x8000 * n.val)) = 0xFFFF := by decide

/-- An erased slot reads ERASED. -/
theorem Chip.slotState_eraseSlot (m : Chip) {n : Nat} (hn : n < 32) : (m.eraseSlot n).slotState n = 0 := by
  have hw : (m.eraseSlot n).slotWord n 0 = 0xFFFF := by
    refine (Chip.get_eraseSlot m n _).trans ?_
    rw [if_neg (by rw [Nat.add_zero]; omega)]
    exact unlisted_slot ⟨n, hn⟩
  unfold Chip.slotState
  rw [hw]
  rfl

section
variable (h15 : tst v 15 = true) (h14 : tst v 14 = false) (h12 : tst v 12 = false) (h11 : tst v 11 = false)
  (hbusy : m.nvmBusy = false) (hst : m.st.staging = false)
include h15 h14 h12 h11 hbusy hst

theorem Chip.writeNvmctl_refused (hv : m.st.stgValid = false) :
    m.writeNvmctl v =
      Chip.nvmFail { m with st := { m.st with retryPend := false, retryDue := false, waiting := none } } 4 := by
  rw [Chip.writeNvmctl_commit h15 h14 h12 h11 hbusy hst]
  exact Chip.tryCommit_invalid hv

theorem Chip.writeNvmctl_starts {n : Nat} (hv : m.st.stgValid = true) (ht : m.commitTarget = some n)
    (hi : m.intervalLeft = 0) (hf : m.st.flush = none) :
    m.writeNvmctl v = Chip.eraseSlot { m with st := m.withCommit n } n := by
  rw [Chip.writeNvmctl_commit h15 h14 h12 h11 hbusy hst]
  refine (Chip.tryCommit_starts (m := { m with st := { m.st with retryPend := false, retryDue := false } }) hv ht hi hf).trans ?_
  exact Chip.startCommit_some ht

end

/-- A flush while a commit runs or waits is due (R383). -/
theorem Chip.startFlush_busy (h : m.nvmBusy = true) :
    m.startFlush false = { m with st := { m.st with flushDue := true, flushAgain := m.st.flushDue && m.st.flushAgain } } := by
  unfold Chip.startFlush
  rw [if_pos h]
  cases m.st.flushDue <;> rfl

theorem Chip.startFlush_starts {p : Nat} (h : m.nvmBusy = false) (hf : m.st.flush = none) (hp : m.nextPage = some p) :
    m.startFlush false = { m with st := { m.st with
        flush := some (p, false), flushDue := false, flushAgain := false, pages := m.st.pages.filter (fun x => x.1 != p) } } := by
  unfold Chip.startFlush
  simp only [h, hf, hp, Bool.false_eq_true, if_false, Option.isSome_none]

end

/-- A failed commit records its cause and raises NVM_FAIL. -/
theorem nvmFail_leaves {m : Chip} (cause : Nat) (hcore : m.pw.core = true) :
    (m.nvmFail cause).st = { m.st with cause := cause } ∧ tst ((m.nvmFail cause).rd 0 0x14) 12 = true ∧
      WordsKept m (m.nvmFail cause) [(0, 0x14)] := by
  refine ⟨Chip.raise_st _ _, ?_, ?_⟩
  · have h := Chip.rd_raise { m with st := { m.st with cause := cause } } evNvmFail 0 0x14 hcore
    rw [if_pos (by decide)] at h
    exact (congrArg (tst · 12) h).trans (tst_or_bitW _ (by decide))
  · exact WordsKept.raise (m := m) (WordsKept.refl m _) (by decide)

section
variable {s : State} {v : Word}

theorem answers_nvmctl {c : Instr} {P : Chip → Prop} (hexec : exec c s = hostWrite s 0 0x36 (·.writeNvmctl v))
    (hr : s.reaches 0 0x36) (hP : P (s.host.writeNvmctl v).settle) : Answers c s P := answers_hostWrite hexec hr hP

theorem stage_copies (hr : s.reaches 0 0x36) (h14 : tst v 14 = true) (h15 : tst v 15 = false) (h12 : tst v 12 = false)
    (h11 : tst v 11 = false) (hbusy : s.chip.nvmBusy = false) :
    Answers (.stage v) s (fun t => t.st = { s.chip.st with staging := true } ∧ AllWordsKept s.chip t) := by
  refine answers_nvmctl rfl hr ?_
  rw [Chip.writeNvmctl_stage (m := s.host) h14 h15 h12 h11 hbusy]
  exact ⟨rfl, rfl⟩

theorem commit_refused (hr : s.reaches 0 0x36) (h15 : tst v 15 = true) (h14 : tst v 14 = false) (h12 : tst v 12 = false)
    (h11 : tst v 11 = false) (hbusy : s.chip.nvmBusy = false) (hst : s.chip.st.staging = false)
    (hv : s.chip.st.stgValid = false) :
    Answers (.commit v) s (fun t => t.st.cause = 4 ∧ t.st.commit = none ∧ tst (t.rd 0 0x14) 12 = true ∧
      WordsKept s.chip t [(0, 0x14)]) := by
  refine answers_nvmctl rfl hr ?_
  rw [Chip.writeNvmctl_refused (m := s.host) h15 h14 h12 h11 hbusy hst hv]
  obtain ⟨hs, hbit, hk⟩ := nvmFail_leaves (m := { s.host with st := { s.host.st with
    retryPend := false, retryDue := false, waiting := none } }) 4 (reaches_core hr (by decide))
  generalize Chip.nvmFail _ 4 = t at *
  refine ⟨congrArg Stores.cause hs, (congrArg Stores.commit hs).trans (Chip.commit_of_not_busy hbusy).1, hbit, hk⟩

theorem commit_starts {n : Nat} (hr : s.reaches 0 0x36) (h15 : tst v 15 = true) (h14 : tst v 14 = false) (h12 : tst v 12 = false)
    (h11 : tst v 11 = false) (hbusy : s.chip.nvmBusy = false) (hst : s.chip.st.staging = false)
    (hv : s.chip.st.stgValid = true) (ht : s.chip.commitTarget = some n) (hi : s.chip.intervalLeft = 0)
    (hf : s.chip.st.flush = none) :
    Answers (.commit v) s (fun t => t.st.commit = some ⟨n, s.chip.nextSeq, s.chip.tb.aon, false,
        nth s.chip.st.ecnt n, 0, 0, s.chip.warn⟩ ∧ t.st.lastSlot = n ∧ t.slotState n = 0 ∧
      (∀ k, (k < key spNvm (0x100000 + 0x8000 * n) ∨ key spNvm (0x100000 + 0x8000 * n) + 0x8000 ≤ k) →
        Bank.get t.regs k = Bank.get s.chip.regs k)) := by
  refine answers_nvmctl rfl hr ?_
  rw [Chip.writeNvmctl_starts (m := s.host) h15 h14 h12 h11 hbusy hst hv ht hi hf]
  refine ⟨rfl, rfl, ?_, fun k hk => ?_⟩
  · exact Chip.slotState_eraseSlot _ (Chip.commitTarget_lt ht)
  · exact (Chip.get_eraseSlot _ n k).trans (if_pos hk)

theorem load_takes (hr : s.reaches 0 0x36) (h12 : tst v 12 = true) (h15 : tst v 15 = false) (h14 : tst v 14 = false)
    (h11 : tst v 11 = false) {n : Nat} (hn : s.chip.slotInForce = some n) :
    Answers (.load v) s (fun t => t.cal = { s.chip.cal with
        atBoundary := some (s.chip.cal.atBoundary.getD [] ++ s.chip.setWordsOf n) } ∧
      AllWordsKept s.chip t ∧ t.st = s.chip.st) := by
  refine answers_nvmctl rfl hr ?_
  rw [Chip.writeNvmctl_load (m := s.host) h12 h15 h14 h11 hn]
  exact ⟨rfl, rfl, rfl⟩

theorem load_nothing (hr : s.reaches 0 0x36) (h12 : tst v 12 = true) (h15 : tst v 15 = false) (h14 : tst v 14 = false)
    (h11 : tst v 11 = false) (hn : s.chip.slotInForce = none) : Answers (.load v) s (Unchanged s.chip) := by
  refine answers_nvmctl rfl hr ?_
  rw [Chip.writeNvmctl_load_none (m := s.host) h12 h15 h14 h11 hn]
  exact unchanged_begin s.chip 0

theorem lflush_waits (hr : s.reaches 0 0x36) (h11 : tst v 11 = true) (h15 : tst v 15 = false) (h14 : tst v 14 = false)
    (h12 : tst v 12 = false) (hbusy : s.chip.nvmBusy = true) :
    Answers (.lflush v) s (fun t => t.st = { s.chip.st with
      flushDue := true, flushAgain := s.chip.st.flushDue && s.chip.st.flushAgain } ∧ AllWordsKept s.chip t) := by
  refine answers_nvmctl rfl hr ?_
  rw [Chip.writeNvmctl_lflush (m := s.host) h11 h15 h14 h12, Chip.startFlush_busy (m := s.host) hbusy]
  exact ⟨rfl, rfl⟩

theorem lflush_starts {p : Nat} (hr : s.reaches 0 0x36) (h11 : tst v 11 = true) (h15 : tst v 15 = false) (h14 : tst v 14 = false)
    (h12 : tst v 12 = false) (hbusy : s.chip.nvmBusy = false) (hf : s.chip.st.flush = none) (hp : s.chip.nextPage = some p) :
    Answers (.lflush v) s (fun t => t.st.flush = some (p, false) ∧ t.st.incr = s.chip.st.incr ∧
      t.st.base = s.chip.st.base ∧ AllWordsKept s.chip t) := by
  refine answers_nvmctl rfl hr ?_
  rw [Chip.writeNvmctl_lflush (m := s.host) h11 h15 h14 h12, Chip.startFlush_starts (m := s.host) hbusy hf hp]
  exact ⟨rfl, rfl, rfl, rfl⟩

end

/-! ## A slot is retired (R387, R388) -/

theorem opens_nvm_core {s : State} {o : Nat} (h : s.opens spNvm o) : s.chip.pw.core = true := by
  have ho : s.chip.coreOn = true := h.1.2
  simp only [Chip.coreOn, Bool.and_eq_true] at ho
  exact ho.1.1.2

/-- The retirement writes a word of the OTP and a fault record. -/
theorem retireSlot_keeps {m : Chip} (n cause page : Nat) (hcore : m.pw.core = true) (hmov : m.moversOff) :
    (m.retireSlot n cause page).st = m.st ∧ (m.retireSlot n cause page).pw = m.pw ∧ (m.retireSlot n cause page).cc = m.cc ∧
      (m.retireSlot n cause page).rd 0 0x14 = m.rd 0 0x14 := by
  unfold Chip.retireSlot
  extract_lets e
  generalize [BitVec.ofNat 8 n, BitVec.ofNat 8 cause] ++ bytesN e 2 ++ [BitVec.ofNat 8 page] = l
  generalize hm : m.orBits spOtp (0xC14 + n / 16) (bitW (n % 16)) = t
  have hrd : t.rd 0 0x14 = m.rd 0 0x14 := by
    rw [← hm, Chip.rd_orBits, if_neg]
    unfold key
    rw [show spOtp = 7 from rfl]
    omega
  have hst : t.st = m.st ∧ t.pw = m.pw ∧ t.cc = m.cc := hm ▸ ⟨rfl, rfl, rfl⟩
  have hf := onlyFault_fault t 0x0A l (hm ▸ hcore) (hm ▸ hmov)
  have hev : (t.fault 0x0A l).rd 0 0x14 = _ := hf.rd (by decide) (by decide)
  obtain ⟨r, c, heq, _⟩ := onlyFault_iff.mp hf
  generalize t.fault 0x0A l = u at *
  subst heq
  exact ⟨hst.1, hst.2.1, hst.2.2, hev.trans hrd⟩

theorem retireSlot_retires {m : Chip} {n : Nat} (cause page : Nat) (hn : n < 32) (hcore : m.pw.core = true) (hmov : m.moversOff) :
    (m.retireSlot n cause page).slotRetired n = true ∧ (m.retireSlot n cause page).rd spFault 0 = m.rd spFault 0 + 1 := by
  unfold Chip.retireSlot
  extract_lets e
  generalize [BitVec.ofNat 8 n, BitVec.ofNat 8 cause] ++ bytesN e 2 ++ [BitVec.ofNat 8 page] = l
  generalize hm : m.orBits spOtp (0xC14 + n / 16) (bitW (n % 16)) = t
  have hrd (sp off : Nat) : t.rd sp off = _ := hm ▸ Chip.rd_orBits m spOtp (0xC14 + n / 16) (bitW (n % 16)) sp off
  have hc : t.pw.core = true := hm ▸ hcore
  have hv : t.moversOff := hm ▸ hmov
  have hbit : (t.fault 0x0A l).rd spOtp (0xC14 + n / 16) = _ := (onlyFault_fault t 0x0A l hc hv).rd (by decide) (by omega)
  constructor
  · unfold Chip.slotRetired
    rw [hbit, hrd, if_pos rfl]
    exact tst_or_bitW _ (by omega)
  · rw [Chip.rd_count_fault t 0x0A l hc hv, hrd, if_neg (key_ne_of_space (by decide) (by decide) (by omega))]

/-- A RETCMD of a slot. -/
theorem Chip.writeSpace_retcmd {m : Chip} {v : Word} (h15 : tst v 15 = true) (hbusy : m.nvmBusy = false) :
    m.writeSpace spNvm 2 v = if m.slotRetired (fld v 0 5) then m else m.retireSlot (fld v 0 5) 3 0 := by
  show m.writeNvm 2 v = _
  unfold Chip.writeNvm
  rw [if_neg (by decide), if_neg (by decide), if_pos rfl, h15, hbusy]
  cases m.slotRetired (fld v 0 5) <;> rfl

section
variable {s : State} {v : Word}

theorem retcmd_retires (ho : s.opens spNvm 2) (h15 : tst v 15 = true) (hbusy : s.chip.nvmBusy = false)
    (hr : s.chip.slotRetired (fld v 0 5) = false) (hmov : s.chip.moversOff) :
    Answers (.retcmd v) s (fun t => t.slotRetired (fld v 0 5) = true ∧ t.rd spFault 0 = s.chip.rd spFault 0 + 1 ∧
      t.st = s.chip.st) := by
  obtain ⟨hret, hcount⟩ := retireSlot_retires (m := s.host) 3 0 (fld_lt v 0 5) (opens_nvm_core ho) hmov
  obtain ⟨hst, _⟩ := retireSlot_keeps (m := s.host) (fld v 0 5) 3 0 (opens_nvm_core ho) hmov
  refine answers_hostWindow (sp := spNvm) rfl ho ?_
  rw [Chip.writeSpace_retcmd (m := s.host) h15 hbusy, if_neg (by rw [show s.host.slotRetired _ = false from hr]; decide)]
  generalize s.host.retireSlot (fld v 0 5) 3 0 = t at *
  exact ⟨hret, hcount, hst⟩

theorem retcmd_retired (ho : s.opens spNvm 2) (h15 : tst v 15 = true) (hbusy : s.chip.nvmBusy = false)
    (hr : s.chip.slotRetired (fld v 0 5) = true) : Answers (.retcmd v) s (Unchanged s.chip) := by
  refine answers_hostWindow (sp := spNvm) rfl ho ?_
  rw [Chip.writeSpace_retcmd (m := s.host) h15 hbusy, if_pos (show s.host.slotRetired _ = true from hr)]
  exact unchanged_begin s.chip 0

end

/-! ## The ends of the stores' operations -/

/-- In RUN with no sequence nothing of the mode moves. -/
theorem Chip.modeGo_run {m : Chip} (hcur : m.pw.cur = .run) (htarget : m.pw.target = .run) : m.modeGo = m := by
  unfold Chip.modeGo
  rw [hcur, htarget]
  exact ite_self _

/-- With nothing waiting nothing starts. -/
theorem Chip.storesNext_idle {m : Chip} (hw : m.st.waiting = none) (hr : m.st.retryDue = false) (hf : m.st.flushDue = false) :
    m.storesNext = m := by
  unfold Chip.storesNext
  rw [hw, hr, hf]
  exact ite_self _

theorem Chip.wrList_words (m : Chip) (sp off : Nat) (l : List Word) : ∃ r, m.wrList sp off l = { m with regs := r } := by
  induction l generalizing m off with
  | nil => exact ⟨m.regs, rfl⟩
  | cons v l ih =>
    obtain ⟨r, hr⟩ := ih (m.wr sp off v) (off + 1)
    exact ⟨r, hr⟩

theorem fst_lt_of_run {w sp o n : Nat} {p : Nat × Nat} (h : p ∈ (List.range n).map (fun i => (w + i, key sp (o + i)))) :
    p.1 < w + n := by
  obtain ⟨i, hi, rfl⟩ := List.mem_map.mp h
  exact Nat.add_lt_add_left (List.mem_range.mp hi) w

/-- The words of a calibration set stand in the first half of a slot. -/
theorem setMap_lt {p : Nat × Nat} (hp : p ∈ setMap) : p.1 < 0x8000 := by
  unfold setMap at hp
  simp only [List.mem_append, List.mem_flatMap] at hp
  rcases hp with ((((((((((h | h) | h) | h) | h) | h) | h) | h) | ⟨b, hb, h⟩) | h) | ⟨b, hb, h⟩)
  case inr =>
    have := fst_lt_of_run h
    have := List.mem_range.mp hb
    omega
  case inl.inl.inr =>
    have := fst_lt_of_run h
    have := List.mem_range.mp hb
    omega
  all_goals
    have := fst_lt_of_run h
    omega

/-- The staging copy changes the staging image alone. -/
theorem get_copyStaging (m : Chip) {k : Nat} (hk : stagingKey k = false) :
    Bank.get m.copyStaging.regs k = Bank.get m.regs k := by
  unfold Chip.copyStaging
  extract_lets ws
  have hout : ∀ w ∈ ws, k ≠ w.1 := by
    intro w hw hkw
    obtain ⟨p, hp, rfl⟩ := List.mem_map.mp hw
    have hlt := setMap_lt hp
    have hin : stagingKey (key spNvm (0x8000 + p.1)) = true := by
      simp only [stagingKey, Bool.and_eq_true, decide_eq_true_eq]
      unfold key
      omega
    rw [hkw] at hk
    exact absurd (hk.symm.trans hin) (by decide)
  clear_value ws
  dsimp only
  rw [Bank.get_putAll_of_not_mem ws k hout, Bank.get_keepIf, hk]
  rfl

theorem copyStaging_leaves (m : Chip) :
    ∃ r, m.copyStaging = { m with regs := r, st := { m.st with stgValid := true } } ∧
      ∀ k, stagingKey k = false → Bank.get r k = Bank.get m.regs k := by
  have hk := fun k hk => get_copyStaging m (k := k) hk
  unfold Chip.copyStaging at hk ⊢
  generalize setMap.map _ = ws at hk ⊢
  exact ⟨_, rfl, hk⟩

theorem length_commitWords (m : Chip) (c : Commit) (ecnt : List Nat) (adj : Byte) :
    (m.commitWords c ecnt adj).length = 0x7FFE := by
  unfold Chip.commitWords
  extract_lets a head
  have hhead : head.length = 48 := by
    simp only [head, List.length_append, List.length_map, List.length_range, List.length_cons, List.length_nil]
  rw [List.length_append, List.length_map, List.length_range, hhead]

theorem commitImage_eq (m : Chip) (c : Commit) (ecnt : List Nat) :
    ∃ adj a b, m.commitImage c ecnt = m.commitWords c ecnt adj ++ [a, b] := by
  unfold Chip.commitImage
  extract_lets of p q
  obtain ⟨adj, h⟩ : ∃ adj, q = of adj := by
    show ∃ adj, (if p.2 = 0xFFFFFFFF then of 0xFE else p) = of adj
    split
    · exact ⟨_, rfl⟩
    · exact ⟨0xFF, rfl⟩
  rw [h]
  exact ⟨adj, _, _, rfl⟩

/-- The check word is the last two words of the slot. -/
theorem commitImage_tail (m : Chip) (c : Commit) (ecnt : List Nat) : ∃ a b, (m.commitImage c ecnt).drop 0x7FFE = [a, b] := by
  obtain ⟨adj, a, b, h⟩ := commitImage_eq m c ecnt
  rw [h, ← length_commitWords m c ecnt adj, List.drop_left]
  exact ⟨a, b, rfl⟩

theorem Chip.raise_pw_on {m : Chip} {n : Nat} (h : m.pw.core = true) : (m.raise n).pw = m.pw := by
  unfold Chip.raise
  rw [if_pos h]
  rfl

theorem spoilStep_leaves (m : Chip) (c : Commit) : ∃ r f, m.spoilStep c = { m with regs := r, free := f } := by
  have hspoil (s w n : Nat) : ∃ r f, m.spoilWords s w n = { m with regs := r, free := f } := by
    obtain ⟨r, hr⟩ := m.wrList_words spNvm (0x100000 + 0x8000 * s + w) ((List.range n).map (fun i => Config.freeWord (m.free + i)))
    unfold Chip.spoilWords
    rw [hr]
    exact ⟨r, m.free + n, rfl⟩
  unfold Chip.spoilStep
  split
  · exact hspoil _ _ _
  · split
    · exact hspoil _ _ _
    · exact hspoil _ _ _

/-- The check word of slot n. -/
def checkWords (n : Nat) : List (Nat × Nat) :=
  [(0, 0x14), (spNvm, 0x100000 + 0x8000 * n + 0x7FFE), (spNvm, 0x100000 + 0x8000 * n + 0x7FFF)]

theorem Chip.ledger_leaves (m : Chip) (i n : Nat) : ∃ l, m.ledger i n = { m with st := { m.st with incr := l } } := ⟨_, rfl⟩

theorem programCheck_words (m : Chip) (c : Commit) : ∃ a b, m.programCheck c =
    (m.wr spNvm (0x100000 + 0x8000 * c.slot + 0x7FFE) a).wr spNvm (0x100000 + 0x8000 * c.slot + 0x7FFF) b := by
  obtain ⟨a, b, himg⟩ := commitImage_tail m c m.st.ecnt
  have hoff : 0x100000 + 0x8000 * c.slot + 0x7FFE + 1 = 0x100000 + 0x8000 * c.slot + 0x7FFF := by omega
  refine ⟨a, b, ?_⟩
  unfold Chip.programCheck
  rw [himg, Chip.wrList, Chip.wrList, Chip.wrList, hoff]

theorem programCheck_leaves (m : Chip) (c : Commit) :
    ∃ r, m.programCheck c = { m with regs := r } ∧ WordsKept m { m with regs := r } (checkWords c.slot) := by
  obtain ⟨a, b, hprog⟩ := programCheck_words m c
  have hk := ((WordsKept.refl m (checkWords c.slot)).wr (sp := spNvm) (off := 0x100000 + 0x8000 * c.slot + 0x7FFE) a
    (List.mem_cons_of_mem _ List.mem_cons_self)).wr (sp := spNvm) (off := 0x100000 + 0x8000 * c.slot + 0x7FFF) b
      (List.mem_cons_of_mem _ (List.mem_cons_of_mem _ List.mem_cons_self))
  exact ⟨_, hprog, hk⟩

theorem commitDone_eq {m : Chip} {c : Commit} {r : Bank} (h : m.programCheck c = { m with regs := r }) :
    ∃ l, m.commitDone c =
      (Chip.raise { m with regs := r, st := { m.st with commit := none, incr := l } } evNvmDone).storesNext := by
  unfold Chip.commitDone
  rw [h]
  exact ⟨_, rfl⟩

section
variable {m : Chip} {c : Commit} (hcore : m.pw.core = true) (hflush : m.st.flushDue = false) (hwait : m.st.waiting = none)
  (hretry : m.st.retryDue = false)
include hcore hflush hwait hretry

/-- A commit that completes. -/
theorem commitDone_leaves : (m.commitDone c).st.commit = none ∧ tst ((m.commitDone c).rd 0 0x14) 11 = true ∧
    (m.commitDone c).pw = m.pw ∧ (m.commitDone c).cc = m.cc ∧ WordsKept m (m.commitDone c) (checkWords c.slot) := by
  obtain ⟨r, hprog, hk⟩ := programCheck_leaves m c
  obtain ⟨l, heq⟩ := commitDone_eq hprog
  rw [heq]
  generalize hx : ({ m with regs := r, st := { m.st with commit := none, incr := l } } : Chip) = x
  obtain ⟨hst, hpw, hcc, hregs⟩ : x.st = { m.st with commit := none, incr := l } ∧ x.pw = m.pw ∧ x.cc = m.cc ∧ x.regs = r :=
    hx ▸ ⟨rfl, rfl, rfl, rfl⟩
  have hc : x.pw.core = true := by rw [hpw, hcore]
  have hk' : WordsKept m x (checkWords c.slot) := by
    intro k hne
    rw [hregs]
    exact hk k hne
  rw [Chip.storesNext_idle (by rw [Chip.raise_st, hst]; exact hwait) (by rw [Chip.raise_st, hst]; exact hretry)
    (by rw [Chip.raise_st, hst]; exact hflush)]
  refine ⟨by rw [Chip.raise_st, hst], ?_, by rw [Chip.raise_pw_on hc, hpw], by rw [Chip.raise_cc, hcc],
    hk'.raise (n := evNvmDone) List.mem_cons_self⟩
  have h := Chip.rd_raise x evNvmDone 0 0x14 hc
  rw [if_pos (by decide)] at h
  exact (congrArg (tst · 11) h).trans (tst_or_bitW _ (by decide))

/-- A commit that fails its verification. -/
theorem commitVerify_leaves (hmov : m.moversOff) :
    (m.commitVerify c).st.commit = none ∧ (m.commitVerify c).st.cause = 2 ∧ tst ((m.commitVerify c).rd 0 0x14) 12 = true ∧
      (m.commitVerify c).pw = m.pw ∧ (m.commitVerify c).cc = m.cc := by
  have hspoil := spoilStep_leaves m c
  unfold Chip.commitVerify
  generalize m.spoilStep c = u at hspoil
  obtain ⟨r, f, rfl⟩ := hspoil
  extract_lets w
  have hwc : w.pw.core = true := hcore
  have hnf : (w.nvmFail 2).st = { w.st with cause := 2 } ∧ _ := nvmFail_leaves 2 hwc
  obtain ⟨hst, hbit, _⟩ := hnf
  have hpw : (w.nvmFail 2).pw = m.pw := Chip.raise_pw_on (m := { w with st := { w.st with cause := 2 } }) hcore
  have hcc : (w.nvmFail 2).cc = m.cc := Chip.raise_cc _ _
  have hmv : (w.nvmFail 2).movers = m.movers := Chip.raise_movers _ _
  have hws : w.st.waiting = none ∧ w.st.retryDue = false ∧ w.st.flushDue = false ∧ w.st.commit = none :=
    ⟨hwait, hretry, hflush, rfl⟩
  generalize w.nvmFail 2 = x at *
  have hxm : x.moversOff := by
    intro i hi
    unfold Chip.mover
    rw [hmv]
    exact hmov i hi
  have hret := retireSlot_keeps (m := x) c.slot (if c.step = 0 then 1 else 2) (c.step - 1) (hpw ▸ hcore) hxm
  generalize x.retireSlot c.slot (if c.step = 0 then 1 else 2) (c.step - 1) = y at hret
  obtain ⟨hyst, hypw, hycc, hyrd⟩ := hret
  obtain ⟨hw, hr, hf, hcm⟩ := hws
  rw [Chip.storesNext_idle (by rw [hyst, hst]; exact hw) (by rw [hyst, hst]; exact hr) (by rw [hyst, hst]; exact hf)]
  refine ⟨by rw [hyst, hst]; exact hcm, by rw [hyst, hst], by rw [hyrd]; exact hbit, hypw.trans hpw, hycc.trans hcc⟩

end

section
variable {s : State}

theorem exec_commitComplete {c : Commit} (n : Option Nat) (hc : s.chip.st.commit = some c) :
    exec (.commitComplete n) s = guarded s s.chip.pw.core
      (match n with
        | none => if c.pages = 128 ∧ !c.stop then s.chip.commitDone c else s.chip
        | some n => if n = c.step then s.chip.commitVerify c else s.chip).modeGo := by
  show execCommitComplete n s = _
  unfold execCommitComplete
  simp only [hc] <;> cases n <;> rfl

theorem exec_commitComplete_none {c : Commit} (hc : s.chip.st.commit = some c) (hp : c.pages = 128) (hs : c.stop = false) :
    exec (.commitComplete none) s = guarded s s.chip.pw.core (s.chip.commitDone c).modeGo := by
  rw [exec_commitComplete none hc]
  simp only [hp, hs, Bool.not_false, and_self, if_true]

theorem exec_commitComplete_some {c : Commit} (hc : s.chip.st.commit = some c) :
    exec (.commitComplete (some c.step)) s = guarded s s.chip.pw.core (s.chip.commitVerify c).modeGo := by
  rw [exec_commitComplete (some c.step) hc]
  simp only [if_true]

theorem exec_ledgerFlushComplete {p : Nat} {again f : Bool} (h : s.chip.st.flush = some (p, again)) :
    exec (.ledgerFlushComplete f) s =
      guarded s s.chip.pw.core (if f then s.chip.flushFail p again else s.chip.flushDone p).modeGo := by
  show execLedgerFlushComplete f s = _
  unfold execLedgerFlushComplete
  simp only [h]

/-- In RUN what a step leaves of the power state is what the mode's sequence finds. -/
theorem modeGo_steady {m : Chip} (hs : s.steady) (hpw : m.pw = s.chip.pw) : m.modeGo = m :=
  Chip.modeGo_run (hpw ▸ hs.1) (hpw ▸ hs.2.1)

theorem stageComplete_copies (hs : s.steady) (hcore : s.chip.pw.core = true) (hst : s.chip.st.staging = true)
    (hb : s.chip.st.boundaryHeld = false) (hw : s.chip.st.waiting = none) :
    Answers .stageComplete s (fun t => t.st = { s.chip.st with staging := false, stgValid := true } ∧
      (∀ k, stagingKey k = false → Bank.get t.regs k = Bank.get s.chip.regs k) ∧ t.pw = s.chip.pw) := by
  obtain ⟨r, hcopy, hk⟩ := copyStaging_leaves s.chip
  have hexec : exec .stageComplete s = guarded s (s.chip.pw.core && s.chip.st.staging)
      (Chip.modeGo { s.chip with regs := r, st := { s.chip.st with stgValid := true, staging := false, boundaryHeld := false } }) := by
    show execStageComplete s = _
    unfold execStageComplete
    simp only [hcopy, hb, hw, Bool.false_eq_true, if_false]
  refine answers_guarded hexec (by rw [hcore, hst]; rfl) ?_
  rw [modeGo_steady hs (by rfl)]
  exact ⟨congrArg (fun b => { s.chip.st with staging := false, stgValid := true, boundaryHeld := b }) hb.symm, hk, rfl⟩

theorem commitComplete_done {c : Commit} (hs : s.steady) (hcore : s.chip.pw.core = true) (hc : s.chip.st.commit = some c)
    (hflush : s.chip.st.flushDue = false) (hwait : s.chip.st.waiting = none) (hretry : s.chip.st.retryDue = false)
    (hp : c.pages = 128) (hstop : c.stop = false) :
    Answers (.commitComplete none) s (fun t => t.st.commit = none ∧ tst (t.rd 0 0x14) 11 = true ∧ t.pw = s.chip.pw ∧
      t.cc = s.chip.cc ∧ WordsKept s.chip t (checkWords c.slot)) := by
  have h := commitDone_leaves (c := c) hcore hflush hwait hretry
  have hexec := exec_commitComplete_none hc hp hstop
  rw [modeGo_steady hs h.2.2.1] at hexec
  exact answers_leaves hexec hcore h

theorem commitComplete_fails {c : Commit} (hs : s.steady) (hcore : s.chip.pw.core = true) (hc : s.chip.st.commit = some c)
    (hflush : s.chip.st.flushDue = false) (hwait : s.chip.st.waiting = none) (hretry : s.chip.st.retryDue = false)
    (hmov : s.chip.moversOff) :
    Answers (.commitComplete (some c.step)) s (fun t => t.st.commit = none ∧ t.st.cause = 2 ∧
      tst (t.rd 0 0x14) 12 = true ∧ t.pw = s.chip.pw ∧ t.cc = s.chip.cc) := by
  have h := commitVerify_leaves (c := c) hcore hflush hwait hretry hmov
  have hexec := exec_commitComplete_some hc
  rw [modeGo_steady hs h.2.2.2.1] at hexec
  exact answers_leaves hexec hcore h

/-- A flush that completes with nothing waiting (R394). -/
theorem Chip.flushDone_idle {m : Chip} (p : Nat) (hflush : m.st.flushDue = false) (hwait : m.st.waiting = none)
    (hretry : m.st.retryDue = false) :
    m.flushDone p = { m with st := { m.st with
      flush := none, lseq := m.st.lseq + 1, lpage := p, lastFlush := m.tb.aon, laon := m.tb.aon, base := (List.range 8).map m.total,
      incr := List.replicate 8 0, noPage := false,
      pages := (p, pageBytes (m.st.lseq + 1) ((List.range 8).map m.total) m.tb.aon) :: m.st.pages.filter (fun x => x.1 != p) } } := by
  unfold Chip.flushDone
  exact Chip.storesNext_idle hwait hretry hflush

theorem ledgerFlushComplete_done {p : Nat} {again : Bool} (hs : s.steady) (hcore : s.chip.pw.core = true)
    (hf : s.chip.st.flush = some (p, again)) (hwait : s.chip.st.waiting = none) (hretry : s.chip.st.retryDue = false)
    (hflush : s.chip.st.flushDue = false) :
    Answers (.ledgerFlushComplete false) s (fun t => t.st.flush = none ∧ t.st.lpage = p ∧
      t.st.lseq = s.chip.st.lseq + 1 ∧ t.st.lastFlush = s.chip.tb.aon ∧ t.st.laon = s.chip.tb.aon ∧
      (p, pageBytes (s.chip.st.lseq + 1) ((List.range 8).map s.chip.total) s.chip.tb.aon) ∈ t.st.pages ∧
      t.st.base = (List.range 8).map (fun i => nth s.chip.st.base i + nth s.chip.st.incr i) ∧
      t.st.incr = List.replicate 8 0 ∧ AllWordsKept s.chip t ∧ t.pw = s.chip.pw) := by
  refine answers_guarded (exec_ledgerFlushComplete hf) hcore ?_
  rw [if_neg (by decide), Chip.flushDone_idle p hflush hwait hretry]
  generalize pageBytes _ _ _ = bytes
  rw [modeGo_steady hs (by rfl)]
  exact ⟨rfl, rfl, rfl, rfl, rfl, List.mem_cons_self, rfl, rfl, rfl, rfl⟩

theorem exec_ledgerFlushDue (s : State) : exec .ledgerFlushDue s =
    guarded s (decide (s.chip.st.lastFlush.toNat + 117964800 * fld (s.chip.rd spNvm 1) 0 8 ≤ s.chip.tb.aon.toNat) &&
      s.chip.st.flush.isNone)
      (if s.chip.pw.core then s.chip.startFlush false else { s.chip with st := { s.chip.st with flushDue := true } }) := rfl

theorem ledgerFlushDue_waits (hdue : s.chip.st.lastFlush.toNat + 117964800 * fld (s.chip.rd spNvm 1) 0 8 ≤ s.chip.tb.aon.toNat)
    (hf : s.chip.st.flush = none) (hcore : s.chip.pw.core = false) :
    Answers .ledgerFlushDue s (fun t => t.st = { s.chip.st with flushDue := true } ∧ AllWordsKept s.chip t) := by
  refine answers_guarded (exec_ledgerFlushDue s) (by rw [decide_eq_true hdue, hf]; rfl) ?_
  rw [hcore, if_neg (by decide)]
  exact ⟨rfl, rfl⟩

theorem ledgerFlushDue_starts {p : Nat}
    (hdue : s.chip.st.lastFlush.toNat + 117964800 * fld (s.chip.rd spNvm 1) 0 8 ≤ s.chip.tb.aon.toNat)
    (hf : s.chip.st.flush = none) (hcore : s.chip.pw.core = true) (hbusy : s.chip.nvmBusy = false)
    (hp : s.chip.nextPage = some p) :
    Answers .ledgerFlushDue s (fun t => t.st.flush = some (p, false) ∧ t.st.flushDue = false ∧ AllWordsKept s.chip t) := by
  refine answers_guarded (exec_ledgerFlushDue s) (by rw [decide_eq_true hdue, hf]; rfl) ?_
  rw [if_pos hcore, Chip.startFlush_starts hbusy hf hp]
  exact ⟨rfl, rfl, rfl⟩

theorem exec_ledgerHourTick (s : State) : exec .ledgerHourTick s = guarded s (decide (117964800 ≤ s.chip.st.hourTicks))
    (Chip.ledger { s.chip with st := { s.chip.st with hourTicks := s.chip.st.hourTicks - 117964800 } } 7 1) := rfl

/-- A counter below its end counts. -/
theorem Chip.ledger_counts {m : Chip} {i n : Nat} (hi : i < m.st.incr.length)
    (hlt : nth m.st.base i + nth m.st.incr i + n ≤ 0xFFFFFFFFFFFF) :
    ∃ l, m.ledger i n = { m with st := { m.st with incr := l } } ∧ nth l i = nth m.st.incr i + n := by
  refine ⟨_, rfl, ?_⟩
  unfold nth upd
  rw [List.getD_eq_getElem?_getD, List.getElem?_modify_eq, List.getElem?_eq_getElem hi]
  unfold nth at hlt
  rw [List.getD_eq_getElem?_getD, List.getD_eq_getElem?_getD, List.getElem?_eq_getElem hi] at hlt
  simp only [Option.map_some, Option.getD_some, Option.map_eq_map] at hlt ⊢
  rw [List.getD_eq_getElem?_getD, List.getD_eq_getElem?_getD, List.getElem?_eq_getElem hi, Option.getD_some]
  omega

theorem hour_leaves {m : Chip} (k : Nat) (hi : 7 < m.st.incr.length)
    (hlt : nth m.st.base 7 + nth m.st.incr 7 + 1 ≤ 0xFFFFFFFFFFFF) :
    (Chip.ledger { m with st := { m.st with hourTicks := m.st.hourTicks - k } } 7 1).st.hourTicks = m.st.hourTicks - k ∧
      nth (Chip.ledger { m with st := { m.st with hourTicks := m.st.hourTicks - k } } 7 1).st.incr 7 = nth m.st.incr 7 + 1 ∧
      AllWordsKept m (Chip.ledger { m with st := { m.st with hourTicks := m.st.hourTicks - k } } 7 1) := by
  obtain ⟨l, heq, hl⟩ := Chip.ledger_counts (m := { m with st := { m.st with hourTicks := m.st.hourTicks - k } }) hi hlt
  rw [heq]
  exact ⟨rfl, hl, rfl⟩

theorem ledgerHourTick_counts (hdue : 117964800 ≤ s.chip.st.hourTicks) (hlen : s.chip.st.incr.length = 8)
    (hlt : nth s.chip.st.base 7 + nth s.chip.st.incr 7 < 0xFFFFFFFFFFFF) :
    Answers .ledgerHourTick s (fun t => t.st.hourTicks = s.chip.st.hourTicks - 117964800 ∧
      nth t.st.incr 7 = nth s.chip.st.incr 7 + 1 ∧ AllWordsKept s.chip t) := by
  exact answers_leaves (exec_ledgerHourTick s) (decide_eq_true hdue)
    (hour_leaves 117964800 (by rw [hlen]; decide) (Nat.succ_le_of_lt hlt))

end

/-- Settles O50: NVMCTL by its command bits, the ends of the operations by what stands in the stores afterwards. -/
theorem stores : Obligations.Stores := by
  unfold Obligations.Stores
  refine ⟨⟨fun s v hr => ⟨fun h14 h15 h12 h11 hbusy => stage_copies hr h14 h15 h12 h11 hbusy,
    fun h15 h14 h12 h11 hbusy hst => ⟨fun hv => commit_refused hr h15 h14 h12 h11 hbusy hst hv,
      fun n hv ht hi hf => commit_starts hr h15 h14 h12 h11 hbusy hst hv ht hi hf⟩,
    fun h12 h15 h14 h11 => ⟨fun hn => load_nothing hr h12 h15 h14 h11 hn, fun n hn => load_takes hr h12 h15 h14 h11 hn⟩,
    fun h11 h15 h14 h12 => ⟨fun hbusy => lflush_waits hr h11 h15 h14 h12 hbusy,
      fun p hbusy hf hp => lflush_starts hr h11 h15 h14 h12 hbusy hf hp⟩⟩,
    fun s v ho h15 hbusy => ⟨fun hr hmov => retcmd_retires ho h15 hbusy hr hmov, fun hr => retcmd_retired ho h15 hbusy hr⟩⟩,
    fun s hcore => ⟨fun c hc => ⟨fun hp hstop => completes_guarded (exec_commitComplete_none hc hp hstop) hcore,
      completes_guarded (exec_commitComplete_some hc) hcore⟩, fun p again f hf => completes_guarded (exec_ledgerFlushComplete hf) hcore⟩,
    fun s hs hcore => ⟨fun hst hb hw => stageComplete_copies hs hcore hst hb hw,
      fun c hc hflush hwait hretry => ⟨fun hp hstop => commitComplete_done hs hcore hc hflush hwait hretry hp hstop,
        fun hmov => commitComplete_fails hs hcore hc hflush hwait hretry hmov⟩,
      fun p again hf hwait hretry hflush => ledgerFlushComplete_done hs hcore hf hwait hretry hflush⟩,
    fun s hdue hf => ⟨fun hcore => ledgerFlushDue_waits hdue hf hcore, fun p hcore hbusy hp => ledgerFlushDue_starts hdue hf hcore hbusy hp⟩,
    fun s hdue hlen hlt => ledgerHourTick_counts hdue hlen hlt⟩

/-! ## OTPCTL (O51) -/

/-- A refused write leaves its record and its event. -/
theorem lockViolation_leaves {m : Chip} (sp off : Nat) (lo hi : Word) (item : Bool) (hcore : m.pw.core = true) (hmov : m.moversOff) :
    (m.lockViolation sp off lo hi item).st = m.st ∧ tst ((m.lockViolation sp off lo hi item).rd 0 0x14) 13 = true ∧
      (m.lockViolation sp off lo hi item).rd 0 0x3E = m.rd 0 0x3E ∧
      (m.lockViolation sp off lo hi item).rd spFault 0 = m.rd spFault 0 + 1 := by
  unfold Chip.lockViolation
  generalize [BitVec.ofNat 8 sp] ++ bytesN off 3 ++ bytes2 lo ++ bytes2 hi ++ [if item then 1 else 0] = l
  have hf := onlyFault_fault m 0x01 l hcore hmov
  have hcount := Chip.rd_count_fault m 0x01 l hcore hmov
  have hctl : (m.fault 0x01 l).rd 0 0x3E = m.rd 0 0x3E := hf.rd (by decide) (by decide)
  obtain ⟨r, c, heq, _⟩ := onlyFault_iff.mp hf
  generalize m.fault 0x01 l = u at *
  have hst : u.st = m.st ∧ u.pw = m.pw := heq ▸ ⟨rfl, rfl⟩
  have huc : u.pw.core = true := hst.2 ▸ hcore
  have hraise (sp off : Nat) := Chip.rd_raise u evLockViolation sp off huc
  refine ⟨(Chip.raise_st _ _).trans hst.1, ?_, ?_, ?_⟩
  · have h := hraise 0 0x14
    rw [if_pos (by decide)] at h
    exact (congrArg (tst · 13) h).trans (tst_or_bitW _ (by decide))
  · rw [hraise, if_neg (by decide)]
    exact hctl
  · rw [hraise, if_neg (by decide)]
    exact hcount

section
variable {m : Chip} {v : Word}

theorem Chip.writeOtpctl_several (h : 1 < b2n (tst v 15) + b2n (tst v 14) + b2n (tst v 13)) : m.writeOtpctl v = m := by
  unfold Chip.writeOtpctl
  exact if_pos (.inl h)

/-- One command bit alone, with no operation in progress and no refusal. -/
theorem Chip.writeOtpctl_single (hotp : m.st.otp = none) (hn : b2n (tst v 15) + b2n (tst v 14) + b2n (tst v 13) ≤ 1)
    (href : m.otpRefused v = false) :
    m.writeOtpctl v =
      if tst v 15 then (m.plainWrite 0 0x3E v).otpProg
      else if tst v 14 then (m.plainWrite 0 0x3E v).otpKeyprog v
      else if tst v 13 then { m.plainWrite 0 0x3E v with st := { m.st with otp := some (.glock (fld v 0 2)) } }
      else m.plainWrite 0 0x3E v := by
  have hno : ¬(1 < b2n (tst v 15) + b2n (tst v 14) + b2n (tst v 13) ∨
      (b2n (tst v 15) + b2n (tst v 14) + b2n (tst v 13) = 1 ∧ m.st.otp.isSome)) := by
    rw [hotp]
    simp only [Option.isSome_none, Bool.false_eq_true, and_false, or_false]
    omega
  unfold Chip.writeOtpctl
  rw [if_neg hno, href, if_neg (by decide), ← Chip.plainWrite_st m 0 0x3E v]

/-- A refused PROG or KEYPROG write. -/
theorem Chip.writeOtpctl_refused (hotp : m.st.otp = none) (hn : b2n (tst v 15) + b2n (tst v 14) + b2n (tst v 13) ≤ 1)
    (href : m.otpRefused v = true) :
    ∃ off lo, m.writeOtpctl v = m.lockViolation 7 off lo 0 false := by
  have hno : ¬(1 < b2n (tst v 15) + b2n (tst v 14) + b2n (tst v 13) ∨
      (b2n (tst v 15) + b2n (tst v 14) + b2n (tst v 13) = 1 ∧ m.st.otp.isSome)) := by
    rw [hotp]
    simp only [Option.isSome_none, Bool.false_eq_true, and_false, or_false]
    omega
  unfold Chip.writeOtpctl
  rw [if_neg hno, if_pos href]
  split
  · exact ⟨_, _, rfl⟩
  · exact ⟨_, _, rfl⟩

theorem Chip.otpRefused_prog (h15 : tst v 15 = true) (h14 : tst v 14 = false) :
    m.otpRefused v = m.otpLocked (fld (m.rd spOtp 0x1000) 0 12) := by
  unfold Chip.otpRefused
  simp only [h15, h14, Bool.true_and, Bool.false_and, Bool.or_false]

theorem Chip.otpRefused_keyprog (h15 : tst v 15 = false) (h14 : tst v 14 = true) :
    m.otpRefused v = (tst (m.rd spOtp 0xC10) (fld v 4 1) || tst (m.rd spOtp 0xC11) (fld v 4 1)) := by
  unfold Chip.otpRefused
  simp only [h15, h14, Bool.true_and, Bool.false_and, Bool.false_or]

theorem Chip.otpRefused_glock (h15 : tst v 15 = false) (h14 : tst v 14 = false) : m.otpRefused v = false := by
  unfold Chip.otpRefused
  simp only [h15, h14, Bool.false_and, Bool.or_false]

end

theorem rd_otpctl_kept (m : Chip) (v : Word) {sp off : Nat} (h : ¬key sp off = key 0 0x3E) :
    (m.plainWrite 0 0x3E v).rd sp off = m.rd sp off := Chip.rd_plainWrite_ne m v h

section
variable {s : State} {v : Word}

theorem answers_otpctl {c : Instr} {P : Chip → Prop} (hexec : exec c s = hostWrite s 0 0x3E (·.writeOtpctl v))
    (hr : s.reaches 0 0x3E) (hP : P (s.host.writeOtpctl v).settle) : Answers c s P := answers_hostWrite hexec hr hP

theorem otpctl_several {c : Instr} (hexec : exec c s = hostWrite s 0 0x3E (·.writeOtpctl v)) (hr : s.reaches 0 0x3E)
    (h : 1 < b2n (tst v 15) + b2n (tst v 14) + b2n (tst v 13)) : Answers c s (Unchanged s.chip) := by
  refine answers_otpctl hexec hr ?_
  rw [Chip.writeOtpctl_several h]
  exact unchanged_begin s.chip 0

theorem otpctl_refused {c : Instr} (hexec : exec c s = hostWrite s 0 0x3E (·.writeOtpctl v)) (hr : s.reaches 0 0x3E)
    (hotp : s.chip.st.otp = none) (hn : b2n (tst v 15) + b2n (tst v 14) + b2n (tst v 13) ≤ 1)
    (href : s.host.otpRefused v = true) (hmov : s.chip.moversOff) :
    Answers c s (fun t => t.st = s.chip.st ∧ tst (t.rd 0 0x14) 13 = true ∧ t.rd 0 0x3E = s.chip.rd 0 0x3E ∧
      t.rd spFault 0 = s.chip.rd spFault 0 + 1) := by
  obtain ⟨off, lo, heq⟩ := Chip.writeOtpctl_refused (m := s.host) hotp hn href
  obtain ⟨hst, hbit, hctl, hcount⟩ := lockViolation_leaves (m := s.host) 7 off lo 0 false (reaches_core hr (by decide)) hmov
  refine answers_otpctl hexec hr ?_
  rw [heq, Chip.settle_st, Chip.rd_settle, Chip.rd_settle, Chip.rd_settle]
  exact ⟨hst, hbit, hctl, hcount⟩

theorem prog_starts (hr : s.reaches 0 0x3E) (hotp : s.chip.st.otp = none) (h15 : tst v 15 = true) (h14 : tst v 14 = false)
    (h13 : tst v 13 = false) (hfree : s.chip.otpLocked (fld (s.chip.rd spOtp 0x1000) 0 12) = false) (hwarn : s.chip.warn = false) :
    Answers (.prog v) s (fun t => t.st = { s.chip.st with
        otp := some (.prog (fld (s.chip.rd spOtp 0x1000) 0 12) (s.chip.rd spOtp 0x1001) false) } ∧
      WordsKept s.chip t [(0, 0x3E)]) := by
  have hrd {sp off : Nat} (h : ¬key sp off = key 0 0x3E) := rd_otpctl_kept s.host v h
  have hw : (s.host.plainWrite 0 0x3E v).warn = false := by
    unfold Chip.warn
    rw [hrd (by decide)]
    exact hwarn
  have hprog : s.host.writeOtpctl v = { s.host.plainWrite 0 0x3E v with st := { s.chip.st with
        otp := some (.prog (fld (s.chip.rd spOtp 0x1000) 0 12) (s.chip.rd spOtp 0x1001) false) } } := by
    rw [Chip.writeOtpctl_single (m := s.host) hotp (by rw [h15, h14, h13]; decide) ((Chip.otpRefused_prog h15 h14).trans hfree),
      if_pos h15]
    unfold Chip.otpProg
    rw [hw, if_neg (by decide), hrd (by decide), hrd (by decide), Chip.plainWrite_st]
    rfl
  have hk := ((onlyThese_host s [(0, 0x3E)]).plainWrite v List.mem_cons_self).2
  refine answers_otpctl rfl hr ?_
  rw [hprog]
  exact ⟨rfl, hk⟩

theorem glock_starts (hr : s.reaches 0 0x3E) (hotp : s.chip.st.otp = none) (h15 : tst v 15 = false) (h14 : tst v 14 = false)
    (h13 : tst v 13 = true) :
    Answers (.glock v) s (fun t => t.st = { s.chip.st with otp := some (.glock (fld v 0 2)) } ∧ WordsKept s.chip t [(0, 0x3E)]) := by
  have hk := ((onlyThese_host s [(0, 0x3E)]).plainWrite v List.mem_cons_self).2
  refine answers_otpctl rfl hr ?_
  rw [Chip.writeOtpctl_single (m := s.host) hotp (by rw [h15, h14, h13]; decide) (Chip.otpRefused_glock h15 h14),
    if_neg (by rw [h15]; decide), if_neg (by rw [h14]; decide), if_pos h13]
  exact ⟨rfl, hk⟩

end

/-! ## Lists of words that are written -/

theorem Chip.rd_wrList_before (m : Chip) {sp off o : Nat} (l : List Word) (h : o < off) :
    (m.wrList sp off l).rd sp o = m.rd sp o := by
  induction l generalizing m off with
  | nil => rfl
  | cons v l ih =>
    rw [Chip.wrList, ih _ (Nat.lt_succ_of_lt h), Chip.rd_wr, if_neg (by rw [key_same]; omega)]

/-- Words that are all written with 0 read 0. -/
theorem Chip.rd_wrList_zeros (m : Chip) (sp off : Nat) {n i : Nat} (hi : i < n) :
    (m.wrList sp off (List.replicate n 0)).rd sp (off + i) = 0 := by
  induction n generalizing m off i with
  | zero => exact absurd hi (Nat.not_lt_zero i)
  | succ n ih =>
    rw [List.replicate_succ, Chip.wrList]
    cases i with
    | zero => exact (Chip.rd_wrList_before _ _ (Nat.lt_succ_self off)).trans ((Chip.rd_wr _ _ _ _ _ _).trans (if_pos rfl))
    | succ i =>
      rw [show off + (i + 1) = off + 1 + i by omega]
      exact ih _ _ (Nat.lt_of_succ_lt_succ hi)

section
variable {s : State} {v : Word}

theorem keyprog_starts (hr : s.reaches 0 0x3E) (hotp : s.chip.st.otp = none) (h15 : tst v 15 = false) (h14 : tst v 14 = true)
    (h13 : tst v 13 = false) (hprog : tst (s.chip.rd spOtp 0xC10) (fld v 4 1) = false)
    (hlock : tst (s.chip.rd spOtp 0xC11) (fld v 4 1) = false) :
    Answers (.keyprog v) s (fun t => t.st = { s.chip.st with
        otp := some (.key (fld v 4 1) ((List.range 8).map (fun i => s.chip.rd spOtp (0x1008 + i)))) } ∧
      (∀ i, i < 8 → t.rd spOtp (0x1008 + i) = 0)) := by
  have href : s.host.otpRefused v = false := by
    rw [Chip.otpRefused_keyprog h15 h14, State.host_rd, State.host_rd, hprog, hlock]
    rfl
  have hws : (List.range 8).map (fun i => (s.host.plainWrite 0 0x3E v).rd spOtp (0x1008 + i)) =
      (List.range 8).map (fun i => s.chip.rd spOtp (0x1008 + i)) :=
    List.map_congr_left fun i hi => (rd_otpctl_kept s.host v (by rw [show spOtp = 7 from rfl]; unfold key; omega)).trans rfl
  have hkey : s.host.writeOtpctl v = Chip.clearKeystg { s.host.plainWrite 0 0x3E v with st := { s.chip.st with
      otp := some (.key (fld v 4 1) ((List.range 8).map (fun i => s.chip.rd spOtp (0x1008 + i)))) } } := by
    rw [Chip.writeOtpctl_single (m := s.host) hotp (by rw [h15, h14, h13]; decide) href, if_neg (by rw [h15]; decide), if_pos h14]
    unfold Chip.otpKeyprog
    rw [hws, Chip.plainWrite_st]
    rfl
  refine answers_otpctl rfl hr ?_
  rw [hkey]
  refine ⟨?_, fun i hi => ?_⟩
  · unfold Chip.clearKeystg
    obtain ⟨r, hr⟩ := Chip.wrList_words { s.host.plainWrite 0 0x3E v with st := { s.chip.st with
      otp := some (.key (fld v 4 1) ((List.range 8).map (fun i => s.chip.rd spOtp (0x1008 + i)))) } } spOtp 0x1008 (List.replicate 8 0)
    rw [hr]
    rfl
  · rw [Chip.rd_settle]
    exact Chip.rd_wrList_zeros _ spOtp 0x1008 hi

/-! ## KEYLOCK and the ends of the operations -/

theorem keylock_starts (hr : s.reaches 0 0x3F) (hotp : s.chip.st.otp = none)
    (hnew : v &&& 0x0003 &&& ~~~s.chip.rd spOtp 0xC11 ≠ 0) :
    Answers (.keylockWrite v) s (fun t => t.st = { s.chip.st with
        otp := some (.keylock (v &&& 0x0003 &&& ~~~s.chip.rd spOtp 0xC11)) } ∧ AllWordsKept s.chip t) := by
  have hw : s.host.writeKeylock v = { s.host with st := { s.chip.st with
      otp := some (.keylock (v &&& 0x0003 &&& ~~~s.chip.rd spOtp 0xC11)) } } := by
    unfold Chip.writeKeylock
    exact if_neg (by simp only [State.host_rd, show s.host.st.otp = none from hotp, hnew, Option.isSome_none, Bool.false_or, beq_iff_eq, not_false_eq_true])
  refine answers_hostWrite (f := (·.writeKeylock v)) rfl hr ?_
  rw [hw]
  exact ⟨rfl, rfl⟩

theorem keylock_nothing (hr : s.reaches 0 0x3F) (hnew : v &&& 0x0003 &&& ~~~s.chip.rd spOtp 0xC11 = 0) :
    Answers (.keylockWrite v) s (Unchanged s.chip) := by
  have hw : s.host.writeKeylock v = s.host := by
    unfold Chip.writeKeylock
    exact if_pos (by simp only [State.host_rd, hnew, beq_self_eq_true, Bool.or_true])
  refine answers_hostWrite (f := (·.writeKeylock v)) rfl hr ?_
  rw [hw]
  exact unchanged_begin s.chip 0

theorem exec_otpOpComplete {o : OtpOp} (h : s.chip.st.otp = some o) :
    exec .otpOpComplete s = guarded s s.chip.pw.core (s.chip.otpDone o) := by
  show execOtpOpComplete s = _
  unfold execOtpOpComplete
  simp only [h]

/-- What an operation burns into one word. -/
theorem otp_burns {o : OtpOp} {w : Nat} {b : Word} (hcore : s.chip.pw.core = true) (ho : s.chip.st.otp = some o)
    (hdone : s.chip.otpDone o = Chip.burn { s.chip with st := { s.chip.st with otp := none } } w b) :
    Answers .otpOpComplete s (fun t => t.rd spOtp w = s.chip.rd spOtp w ||| b ∧ t.st = { s.chip.st with otp := none } ∧
      WordsKept s.chip t [(spOtp, w)]) := by
  refine answers_guarded (exec_otpOpComplete ho) hcore ?_
  rw [hdone, Chip.rd_settle]
  refine ⟨?_, rfl, ?_⟩
  · exact (Chip.rd_orBits _ _ _ _ _ _).trans (if_pos rfl)
  · exact WordsKept.orBits (t := { s.chip with st := { s.chip.st with otp := none } }) (WordsKept.refl s.chip _) b List.mem_cons_self

/-- A word that is programmed in full leaves no fault. -/
theorem Chip.otpDone_prog (m : Chip) (w : Nat) (v : Word) :
    m.otpDone (.prog w v false) = Chip.burn { m with st := { m.st with otp := none } } w v := by
  unfold Chip.otpDone
  dsimp only
  rw [if_neg (c := false = true) (by decide)]
  exact if_pos ((Chip.rd_orBits _ _ _ _ _ _).trans (if_pos rfl))

end

/-- Settles O51: what OTPCTL and KEYLOCK refuse, start and change nothing by, and the word that each operation burns. -/
theorem oneTimeProgramming : Obligations.OneTimeProgramming := by
  unfold Obligations.OneTimeProgramming
  refine ⟨fun s v hr => ⟨fun h => ⟨otpctl_several rfl hr h, otpctl_several rfl hr h, otpctl_several rfl hr h⟩,
      fun hotp h15 h14 h13 => ⟨fun hfree hwarn => prog_starts hr hotp h15 h14 h13 hfree hwarn, fun hlock hmov => ?_⟩,
      fun hotp h15 h14 h13 hmov hlock => ?_,
      fun hotp h15 h14 h13 hprog hlock => keyprog_starts hr hotp h15 h14 h13 hprog hlock,
      fun hotp h15 h14 h13 => glock_starts hr hotp h15 h14 h13⟩,
    fun s v hr hotp => ⟨fun hnew => keylock_starts hr hotp hnew, fun hnew => keylock_nothing hr hnew⟩,
    fun s hcore => ⟨fun o ho => completes_guarded (exec_otpOpComplete ho) hcore,
      fun w v ho => otp_burns hcore ho (Chip.otpDone_prog s.chip w v), fun g ho => otp_burns hcore ho rfl,
      fun b ho => otp_burns hcore ho rfl⟩⟩
  · exact otpctl_refused rfl hr hotp (by rw [h15, h14, h13]; decide) ((Chip.otpRefused_prog h15 h14).trans hlock) hmov
  · refine otpctl_refused rfl hr hotp (by rw [h15, h14, h13]; decide) ?_ hmov
    rw [Chip.otpRefused_keyprog h15 h14, State.host_rd, State.host_rd]
    simpa only [Bool.or_eq_true] using hlock

end Sys2Proof.Machine
end


section
/-! PROOFS. What the pool's operations write, and the waveform ports. -/

namespace Sys2Proof.Machine
-- What the steps below change is compared with the model by unfolding: one elaboration at a time.
set_option Elab.async false

/-! ## The words that the pool writes -/

/-- The words of the spaces between the direct map and the pool, and above the pool, are as they were. -/
def PoolWords (o m : Chip) : Prop :=
  ∀ sp off, sp ≠ 0 → sp ≠ spPool → off < 0x1000000 → m.rd sp off = o.rd sp off

section
variable {o m : Chip}

theorem PoolWords.refl (m : Chip) : PoolWords m m := fun _ _ _ _ _ => rfl

theorem PoolWords.of_regs {t : Chip} (h : PoolWords o m) (hr : t.regs = m.regs) : PoolWords o t :=
  fun sp off h0 hp hoff => (congrArg (Bank.get · _) hr).trans (h sp off h0 hp hoff)

theorem PoolWords.ite {a b : Chip} {c : Prop} [Decidable c] (ha : PoolWords o a) (hb : PoolWords o b) :
    PoolWords o (if c then a else b) := by
  split
  · exact ha
  · exact hb

theorem PoolWords.wr {sp off : Nat} {v : Word} (h : PoolWords o m) (hsp : sp = 0 ∨ sp = spPool) (hoff : off < 0x1000000) :
    PoolWords o (m.wr sp off v) := by
  intro sp' off' h0 hp hoff'
  rw [Chip.rd_wr, if_neg (key_ne_of_space (by rcases hsp with rfl | rfl <;> assumption) hoff' hoff)]
  exact h sp' off' h0 hp hoff'

theorem PoolWords.orBits {sp off : Nat} {b : Word} (h : PoolWords o m) (hsp : sp = 0 ∨ sp = spPool) (hoff : off < 0x1000000) :
    PoolWords o (m.orBits sp off b) :=
  PoolWords.wr (m := { m with cyc := _ }) (h.of_regs rfl) hsp hoff

theorem PoolWords.bump {sp off n : Nat} (h : PoolWords o m) (hsp : sp = 0 ∨ sp = spPool) (hoff : off < 0x1000000) :
    PoolWords o (m.bump sp off n) :=
  PoolWords.wr (m := { m with cyc := _ }) (h.of_regs rfl) hsp hoff

theorem PoolWords.raise {n : Nat} (h : PoolWords o m) (hn : n < 32) : PoolWords o (m.raise n) := by
  unfold Chip.raise
  exact .ite (h.orBits (.inl rfl) (by omega)) (h.of_regs rfl)

theorem PoolWords.raiseIf {c : Bool} {n : Nat} (h : PoolWords o m) (hn : n < 32) : PoolWords o (m.raiseIf c n) := by
  unfold Chip.raiseIf
  exact .ite (h.raise hn) h

theorem PoolWords.mapStream {s : Nat} {f : Stream → Stream} (h : PoolWords o m) : PoolWords o (m.mapStream s f) := h.of_regs rfl

theorem PoolWords.lowCheck {before after : Chip} (h : PoolWords o after) : PoolWords o (before.lowCheck after) := by
  unfold Chip.lowCheck
  exact h.raiseIf (by decide)

theorem streamOff_lt {s k : Nat} (hs : s < 8) (hk : k < 0x10) : streamOff s k < 0x1000000 := by
  unfold streamOff
  omega

theorem PoolWords.peak {s : Nat} (hs : s < 8) (h : PoolWords o m) : PoolWords o (m.peak s) := by
  unfold Chip.peak
  exact h.wr (.inr rfl) (streamOff_lt hs (by decide))

theorem PoolWords.newGroup {t : Chip} {s sz g : Nat} (hs : s < 8) (h : PoolWords o m) (hg : m.newGroup s sz = some (t, g)) :
    PoolWords o t := by
  unfold Chip.newGroup at hg
  extract_lets at hg
  split at hg
  · cases hg
    exact (h.mapStream.lowCheck).peak hs
  · cases hg

theorem PoolWords.place {t : Chip} {s sz g : Nat} (hs : s < 8) (h : PoolWords o m) (hg : m.place s sz = some (t, g)) :
    PoolWords o t := by
  unfold Chip.place at hg
  split at hg
  · split at hg
    · cases hg
      exact h.mapStream
    · exact h.newGroup hs hg
  · exact h.newGroup hs hg

theorem PoolWords.moverTaken {c src : Nat} (hc : c < 4) (h : PoolWords o m) : PoolWords o (m.moverTaken c src) := by
  unfold Chip.moverTaken
  refine .ite (h.of_regs rfl) ?_
  extract_lets m1
  have h1 : PoolWords o m1 := h.bump (.inr rfl) (by unfold moverOff; omega)
  exact h1.of_regs rfl

theorem PoolWords.accepted {s : Nat} {r : Rec} (hr : ∀ c, r.chan = some c → c < 4) (h : PoolWords o m) :
    PoolWords o (m.accepted s r) := by
  unfold Chip.accepted
  extract_lets _ m1 m2
  have h1 : PoolWords o m1 := by
    refine .ite (h.of_regs rfl) ?_
    unfold Chip.frameEndCheck
    exact h.mapStream.raiseIf (by decide)
  have h2 : PoolWords o m2 := by
    unfold m2
    split
    next c hc => exact .ite (h1.moverTaken (hr c hc)) h1
    next => exact h1
  exact .ite (h2.raiseIf (by decide)) h2

theorem PoolWords.dropRec {s : Nat} {r : Rec} (hs : s < 8) (h : PoolWords o m) : PoolWords o (m.dropRec s r) := by
  unfold Chip.dropRec Chip.flagFrame Chip.mapFrames
  exact (((h.raise (by decide)).orBits (.inl rfl) (by decide)).bump (.inr rfl) (streamOff_lt hs (by decide))).mapStream

theorem PoolWords.refuse {s : Nat} {r : Rec} {w : Refused} (hs : s < 8) (h : PoolWords o m) : PoolWords o (m.refuse s r w) := by
  unfold Chip.refuse
  extract_lets m1 hold _
  have h1 : PoolWords o m1 :=
    ((h.raise (by decide)).orBits (.inl rfl) (by decide)).bump (.inr rfl) (streamOff_lt hs (by decide))
  have h2 : PoolWords o hold := h1.mapStream
  split
  · exact h2
  · exact h2.of_regs rfl
  · exact .ite (h1.dropRec hs) h2

/-- A record that is offered to a stream. -/
theorem PoolWords.offer {s : Nat} {r : Rec} {w : Refused} (hs : s < 8) (hr : ∀ c, r.chan = some c → c < 4) (h : PoolWords o m) :
    PoolWords o (m.offer s r w) := by
  unfold Chip.offer
  refine .ite (.ite h (.ite ?_ (h.refuse hs))) (h.bump (.inr rfl) (streamOff_lt hs (by decide)))
  split
  next hp => exact (h.place hs hp).accepted hr
  next => exact h.refuse hs

end

/-! ## The waveform ports (O52) -/

section
variable (m : Chip) (p : Nat) (f : WavePort → WavePort)

theorem Chip.port_mapPort_same (hp : p < m.wave.ports.length) : (m.mapPort p f).port p = f (m.port p) := by
  simp [Chip.port, Chip.mapPort, upd, List.getD_eq_getElem?_getD, hp]

theorem Chip.port_mapPort_ne {q : Nat} (h : q ≠ p) : (m.mapPort p f).port q = m.port q := by
  simp [Chip.port, Chip.mapPort, upd, List.getD_eq_getElem?_getD, List.getElem?_modify_ne, Ne.symm h]

@[simp] theorem Chip.length_mapPort : (m.mapPort p f).wave.ports.length = m.wave.ports.length := List.length_modify ..

end

/-- A frame between two output samples. -/
theorem inputFrame_between {m : Chip} {p : Nat} (slots : List (BitVec 32)) (h : (m.port p).phase + 1 < (m.port p).ratio) :
    ∃ w : WavePort, m.inputFrame p slots = m.mapPort p (fun _ => w) ∧ w.phase = (m.port p).phase + 1 ∧
      w.inputs = (m.port p).inputs + 1 ∧ w.lastFs = m.now ∧ w.block = (m.port p).block := by
  refine ⟨_, if_pos h, rfl, rfl, rfl, rfl⟩

/-- A frame that makes an output sample. -/
theorem inputFrame_samples {m : Chip} {p : Nat} (slots : List (BitVec 32)) (h : (m.port p).ratio ≤ (m.port p).phase + 1)
    (hclosing : (m.port p).closing = false) :
    ∃ w : WavePort, m.inputFrame p slots =
        (if w.blklen.toNat ≤ w.block.length then (m.mapPort p (fun _ => w)).blockEnd p false else m.mapPort p (fun _ => w)) ∧
      w.phase = 0 ∧ w.block.length = (m.port p).block.length + 1 ∧ w.blklen = (m.port p).blklen ∧
      ((m.port p).block = [] → w.stamp = m.now) ∧ w.settle = (m.port p).settle - 1 := by
  refine ⟨_, (if_neg (Nat.not_lt.mpr h)).trans (if_neg ?_), rfl, ?_, rfl, fun hb => if_pos ?_, rfl⟩
  · exact fun hc => absurd (hclosing.symm.trans hc) (by decide)
  · exact List.length_append
  · exact congrArg List.isEmpty hb

theorem Keeps.wave {lv : Level} {o m : Chip} (h : Keeps lv o m) : m.wave = o.wave := h.part Chip.wave

theorem takeTaps_leaves (m : Chip) (p : Nat) : ∃ h, m.takeTaps p = { m with held := h } := by
  unfold Chip.takeTaps
  generalize List.range 16 = l
  induction l generalizing m with
  | nil => exact ⟨m.held, rfl⟩
  | cons i l ih =>
    obtain ⟨h, hh⟩ := ih (m.wrHeld spWave (waveOff p (0x10 + i)) (m.wreg p (0x10 + i)))
    exact ⟨h, hh⟩

/-- A block that is complete takes its number. -/
theorem blockEnd_leaves {m : Chip} {p : Nat} {short : Bool} (hp : p < m.wave.ports.length) (hoff : p < 0x1000)
    (hwaits : m.blockWaits p = false) :
    ((m.blockEnd p short).port p).block = [] ∧ ((m.blockEnd p short).port p).inputs = 0 ∧
      (m.blockEnd p short).rd32 spWave (waveOff p 8) = (m.rd32 spWave (waveOff p 8) + 1) % 0x100000000 := by
  have hdrop : m.dropWaiting p = m := by
    unfold Chip.dropWaiting
    exact if_neg (by rw [hwaits]; decide)
  unfold Chip.blockEnd
  rw [hdrop]
  extract_lets m0 w free tfs m1 seq flags width body r m2 m3
  have hm1 : m1.wave = m.wave ∧ m1.regs = m.regs := by
    unfold m1
    split
    · exact ⟨rfl, rfl⟩
    · exact ⟨rfl, rfl⟩
  have hseq : seq = m.rd32 spWave (waveOff p 8) := by
    simp only [seq, Chip.rd32, Chip.rd, hm1.2]
  have hp2 : p < m2.wave.ports.length := (congrArg (fun w => p < w.ports.length) hm1.1).mpr hp
  obtain ⟨h, hh⟩ := takeTaps_leaves (m3.offer (fld (m3.wreg p 4) 8 3) r .policy) p
  rw [hh]
  have hport : (m3.offer (fld (m3.wreg p 4) 8 3) r .policy).port p = m3.port p :=
    congrArg (fun w : Wave => w.ports.getD p WavePort.reset) (Keeps.offer (lv := .post) (Eq.refl (m3.kept .post))).wave
  have hword : PoolWords m3 (m3.offer (fld (m3.wreg p 4) 8 3) r .policy) :=
    (PoolWords.refl m3).offer (fld_lt _ 8 3) (fun c hc => nomatch hc)
  refine ⟨?_, ?_, ?_⟩
  · exact (congrArg WavePort.block (hport.trans (Chip.port_mapPort_same _ _ _ hp2)))
  · exact (congrArg WavePort.inputs (hport.trans (Chip.port_mapPort_same _ _ _ hp2)))
  · have hoff8 : waveOff p 8 + 1 < 0x1000000 := by unfold waveOff; omega
    calc (m3.offer (fld (m3.wreg p 4) 8 3) r .policy).rd32 spWave (waveOff p 8)
        = m3.rd32 spWave (waveOff p 8) := by
          rw [Chip.rd32, Chip.rd32, hword _ _ (by decide) (by decide) (by omega), hword _ _ (by decide) (by decide) hoff8]
      _ = (m1.wr32 spWave (waveOff p 8) ((seq + 1) % 0x100000000)).rd32 spWave (waveOff p 8) := rfl
      _ = (m.rd32 spWave (waveOff p 8) + 1) % 0x100000000 := by rw [Chip.rd32_wr32_same, Nat.mod_mod, hseq]


section
variable {m : Chip} {p : Nat} {x : Bool}

theorem Chip.follows_congr {t : Chip} (h0 : (t.port 0).act = (m.port 0).act) (h1 : (t.port 1).act = (m.port 1).act)
    (hf : (t.port 1).fmt = (m.port 1).fmt) : t.follows = m.follows := by
  simp only [Chip.follows, WavePort.shared, h0, h1, hf]

/-- A port that has lost frame sync. -/
def WavePort.lost (w : WavePort) : WavePort :=
  { w with lock := false, block := [], inputs := 0, flags := 0, shut := w.closing }

theorem syncLoss_leaves (hb : (m.port p).block = []) :
    m.syncLoss p x = (((m.bump spWave (waveOff p 0xB) 1).orBits spWave (waveOff p 6)
      (if x then 0x0002 else 0x0001)).mapPort p WavePort.lost).raise evWaveErr := by
  unfold Chip.syncLoss
  rw [hb]
  rfl

theorem syncLoss_port (hb : (m.port p).block = []) (hp : p < m.wave.ports.length) :
    (m.syncLoss p x).port p = (m.port p).lost := by
  rw [syncLoss_leaves hb, Chip.port, Chip.raise_wave]
  exact Chip.port_mapPort_same _ p _ hp

theorem syncLoss_port_ne {q : Nat} (hb : (m.port p).block = []) (h : q ≠ p) : (m.syncLoss p x).port q = m.port q := by
  rw [syncLoss_leaves hb, Chip.port, Chip.raise_wave]
  exact Chip.port_mapPort_ne _ p _ h

theorem syncLoss_follows (hb : (m.port p).block = []) (hp : p < m.wave.ports.length) :
    (m.syncLoss p x).follows = m.follows := by
  have hport : ∀ q, ((m.syncLoss p x).port q).act = (m.port q).act ∧ ((m.syncLoss p x).port q).fmt = (m.port q).fmt := by
    intro q
    by_cases hq : q = p
    · subst hq
      rw [syncLoss_port hb hp]
      exact ⟨rfl, rfl⟩
    · rw [syncLoss_port_ne hb hq]
      exact ⟨rfl, rfl⟩
  exact Chip.follows_congr (hport 0).1 (hport 1).1 (hport 1).2

/-- The words that a loss of frame sync writes. -/
theorem syncLoss_words (hb : (m.port p).block = []) (hp : p < 3) (hcore : m.pw.core = true) :
    (m.syncLoss p x).rd spWave (waveOff p 0xB) = satAdd (m.rd spWave (waveOff p 0xB)) 1 ∧
      (m.syncLoss p x).rd spWave (waveOff p 6) = m.rd spWave (waveOff p 6) ||| (if x then 0x0002 else 0x0001) ∧
      tst ((m.syncLoss p x).rd 0 0x13) 15 = true ∧
      WordsKept m (m.syncLoss p x) [(spWave, waveOff p 0xB), (spWave, waveOff p 6), (0, 0x13)] := by
  rw [syncLoss_leaves hb]
  have hk : key spWave (waveOff p 0xB) ≠ key 0 (0x13 + evWaveErr / 16) ∧ key spWave (waveOff p 6) ≠ key 0 (0x13 + evWaveErr / 16) ∧
      key spWave (waveOff p 0xB) ≠ key spWave (waveOff p 6) := by
    unfold key waveOff spWave evWaveErr
    omega
  have hcore' : (((m.bump spWave (waveOff p 0xB) 1).orBits spWave (waveOff p 6)
      (if x then 0x0002 else 0x0001)).mapPort p WavePort.lost).pw.core = true := hcore
  have hmap : ∀ (t : Chip) (f : WavePort → WavePort) (sp off : Nat), (t.mapPort p f).rd sp off = t.rd sp off :=
    fun _ _ _ _ => rfl
  refine ⟨?_, ?_, ?_, ?_⟩
  · rw [Chip.rd_raise _ _ _ _ hcore', if_neg hk.1, hmap, Chip.rd_orBits, if_neg hk.2.2, Chip.rd_bump, if_pos rfl]
  · rw [Chip.rd_raise _ _ _ _ hcore', if_neg hk.2.1, hmap, Chip.rd_orBits, if_pos rfl, Chip.rd_bump, if_neg hk.2.2.symm]
  · rw [Chip.rd_raise _ _ _ _ hcore', if_pos (by decide)]
    exact tst_or_bitW _ (by decide)
  · have h1 := ((WordsKept.refl m [(spWave, waveOff p 0xB), (spWave, waveOff p 6), (0, 0x13)]).bump (sp := spWave)
      (off := waveOff p 0xB) 1 (by simp)).orBits (sp := spWave) (off := waveOff p 6) (if x then 0x0002 else 0x0001) (by simp)
    exact WordsKept.raise (n := evWaveErr) (t := ((m.bump spWave (waveOff p 0xB) 1).orBits spWave (waveOff p 6)
      (if x then 0x0002 else 0x0001)).mapPort p WavePort.lost) h1 (by simp [evWaveErr])

/-- The port with the configuration of its registers, from a fresh start. -/
def Chip.freshPort (m : Chip) (p : Nat) (w : WavePort) : WavePort :=
  let w := { w with fmt := m.wreg p 0, chmask := m.wreg p 1, dec := m.wreg p 4, blklen := m.wreg p 5 }
  { w with hist := List.replicate 8 [], phase := 0, settle := settleOf w.ratio, block := [], settled := 0, flags := 0,
           inputs := 0, resync := true, lock := true }

theorem syncGain_leaves (m : Chip) (p : Nat) :
    ∃ h, m.syncGain p = Chip.mapPort { m with held := h } p (m.freshPort p) := by
  obtain ⟨h, hh⟩ := takeTaps_leaves m p
  refine ⟨h, ?_⟩
  unfold Chip.syncGain Chip.resyncPort
  rw [hh]
  simp only [Chip.mapPort, upd, List.modify_modify_eq]
  rfl

theorem syncGain_port (hp : p < m.wave.ports.length) : (m.syncGain p).port p = m.freshPort p (m.port p) := by
  obtain ⟨h, hh⟩ := syncGain_leaves m p
  rw [hh]
  exact Chip.port_mapPort_same { m with held := h } p _ hp

theorem syncGain_port_ne {q : Nat} (h : q ≠ p) : (m.syncGain p).port q = m.port q := by
  obtain ⟨b, hh⟩ := syncGain_leaves m p
  rw [hh]
  exact Chip.port_mapPort_ne { m with held := b } p _ h

theorem syncGain_words (m : Chip) (p : Nat) : AllWordsKept m (m.syncGain p) := by
  obtain ⟨h, hh⟩ := syncGain_leaves m p
  rw [hh]
  rfl

theorem syncGain_follows_zero (hp : 0 < m.wave.ports.length) : (m.syncGain 0).follows = m.follows := by
  refine Chip.follows_congr ?_ ?_ ?_
  · rw [syncGain_port hp]
    rfl
  · rw [syncGain_port_ne (by decide)]
  · rw [syncGain_port_ne (by decide)]

end

section
variable {s : State} {x : Bool}

theorem blockWaits_mapPort (m : Chip) (p q : Nat) (f : WavePort → WavePort) : (m.mapPort p f).blockWaits q = m.blockWaits q := rfl

/-- An input frame between two output samples. -/
theorem wpInputFrame_between {p : Fin 2} {slots : List (BitVec 32)} {w : WavePort} (hs : s.chip.shaped)
    (hcore : s.chip.pw.core = true) (hw : w = s.chip.port p.val) (hact : w.act = true) (hshut : w.shut = false)
    (hopen : s.chip.frameOpens p.val = true) (hph : w.phase + 1 < w.ratio) :
    Answers (.wpInputFrame p slots) s (fun t => (t.port p.val).phase = w.phase + 1 ∧
      (t.port p.val).inputs = w.inputs + 1 ∧ (t.port p.val).lastFs = s.chip.tb.stb ∧ (t.port p.val).block = w.block ∧
      AllWordsKept s.chip t ∧ t.streams = s.chip.streams) := by
  subst hw
  have hp : p.val < s.chip.wave.ports.length := hs.ports ▸ Nat.lt_succ_of_lt p.isLt
  have hport := Chip.port_mapPort_same s.chip p.val (fun w => { w with edge := false }) hp
  obtain ⟨w', hw', h1, h2, h3, h4⟩ := inputFrame_between (m := s.chip.frameTaken p.val) (p := p.val) slots (by
    rw [Chip.frameTaken, hport]
    exact hph)
  refine answers_leaves (m := (s.chip.frameTaken p.val).inputFrame p.val slots) rfl (by simp [hcore, hact, hshut, hopen]) ?_
  rw [hw', Chip.port_mapPort_same _ _ _ (by simpa [Chip.frameTaken] using hp)]
  rw [Chip.frameTaken, hport] at h1 h2 h4
  exact ⟨h1, h2, h3, h4, rfl, rfl⟩

/-- An input frame that makes an output sample. -/
theorem wpInputFrame_samples {p : Fin 2} {slots : List (BitVec 32)} {w : WavePort} (hs : s.chip.shaped)
    (hcore : s.chip.pw.core = true) (hw : w = s.chip.port p.val) (hact : w.act = true) (hshut : w.shut = false)
    (hclosing : w.closing = false) (hopen : s.chip.frameOpens p.val = true) (hph : w.ratio ≤ w.phase + 1) :
    (w.block.length + 1 < w.blklen.toNat →
      Answers (.wpInputFrame p slots) s (fun t => (t.port p.val).phase = 0 ∧
        (t.port p.val).block.length = w.block.length + 1 ∧ (w.block = [] → (t.port p.val).stamp = s.chip.tb.stb) ∧
        (t.port p.val).settle = w.settle - 1 ∧ AllWordsKept s.chip t ∧ t.streams = s.chip.streams)) ∧
    (w.blklen.toNat ≤ w.block.length + 1 → s.chip.blockWaits p.val = false →
      Answers (.wpInputFrame p slots) s (fun t => (t.port p.val).block = [] ∧ (t.port p.val).inputs = 0 ∧
        t.rd32 spWave (waveOff p.val 8) = (s.chip.rd32 spWave (waveOff p.val 8) + 1) % 0x100000000)) := by
  subst hw
  have hp : p.val < s.chip.wave.ports.length := hs.ports ▸ Nat.lt_succ_of_lt p.isLt
  have hport := Chip.port_mapPort_same s.chip p.val (fun w => { w with edge := false }) hp
  have hguard : (s.chip.pw.core && (s.chip.port p.val).act && !(s.chip.port p.val).shut && s.chip.frameOpens p.val) = true := by
    simp [hcore, hact, hshut, hopen]
  obtain ⟨w', hw', h1, h2, h3, h4, h5⟩ := inputFrame_samples (m := s.chip.frameTaken p.val) (p := p.val) slots
    (by rw [Chip.frameTaken, hport]; exact hph) (by rw [Chip.frameTaken, hport]; exact hclosing)
  rw [Chip.frameTaken, hport] at h2 h3 h4 h5
  have hp1 : p.val < (s.chip.frameTaken p.val).wave.ports.length := by simpa [Chip.frameTaken] using hp
  constructor
  · intro hlen
    refine answers_leaves (m := (s.chip.frameTaken p.val).inputFrame p.val slots) rfl hguard ?_
    rw [hw', if_neg (by rw [h2, h3]; exact Nat.not_le.mpr hlen), Chip.port_mapPort_same _ _ _ hp1]
    exact ⟨h1, h2, h4, h5, rfl, rfl⟩
  · intro hlen hwait
    refine answers_leaves (m := (s.chip.frameTaken p.val).inputFrame p.val slots) rfl hguard ?_
    rw [hw', if_pos (by rw [h2, h3]; exact hlen)]
    exact blockEnd_leaves (by simpa using hp1) (by omega) (by rw [blockWaits_mapPort, Chip.frameTaken, blockWaits_mapPort, hwait])

/-- What a command of the loss of frame sync of an input port runs. -/
def Chip.syncLossWith (m : Chip) (p : Nat) (x : Bool) : Chip :=
  if p = 0 ∧ (m.syncLoss p x).follows ∧ ((m.syncLoss p x).port 1).lock then (m.syncLoss p x).syncLoss 1 x else m.syncLoss p x

theorem exec_wpSyncLoss_input {p : Fin 3} (hp : p.val ≠ 2) :
    exec (.wpSyncLoss p x) s =
      guarded s (s.chip.pw.core && (s.chip.port p.val).act && (s.chip.port p.val).lock && !(s.chip.port p.val).master p.val &&
        !(p.val == 1 && s.chip.follows)) (s.chip.syncLossWith p.val x) := if_neg hp

theorem exec_wpSyncRegained {p : Fin 3} :
    exec (.wpSyncRegained p) s =
      guarded s (s.chip.pw.core && (s.chip.port p.val).act && !(s.chip.port p.val).lock && !(p.val == 1 && s.chip.follows))
        (if p.val = 0 then (s.chip.syncGain p.val).syncWith else s.chip.syncGain p.val) := rfl

/-- The loss of frame sync of an input port that no other follows (R303). -/
theorem wpSyncLoss_alone {p : Fin 2} {w : WavePort} (hs : s.chip.shaped) (hcore : s.chip.pw.core = true)
    (hw : w = s.chip.port p.val) (hact : w.act = true) (hf : s.chip.follows = false) (hlock : w.lock = true)
    (hmaster : w.master p.val = false) (hb : w.block = []) :
    Answers (.wpSyncLoss (p.castLE (by omega)) x) s (fun t => (t.port p.val).lock = false ∧ (t.port p.val).act = true ∧
      t.rd spWave (waveOff p.val 0xB) = satAdd (s.chip.rd spWave (waveOff p.val 0xB)) 1 ∧
      t.rd spWave (waveOff p.val 6) = s.chip.rd spWave (waveOff p.val 6) ||| (if x then 0x0002 else 0x0001) ∧
      tst (t.rd 0 0x13) 15 = true ∧
      WordsKept s.chip t [(spWave, waveOff p.val 0xB), (spWave, waveOff p.val 6), (0, 0x13)]) := by
  subst hw
  have hp : p.val < s.chip.wave.ports.length := hs.ports ▸ Nat.lt_succ_of_lt p.isLt
  have hrun : s.chip.syncLossWith p.val x = s.chip.syncLoss p.val x :=
    if_neg fun h => by
      rw [syncLoss_follows hb hp, hf] at h
      exact absurd h.2.1 (by decide)
  have hport := syncLoss_port (x := x) hb hp
  have hexec := exec_wpSyncLoss_input (s := s) (x := x) (p := p.castLE (by omega)) (Nat.ne_of_lt p.isLt)
  rw [Fin.val_castLE, hrun] at hexec
  refine answers_leaves hexec (by simp [hcore, hact, hlock, hmaster, hf]) ?_
  rw [hport]
  exact ⟨rfl, hact, syncLoss_words hb (Nat.lt_succ_of_lt p.isLt) hcore⟩

/-- Frame sync of an input port that no other follows (R304). -/
theorem wpSyncRegained_alone {p : Fin 2} {w : WavePort} (hs : s.chip.shaped) (hcore : s.chip.pw.core = true)
    (hw : w = s.chip.port p.val) (hact : w.act = true) (hf : s.chip.follows = false) (hlock : w.lock = false) :
    Answers (.wpSyncRegained (p.castLE (by omega))) s (fun t => (t.port p.val).lock = true ∧ (t.port p.val).block = [] ∧
      (t.port p.val).hist = List.replicate 8 [] ∧ (t.port p.val).resync = true ∧
      (t.port p.val).dec = s.chip.wreg p.val 4 ∧ (t.port p.val).settle = settleOf (t.port p.val).ratio ∧
      AllWordsKept s.chip t) := by
  subst hw
  have hp : p.val < s.chip.wave.ports.length := hs.ports ▸ Nat.lt_succ_of_lt p.isLt
  have hrun : (if p.val = 0 then (s.chip.syncGain p.val).syncWith else s.chip.syncGain p.val) = s.chip.syncGain p.val := by
    split
    next h0 =>
      rw [h0] at hp ⊢
      rw [Chip.syncWith, syncGain_follows_zero hp, hf]
      rfl
    next => rfl
  have hexec := exec_wpSyncRegained (s := s) (p := p.castLE (by omega))
  rw [Fin.val_castLE, hrun] at hexec
  refine answers_leaves hexec (by simp [hcore, hact, hlock, hf]) ?_
  rw [syncGain_port hp]
  exact ⟨rfl, rfl, rfl, rfl, rfl, rfl, syncGain_words s.chip p.val⟩

/-- WP1 on the clocks of WP0 loses frame sync with it. -/
theorem wpSyncLoss_follower (hs : s.chip.shaped) (hcore : s.chip.pw.core = true) (hf : s.chip.follows = true)
    (hmaster : (s.chip.port 0).master 0 = false) (hlock : (s.chip.port 0).lock = true) (hb0 : (s.chip.port 0).block = [])
    (hb1 : (s.chip.port 1).block = []) :
    Answers (.wpSyncLoss 0 x) s (fun t => (t.port 0).lock = false ∧ (t.port 1).lock = false ∧
      ((s.chip.port 1).lock = true →
        t.rd spWave (waveOff 1 0xB) = satAdd (s.chip.rd spWave (waveOff 1 0xB)) 1)) := by
  have hact : (s.chip.port 0).act = true := by
    unfold Chip.follows at hf
    exact (Bool.and_eq_true _ _ ▸ hf).2
  have hlen : s.chip.wave.ports.length = 3 := hs.ports
  have h0 := syncLoss_port (x := x) hb0 (by omega)
  have h1 := syncLoss_port_ne (x := x) (q := 1) hb0 (by decide)
  refine answers_leaves (exec_wpSyncLoss_input (p := 0) (by decide)) (by simp [hcore, hact, hlock, hmaster]) ?_
  change (Chip.port (s.chip.syncLossWith 0 x) 0).lock = false ∧ (Chip.port (s.chip.syncLossWith 0 x) 1).lock = false ∧
    ((s.chip.port 1).lock = true →
      (s.chip.syncLossWith 0 x).rd spWave (waveOff 1 0xB) = satAdd (s.chip.rd spWave (waveOff 1 0xB)) 1)
  unfold Chip.syncLossWith
  rw [syncLoss_follows hb0 (by omega), hf, h1]
  cases hlock1 : (s.chip.port 1).lock with
  | false =>
    rw [if_neg (by simp), h0, h1]
    exact ⟨rfl, hlock1, fun h => absurd h (by decide)⟩
  | true =>
    have hb1' : ((s.chip.syncLoss 0 x).port 1).block = [] := by rw [h1, hb1]
    have hlen' : (s.chip.syncLoss 0 x).wave.ports.length = 3 := by
      rw [syncLoss_leaves hb0, Chip.raise_wave, Chip.length_mapPort]
      exact hlen
    have hcore' : (s.chip.syncLoss 0 x).pw.core = true := by
      rw [syncLoss_leaves hb0]
      exact (congrArg Power.core (Chip.raise_pw_on (by exact hcore))).trans hcore
    rw [if_pos ⟨rfl, rfl, rfl⟩, syncLoss_port_ne hb1' (by decide), h0, syncLoss_port hb1' (by omega),
      (syncLoss_words hb1' (by decide) hcore').1]
    refine ⟨rfl, rfl, fun _ => ?_⟩
    rw [(syncLoss_words (x := x) hb0 (by decide) hcore).2.2.2.rd (by decide)]

/-- WP1 on the clocks of WP0 regains frame sync with it. -/
theorem wpSyncRegained_follower (hs : s.chip.shaped) (hcore : s.chip.pw.core = true) (hf : s.chip.follows = true)
    (hlock : (s.chip.port 0).lock = false) (hlock1 : (s.chip.port 1).lock = false) :
    Answers (.wpSyncRegained 0) s (fun t => (t.port 0).lock = true ∧ (t.port 1).lock = true) := by
  have hact : (s.chip.port 0).act = true := by
    unfold Chip.follows at hf
    exact (Bool.and_eq_true _ _ ▸ hf).2
  have hlen : s.chip.wave.ports.length = 3 := hs.ports
  have h0 : (s.chip.syncGain 0).port 0 = s.chip.freshPort 0 (s.chip.port 0) := syncGain_port (by omega)
  have h1 : (s.chip.syncGain 0).port 1 = s.chip.port 1 := syncGain_port_ne (by decide)
  have hlen' : (s.chip.syncGain 0).wave.ports.length = 3 := by
    obtain ⟨b, hb⟩ := syncGain_leaves s.chip 0
    rw [hb, Chip.length_mapPort]
    exact hlen
  have hrun : (s.chip.syncGain 0).syncWith = (s.chip.syncGain 0).syncGain 1 := by
    rw [Chip.syncWith, syncGain_follows_zero (by omega), hf, h0, h1, hlock1]
    rfl
  refine answers_leaves exec_wpSyncRegained (by simp [hcore, hact, hlock]) ?_
  change (Chip.port ((s.chip.syncGain 0).syncWith) 0).lock = true ∧ (Chip.port ((s.chip.syncGain 0).syncWith) 1).lock = true
  rw [hrun, syncGain_port_ne (by decide), h0, syncGain_port (by omega)]
  exact ⟨rfl, rfl⟩

theorem Chip.playLoss_leaves {m : Chip} (hcore : m.pw.core = true) (hlen : 2 < m.wave.ports.length) :
    m.playLoss.wave.playing = false ∧ m.playLoss.wave.armed = false ∧ m.playLoss.wave.out = [] ∧
      m.playLoss.port 2 = { m.port 2 with lock := false } ∧ (∀ p, p < 2 → m.playLoss.port p = m.port p) ∧
      tst (m.playLoss.rd spWave (waveOff 2 6)) 1 = true ∧ tst (m.playLoss.rd 0 0x13) 15 = true := by
  unfold Chip.playLoss
  extract_lets m1 m2
  have hcore' : ({ m2 with wave := { m2.wave with playing := false, armed := false, stopAsked := false, out := [] } } :
    Chip).pw.core = true := hcore
  refine ⟨?_, ?_, ?_, ?_, fun p hp => ?_, ?_, ?_⟩
  · rw [Chip.raise_wave]
  · rw [Chip.raise_wave]
  · rw [Chip.raise_wave]
  · rw [Chip.port, Chip.raise_wave]
    exact Chip.port_mapPort_same m1 2 _ hlen
  · rw [Chip.port, Chip.raise_wave]
    exact Chip.port_mapPort_ne m1 2 _ (Nat.ne_of_lt hp)
  · rw [Chip.rd_raise _ _ _ _ hcore', if_neg (by decide)]
    change tst (((m.bump spWave (waveOff 2 0xB) 1).orBits spWave (waveOff 2 6) (bitW 1)).rd spWave (waveOff 2 6)) 1 = true
    rw [Chip.rd_orBits, if_pos rfl]
    exact tst_or_bitW _ (by decide)
  · rw [Chip.rd_raise _ _ _ _ hcore', if_pos (by decide)]
    exact tst_or_bitW _ (by decide)

/-- WP2 loses its clocks: playback stops (R311). -/
theorem wpSyncLoss_play (hs : s.chip.shaped) (hcore : s.chip.pw.core = true) (hact : (s.chip.port 2).act = true)
    (hmaster : (s.chip.port 2).master 2 = false) :
    Answers (.wpSyncLoss 2 x) s (fun t => t.wave.playing = false ∧ t.wave.armed = false ∧ t.wave.out = [] ∧
      (t.port 2).lock = false ∧ (t.port 2).act = true ∧ (∀ p, p < 2 → t.port p = s.chip.port p) ∧
      tst (t.rd spWave (waveOff 2 6)) 1 = true ∧ tst (t.rd 0 0x13) 15 = true) := by
  obtain ⟨h1, h2, h3, h4, h5, h6⟩ := Chip.playLoss_leaves hcore (by rw [hs.ports]; decide)
  have hexec : exec (.wpSyncLoss 2 x) s =
      guarded s (s.chip.pw.core && (s.chip.port 2).act && !(s.chip.port 2).master 2) s.chip.playLoss := by
    change execWpSyncLoss 2 x s = _
    unfold execWpSyncLoss
    exact if_pos rfl
  refine answers_leaves hexec (by simp [hcore, hact, hmaster]) ⟨h1, h2, h3, ?_, ?_, h5, h6⟩
  · rw [h4]
  · rw [h4, hact]

end

/-- Settles O52: input frames by the phase of the decimator and the length of the block; frame sync port by port, WP1 on WP0's
clocks with it. -/
theorem waveInput : Obligations.WaveInput := by
  unfold Obligations.WaveInput
  refine ⟨fun s p slots hcore hact hshut hopen => completes_guarded rfl (by simp [hcore, hact, hshut, hopen]),
    fun s p slots w hs hcore hw hact hshut hclosing hopen =>
      have h := wpInputFrame_samples (slots := slots) hs hcore hw hact hshut hclosing hopen
      ⟨wpInputFrame_between hs hcore hw hact hshut hopen, fun hph => (h hph).1, fun hph => (h hph).2⟩,
    fun s p x w hs hcore hw hact hf =>
      ⟨fun hlock hmaster hb => wpSyncLoss_alone hs hcore hw hact hf hlock hmaster hb,
        fun hlock => wpSyncRegained_alone hs hcore hw hact hf hlock⟩,
    fun s p hcore hact hlock hf => completes_guarded exec_wpSyncRegained ?_,
    fun s x hs hcore hf hmaster => ⟨wpSyncLoss_follower hs hcore hf hmaster, wpSyncRegained_follower hs hcore hf, ?_⟩,
    fun s x hs hcore hact hmaster => wpSyncLoss_play hs hcore hact hmaster⟩
  · by_cases hp : p.val = 1
    · simp [hcore, hact, hlock, hf hp]
    · simp [hcore, hact, hlock, hp]
  · have hexec := exec_wpSyncLoss_input (s := s) (x := x) (p := 1) (by decide)
    refine answers_of_done (m := s.chip) (hexec.trans (congrArg (done s) (if_neg ?_))) rfl
    simp [hf]

/-! ## The control of the waveform ports (O53) -/

/-- WP0 runs and is in sync; WP1 runs on its clocks, out of sync with a frame in its block; WP2 is off, with one channel chosen. -/
def waveState : State :=
  { pending := []
    chip := { Chip.reset with
      regs := Bank.putAll Chip.reset.regs [(key 0 0x3C, 0x0003), (key spWave (waveOff 2 1), 0x0001)]
      pw := { Power.reset with cur := .run, vddaon := true, ready := true, core := true }
      wave := { Wave.reset with
        ports := [{ WavePort.reset with act := true, lock := true },
          { WavePort.reset with act := true, fmt := 0x0004, block := [[0]] }, WavePort.reset] } } }

theorem wave_reaches : waveState.chip.busOn = true ∧ waveState.chip.owned 0 0x3C = true := by decide +kernel

theorem wave_shaped : waveState.chip.shaped := by
  unfold Chip.shaped
  decide +kernel

/-- WP2 starts, and WP1 is taken into sync with WP0 and starts afresh. -/
theorem wave_block : ((waveState.host.writeWpctl 0x0005).port 1).block = [] := by decide +kernel

/-- What the clearing of WP1's EN answers, of a chip that the write leaves. -/
theorem wave_answers {P : Chip → Prop} (h : Answers (.wpEnWrite 0x0005) waveState P) :
    P (waveState.host.writeWpctl 0x0005).settle := by
  obtain ⟨t, ht, _, hP⟩ := h
  have hexec : exec (.wpEnWrite 0x0005) waveState =
      .next { waveState with chip := (waveState.host.writeWpctl 0x0005).settle } :=
    hostWrite_on waveState 0 0x3C (·.writeWpctl 0x0005) wave_reaches.1 wave_reaches.2
  rw [hexec] at ht
  injection ht with ht
  rw [← ht] at hP
  exact hP

/-- Refutes O53: the clearing of WP1's EN in a write that starts WP2. The start takes WP1 into the sync of WP0, whose clocks it
uses, so that its block is dropped and not finished. -/
theorem not_waveControl : ¬Obligations.WaveControl := by
  unfold Obligations.WaveControl
  intro ⟨⟨hctl, _⟩, _⟩
  have h := ((hctl waveState 0x0005 wave_reaches wave_shaped).1 1 (by decide) (by decide) (by decide) (by decide)
    (by decide)).2 (by decide) (by decide +kernel) (by decide +kernel)
  have hheld := (wave_answers h).2.2.1
  rw [Chip.port, Chip.settle_wave] at hheld
  exact absurd (wave_block.symm.trans hheld) (by decide +kernel)

end Sys2Proof.Machine
end


section
/-! PROOFS. The camera ports, the pool and the packet mover. -/

namespace Sys2Proof.Machine
-- What the steps below change is compared with the model by unfolding: one elaboration at a time.
set_option Elab.async false

/-! ## Camera frames (O54) -/

section
variable (m : Chip) (p : Nat) (f : CamPort → CamPort)

theorem Chip.cam_mapCam_same (hp : p < m.cams.length) : (m.mapCam p f).cam p = f (m.cam p) := by
  simp [Chip.cam, Chip.mapCam, upd, List.getD_eq_getElem?_getD, hp]

theorem Chip.cam_mapCam_ne {q : Nat} (h : q ≠ p) : (m.mapCam p f).cam q = m.cam q := by
  simp [Chip.cam, Chip.mapCam, upd, List.getD_eq_getElem?_getD, List.getElem?_modify_ne, Ne.symm h]

end

section
variable {m : Chip} {p vc : Nat}

theorem Keeps.cams {o : Chip} (h : Keeps (.wide false) o m) : m.cams = o.cams := h.part Chip.cams

theorem Chip.cam_of_cams {t : Chip} (h : t.cams = m.cams) : t.cam = m.cam := by
  unfold Chip.cam
  rw [h]

theorem camFrame_of_cams {t : Chip} (h : t.cams = m.cams) : t.camFrame p vc = m.camFrame p vc := by
  unfold Chip.camFrame
  rw [Chip.cam_of_cams h]

theorem camFrame_vc {f : CamFrame} (h : m.camFrame p vc = some f) : f.vc = vc := by
  have hv : (f.vc == vc) = true := List.find?_some (p := fun f : CamFrame => f.vc == vc) h
  exact eq_of_beq hv

/-- A frame of the virtual channel that opens (R452). -/
theorem openCam_leaves {fn : Word} (hp : p < m.cams.length) (hnone : m.camFrame p vc = none) (hact : m.pipe.act ≠ p + 1) :
    ∃ f : CamFrame, f.csiFn = fn ∧ f.stamp = m.now ∧ f.route = none ∧ (m.openCam p vc fn).camFrame p vc = some f ∧
      (∀ q, q ≠ p → (m.openCam p vc fn).cam q = m.cam q) ∧ AllWordsKept m (m.openCam p vc fn) ∧
      (m.openCam p vc fn).streams = m.streams := by
  unfold Chip.openCam
  rw [if_neg hact]
  refine ⟨{ vc := vc, csiFn := fn, stamp := m.now, route := none, fn := 0, len := none, lines := 0, dt := 0, cfg := 0,
            stat := none, spilled := false }, rfl, rfl, rfl, ?_, fun q hq => Chip.cam_mapCam_ne m p _ hq, rfl, rfl⟩
  rw [Chip.camFrame, Chip.cam_mapCam_same m p _ hp, List.find?_append]
  rw [Chip.camFrame] at hnone
  rw [hnone]
  simp

/-- What the end of a camera frame leaves of the ports. -/
theorem closeCam_cams (m : Chip) (p : Nat) (f : CamFrame) (bits : Word) :
    (m.closeCam p f bits).cams = (m.mapCam p (fun c => { c with frames := c.frames.filter (fun g => g.vc != f.vc) })).cams := by
  unfold Chip.closeCam
  extract_lets m1
  have h1 : m1.cams = (m.mapCam p (fun c => { c with frames := c.frames.filter (fun g => g.vc != f.vc) })).cams :=
    congrArg (fun c => upd c p (fun c : CamPort => { c with frames := c.frames.filter (fun g => g.vc != f.vc) }))
      (Keeps.cams (Keeps.flagCam (Eq.refl (m.kept (.wide false)))))
  have h0 : Keeps (.wide false) m1 m1 := rfl
  split
  · exact (Keeps.insrcTake (Keeps.formEnds (Keeps.pipeEnd h0.update))).cams.trans h1
  · exact h0.insrcTake.cams.trans h1

theorem closeCam_frame {f : CamFrame} {bits : Word} (hp : p < m.cams.length) (hf : m.camFrame p vc = some f) :
    (m.closeCam p f bits).camFrame p vc = none := by
  rw [camFrame_of_cams (closeCam_cams m p f bits), Chip.camFrame, Chip.cam_mapCam_same m p _ hp, List.find?_eq_none]
  intro g hg
  rw [List.mem_filter, camFrame_vc hf] at hg
  simpa using hg.2

theorem OnlyThese.cams {t : Chip} {ws : List (Nat × Nat)} (h : OnlyThese m t ws) : t.cams = m.cams := by
  rw [h.1]

/-- An event of a camera port that counts, and that sets no bit. -/
theorem csiError_counts (m : Chip) (p i : Nat) :
    (m.csiError p i none).rd spCsi (portOff p (5 + i)) = satAdd (m.rd spCsi (portOff p (5 + i))) 1 ∧
      OnlyThese m (m.csiError p i none) [(spCsi, portOff p (5 + i))] := by
  unfold Chip.csiError
  exact ⟨(Chip.rd_bump ..).trans (if_pos rfl), (OnlyThese.refl m _).bump 1 (List.mem_singleton_self _)⟩

/-- An event of a camera port that counts and sets a bit of its STAT. -/
theorem csiError_flags (m : Chip) {p i b : Nat} (hp : p < 3) (hi : i < 8) (hb : b < 16) (hcore : m.pw.core = true) :
    (m.csiError p i (some b)).rd spCsi (portOff p (5 + i)) = satAdd (m.rd spCsi (portOff p (5 + i))) 1 ∧
      tst ((m.csiError p i (some b)).rd spCsi (portOff p 4)) b = true ∧
      OnlyThese m (m.csiError p i (some b)) [(spCsi, portOff p (5 + i)), (spCsi, portOff p 4), (0, 0x14)] := by
  unfold Chip.csiError
  extract_lets m1
  have hk : key spCsi (portOff p (5 + i)) ≠ key spCsi (portOff p 4) := by
    unfold key portOff spCsi
    omega
  have honly : OnlyThese m (m1.orBits spCsi (portOff p 4) (bitW b))
      [(spCsi, portOff p (5 + i)), (spCsi, portOff p 4), (0, 0x14)] :=
    ((OnlyThese.refl m _).bump 1 (by simp)).orBits _ (by simp)
  have hraise : ∀ o, o < 0x1000 → ((m1.orBits spCsi (portOff p 4) (bitW b)).raiseIf (tst (m1.rd spCsi (portOff p 3)) b) evCsiErr).rd
      spCsi o = (m1.orBits spCsi (portOff p 4) (bitW b)).rd spCsi o := fun o ho =>
    ((WordsKept.refl _ [(0, 0x14)]).raiseIf (n := evCsiErr) (by decide)).rd (by simp [key, spCsi]; omega)
  refine ⟨?_, ?_, honly.raiseIf (n := evCsiErr) hcore (by simp [evCsiErr])⟩
  · rw [hraise _ (by unfold portOff; omega), Chip.rd_orBits, if_neg hk]
    exact (Chip.rd_bump ..).trans (if_pos rfl)
  · rw [hraise _ (by unfold portOff; omega), Chip.rd_orBits, if_pos rfl]
    exact tst_or_bitW _ hb

theorem find_replaced {fs : List CamFrame} {f g : CamFrame} (hf : fs.find? (fun h => h.vc == f.vc) = some f) (hg : g.vc = f.vc) :
    (fs.map (fun h => if h.vc = g.vc then g else h)).find? (fun h => h.vc == f.vc) = some g := by
  induction fs with
  | nil => exact nomatch hf
  | cons h fs ih =>
    by_cases hv : h.vc = f.vc
    · simp [hg, hv]
    · rw [List.find?_cons_of_neg (by simpa using hv)] at hf
      rw [List.map_cons, if_neg (by rw [hg]; exact hv), List.find?_cons_of_neg (by simpa using hv)]
      exact ih hf

theorem camFrame_setCamFrame {f g : CamFrame} (hp : p < m.cams.length) (hf : m.camFrame p f.vc = some f) (hg : g.vc = f.vc) :
    (m.setCamFrame p g).camFrame p f.vc = some g := by
  rw [Chip.camFrame, Chip.setCamFrame, Chip.cam_mapCam_same _ _ _ hp]
  exact find_replaced hf hg

/-- A row of a frame that the pipeline has open and that has room in line. -/
theorem camRow_inline {f : CamFrame} {r : Nat} {vals : List Nat} (hin : m.camInline p f r = true)
    (hroom : m.pipe.inline.length < 8) (hlost : m.pipe.frames.any (fun g => g.is (p + 1) r f.fn && g.lost) = false) :
    m.camRow p f r vals = { m with pipe := { m.pipe with inline := m.pipe.inline ++
      [{ src := p + 1, id := r, fn := f.fn, plane := 0, row := f.lines, stamp := m.now, vals := vals,
         left := vals.length, bl := [], store := none }] } } := by
  unfold Chip.camRow
  extract_lets row inl m1 m2
  rw [if_neg (by rw [hlost]; decide), if_pos (by simp [inl, hin, hroom])]

/-- A line of an image frame in line. -/
theorem camLine_inline {f : CamFrame} {r dt : Nat} {vals : List Nat} {payload : List Byte} (hf : m.camFrame p f.vc = some f)
    (hlen : f.len = some vals.length) (hpass : f.passes dt = false) (hin : m.camInline p f r = true)
    (hroom : m.pipe.inline.length < 8) (hopen : m.pipe.frames.any (fun g => g.is (p + 1) r f.fn) = true)
    (hlost : m.pipe.frames.any (fun g => g.is (p + 1) r f.fn && g.lost) = false) :
    m.camLine p f r dt vals payload =
      Chip.setCamFrame { m with pipe := { m.pipe with inline := m.pipe.inline ++
        [{ src := p + 1, id := r, fn := f.fn, plane := 0, row := f.lines, stamp := m.now, vals := vals,
           left := vals.length, bl := [], store := none }] } } p
        { f with len := some vals.length, lines := f.lines + 1, dt := if f.lines = 0 then dt else f.dt } := by
  have hpipe : m.camPipe p f r dt = m := if_pos hopen
  have hfit : (vals ++ List.replicate (vals.length - vals.length) 0).take vals.length = vals := by simp
  unfold Chip.camLine
  have hframe : ∀ q : Pipe, Chip.camFrame { m with pipe := q } p f.vc = some f := fun _ => hf
  simp only [hlen, Option.getD_some, if_true, hfit, hpass, Bool.false_eq_true, if_false, hpipe, camRow_inline hin hroom hlost,
    hframe]

theorem camPacket_inline {f : CamFrame} {r dt : Nat} {vals : List Nat} {payload : List Byte} (hr : f.route = some (some r))
    (himg : imageType dt = true) : m.camPacket p f dt vals payload true = m.camLine p f r dt vals payload := by
  unfold Chip.camPacket
  simp only [hr, himg, reduceCtorEq, if_true, if_false]

end

section
variable {s : State} {p : Fin 2} {vc : Fin 16}

theorem exec_csiLongPacket (dt : Nat) (payload : List Byte) (ok : Bool) :
    exec (.csiLongPacket p vc dt payload ok) s = guarded s (s.chip.pw.pipe && (s.chip.cam p.val).act)
      (if !imageType dt && dt != 0x12 then s.chip.csiError p.val 5 none
       else (s.chip.camFrame p.val vc.val).elim (s.chip.csiError p.val 4 (some 4))
        (fun f => s.chip.camPacket p.val f dt (csiValues dt payload) payload ok)) := by
  change execCsiLongPacket p vc dt payload ok s = _
  unfold execCsiLongPacket
  dsimp only
  cases s.chip.camFrame p.val vc.val <;> rfl

theorem exec_csiLongPacket_frame {dt : Nat} {payload : List Byte} {ok : Bool} {f : CamFrame}
    (hf : s.chip.camFrame p.val vc.val = some f) (hdt : imageType dt = true ∨ dt = 0x12) :
    exec (.csiLongPacket p vc dt payload ok) s =
      guarded s (s.chip.pw.pipe && (s.chip.cam p.val).act) (s.chip.camPacket p.val f dt (csiValues dt payload) payload ok) := by
  rw [exec_csiLongPacket, hf, if_neg, Option.elim_some]
  rcases hdt with h | h <;> simp [h]

theorem exec_csiLongPacket_none {dt : Nat} {payload : List Byte} {ok : Bool} (hf : s.chip.camFrame p.val vc.val = none)
    (hdt : imageType dt = true) :
    exec (.csiLongPacket p vc dt payload ok) s =
      guarded s (s.chip.pw.pipe && (s.chip.cam p.val).act) (s.chip.csiError p.val 4 (some 4)) := by
  rw [exec_csiLongPacket, hf, if_neg (by simp [hdt]), Option.elim_none]

theorem exec_csiLongPacket_other {dt : Nat} {payload : List Byte} {ok : Bool} (hdt : imageType dt = false) (h12 : dt ≠ 0x12) :
    exec (.csiLongPacket p vc dt payload ok) s =
      guarded s (s.chip.pw.pipe && (s.chip.cam p.val).act) (s.chip.csiError p.val 5 none) := by
  rw [exec_csiLongPacket, if_pos (by simp [hdt, h12])]

/-- A frame start, with the frame that is open on its virtual channel, if any. -/
theorem exec_csiFrameStart (fn : Word) :
    exec (.csiFrameStart p vc fn) s = guarded s (s.chip.pw.pipe && s.chip.camAccepts p.val)
      (((s.chip.camFrame p.val vc.val).elim s.chip
        (fun f => (s.chip.closeCam p.val f flShort).csiError p.val 4 (some 3))).openCam p.val vc.val fn) := by
  change execCsiFrameStart p vc fn s = _
  unfold execCsiFrameStart
  dsimp only
  cases s.chip.camFrame p.val vc.val <;> rfl

/-- A frame end, with the frame that is open on its virtual channel, if any. -/
theorem exec_csiFrameEnd :
    exec (.csiFrameEnd p vc) s = guarded s (s.chip.pw.pipe && (s.chip.cam p.val).act)
      ((s.chip.camFrame p.val vc.val).elim (s.chip.csiError p.val 4 (some 4)) (fun f => s.chip.closeCam p.val f 0)) := by
  change execCsiFrameEnd p vc s = _
  unfold execCsiFrameEnd
  dsimp only
  cases s.chip.camFrame p.val vc.val <;> rfl

theorem csiLongPacket_inline {dt r : Nat} {payload : List Byte} {f : CamFrame} {vals : List Nat} (hs : s.chip.shaped)
    (hpipe : s.chip.pw.pipe = true) (hact : (s.chip.cam p.val).act = true) (hf : s.chip.camFrame p.val vc.val = some f)
    (hr : f.route = some (some r)) (himg : imageType dt = true) (hpass : f.passes dt = false) (hvals : vals = csiValues dt payload)
    (hlen : f.len = some vals.length) (hin : s.chip.camInline p.val f r = true) (hroom : s.chip.pipe.inline.length < 8)
    (hopen : s.chip.pipe.frames.any (fun g => g.is (p.val + 1) r f.fn) = true)
    (hlost : s.chip.pipe.frames.any (fun g => g.is (p.val + 1) r f.fn && g.lost) = false) :
    Answers (.csiLongPacket p vc dt payload true) s (fun t => t.pipe = { s.chip.pipe with inline := s.chip.pipe.inline ++
        [{ src := p.val + 1, id := r, fn := f.fn, plane := 0, row := f.lines, stamp := s.chip.tb.stb, vals := vals,
           left := vals.length, bl := [], store := none }] } ∧
      (t.camFrame p.val vc.val).map (·.lines) = some (f.lines + 1) ∧ AllWordsKept s.chip t) := by
  have hp : p.val < s.chip.cams.length := hs.cams ▸ Nat.lt_succ_of_lt p.isLt
  have hvc := camFrame_vc hf
  have hf' : s.chip.camFrame p.val f.vc = some f := hvc ▸ hf
  have hexec := exec_csiLongPacket_frame (payload := payload) (ok := true) hf (.inl himg)
  rw [camPacket_inline hr himg, ← hvals, camLine_inline hf' hlen hpass hin hroom hopen hlost] at hexec
  refine answers_leaves hexec (by simp [hpipe, hact]) ⟨rfl, ?_, rfl⟩
  rw [← hvc, camFrame_setCamFrame]
  · rfl
  · exact hp
  · exact hf'
  · rfl

end

/-- Settles O54: camera frames by the frame that is open on the virtual channel, and the events that only count. -/
theorem cameraFrames : Obligations.CameraFrames := by
  unfold Obligations.CameraFrames
  refine ⟨fun s p vc hs hpipe hcore => ⟨fun fn hacc hnone hact => ?_, fun fn f hacc hf => ?_, fun hact => ?_⟩,
    fun s p vc dt r payload f vals hs hpipe hact hf hr himg hpass hvals hlen hin hroom hopen hlost =>
      csiLongPacket_inline hs hpipe hact hf hr himg hpass hvals hlen hin hroom hopen hlost⟩
  · have hp : p.val < s.chip.cams.length := hs.cams ▸ Nat.lt_succ_of_lt p.isLt
    have hexec := exec_csiFrameStart (s := s) (p := p) (vc := vc) fn
    rw [hnone, Option.elim_none] at hexec
    obtain ⟨f, hfn, hstamp, hroute, hopen, hrest⟩ := openCam_leaves (fn := fn) hp hnone hact
    refine answers_leaves hexec (by simp [hpipe, hacc]) ?_
    rw [hopen]
    exact ⟨congrArg some hfn, congrArg some hstamp, congrArg some hroute, hrest⟩
  · have hexec := exec_csiFrameStart (s := s) (p := p) (vc := vc) fn
    rw [hf, Option.elim_some] at hexec
    exact completes_guarded hexec (by simp [hpipe, hacc])
  · have hp : p.val < 3 := Nat.lt_succ_of_lt p.isLt
    have hrun : (s.chip.pw.pipe && (s.chip.cam p.val).act) = true := by simp [hpipe, hact]
    have hlost := csiError_flags s.chip (i := 4) (b := 4) hp (by decide) (by decide) hcore
    refine ⟨fun f hf => ⟨fun dt payload ok hdt => completes_guarded (exec_csiLongPacket_frame hf hdt) hrun, ?_⟩,
      fun hnone => ⟨?_, fun dt payload ok hdt => ?_⟩,
      fun dt payload ok hdt h12 =>
        answers_leaves (exec_csiLongPacket_other hdt h12) hrun (csiError_counts s.chip p.val 5) fun _ h => ⟨h.1, h.2.settle⟩, ?_, ?_, ?_, ?_⟩
    · have hexec := exec_csiFrameEnd (s := s) (p := p) (vc := vc)
      rw [hf, Option.elim_some] at hexec
      exact answers_leaves hexec hrun (closeCam_frame (hs.cams ▸ hp) hf)
    · have hexec := exec_csiFrameEnd (s := s) (p := p) (vc := vc)
      rw [hnone, Option.elim_none] at hexec
      exact answers_leaves hexec hrun ⟨hlost.1, hlost.2.1, hlost.2.2.cams, hlost.2.2.2⟩
    · exact answers_leaves (exec_csiLongPacket_none hnone hdt) hrun ⟨hlost.1, hlost.2.2.cams⟩
    · have h := csiError_flags s.chip (i := 0) (b := 0) hp (by decide) (by decide) hcore
      exact answers_leaves (m := s.chip.csiError p.val 0 (some 0)) rfl hrun ⟨h.1, h.2.1, h.2.2.cams⟩
    · exact answers_leaves (m := s.chip.csiError p.val 1 none) rfl hrun (csiError_counts s.chip p.val 1) fun _ h => ⟨h.1, h.2.settle⟩
    · exact answers_leaves (m := s.chip.csiError p.val 5 none) rfl hrun (csiError_counts s.chip p.val 5) fun _ h => ⟨h.1, h.2.settle⟩
    · have h := csiError_flags s.chip (i := 2) (b := 1) hp (by decide) (by decide) hcore
      exact answers_leaves (m := s.chip.csiError p.val 2 (some 1)) rfl hrun ⟨h.1, h.2.1, h.2.2.cams⟩

/-! ## The camera ports (O55) -/

section
variable {m : Chip} {p : Nat}

theorem Keeps.dropHeld {lv : Level} {o : Chip} {s : Nat} {q : Rec × Tick × Bool × Bool → Bool} (h : Keeps lv o m) :
    Keeps lv o (m.dropHeld s q) := by
  unfold Chip.dropHeld
  split
  · exact h
  · exact (Keeps.dropRec h.mapStream).streamIdle

theorem Keeps.csiError {lv : Level} {o : Chip} {i : Nat} {b : Option Nat} (h : Keeps lv o m) : Keeps lv o (m.csiError p i b) := by
  unfold Chip.csiError
  extract_lets m1
  have h1 : Keeps lv o m1 := h.bump
  split
  · exact h1
  · exact h1.orBits.raiseIf

theorem Keeps.camOverflow {lv : Level} {o : Chip} {s : Nat} (h : Keeps lv o m) : Keeps lv o (m.camOverflow p s) := by
  unfold Chip.camOverflow
  refine h.foldl fun m _ h => ?_
  refine .ite ?_ h
  split
  · exact h
  · exact h.flagFrame.dropHeld.csiError

theorem Keeps.passLine {lv : Level} {o : Chip} {f : CamFrame} {r dt width : Nat} {payload : List Byte} (h : Keeps lv o m) :
    Keeps lv o (m.passLine p f r dt width payload) := by
  unfold Chip.passLine
  exact h.offer.camOverflow

theorem Keeps.camPipe {bd : Bool} {o : Chip} {f : CamFrame} {r dt : Nat} (h : Keeps (.wide bd) o m) :
    Keeps (.wide bd) o (m.camPipe p f r dt) := by
  unfold Chip.camPipe
  exact .ite h h.pipeOpen

/-- A row that the pipeline takes leaves a frame open on its virtual channel. -/
theorem camRow_frame {f : CamFrame} {r : Nat} {vals : List Nat} (hp : p < m.cams.length) (hf : m.camFrame p f.vc = some f) :
    ∃ g, (m.camRow p f r vals).camFrame p f.vc = some g ∧ g.vc = f.vc ∧ p < (m.camRow p f r vals).cams.length := by
  unfold Chip.camRow
  extract_lets row inl _ m1 m2
  split
  · exact ⟨f, hf, rfl, hp⟩
  · split
    · exact ⟨f, hf, rfl, hp⟩
    · have h1 : Keeps (.wide false) m m1 := by
        unfold m1
        exact .ite (Keeps.bump (Keeps.orBits (Eq.refl _))) (Eq.refl _)
      have hlen : p < m2.cams.length := by
        unfold m2 Chip.setCamFrame Chip.mapCam upd
        rw [List.length_modify, h1.cams]
        exact hp
      have hset : m2.camFrame p f.vc = some { f with spilled := true } :=
        camFrame_setCamFrame (h1.cams.symm ▸ hp) ((camFrame_of_cams h1.cams).trans hf) rfl
      have hstore : Keeps .post m2 (m2.storeRow (some f.stream) row .policy) := Keeps.offer (Eq.refl _)
      have hcams : ((m2.storeRow (some f.stream) row .policy).camOverflow p f.stream).cams = m2.cams :=
        (Keeps.camOverflow hstore).part Chip.cams
      exact ⟨_, (camFrame_of_cams hcams).trans hset, rfl, hcams.symm ▸ hlen⟩

/-- A line of an image frame counts in it. -/
theorem camLine_counts {f : CamFrame} {r dt : Nat} {vals : List Nat} {payload : List Byte} (hp : p < m.cams.length)
    (hf : m.camFrame p f.vc = some f) :
    ((m.camLine p f r dt vals payload).camFrame p f.vc).map (·.lines) = some (f.lines + 1) := by
  unfold Chip.camLine
  extract_lets n m1 fit m2
  have h1 : Keeps (.wide false) m m1 := by
    unfold m1
    exact .ite (Eq.refl _) (Keeps.flagCam (Eq.refl _))
  have h2 : ∃ g, m2.camFrame p f.vc = some g ∧ g.vc = f.vc ∧ p < m2.cams.length := by
    unfold m2
    split
    · have hpass : (m1.passLine p f r dt n (if p = 2 ∧ dt ≠ 0x1E then fit.flatMap (fun v => bytesN v 2) else
          fitBytes dt n payload)).cams = m.cams := h1.passLine.cams
      exact ⟨f, (camFrame_of_cams hpass).trans hf, rfl, hpass.symm ▸ hp⟩
    · have hpipe : (m1.camPipe p f r dt).cams = m.cams := h1.camPipe.cams
      exact camRow_frame (hpipe.symm ▸ hp) ((camFrame_of_cams hpipe).trans hf)
  obtain ⟨g, hg, hvc, hlen⟩ := h2
  rw [hg]
  have hgvc : m2.camFrame p g.vc = some g := hvc ▸ hg
  dsimp only
  rw [← hvc, camFrame_setCamFrame]
  · rfl
  · exact hlen
  · exact hgvc
  · rfl

/-- The end of a frame that no route has taken writes no word. -/
theorem closeCam_words {f : CamFrame} {bits : Word} (hr : f.route = none) : AllWordsKept m (m.closeCam p f bits) := by
  unfold Chip.closeCam Chip.flagCam Chip.insrcTake
  rw [hr]
  dsimp only
  split
  · rfl
  · rfl

theorem closeCam_pw {f : CamFrame} {bits : Word} (hr : f.route = none) : (m.closeCam p f bits).pw = m.pw := by
  unfold Chip.closeCam Chip.flagCam Chip.insrcTake
  rw [hr]
  dsimp only
  split
  · rfl
  · rfl

/-- A frame of PCAM that is lost counts and raises its event. -/
theorem pcamError_leaves (hcore : m.pw.core = true) :
    m.pcamError.rd spCsi (portOff 2 9) = satAdd (m.rd spCsi (portOff 2 9)) 1 ∧ tst (m.pcamError.rd 0 0x14) 4 = true ∧
      WordsKept m m.pcamError [(spCsi, portOff 2 9), (0, 0x14)] := by
  unfold Chip.pcamError
  have hcore' : (m.bump spCsi (portOff 2 9) 1).pw.core = true := hcore
  refine ⟨?_, ?_, ?_⟩
  · rw [Chip.rd_raise _ _ _ _ hcore', if_neg (by decide)]
    exact (Chip.rd_bump ..).trans (if_pos rfl)
  · rw [Chip.rd_raise _ _ _ _ hcore', if_pos (by decide)]
    exact tst_or_bitW _ (by decide)
  · exact WordsKept.raise (n := evPcamErr) ((WordsKept.refl m _).bump 1 (by simp)) (by simp [evPcamErr])

theorem pcamError_camFrame (m : Chip) (p vc : Nat) : m.pcamError.camFrame p vc = m.camFrame p vc := by
  refine camFrame_of_cams ?_
  unfold Chip.pcamError
  exact Keeps.cams (Keeps.raise (Keeps.bump (Eq.refl _)))

/-- The end of a PCAM frame that is cut or loses its clock. -/
theorem closeCam_pcamError {f : CamFrame} {bits : Word} (hp : 2 < m.cams.length) (hf : m.camFrame 2 0 = some f)
    (hcore : m.pw.core = true) :
    ((m.closeCam 2 f bits).pcamError).camFrame 2 0 = none ∧
      (f.route = none → ((m.closeCam 2 f bits).pcamError).rd spCsi (portOff 2 9) = satAdd (m.rd spCsi (portOff 2 9)) 1 ∧
        tst (((m.closeCam 2 f bits).pcamError).rd 0 0x14) 4 = true ∧
        WordsKept m (m.closeCam 2 f bits).pcamError [(spCsi, portOff 2 9), (0, 0x14)]) := by
  refine ⟨(pcamError_camFrame ..).trans (closeCam_frame hp hf), fun hr => ?_⟩
  obtain ⟨h1, h2, h3⟩ := pcamError_leaves (m := m.closeCam 2 f bits) (by rw [closeCam_pw hr, hcore])
  have hw : (m.closeCam 2 f bits).regs = m.regs := closeCam_words hr
  refine ⟨?_, h2, fun k hk => (h3 k hk).trans (congrArg (Bank.get · k) hw)⟩
  rw [h1, Chip.rd, hw, Chip.rd]

/-- A port that starts: its configuration goes into force. -/
theorem startCam_leaves (hp : p < m.cams.length) (hlanes : p < 2 → m.laneTwice p = false) :
    ((m.startCam p).cam p).act = true ∧ ((m.startCam p).cam p).pend = false ∧
      (∀ i, i < 3 → (m.startCam p).rdHeld spCsi (portOff p i) = (m.startCam p).rd spCsi (portOff p i)) ∧
      (∀ q, q ≠ p → (m.startCam p).cam q = m.cam q) ∧ AllWordsKept m (m.startCam p) := by
  unfold Chip.startCam
  rw [if_neg (fun h => absurd ((hlanes h.1).symm.trans h.2) (by decide))]
  extract_lets m1
  refine ⟨?_, ?_, fun i hi => ?_, fun q hq => Chip.cam_mapCam_ne m1 p _ hq, rfl⟩
  · rw [Chip.cam_mapCam_same m1 p _ hp]
  · rw [Chip.cam_mapCam_same m1 p _ hp]
  · change Bank.get m1.held (key spCsi (portOff p i)) = m.rd spCsi (portOff p i)
    have hk : ∀ i j, i < j → key spCsi (portOff p i) ≠ key spCsi (portOff p j) := by
      unfold key portOff
      omega
    change Bank.get (Bank.put (Bank.put (Bank.put m.held (key spCsi (portOff p 0)) (m.rd spCsi (portOff p 0)))
      (key spCsi (portOff p 1)) (m.rd spCsi (portOff p 1))) (key spCsi (portOff p 2)) (m.rd spCsi (portOff p 2))) _ = _
    interval_cases i
    · rw [Bank.get_put_ne _ _ (hk 0 2 (by decide)), Bank.get_put_ne _ _ (hk 0 1 (by decide)), Bank.get_put_same]
    · rw [Bank.get_put_ne _ _ (hk 1 2 (by decide)), Bank.get_put_same]
    · rw [Bank.get_put_same]

/-- A port whose lanes name one twice does not start. -/
theorem startCam_refused (hp : p < m.cams.length) (hp2 : p < 2) (hlanes : m.laneTwice p = true) :
    ((m.startCam p).cam p).act = false ∧ tst ((m.startCam p).rd spCsi (portOff p 4)) 15 = true ∧
      WordsKept m (m.startCam p) [(spCsi, portOff p 4)] := by
  unfold Chip.startCam
  rw [if_pos ⟨hp2, hlanes⟩]
  refine ⟨?_, ?_, WordsKept.orBits (t := m.mapCam p _) (WordsKept.refl m _) _ (by simp)⟩
  · exact congrArg CamPort.act (Chip.cam_mapCam_same m p _ hp)
  · rw [Chip.rd_orBits, if_pos rfl]
    exact tst_or_bitW (i := 15) _ (by decide)

end

/-! A write of a camera port's PCTL. -/

section
variable {s : State} {p : Fin 3} {v : Word}

theorem answers_pctl {P : Chip → Prop} (ho : s.opens spCsi 0) (hP : P (s.host.writePctl p.val v).settle) :
    Answers (.cameraPortEnWrite p v) s P := by
  have hw : s.host.writeSpace spCsi (portOff p.val 0) v = s.host.writePctl p.val v := by
    change s.host.writeCsi (portOff p.val 0) v = _
    have hp := p.isLt
    unfold Chip.writeCsi portOff
    rw [if_pos (by omega), Nat.add_zero, Nat.mul_div_cancel_left _ (by decide)]
  refine answers_hostWindow (sp := spCsi) rfl ho ?_
  rw [hw]
  exact hP


/-- The chip with a written PCTL and what the write asks of its port. -/
def Chip.pctlWritten (m : Chip) (p : Nat) (v : Word) (f : CamPort → CamPort) : Chip :=
  (m.plainWrite spCsi (portOff p 0) v).mapCam p f

theorem pctlWritten_words (m : Chip) (p : Nat) (v : Word) (f : CamPort → CamPort) :
    WordsKept m (m.pctlWritten p v f) [(spCsi, portOff p 0)] :=
  WordsKept.plainWrite (WordsKept.refl m _) v (by simp)

theorem pctlWritten_cam_same {m : Chip} {p : Nat} (v : Word) (f : CamPort → CamPort) (hp : p < m.cams.length) :
    (m.pctlWritten p v f).cam p = f (m.cam p) := by
  unfold Chip.pctlWritten
  rw [Chip.cam_mapCam_same]
  · rw [Chip.cam, Chip.plainWrite_cams, Chip.cam]
  · rw [Chip.plainWrite_cams]
    exact hp

theorem pctlWritten_cam_ne (m : Chip) {p q : Nat} (v : Word) (f : CamPort → CamPort) (hq : q ≠ p) :
    (m.pctlWritten p v f).cam q = m.cam q := by
  unfold Chip.pctlWritten
  rw [Chip.cam_mapCam_ne _ _ _ hq, Chip.cam, Chip.plainWrite_cams, Chip.cam]

theorem pctlWritten_length (m : Chip) (p : Nat) (v : Word) (f : CamPort → CamPort) :
    (m.pctlWritten p v f).cams.length = m.cams.length := by
  unfold Chip.pctlWritten Chip.mapCam upd
  rw [List.length_modify, Chip.plainWrite_cams]

/-- A PCTL write starts a port that is off. -/
theorem writePctl_start {m : Chip} {p : Nat} (hact : (m.cam p).act = false) (hv : tst v 15 = true) :
    m.writePctl p v = (m.pctlWritten p v (fun c => { c with pend := false })).startCam p := by
  unfold Chip.writePctl
  simp only [hact, hv, enPattern, Bool.not_false, Bool.and_self, Bool.and_false, Bool.false_and, if_true, Bool.false_eq_true,
    if_false]
  rfl

/-- A port whose EN is cleared at a tick. -/
def CamPort.stopping (now : Tick) (c : CamPort) : CamPort :=
  { c with pend := false, stopAt := if !c.pend then now else c.stopAt }

/-- A PCTL write that clears EN. -/
theorem writePctl_stop {m : Chip} {p : Nat} (hact : (m.cam p).act = true) (hen : m.camEn p = true) (hv : tst v 15 = false) :
    m.writePctl p v = m.pctlWritten p v
      (CamPort.stopping m.now) := by
  have hnow : (m.plainWrite spCsi (portOff p 0) v).now = m.now := congrArg TimeBase.stb (Chip.plainWrite_tb ..)
  unfold Chip.writePctl
  simp only [hact, hen, hv, enPattern, Bool.false_and, Bool.not_true, Bool.and_true, Bool.not_false, Bool.true_and,
    Bool.false_eq_true, if_false, hnow]
  rfl

theorem regRow_pctl (p : Fin 3) : ∃ r, regRow spCsi (portOff p.val 0) = some r ∧ r.w1c = 0 := by
  fin_cases p
  · exact ⟨_, rfl, rfl⟩
  · exact ⟨_, rfl, rfl⟩
  · exact ⟨_, rfl, rfl⟩

/-- The lanes that a written PCTL names. -/
theorem laneTwice_written (s : State) (p : Fin 3) (v : Word) (f : CamPort → CamPort) :
    (s.host.pctlWritten p.val v f).laneTwice p.val = (s.chip.plainWrite spCsi (portOff p.val 0) v).laneTwice p.val := by
  have hk : key spCsi (portOff p.val 1) ≠ key spCsi (portOff p.val 0) := by
    unfold key portOff
    omega
  have hmap : (s.host.pctlWritten p.val v f).rd spCsi (portOff p.val 1) =
      (s.chip.plainWrite spCsi (portOff p.val 0) v).rd spCsi (portOff p.val 1) :=
    (Chip.rd_plainWrite_ne s.host v hk).trans (Chip.rd_plainWrite_ne s.chip v hk).symm
  have hctl : (s.host.pctlWritten p.val v f).rd spCsi (portOff p.val 0) =
      (s.chip.plainWrite spCsi (portOff p.val 0) v).rd spCsi (portOff p.val 0) := by
    obtain ⟨r, hr, hw1c⟩ := regRow_pctl p
    exact (Chip.rd_plainWrite_merge s.host v hr hw1c).trans (Chip.rd_plainWrite_merge s.chip v hr hw1c).symm
  unfold Chip.laneTwice
  rw [hmap, hctl]

theorem pctl_cams_length (hs : s.chip.shaped) : p.val < s.host.cams.length := by
  have hlen : s.host.cams.length = 3 := hs.cams
  omega

/-- EN starts a port (R451). -/
theorem cameraPortEnWrite_starts (ho : s.opens spCsi 0) (hs : s.chip.shaped) (hact : (s.chip.cam p.val).act = false)
    (hv : tst v 15 = true) (hlanes : p.val < 2 → (s.chip.plainWrite spCsi (portOff p.val 0) v).laneTwice p.val = false) :
    Answers (.cameraPortEnWrite p v) s (fun t => (t.cam p.val).act = true ∧ (t.cam p.val).pend = false ∧
      (∀ i, i < 3 → t.rdHeld spCsi (portOff p.val i) = t.rd spCsi (portOff p.val i)) ∧
      (∀ q, q ≠ p.val → t.cam q = s.chip.cam q) ∧ WordsKept s.chip t [(spCsi, portOff p.val 0)]) := by
  have hf := writePctl_start (m := s.host) (p := p.val) hact hv
  obtain ⟨h1, h2, h3, h4, h5⟩ := startCam_leaves (m := s.host.pctlWritten p.val v (fun c => { c with pend := false }))
    (p := p.val) (by rw [pctlWritten_length]; exact pctl_cams_length hs) (fun hp => (laneTwice_written ..).trans (hlanes hp))
  refine answers_pctl ho ?_
  rw [hf]
  exact ⟨h1, h2, h3, fun q hq => (h4 q hq).trans (pctlWritten_cam_ne s.host v _ hq),
    fun k hk => (congrArg (Bank.get · k) h5).trans (pctlWritten_words s.host p.val v _ k hk)⟩

/-- EN of a port whose lanes name one twice. -/
theorem cameraPortEnWrite_refused (ho : s.opens spCsi 0) (hs : s.chip.shaped) (hact : (s.chip.cam p.val).act = false)
    (hv : tst v 15 = true) (hp : p.val < 2) (hlanes : (s.chip.plainWrite spCsi (portOff p.val 0) v).laneTwice p.val = true) :
    Answers (.cameraPortEnWrite p v) s (fun t => (t.cam p.val).act = false ∧
      tst (t.rd spCsi (portOff p.val 4)) 15 = true ∧
      WordsKept s.chip t [(spCsi, portOff p.val 0), (spCsi, portOff p.val 4)]) := by
  have hf := writePctl_start (m := s.host) (p := p.val) hact hv
  obtain ⟨h1, h2, h3⟩ := startCam_refused (m := s.host.pctlWritten p.val v (fun c => { c with pend := false })) (p := p.val)
    (by rw [pctlWritten_length]; exact pctl_cams_length hs) hp ((laneTwice_written ..).trans hlanes)
  refine answers_pctl ho ?_
  rw [hf]
  exact ⟨h1, h2, fun k hk => (h3 k fun w hw => hk w (List.mem_cons_of_mem _ hw)).trans
    (pctlWritten_words s.host p.val v _ k fun w hw => hk w (by simp_all))⟩

/-- The clearing of EN lets a port finish (R463). -/
theorem cameraPortEnWrite_stops (ho : s.opens spCsi 0) (hs : s.chip.shaped) (hact : (s.chip.cam p.val).act = true)
    (hen : s.chip.camEn p.val = true) (hv : tst v 15 = false) (hpend : (s.chip.cam p.val).pend = false) :
    Answers (.cameraPortEnWrite p v) s (fun t => (t.cam p.val).act = true ∧ (t.cam p.val).stopAt = s.chip.tb.stb ∧
      (t.cam p.val).frames = (s.chip.cam p.val).frames ∧ WordsKept s.chip t [(spCsi, portOff p.val 0)]) := by
  have hcam : (s.host.pctlWritten p.val v (CamPort.stopping s.host.now)).cam p.val = (s.chip.cam p.val).stopping s.chip.tb.stb :=
    pctlWritten_cam_same v _ (pctl_cams_length hs)
  refine answers_pctl ho ?_
  rw [writePctl_stop (m := s.host) hact hen hv]
  refine ⟨(congrArg CamPort.act hcam).trans hact, (congrArg CamPort.stopAt hcam).trans ?_, ?_,
    pctlWritten_words s.host p.val v (CamPort.stopping s.host.now)⟩
  · exact if_pos (by rw [hpend]; rfl)
  · exact (congrArg CamPort.frames hcam).trans rfl

/-- The shut-down of a port with no frame open (R463). -/
theorem cameraPortShutdownDone_idle (hs : s.chip.shaped) (hpipe : s.chip.pw.pipe = true) (hidle : s.chip.camIdle p.val = true)
    (hframes : (s.chip.cam p.val).frames = []) (hpend : (s.chip.cam p.val).pend = false) :
    Answers (.cameraPortShutdownDone p) s (fun t => (t.cam p.val).act = false ∧
      (∀ q, q ≠ p.val → t.cam q = s.chip.cam q) ∧ AllWordsKept s.chip t) := by
  have hlen : s.chip.cams.length = 3 := hs.cams
  have hclose : s.chip.closeCams p.val = s.chip := by
    unfold Chip.closeCams
    rw [hframes]
    rfl
  have hstop : s.chip.stopCam p.val = s.chip.mapCam p.val (fun c => { c with act := false }) := by
    unfold Chip.stopCam
    rw [hclose]
    exact if_neg (by rw [hpend]; decide)
  refine answers_leaves (m := s.chip.stopCam p.val) rfl (by rw [hpipe, hidle]; rfl) ?_
  rw [hstop]
  refine ⟨?_, fun q hq => Chip.cam_mapCam_ne s.chip _ _ hq, rfl⟩
  rw [Chip.cam_mapCam_same s.chip _ _ (by omega)]

end

/-! PCAM. -/

section
variable {s : State} {f : CamFrame}

theorem exec_pcamLine (vals : List Word) (hf : s.chip.camFrame 2 0 = some f) :
    exec (.pcamLine vals) s = guarded s s.chip.pcamOn (s.chip.camPacket 2 f s.chip.pcamType
      (vals.map (fun v => v.toNat % 2 ^ csiBits s.chip.pcamType))
      ((vals.map (fun v => v.toNat % 2 ^ csiBits s.chip.pcamType)).map (BitVec.ofNat 8 ·)) true) := by
  change execPcamLine vals s = _
  unfold execPcamLine
  dsimp only
  rw [hf]

theorem exec_pcamVsyncClose (x : Bool) (hf : s.chip.camFrame 2 0 = some f) :
    exec (.pcamVsyncClose x) s = guarded s s.chip.pcamOn
      (if x then (s.chip.closeCam 2 f flCamerr).pcamError else s.chip.closeCam 2 f 0) := by
  change execPcamVsyncClose x s = _
  unfold execPcamVsyncClose
  dsimp only
  rw [hf]

theorem exec_pcamPclkTimeout (hf : s.chip.camFrame 2 0 = some f) :
    exec .pcamPclkTimeout s = guarded s (s.chip.pw.pipe && (s.chip.cam 2).act)
      (s.chip.closeCam 2 f (flShort ||| flCamerr)).pcamError := by
  change execPcamPclkTimeout s = _
  unfold execPcamPclkTimeout
  dsimp only
  rw [hf]

theorem camPacket_unrouted {m : Chip} {p dt : Nat} {vals : List Nat} {payload : List Byte} (hr : f.route = some none) :
    m.camPacket p f dt vals payload true = m := by
  unfold Chip.camPacket
  simp only [hr, reduceCtorEq, if_true, if_false]

theorem pcamType_image (m : Chip) : imageType m.pcamType = true := by
  have hlt := fld_lt (m.rdHeld spCsi 0x81) 0 2
  unfold Chip.pcamType
  generalize fld (m.rdHeld spCsi 0x81) 0 2 = k at hlt
  interval_cases k <;> rfl

end

/-- Settles O55: PCAM by the frame that is open, the enable of a port by its lanes and its activity. -/
theorem cameraPorts : Obligations.CameraPorts := by
  unfold Obligations.CameraPorts
  refine ⟨fun s hs hon hcore => ⟨fun hacc hframes hact => ?_, fun f hf => ⟨fun vals hr => ?_,
      fun vals => completes_guarded (exec_pcamLine vals hf) hon, fun vals r hr => ?_, fun x => ?_, ?_⟩⟩,
    fun s p v ho hs => ⟨fun hact hv => ⟨cameraPortEnWrite_starts ho hs hact hv, cameraPortEnWrite_refused ho hs hact hv⟩,
      cameraPortEnWrite_stops ho hs⟩,
    fun s p hs hpipe hidle => ⟨completes_guarded rfl (by rw [hpipe, hidle]; rfl), cameraPortShutdownDone_idle hs hpipe hidle⟩⟩
  · have hnone : s.chip.camFrame 2 0 = none := by rw [Chip.camFrame, hframes]; rfl
    obtain ⟨f, _, hstamp, _, hopen, _, hrest⟩ := openCam_leaves (fn := 0) (by rw [hs.cams]; decide) hnone hact
    refine answers_leaves (m := s.chip.openCam 2 0 0) rfl (by simp [hon, hacc, hframes]) ?_
    rw [hopen]
    exact ⟨congrArg some hstamp, hrest⟩
  · have hexec := exec_pcamLine vals hf
    rw [camPacket_unrouted hr] at hexec
    exact answers_guarded hexec hon rfl
  · have hexec := exec_pcamLine vals hf
    rw [camPacket_inline hr (pcamType_image s.chip)] at hexec
    have hvc := camFrame_vc hf
    have hcount := camLine_counts (r := r) (dt := s.chip.pcamType)
      (vals := vals.map (fun v => v.toNat % 2 ^ csiBits s.chip.pcamType))
      (payload := (vals.map (fun v => v.toNat % 2 ^ csiBits s.chip.pcamType)).map (BitVec.ofNat 8 ·))
      (p := 2) (f := f) (by rw [hs.cams]; decide) (hvc.symm ▸ hf)
    rw [hvc] at hcount
    exact answers_leaves hexec hon hcount
  · have hexec := exec_pcamVsyncClose x hf
    have hlen : 2 < s.chip.cams.length := by rw [hs.cams]; decide
    cases x with
    | true =>
      obtain ⟨h1, h2⟩ := closeCam_pcamError (bits := flCamerr) hlen hf hcore
      exact answers_leaves hexec hon ⟨h1, fun hr _ => ⟨(h2 hr).1, (h2 hr).2.1⟩, fun _ h => absurd h (by decide)⟩
    | false =>
      exact answers_leaves hexec hon ⟨closeCam_frame hlen hf, fun _ h => absurd h (by decide), fun hr _ => closeCam_words hr⟩
  · have hon' : (s.chip.pw.pipe && (s.chip.cam 2).act) = true := by
      simp only [Chip.pcamOn, Bool.and_eq_true] at hon ⊢
      exact hon.1.1.1
    exact answers_leaves (exec_pcamPclkTimeout hf) hon' (closeCam_pcamError (by rw [hs.cams]; decide) hf hcore)

/-- A register write answers what its effect meets, where the level of IRQ_N is of no account. -/
theorem answers_hostWrite_leaves {c : Instr} {s : State} {sp off : Nat} {f : Chip → Chip} {P : Chip → Prop}
    (h : exec c s = hostWrite s sp off f) (hr : s.reaches sp off) (hP : P (f s.host))
    (hset : ∀ t : Chip, P t → P t.settle := by exact fun _ h => h) : Answers c s P :=
  answers_hostWrite h hr (hset _ hP)

/-! ## The pool and the packet mover (O56) -/

section
variable (m : Chip) (s : Nat) (f : Stream → Stream)

theorem Chip.stream_mapStream_same (hs : s < m.streams.length) : (m.mapStream s f).stream s = f (m.stream s) := by
  simp [Chip.stream, Chip.mapStream, upd, List.getD_eq_getElem?_getD, hs]

theorem Chip.stream_mapStream_ne {i : Nat} (h : i ≠ s) : (m.mapStream s f).stream i = m.stream i := by
  simp [Chip.stream, Chip.mapStream, upd, List.getD_eq_getElem?_getD, List.getElem?_modify_ne, Ne.symm h]

@[simp] theorem Chip.length_mapStream : (m.mapStream s f).streams.length = m.streams.length := List.length_modify ..

theorem Chip.mover_mapMover_same (g : Mover → Mover) (hs : s < m.movers.length) : (m.mapMover s g).mover s = g (m.mover s) := by
  simp [Chip.mover, Chip.mapMover, upd, List.getD_eq_getElem?_getD, hs]

end

section
variable {m : Chip} {s : Nat} {h : Rec × Tick × Bool × Bool} {rest : List (Rec × Tick × Bool × Bool)}

theorem Chip.place_open {b : Buf} {sz : Nat} (hb : (m.stream s).bufs.getLast? = some b) (hw : b.weight = 1)
    (hfit : b.used + sz ≤ 16384) :
    m.place s sz = some (m.mapStream s (fun t =>
      { t with bufs := t.bufs.dropLast ++ [{ b with used := b.used + sz, live := b.live + 1 }] }), b.num) := by
  unfold Chip.place
  rw [hb]
  exact if_pos ⟨hw, hfit⟩

/-- A record of no frame's end and of no waveform port joins its stream. -/
theorem Chip.accepted_plain {r : Rec} (h0 : r.dt ≠ 0) (h2 : r.dt ≠ 2) (hc : r.chan = none) (h5 : r.src ≠ 5) (h6 : r.src ≠ 6) :
    m.accepted s r = m.mapStream s (fun t => { t with recs := t.recs ++ [r] }) := by
  unfold Chip.accepted Chip.frameEndCheck
  have h2' : (r.dt == 2) = false := by simpa using h2
  simp only [h0, h2', hc, h5, h6, or_self, if_false, Chip.raiseIf, Bool.false_and, Bool.false_eq_true]

/-- The oldest held record, where the open buffer has room. -/
theorem grantHead_fits {b : Buf} (hheld : (m.stream s).held = h :: rest) (hchan : h.1.chan = none)
    (hs : s < m.streams.length) (hb : (m.stream s).bufs.getLast? = some b) (hw : b.weight = 1)
    (hfit : b.used + h.1.bytes ≤ 16384) (h0 : h.1.dt ≠ 0) (h2 : h.1.dt ≠ 2) (h5 : h.1.src ≠ 5) (h6 : h.1.src ≠ 6) :
    m.grantHead s = ((m.mapStream s (fun t => { t with held := rest })).mapStream s (fun t =>
      { t with bufs := t.bufs.dropLast ++ [{ b with used := b.used + h.1.bytes, live := b.live + 1 }] })).mapStream s
        (fun t => { t with recs := t.recs ++ [{ h.1 with buf := b.num }] }) := by
  have hr : m.refresh h.1 = h.1 := by
    unfold Chip.refresh
    rw [hchan]
  have hb' : ((m.mapStream s (fun t => { t with held := rest })).stream s).bufs.getLast? = some b := by
    rw [Chip.stream_mapStream_same m s _ hs]
    exact hb
  unfold Chip.grantHead
  rw [hheld]
  dsimp only
  rw [hr, if_neg (by simp [hchan]), Chip.place_open hb' hw hfit]
  exact Chip.accepted_plain h0 h2 hchan h5 h6

theorem grantHead_refused (hheld : (m.stream s).held = h :: rest) (hchan : h.1.chan = none)
    (hnone : (m.mapStream s (fun t => { t with held := rest })).place s h.1.bytes = none) :
    m.grantHead s = (m.raise evPoolNobuf).orBits 0 0x3A 0x4000 := by
  have hr : m.refresh h.1 = h.1 := by
    unfold Chip.refresh
    rw [hchan]
  unfold Chip.grantHead
  rw [hheld]
  dsimp only
  rw [hr, hchan, hnone]
  rfl

theorem dropHeld_head {q : Rec × Tick × Bool × Bool → Bool} (hheld : (m.stream s).held = h :: rest) (hq : q h = true) :
    m.dropHeld s q = ((m.mapStream s (fun t => { t with held := rest })).dropRec s h.1).streamIdle s := by
  unfold Chip.dropHeld
  rw [hheld, splitHeld, if_pos hq]

/-- A stream after the check whether it ends. -/
def Stream.idle (en : Bool) (t : Stream) : Stream :=
  if t.act && (t.pend || !en) && t.used == 0 && t.held.isEmpty && t.frames.isEmpty then { t with act := t.pend, pend := false }
  else t

theorem streamIdle_stream_same (hs : s < m.streams.length) : (m.streamIdle s).stream s = (m.stream s).idle (m.streamEn s) := by
  unfold Chip.streamIdle Stream.idle
  dsimp only
  split
  · exact Chip.stream_mapStream_same m s _ hs
  · rfl

theorem streamIdle_stream_ne {i : Nat} (hi : i ≠ s) : (m.streamIdle s).stream i = m.stream i := by
  unfold Chip.streamIdle
  dsimp only
  split
  · exact Chip.stream_mapStream_ne m s _ hi
  · rfl

theorem streamIdle_regs (m : Chip) (s : Nat) : (m.streamIdle s).regs = m.regs := by
  unfold Chip.streamIdle
  dsimp only
  split
  · rfl
  · rfl

theorem streamIdle_length (m : Chip) (s : Nat) : (m.streamIdle s).streams.length = m.streams.length := by
  unfold Chip.streamIdle
  dsimp only
  split
  · exact Chip.length_mapStream ..
  · rfl

theorem Stream.idle_recs (en : Bool) (t : Stream) : (t.idle en).recs = t.recs ∧ (t.idle en).held = t.held := by
  unfold Stream.idle
  split
  · exact ⟨rfl, rfl⟩
  · exact ⟨rfl, rfl⟩

/-! STREAMEN. -/

/-- A stream after a STREAMEN write, by its bit before and after. -/
def Stream.enabled (old new : Bool) (t : Stream) : Stream :=
  Stream.idle new { t with act := t.act || (enPattern t.act t.pend old new).1, pend := (enPattern t.act t.pend old new).2.1 }

theorem Stream.enabled_off {old new : Bool} {t : Stream} (h : t.act = false) : (t.enabled old new).act = new := by
  unfold Stream.enabled Stream.idle enPattern
  cases new <;> simp [h]

theorem Stream.enabled_ends {t : Stream} (hact : t.act = true) (hused : t.used = 0) (hheld : t.held = [])
    (hframes : t.frames = []) : (t.enabled true false).act = false := by
  have hu : t.ring + (t.bufs.map Buf.weight).sum = 0 := hused
  unfold Stream.enabled Stream.idle enPattern
  simp only [hact, hheld, hframes, Stream.used, hu]
  rfl

theorem Stream.enabled_recs (old new : Bool) (t : Stream) : (t.enabled old new).recs = t.recs := (Stream.idle_recs ..).1

theorem Stream.enabled_holds {old new : Bool} {t : Stream} (hact : t.act = true) (hheld : t.held ≠ []) :
    (t.enabled old new).act = true := by
  unfold Stream.enabled Stream.idle
  rw [if_neg]
  · simp [hact]
  · simp [hheld]

/-- What a STREAMEN write does to one stream. -/
def Chip.enableStream (old v : Word) (m : Chip) (s : Nat) : Chip :=
  (m.mapStream s (fun t => { t with act := t.act || (enPattern (m.stream s).act (m.stream s).pend (tst old s) (tst v s)).1,
                                    pend := (enPattern (m.stream s).act (m.stream s).pend (tst old s) (tst v s)).2.1 })).streamIdle s

theorem Chip.writeStreamen_eq (m : Chip) (v : Word) :
    m.writeStreamen v = (List.range 8).foldl (Chip.enableStream (m.rd 0 0x3B) v) (m.plainWrite 0 0x3B v) := rfl

variable {old v : Word}

theorem enableStream_same (hs : s < m.streams.length) (hen : m.streamEn s = tst v s) :
    (m.enableStream old v s).stream s = (m.stream s).enabled (tst old s) (tst v s) := by
  unfold Chip.enableStream
  rw [streamIdle_stream_same (by rw [Chip.length_mapStream]; exact hs), Chip.stream_mapStream_same m s _ hs]
  change Stream.idle (m.streamEn s) _ = _
  rw [hen]
  rfl

theorem enableStream_ne {i : Nat} (hi : i ≠ s) : (m.enableStream old v s).stream i = m.stream i :=
  (streamIdle_stream_ne hi).trans (Chip.stream_mapStream_ne m s _ hi)

theorem enableStream_regs (m : Chip) (s : Nat) : (m.enableStream old v s).regs = m.regs := streamIdle_regs ..

theorem enableStream_length (m : Chip) (s : Nat) : (m.enableStream old v s).streams.length = m.streams.length :=
  (streamIdle_length ..).trans (Chip.length_mapStream ..)

/-- What a STREAMEN write does to the streams of a list. -/
theorem enableStreams_leaves (l : List Nat) (hl : l.Nodup) (hlt : ∀ i ∈ l, i < m.streams.length)
    (hen : ∀ i ∈ l, m.streamEn i = tst v i) :
    (l.foldl (Chip.enableStream old v) m).regs = m.regs ∧
      ∀ j, (l.foldl (Chip.enableStream old v) m).stream j =
        if j ∈ l then (m.stream j).enabled (tst old j) (tst v j) else m.stream j := by
  induction l generalizing m with
  | nil => exact ⟨rfl, fun j => (if_neg (List.not_mem_nil)).symm⟩
  | cons i l ih =>
    obtain ⟨hi, hl⟩ := List.nodup_cons.mp hl
    have hregs : (m.enableStream old v i).regs = m.regs := enableStream_regs m i
    have hstep := ih (m := m.enableStream old v i) hl
      (fun k hk => by rw [enableStream_length]; exact hlt k (List.mem_cons_of_mem _ hk))
      (fun k hk => (congrArg (fun r => tst (Bank.get r (key 0 0x3B)) k) hregs).trans (hen k (List.mem_cons_of_mem _ hk)))
    refine ⟨hstep.1.trans hregs, fun j => (hstep.2 j).trans ?_⟩
    by_cases hj : j = i
    · subst hj
      rw [if_neg hi, if_pos List.mem_cons_self,
        enableStream_same (hlt j List.mem_cons_self) (hen j List.mem_cons_self)]
    · rw [enableStream_ne hj]
      simp only [List.mem_cons, hj, false_or]

end

theorem regRow_streamen : ∃ r, regRow 0 0x3B = some r ∧ r.rw = 0x00FF ∧ r.w1c = 0 := ⟨_, rfl, rfl, rfl⟩

theorem writeStreamen_leaves {m : Chip} (v : Word) (hlen : m.streams.length = 8) :
    WordsKept m (m.writeStreamen v) [(0, 0x3B)] ∧
      ∀ j, j < 8 → (m.writeStreamen v).stream j = (m.stream j).enabled (tst (m.rd 0 0x3B) j) (tst v j) := by
  have hlen' : (m.plainWrite 0 0x3B v).streams.length = 8 := by
    rw [Chip.plainWrite_streams]
    exact hlen
  obtain ⟨hregs, hstream⟩ := enableStreams_leaves (m := m.plainWrite 0 0x3B v) (old := m.rd 0 0x3B) (v := v)
    (List.range 8) List.nodup_range (fun i hi => by rw [hlen']; exact List.mem_range.mp hi) (fun i hi => by
      obtain ⟨r, hrow, hrw, hw1c⟩ := regRow_streamen
      have hi := List.mem_range.mp hi
      rw [Chip.streamEn, Chip.rd_plainWrite_merge m v hrow hw1c, hrw, tst_merge _ _ _ (by omega)]
      exact if_pos (by interval_cases i <;> rfl))
  rw [Chip.writeStreamen_eq]
  refine ⟨fun k hk => (congrArg (Bank.get · k) hregs).trans
    (WordsKept.plainWrite (WordsKept.refl m _) v (List.mem_singleton_self _) k hk), fun j hj => ?_⟩
  rw [hstream j, if_pos (List.mem_range.mpr hj), Chip.stream, Chip.plainWrite_streams, Chip.stream]

section
variable {s : State}

theorem streamEnWrite_answers {v : Word} (hr : s.reaches 0 0x3B) (hs : s.chip.shaped) :
    Answers (.streamEnWrite v) s (fun t => WordsKept s.chip t [(0, 0x3B)] ∧
      ∀ j, j < 8 → t.stream j = (s.chip.stream j).enabled (tst (s.chip.rd 0 0x3B) j) (tst v j)) := by
  exact answers_hostWrite_leaves (f := (·.writeStreamen v)) rfl hr (writeStreamen_leaves (m := s.host) v hs.streams)

variable {j : Fin 8} {h : Rec × Tick × Bool × Bool} {rest : List (Rec × Tick × Bool × Bool)}

theorem poolHoldGrant_guard (hpipe : s.chip.pw.pipe = true) (hheld : (s.chip.stream j.val).held = h :: rest)
    (hpause : h.2.2.2 = false) :
    (s.chip.pw.pipe && (s.chip.stream j.val).held.head?.any (fun h => !h.2.2.2)) = true := by
  rw [hpipe, hheld]
  simp [hpause]

/-- A held record that the open buffer has room for. -/
theorem poolHoldGrant_fits {b : Buf} (hs : s.chip.shaped) (hpipe : s.chip.pw.pipe = true)
    (hheld : (s.chip.stream j.val).held = h :: rest) (hpause : h.2.2.2 = false) (hchan : h.1.chan = none)
    (hb : (s.chip.stream j.val).bufs.getLast? = some b) (hw : b.weight = 1) (hfit : b.used + h.1.bytes ≤ 16384)
    (h0 : h.1.dt ≠ 0) (h2 : h.1.dt ≠ 2) (h5 : h.1.src ≠ 5) (h6 : h.1.src ≠ 6) :
    Answers (.poolHoldGrant j) s (fun t => (t.stream j.val).held = rest ∧
      (t.stream j.val).recs = (s.chip.stream j.val).recs ++ [{ h.1 with buf := b.num }] ∧ AllWordsKept s.chip t ∧
      (∀ i, i ≠ j.val → t.stream i = s.chip.stream i)) := by
  have hlen : j.val < s.chip.streams.length := by
    rw [hs.streams]
    exact j.isLt
  refine answers_leaves (m := s.chip.grantHead j.val) rfl (poolHoldGrant_guard hpipe hheld hpause) ?_
  rw [grantHead_fits hheld hchan hlen hb hw hfit h0 h2 h5 h6]
  rw [Chip.stream_mapStream_same _ _ _ (by simpa using hlen), Chip.stream_mapStream_same _ _ _ (by simpa using hlen),
    Chip.stream_mapStream_same _ _ _ hlen]
  refine ⟨rfl, rfl, rfl, fun i hi => ?_⟩
  rw [Chip.stream_mapStream_ne _ _ _ hi, Chip.stream_mapStream_ne _ _ _ hi, Chip.stream_mapStream_ne _ _ _ hi]

/-- A held record that finds no room. -/
theorem poolHoldGrant_refused (hpipe : s.chip.pw.pipe = true) (hcore : s.chip.pw.core = true)
    (hheld : (s.chip.stream j.val).held = h :: rest) (hpause : h.2.2.2 = false) (hchan : h.1.chan = none)
    (hnone : (s.chip.mapStream j.val (fun t => { t with held := rest })).place j.val h.1.bytes = none) :
    Answers (.poolHoldGrant j) s (fun t => t.streams = s.chip.streams ∧
      t.rd 0 0x3A = s.chip.rd 0 0x3A ||| 0x4000 ∧ tst (t.rd 0 0x14) 1 = true ∧
      WordsKept s.chip t [(0, 0x3A), (0, 0x14)]) := by
  refine answers_leaves (m := s.chip.grantHead j.val) rfl (poolHoldGrant_guard hpipe hheld hpause) ?_
  rw [grantHead_refused hheld hchan hnone]
  refine ⟨?_, ?_, ?_, ?_⟩
  · rw [Chip.orBits_streams, Chip.raise_streams]
  · rw [Chip.rd_orBits, if_pos rfl, Chip.rd_raise _ _ _ _ hcore, if_neg (by decide)]
  · rw [Chip.rd_orBits, if_neg (by decide), Chip.rd_raise _ _ _ _ hcore, if_pos (by decide)]
    exact tst_or_bitW _ (by decide)
  · exact (WordsKept.raise (n := evPoolNobuf) (WordsKept.refl s.chip _) (by simp [evPoolNobuf])).orBits _ (by simp)

/-- What the drop of a record writes. -/
theorem dropRec_leaves {m : Chip} {i : Nat} (r : Rec) (hi : i < 8) (hcore : m.pw.core = true) :
    (m.dropRec i r).rd spPool (streamOff i 7) = satAdd (m.rd spPool (streamOff i 7)) 1 ∧
      (m.dropRec i r).rd 0 0x3A = m.rd 0 0x3A ||| 0x2000 ∧ tst ((m.dropRec i r).rd 0 0x14) 2 = true := by
  have hk : key 0 0x3A ≠ key spPool (streamOff i 7) ∧ key 0 (0x13 + evStreamDrop / 16) ≠ key spPool (streamOff i 7) := by
    unfold key streamOff spPool evStreamDrop
    omega
  have hreg : ∀ sp off, (m.dropRec i r).rd sp off =
      (((m.raise evStreamDrop).orBits 0 0x3A 0x2000).bump spPool (streamOff i 7) 1).rd sp off := fun _ _ => rfl
  simp only [hreg]
  refine ⟨?_, ?_, ?_⟩
  · rw [Chip.rd_bump, if_pos rfl, Chip.rd_orBits, if_neg hk.1.symm, Chip.rd_raise _ _ _ _ hcore, if_neg hk.2.symm]
  · rw [Chip.rd_bump, if_neg hk.1, Chip.rd_orBits, if_pos rfl, Chip.rd_raise _ _ _ _ hcore, if_neg (by decide)]
  · rw [Chip.rd_bump, if_neg (by exact hk.2), Chip.rd_orBits, if_neg (by decide), Chip.rd_raise _ _ _ _ hcore, if_pos (by decide)]
    exact tst_or_bitW _ (by decide)

/-- The drop of a record leaves what its stream keeps. -/
theorem dropRec_stream {m : Chip} {i : Nat} (r : Rec) (hi : i < m.streams.length) :
    ((m.dropRec i r).stream i).recs = (m.stream i).recs ∧ ((m.dropRec i r).stream i).held = (m.stream i).held ∧
      (m.dropRec i r).streams.length = m.streams.length := by
  unfold Chip.dropRec Chip.flagFrame Chip.mapFrames
  generalize hm : ((m.raise evStreamDrop).orBits 0 0x3A 0x2000).bump spPool (streamOff i 7) 1 = m1
  have hstreams : m1.streams = m.streams := by
    rw [← hm, Chip.bump_streams, Chip.orBits_streams, Chip.raise_streams]
  have hstream : m1.stream i = m.stream i := congrArg (fun l : List Stream => l.getD i Stream.reset) hstreams
  rw [Chip.stream_mapStream_same m1 i _ (hstreams ▸ hi), Chip.length_mapStream, hstreams, hstream]
  exact ⟨rfl, rfl, rfl⟩

/-- A held record that has waited HOLDLIM (R468). -/
theorem holdlimExpiry_drops (hs : s.chip.shaped) (hpipe : s.chip.pw.pipe = true) (hcore : s.chip.pw.core = true)
    (hheld : (s.chip.stream j.val).held = h :: rest) (hforever : h.2.2.1 = false) (hpause : h.2.2.2 = false)
    (hlim : 100 * (s.chip.rd spPool (streamOff j.val 3)).toNat ≤ h.2.1.toNat) :
    Answers (.holdlimExpiry j) s (fun t => (t.stream j.val).held = rest ∧
      (t.stream j.val).recs = (s.chip.stream j.val).recs ∧
      t.rd spPool (streamOff j.val 7) = satAdd (s.chip.rd spPool (streamOff j.val 7)) 1 ∧
      t.rd 0 0x3A = s.chip.rd 0 0x3A ||| 0x2000 ∧ tst (t.rd 0 0x14) 2 = true) := by
  have hlen : j.val < s.chip.streams.length := by
    rw [hs.streams]
    exact j.isLt
  have hexec : exec (.holdlimExpiry j) s = guarded s s.chip.pw.pipe (s.chip.dropHeld j.val
      (fun h => !h.2.2.1 && !h.2.2.2 && decide (100 * (s.chip.rd spPool (streamOff j.val 3)).toNat ≤ h.2.1.toNat))) := rfl
  rw [dropHeld_head hheld (by simp [hforever, hpause, hlim])] at hexec
  obtain ⟨hrecs, hheld', hlen'⟩ := dropRec_stream (m := s.chip.mapStream j.val (fun t => { t with held := rest })) h.1
    (i := j.val) (by simpa using hlen)
  rw [Chip.stream_mapStream_same _ _ _ hlen] at hrecs hheld'
  obtain ⟨h1, h2, h3⟩ := dropRec_leaves (m := s.chip.mapStream j.val (fun t => { t with held := rest })) h.1 j.isLt hcore
  have hrd : ∀ sp off, (((s.chip.mapStream j.val (fun t => { t with held := rest })).dropRec j.val h.1).streamIdle j.val).rd sp off =
      ((s.chip.mapStream j.val (fun t => { t with held := rest })).dropRec j.val h.1).rd sp off :=
    fun sp off => congrArg (Bank.get · _) (streamIdle_regs ..)
  refine answers_leaves hexec hpipe ?_
  rw [streamIdle_stream_same (by rw [hlen']; simpa using hlen), hrd, hrd, hrd]
  exact ⟨(Stream.idle_recs ..).2.trans hheld', (Stream.idle_recs ..).1.trans hrecs, h1, h2, h3⟩

end

/-! The packet mover. -/

section
variable {m : Chip} {c : Nat}

theorem entryBytes_length (e : Word × Word × Tick) : (entryBytes e).length = 12 := rfl

/-- The record of the HKC's results. -/
def Chip.hkcRec (m : Chip) (c : Nat) : Rec :=
  { dt := 0x31, fn := m.cc.lastFn, ctx := 15, src := 7, stratum := 0, window := 0, odt := 0, lineStart := [],
    payload := m.moverPayload c 7, framed := false, sent := 0, buf := 0, chan := some c }

theorem hkcRec_bytes (m : Chip) (c : Nat) : (m.hkcRec c).bytes = 12 * m.moverTake c + 64 := by
  have hlen : (m.hkcRec c).payload.length = 12 * m.moverTake c := by
    unfold Chip.hkcRec Chip.moverPayload
    rw [if_pos rfl, List.length_flatMap, List.map_congr_left (fun e _ => entryBytes_length e), List.map_const', List.sum_replicate,
      List.length_take, Chip.moverTake]
    simp
    omega
  rw [Rec.bytes, hlen]

theorem moverRecs_hkc (hkind : fld (m.rd spPool (moverOff c 0)) 12 2 = 0) (htake : m.moverTake c ≠ 0) :
    m.moverRecs c = [m.hkcRec c] := by
  have hlen := hkcRec_bytes m c
  have hne : (m.hkcRec c).payload.isEmpty = false := by
    rw [Rec.bytes] at hlen
    rw [List.isEmpty_eq_false_iff_exists_mem, ← List.length_pos_iff_exists_mem]
    omega
  unfold Chip.moverRecs
  simp only [hkind, if_true]
  rw [if_neg (by decide)]
  exact if_neg fun h => absurd (hne.symm.trans h) (by decide)

/-- A record of the HKC's results joins its stream, and the queue gives its entries up. -/
theorem accepted_hkc {s : Nat} {r : Rec} (hdt : r.dt = 0x31) (hsrc : r.src = 7) (hc : r.chan = some c) :
    m.accepted s r = { m.mapStream s (fun t => { t with recs := t.recs ++ [r] }) with
      hkc := { m.hkc with queue := m.hkc.queue.drop (m.moverTake c) } } := by
  unfold Chip.accepted Chip.frameEndCheck Chip.moverTaken
  simp only [hdt, hsrc, hc]
  rfl

/-- A stream that takes a record into its open buffer. -/
def Stream.takes (b : Buf) (r : Rec) (t : Stream) : Stream :=
  { t with bufs := t.bufs.dropLast ++ [{ b with used := b.used + r.bytes, live := b.live + 1 }]
           recs := t.recs ++ [{ r with buf := b.num }] }

/-- The chip with the queue's entries in a record of a stream. -/
def Chip.hkcCopied (m : Chip) (c σ : Nat) (b : Buf) : Chip :=
  { m.mapStream σ (Stream.takes b (m.hkcRec c)) with hkc := { m.hkc with queue := m.hkc.queue.drop (m.moverTake c) } }

variable {σ : Nat} {b : Buf}

theorem hkcCopied_stream (hlen : σ < m.streams.length) :
    (m.hkcCopied c σ b).stream σ = (m.stream σ).takes b (m.hkcRec c) := Chip.stream_mapStream_same m σ _ hlen

theorem offer_hkc (hact : (m.stream σ).act = true) (hpend : (m.stream σ).pend = false) (hen : m.streamEn σ = true)
    (hheld : (m.stream σ).held = []) (hframes : (m.stream σ).frames = []) (hb : (m.stream σ).bufs.getLast? = some b)
    (hw : b.weight = 1) (hfit : b.used + 12 * m.moverTake c + 64 ≤ 16384) :
    m.offer σ (m.hkcRec c) .policy = m.hkcCopied c σ b := by
  have haccepts : m.accepts σ (m.hkcRec c) = true := by
    unfold Chip.accepts
    dsimp only
    rw [hact, hpend, hen]
    rfl
  unfold Chip.offer
  rw [if_pos haccepts, if_neg (by simp [hframes]), if_pos (by simp [hheld]),
    Chip.place_open hb hw (by rw [hkcRec_bytes]; omega)]
  dsimp only
  rw [accepted_hkc (c := c) rfl rfl rfl]
  unfold Chip.hkcCopied Chip.mapStream upd
  rw [List.modify_modify_eq]
  rfl

theorem hkcCopied_owes (hlen : σ < m.streams.length) : (m.hkcCopied c σ b).moverOwes c = true := by
  have hlen' : σ < (m.hkcCopied c σ b).streams.length := by
    rw [show (m.hkcCopied c σ b).streams.length = m.streams.length from Chip.length_mapStream ..]
    exact hlen
  have hmem : (m.hkcCopied c σ b).stream σ ∈ (m.hkcCopied c σ b).streams := by
    rw [Chip.stream, List.getD_eq_getElem _ _ hlen']
    exact List.getElem_mem hlen'
  unfold Chip.moverOwes
  rw [Bool.or_eq_true, List.any_eq_true]
  refine .inl ⟨_, hmem, ?_⟩
  rw [hkcCopied_stream hlen]
  simp [Stream.takes, Chip.hkcRec]

/-- An HKC channel that starts with room in its stream's open buffer. -/
theorem moverStart_hkc (hσ : σ = fld (m.rd spPool (moverOff c 0)) 8 3) (hlen : σ < m.streams.length)
    (hkind : fld (m.rd spPool (moverOff c 0)) 12 2 = 0) (htake : m.moverTake c ≠ 0) (hact : (m.stream σ).act = true)
    (hpend : (m.stream σ).pend = false) (hen : m.streamEn σ = true) (hheld : (m.stream σ).held = [])
    (hframes : (m.stream σ).frames = []) (hb : (m.stream σ).bufs.getLast? = some b) (hw : b.weight = 1)
    (hfit : b.used + 12 * m.moverTake c + 64 ≤ 16384) :
    m.moverStart c = (m.hkcCopied c σ b).mapMover c (fun x => { x with busy := true, stat := false }) := by
  unfold Chip.moverStart
  rw [moverRecs_hkc hkind htake, ← hσ]
  dsimp only [List.foldl_cons, List.foldl_nil]
  rw [offer_hkc hact hpend hen hheld hframes hb hw hfit, hkcCopied_owes hlen]
  have hcfg : fld ((m.hkcCopied c σ b).rd spPool (moverOff c 0)) 12 2 = 0 := hkind
  simp only [hcfg]
  rfl

end

section
variable {s : State} {c : Fin 4} {cfg : Word}

theorem moverRequest_on (hcfg : cfg = s.chip.rd spPool (moverOff c.val 0)) (hen : tst cfg 15 = true)
    (hpend : (s.chip.mover c.val).pend = false) (hact : (s.chip.mover c.val).act = true) (hpipe : s.chip.pw.pipe = true) :
    s.chip.moverRequest c.val = if (s.chip.mover c.val).busy then
      if (s.chip.mover c.val).heldReq then s.chip.bump spPool (moverOff c.val 3) 1
      else s.chip.mapMover c.val (fun x => { x with heldReq := true }) else s.chip.moverStart c.val := by
  unfold Chip.moverRequest
  rw [← hcfg]
  simp only [hact, hen, hpend, hpipe, Bool.not_false, Bool.and_self, if_true]

theorem answers_moverRequest {P : Chip → Prop} (h : P (s.chip.moverRequest c.val))
    (hset : ∀ t : Chip, P t → P t.settle := by exact fun _ h => h) : Answers (.moverRequest c) s P :=
  answers_of_done (m := s.chip.moverRequest c.val) rfl (hset _ h)

theorem moverRequest_starts {b : Buf} (hs : s.chip.shaped) (hcfg : cfg = s.chip.rd spPool (moverOff c.val 0))
    (hrun : s.chip.moverRequest c.val = s.chip.moverStart c.val) (hkind : fld cfg 12 2 = 0) (hmax : fld cfg 0 7 ≠ 0)
    (hq : s.chip.hkc.queue ≠ []) (hact : (s.chip.stream (fld cfg 8 3)).act = true)
    (hpend : (s.chip.stream (fld cfg 8 3)).pend = false) (hen : s.chip.streamEn (fld cfg 8 3) = true)
    (hheld : (s.chip.stream (fld cfg 8 3)).held = []) (hframes : (s.chip.stream (fld cfg 8 3)).frames = [])
    (hb : (s.chip.stream (fld cfg 8 3)).bufs.getLast? = some b) (hw : b.weight = 1)
    (hfit : b.used + 12 * min (fld cfg 0 7) s.chip.hkc.queue.length + 64 ≤ 16384) :
    Answers (.moverRequest c) s (fun t =>
      t.hkc = { s.chip.hkc with queue := s.chip.hkc.queue.drop (min (fld cfg 0 7) s.chip.hkc.queue.length) } ∧
      (t.mover c.val).busy = true ∧
      (t.stream (fld cfg 8 3)).recs.length = (s.chip.stream (fld cfg 8 3)).recs.length + 1 ∧ AllWordsKept s.chip t) := by
  have hlen : fld cfg 8 3 < s.chip.streams.length := by
    rw [hs.streams]
    exact fld_lt cfg 8 3
  have hmov : c.val < s.chip.movers.length := by
    rw [hs.movers]
    exact c.isLt
  have htake : s.chip.moverTake c.val = min (fld cfg 0 7) s.chip.hkc.queue.length := by
    rw [hcfg]
    rfl
  have hqlen : 0 < s.chip.hkc.queue.length := List.length_pos_iff.mpr hq
  have hstart := moverStart_hkc (m := s.chip) (c := c.val) (σ := fld cfg 8 3) (by rw [hcfg]) hlen (by rw [← hcfg]; exact hkind)
    (by rw [htake]; omega) hact hpend hen hheld hframes hb hw (by rw [htake]; exact hfit)
  refine answers_moverRequest ?_
  rw [hrun, hstart]
  refine ⟨?_, ?_, ?_, rfl⟩
  · rw [← htake]
    rfl
  · exact congrArg Mover.busy (Chip.mover_mapMover_same (s.chip.hkcCopied c.val (fld cfg 8 3) b) c.val _ hmov)
  · have hstream : ((s.chip.hkcCopied c.val (fld cfg 8 3) b).mapMover c.val
        (fun x => { x with busy := true, stat := false })).stream (fld cfg 8 3) =
        (s.chip.stream (fld cfg 8 3)).takes b (s.chip.hkcRec c.val) := hkcCopied_stream hlen
    rw [hstream]
    exact List.length_append

/-- A copy whose packets have gone, with no request waiting (R475). -/
theorem moverCopyComplete_ends (hs : s.chip.shaped) (hcfg : cfg = s.chip.rd spPool (moverOff c.val 0)) (hen : tst cfg 15 = true)
    (hpend : (s.chip.mover c.val).pend = false) (hbusy : (s.chip.mover c.val).busy = true)
    (howes : s.chip.moverOwes c.val = false) (hwait : s.chip.pipe.waiting = none)
    (hreq : (s.chip.mover c.val).heldReq = false) :
    Answers (.moverCopyComplete c) s (fun t => (t.mover c.val).busy = false ∧
      (t.mover c.val).act = (s.chip.mover c.val).act ∧ AllWordsKept s.chip t ∧ t.streams = s.chip.streams) := by
  have hmov : c.val < s.chip.movers.length := by
    rw [hs.movers]
    exact c.isLt
  have hmover := Chip.mover_mapMover_same s.chip c.val (fun x => { x with busy := false, stat := false }) hmov
  have hfront : (s.chip.mapMover c.val (fun x => { x with busy := false, stat := false })).frontUpdate =
      s.chip.mapMover c.val (fun x => { x with busy := false, stat := false }) := by
    unfold Chip.frontUpdate
    have hwait' : (s.chip.mapMover c.val (fun x => { x with busy := false, stat := false })).pipe.waiting = none := hwait
    rw [hwait']
  have hdone : s.chip.moverDone c.val = s.chip.mapMover c.val (fun x => { x with busy := false, stat := false }) := by
    have hen' : tst ((s.chip.mapMover c.val (fun x => { x with busy := false, stat := false })).rd spPool (moverOff c.val 0)) 15 =
        true := by
      rw [← hen, hcfg]
      rfl
    unfold Chip.moverDone
    simp only [hfront, hmover, hen', hpend, hreq, Bool.not_true, Bool.or_self, Bool.false_eq_true, if_false]
  have hexec : exec (.moverCopyComplete c) s =
      guarded s ((s.chip.mover c.val).busy && !s.chip.moverOwes c.val) (s.chip.moverDone c.val) := rfl
  rw [hdone] at hexec
  refine answers_leaves hexec (by rw [hbusy, howes]; rfl) ?_
  rw [hmover]
  exact ⟨rfl, rfl, rfl, rfl⟩

end

/-- Settles O56: the pool by the oldest held record, STREAMEN stream by stream, the mover by its channel's state. -/
theorem poolAndMover : Obligations.PoolAndMover := by
  unfold Obligations.PoolAndMover
  refine ⟨⟨fun s j h rest hs hpipe hcore hheld => ⟨fun hpause => completes_guarded rfl (poolHoldGrant_guard hpipe hheld hpause),
      fun hpause hchan => ⟨fun b hb hw hfit h0 h2 h5 h6 => poolHoldGrant_fits hs hpipe hheld hpause hchan hb hw hfit h0 h2 h5 h6,
        poolHoldGrant_refused hpipe hcore hheld hpause hchan⟩,
      fun hforever hpause hlim => holdlimExpiry_drops hs hpipe hcore hheld hforever hpause hlim⟩,
    fun s v hr hs => ?_⟩,
    fun s c => ⟨rfl, fun hbusy howes => completes_guarded rfl (by rw [hbusy, howes]; rfl)⟩,
    fun s c cfg hs hcfg hen hpend => ⟨fun hact hpipe => ?_,
      fun hbusy howes hwait hreq => moverCopyComplete_ends hs hcfg hen hpend hbusy howes hwait hreq⟩⟩
  · obtain ⟨t, ht, hq, hw, hstream⟩ := streamEnWrite_answers (v := v) hr hs
    refine ⟨t, ht, hq, hw, fun j hj => ?_⟩
    rw [hstream j hj]
    refine ⟨Stream.enabled_off, fun hact hold hnew hused hheld hframes => ?_, fun _ _ => (Stream.enabled_recs ..).symm,
      Stream.enabled_holds⟩
    rw [hold, hnew]
    exact Stream.enabled_ends hact hused hheld hframes
  · have hrun := moverRequest_on hcfg hen hpend hact hpipe
    refine ⟨fun hbusy hreq => ?_, fun hbusy hreq => ?_, fun b hbusy hkind hmax hq hact' hpend' hen' hheld hframes hb hw hfit => ?_⟩
    · refine answers_moverRequest ?_
      rw [hrun, if_pos hbusy, if_neg (by rw [hreq]; decide), Chip.mover_mapMover_same _ _ _ (by rw [hs.movers]; exact c.isLt)]
      exact ⟨rfl, hbusy, rfl, rfl⟩
    · refine answers_moverRequest ?_ fun _ h => ⟨h.1, h.2.settle⟩
      rw [hrun, if_pos hbusy, if_pos hreq]
      exact ⟨(Chip.rd_bump ..).trans (if_pos rfl), (OnlyThese.refl s.chip _).bump 1 (List.mem_singleton_self _)⟩
    · rw [if_neg (by rw [hbusy]; decide)] at hrun
      exact moverRequest_starts hs hcfg hrun hkind hmax hq hact' hpend' hen' hheld hframes hb hw hfit

end Sys2Proof.Machine
end


section
/-! PROOFS. The link, its lanes, packets and messages. -/

namespace Sys2Proof.Machine
-- What the steps below change is compared with the model by unfolding: one elaboration at a time.
set_option Elab.async false

/-! ## LINKCTL (O57) -/

section
variable {m : Chip} {n : Nat}

theorem Chip.lane_mapLane_same (f : Lane → Lane) (hn : n < m.link.lanes.length) : (m.mapLane n f).lane n = f (m.lane n) := by
  simp [Chip.lane, Chip.mapLane, Chip.mapLink, upd, List.getD_eq_getElem?_getD, hn]

theorem Chip.lane_mapLane_ne (m : Chip) (f : Lane → Lane) {k : Nat} (h : k ≠ n) : (m.mapLane n f).lane k = m.lane k := by
  simp [Chip.lane, Chip.mapLane, Chip.mapLink, upd, List.getD_eq_getElem?_getD, List.getElem?_modify_ne, Ne.symm h]

/-- The chip with other lanes. -/
def Chip.withLanes (m : Chip) (ls : List Lane) : Chip := m.mapLink (fun l => { l with lanes := ls })

/-- The state of a lane that is not RETIRED, as a training with a LINKCTL word sets it. -/
def Lane.trained (w : Word) (n : Nat) (st : LaneState) : LaneState := if st = .retired then .retired else trains w n

/-- With no generation in force a lane trains by its bit of LINKCTL. -/
theorem trainLane_leaves (rate : Nat) (hn : n < m.link.lanes.length) (hgen : 4 ≤ m.st.gen) :
    ∃ ls, m.trainLane rate n = m.withLanes ls ∧ ls.length = m.link.lanes.length ∧
      ∀ k, (ls.getD k Lane.reset).st =
        if k = n then Lane.trained (m.rd 0 0x38) n (m.lane n).st else (m.lane k).st := by
  have hentry : m.eqEntry rate n = none := if_neg (by omega)
  have htaps : (m.taps rate n).2 = false := by
    unfold Chip.taps
    rw [hentry]
    dsimp only
    split
    · rfl
    · rfl
  unfold Chip.trainLane Lane.trained
  split
  next hret =>
    refine ⟨m.link.lanes, rfl, rfl, fun k => ?_⟩
    split
    next hk => exact hk ▸ hret
    next => rfl
  next hret =>
    dsimp only
    rw [hentry, htaps]
    refine ⟨_, rfl, List.length_modify .., fun k => ?_⟩
    by_cases hk : k = n
    · subst hk
      rw [if_pos rfl]
      exact congrArg Lane.st (Chip.lane_mapLane_same (m := m) _ hn)
    · rw [if_neg hk]
      exact congrArg Lane.st (Chip.lane_mapLane_ne m _ hk)

/-- The lanes of a list train one after the other. -/
theorem trainLanes_leaves (rate : Nat) (l : List Nat) (hnd : l.Nodup) (hl : ∀ k ∈ l, k < m.link.lanes.length) (hgen : 4 ≤ m.st.gen) :
    ∃ ls, l.foldl (fun m n => m.trainLane rate n) m = m.withLanes ls ∧
      ∀ k, (ls.getD k Lane.reset).st = if k ∈ l then Lane.trained (m.rd 0 0x38) k (m.lane k).st else (m.lane k).st := by
  induction l generalizing m with
  | nil => exact ⟨m.link.lanes, rfl, fun k => (if_neg List.not_mem_nil).symm⟩
  | cons n l ih =>
    obtain ⟨hn, hnd⟩ := List.nodup_cons.mp hnd
    obtain ⟨ls, hls, hlen, hst⟩ := trainLane_leaves rate (hl n List.mem_cons_self) hgen
    obtain ⟨ls', hls', hst'⟩ := ih (m := m.withLanes ls) hnd
      (fun k hk => (hlen ▸ hl k (List.mem_cons_of_mem _ hk) : k < ls.length)) hgen
    refine ⟨ls', ?_, fun k => (hst' k).trans ?_⟩
    · rw [List.foldl_cons, hls, hls']
      rfl
    · change (if k ∈ l then Lane.trained (m.rd 0 0x38) k (ls.getD k Lane.reset).st else (ls.getD k Lane.reset).st) = _
      rw [hst k]
      by_cases hk : k = n
      · subst hk
        rw [if_neg hn, if_pos rfl, if_pos List.mem_cons_self]
      · simp only [hk, if_false, List.mem_cons, false_or]

theorem sessionEnd_credits (m : Chip) (j : Nat) : (m.sessionEnd.stream j).credits = 0 := by
  unfold Chip.sessionEnd Chip.stream Chip.mapLink
  simp only [List.getD_eq_getElem?_getD, List.getElem?_map]
  cases m.streams[j]? with
  | none => rfl
  | some t => rfl

/-- Training with no generation in force. -/
theorem train_leaves (hlen : m.link.lanes.length = 4) (hact : m.link.act = true) (hen : m.linkEn = true) (hpw : m.pw.link = true)
    (hgen : 4 ≤ m.st.gen) :
    m.train.link.act = true ∧ m.train.link.st = 1 ∧ m.train.link.rate = fld (m.rd 0 0x38) 8 2 ∧
      (∀ k, k < 4 → (m.train.lane k).st = Lane.trained (m.rd 0 0x38) k (m.lane k).st) ∧
      (∀ j, (m.train.stream j).credits = 0) ∧ AllWordsKept m m.train := by
  unfold Chip.train
  extract_lets m1 rate now m2
  have hrun : (m1.link.act && m1.linkEn && m1.pw.link) = true := by
    rw [show m1.link.act = true from hact, show m1.linkEn = true from hen, show m1.pw.link = true from hpw]
    rfl
  rw [if_pos hrun]
  obtain ⟨ls, hls, hst⟩ := trainLanes_leaves (m := m2) rate [0, 1, 2, 3] (by decide)
    (fun k hk => (by
      rw [show m2.link.lanes.length = 4 from hlen]
      simp only [List.mem_cons, List.not_mem_nil, or_false] at hk
      omega)) hgen
  rw [hls]
  refine ⟨hact, rfl, rfl, fun k hk => (hst k).trans (if_pos ?_), fun j => sessionEnd_credits m1 j, rfl⟩
  simp only [List.mem_cons, List.not_mem_nil, or_false]
  omega

/-! A LINKCTL write by its command bits. -/

/-- The chip with a written LINKCTL, its ACT and its PEND. -/
def Chip.linkctlSet (m : Chip) (v : Word) (act pend : Bool) : Chip :=
  (m.plainWrite 0 0x38 v).mapLink (fun l => { l with act := act, pend := pend })

variable {v : Word}

theorem linkctlSet_link (m : Chip) (v : Word) (act pend : Bool) :
    (m.linkctlSet v act pend).link = { m.link with act := act, pend := pend } := by
  unfold Chip.linkctlSet Chip.mapLink
  rw [Chip.plainWrite_link]

theorem linkctlSet_words (m : Chip) (v : Word) (act pend : Bool) : WordsKept m (m.linkctlSet v act pend) [(0, 0x38)] :=
  WordsKept.plainWrite (WordsKept.refl m _) v (List.mem_singleton_self _)

theorem linkctlSet_rd (m : Chip) (v : Word) (act pend : Bool) :
    (m.linkctlSet v act pend).rd 0 0x38 = merge (m.rd 0 0x38) 0x83FF v :=
  Chip.rd_plainWrite_merge (r := ⟨0x38, 1, 1, 1, 0x000F, 0x83FF, 0, 0⟩) m v (by decide) rfl

theorem linkctlSet_en (m : Chip) (v : Word) (act pend : Bool) : (m.linkctlSet v act pend).linkEn = tst v 15 := by
  rw [Chip.linkEn, linkctlSet_rd, tst_merge _ _ _ (by decide)]
  rfl

theorem linkctlSet_rate (m : Chip) (v : Word) (act pend : Bool) : fld ((m.linkctlSet v act pend).rd 0 0x38) 8 2 = fld v 8 2 := by
  rw [linkctlSet_rd]
  exact fld_merge (by decide) (by decide)

theorem linkctlSet_trains (m : Chip) (v : Word) (act pend : Bool) {k : Nat} (hk : k < 4) :
    trains ((m.linkctlSet v act pend).rd 0 0x38) k = trains v k := by
  unfold trains
  rw [linkctlSet_rd, tst_merge _ _ _ (by omega), if_pos (c := tst 0x83FF k = true) (by interval_cases k <;> rfl)]

theorem linkctlSet_st (m : Chip) (v : Word) (act pend : Bool) : (m.linkctlSet v act pend).st = m.st := Chip.plainWrite_st ..

theorem linkctlSet_pw (m : Chip) (v : Word) (act pend : Bool) : (m.linkctlSet v act pend).pw = m.pw := Chip.plainWrite_pw ..

theorem linkctlSet_streams (m : Chip) (v : Word) (act pend : Bool) : (m.linkctlSet v act pend).streams = m.streams :=
  Chip.plainWrite_streams ..

theorem linkctlSet_lane (m : Chip) (v : Word) (act pend : Bool) (k : Nat) : (m.linkctlSet v act pend).lane k = m.lane k := by
  rw [Chip.lane, linkctlSet_link, Chip.lane]

theorem writeLinkctl_both (h14 : tst v 14 = true) (h13 : tst v 13 = true) : m.writeLinkctl v = m := if_pos ⟨h14, h13⟩

/-- A LINKCTL write that is not discarded, from the chip with the word, ACT and PEND in place. -/
theorem writeLinkctl_eq (h : ¬(tst v 14 = true ∧ tst v 13 = true)) :
    m.writeLinkctl v =
      (let r := enPattern m.link.act m.link.pend m.linkEn (tst v 15)
       let m := m.linkctlSet v (m.link.act || r.1) r.2.1
       let m := if tst v 14 then m.restoreLanes (fld v 4 4) else m
       let m := if r.2.2 then
           (if m.link.flight.isSome then m.mapLink (fun l => { l with offAfter := true }) else m.linkOff)
         else if (r.1 || tst v 14) && !m.link.offAfter then m.requestTrain
         else m
       if tst v 13 then (m.retireRequest (BitVec.ofNat 4 (fld v 4 4))).1 else m) := by
  have hset : ∀ r : Bool × Bool × Bool,
      (m.plainWrite 0 0x38 v).mapLink (fun l => { l with act := l.act || r.1, pend := r.2.1 }) =
        m.linkctlSet v (m.link.act || r.1) r.2.1 := by
    intro r
    unfold Chip.linkctlSet Chip.mapLink
    rw [Chip.plainWrite_link]
  unfold Chip.writeLinkctl
  rw [if_neg h]
  dsimp only
  rw [hset]

/-- EN of a link that is off. -/
theorem writeLinkctl_start (h14 : tst v 14 = false) (h13 : tst v 13 = false) (h15 : tst v 15 = true) (hact : m.link.act = false)
    (hflight : m.link.flight = none) (hoff : m.link.offAfter = false) :
    m.writeLinkctl v = (m.linkctlSet v true false).train := by
  have hlink := linkctlSet_link m v true false
  rw [writeLinkctl_eq (by simp [h14])]
  simp only [h14, h13, h15, hact, enPattern, Bool.false_eq_true, Bool.not_false, Bool.and_self, Bool.and_false,
    Bool.false_and, Bool.not_true, Bool.or_true, Bool.or_false, Bool.true_and, if_false, if_true, hlink, hoff,
    Chip.requestTrain, hflight, Option.isSome_none]

/-- The clearing of EN with no packet in flight. -/
theorem writeLinkctl_stop (h14 : tst v 14 = false) (h13 : tst v 13 = false) (h15 : tst v 15 = false) (hact : m.link.act = true)
    (hen : m.linkEn = true) (hflight : m.link.flight = none) :
    m.writeLinkctl v = (m.linkctlSet v true false).lanesOff.mapLink (fun l => { l with act := false, pend := false }) := by
  have hlink := linkctlSet_link m v true false
  rw [writeLinkctl_eq (by simp [h14])]
  simp only [h14, h13, h15, hact, hen, enPattern, Bool.false_eq_true, Bool.not_false, Bool.and_self,
    Bool.false_and, Bool.not_true, Bool.or_false, if_false, if_true, hlink, hflight, Option.isSome_none, Chip.linkOff]

/-- The clearing of EN with a packet in flight. -/
theorem writeLinkctl_stopping (h14 : tst v 14 = false) (h13 : tst v 13 = false) (h15 : tst v 15 = false) (hact : m.link.act = true)
    (hen : m.linkEn = true) (hflight : m.link.flight.isSome = true) :
    m.writeLinkctl v = (m.linkctlSet v true false).mapLink (fun l => { l with offAfter := true }) := by
  have hlink := linkctlSet_link m v true false
  rw [writeLinkctl_eq (by simp [h14])]
  simp only [h14, h13, h15, hact, hen, enPattern, Bool.false_eq_true, Bool.not_false, Bool.and_self,
    Bool.false_and, Bool.not_true, Bool.or_false, if_false, if_true, hlink, hflight]

/-- RETRAIN of a link that runs. -/
theorem writeLinkctl_retrain (h14 : tst v 14 = true) (h13 : tst v 13 = false) (h15 : tst v 15 = true) (hact : m.link.act = true)
    (hen : m.linkEn = true) (hoff : m.link.offAfter = false) :
    m.writeLinkctl v = ((m.linkctlSet v true m.link.pend).restoreLanes (fld v 4 4)).requestTrain := by
  have hlink := linkctlSet_link m v true m.link.pend
  have hoff' : ((m.linkctlSet v true m.link.pend).restoreLanes (fld v 4 4)).link.offAfter = false := by
    unfold Chip.restoreLanes Chip.mapLink
    rw [hlink]
    exact hoff
  rw [writeLinkctl_eq (by simp [h13])]
  simp only [h14, h13, h15, hact, hen, enPattern, Bool.false_eq_true, Bool.not_false, Bool.and_self, Bool.and_false, Bool.true_and,
    Bool.false_and, Bool.not_true, Bool.or_false, Bool.or_true, if_false, if_true, hoff']

/-- RETIRE with EN as it stands. -/
theorem writeLinkctl_retire (h13 : tst v 13 = true) (h14 : tst v 14 = false) (h15 : tst v 15 = m.linkEn) (hact : m.link.act = true) :
    ∃ p, m.writeLinkctl v = ((m.linkctlSet v true p).retireRequest (BitVec.ofNat 4 (fld v 4 4))).1 := by
  refine ⟨(enPattern true m.link.pend m.linkEn (tst v 15)).2.1, ?_⟩
  have hstop : (enPattern true m.link.pend m.linkEn (tst v 15)).2.2 = false := by
    unfold enPattern
    rw [h15]
    cases m.linkEn <;> rfl
  have hstart : (enPattern true m.link.pend m.linkEn (tst v 15)).1 = false := Bool.and_false _
  rw [writeLinkctl_eq (by simp [h14])]
  simp only [hact, hstop, hstart, h13, h14, Bool.or_false, Bool.false_and, Bool.false_eq_true, if_false, if_true]

/-- Every lane that is not RETIRED goes OFF (R502). -/
theorem lanesOff_lane (m : Chip) (k : Nat) (hk : k < m.link.lanes.length) :
    (m.lanesOff.lane k).st = if (m.lane k).st = .retired then .retired else .off := by
  have hlane : m.lanesOff.lane k = if (m.lane k).st = .retired then m.lane k else { m.lane k with st := .off } := by
    unfold Chip.lanesOff Chip.sessionEnd Chip.mapLink Chip.lane
    simp [List.getD_eq_getElem?_getD, hk]
  rw [hlane]
  split
  next h => exact h
  next => rfl

/-- A bit of a field of four. -/
theorem fld_four_bit (w : Word) {lo k : Nat} (hk : k < 4) : fld w lo 4 / 2 ^ k % 2 = 1 ↔ tst w (lo + k) = true := by
  unfold fld tst
  rw [BitVec.getLsbD, Nat.testBit_eq_decide_div_mod_eq, decide_eq_true_eq, Nat.pow_add, ← Nat.div_div_eq_div_mul]
  generalize w.toNat / 2 ^ lo = x
  interval_cases k <;> omega

/-- RETRAIN takes the selected RETIRED lanes back (R513). -/
theorem restoreLanes_lane (m : Chip) {k : Nat} (hlen : m.link.lanes.length = 4) (hk : k < 4) :
    ((m.restoreLanes (fld v 4 4)).lane k).st = if tst v (4 + k) = true ∧ (m.lane k).st = .retired then .off else (m.lane k).st := by
  have hlane : (m.restoreLanes (fld v 4 4)).lane k =
      if fld v 4 4 / 2 ^ k % 2 = 1 ∧ (m.lane k).st = .retired then { m.lane k with st := .off } else m.lane k := by
    unfold Chip.restoreLanes Chip.mapLink Chip.lane
    match hl : m.link.lanes, hlen with
    | [a, b, c, d], _ =>
      dsimp only
      rw [hl]
      interval_cases k <;> rfl
  rw [hlane]
  simp only [fld_four_bit v hk]
  split
  next => rfl
  next => rfl

end

section
variable {s : State} {v : Word}

theorem laneReads (hs : s.chip.shaped) (v : Word) (p : Bool) : (s.host.linkctlSet v true p).link.lanes.length = 4 := by
  rw [linkctlSet_link]
  exact hs.lanes

/-- EN trains a link that is off (R480, R496). -/
theorem linkEnWrite_trains (hr : s.reaches 0 0x38) (hs : s.chip.shaped) (h14 : tst v 14 = false) (h13 : tst v 13 = false)
    (h15 : tst v 15 = true) (hact : s.chip.link.act = false) (hpw : s.chip.pw.link = true) (hflight : s.chip.link.flight = none)
    (hoff : s.chip.link.offAfter = false) (hgen : 4 ≤ s.chip.st.gen) :
    Answers (.linkEnWrite v) s (fun t => t.link.act = true ∧ t.link.st = 1 ∧ t.link.rate = fld v 8 2 ∧
      (∀ n, n < 4 → (t.lane n).st = if (s.chip.lane n).st = .retired then .retired else trains v n) ∧
      (∀ j, (t.stream j).credits = 0) ∧ WordsKept s.chip t [(0, 0x38)]) := by
  obtain ⟨h1, h2, h3, h4, h5, h6⟩ := train_leaves (m := s.host.linkctlSet v true false) (laneReads hs v false)
    (congrArg Link.act (linkctlSet_link ..)) (by rw [linkctlSet_en, h15]) (by rw [linkctlSet_pw]; exact hpw)
    (by rw [linkctlSet_st]; exact hgen)
  refine answers_hostWrite_leaves (f := (·.writeLinkctl v)) rfl hr ?_
  rw [writeLinkctl_start (m := s.host) h14 h13 h15 hact hflight hoff]
  refine ⟨h1, h2, h3.trans (linkctlSet_rate ..), fun n hn => ?_, h5,
    fun k hk => (congrArg (Bank.get · k) h6).trans (linkctlSet_words s.host v true false k hk)⟩
  rw [h4 n hn, Lane.trained, linkctlSet_trains _ _ _ _ hn, linkctlSet_lane]
  rfl

/-- The clearing of EN with no packet in flight (R502). -/
theorem linkEnWrite_stops (hr : s.reaches 0 0x38) (hs : s.chip.shaped) (h14 : tst v 14 = false) (h13 : tst v 13 = false)
    (h15 : tst v 15 = false) (hact : s.chip.link.act = true) (hen : s.chip.linkEn = true) (hflight : s.chip.link.flight = none) :
    Answers (.linkEnWrite v) s (fun t => t.link.act = false ∧ t.link.st = 0 ∧
      (∀ n, n < 4 → (t.lane n).st = if (s.chip.lane n).st = .retired then .retired else .off) ∧
      WordsKept s.chip t [(0, 0x38)]) := by
  refine answers_hostWrite_leaves (f := (·.writeLinkctl v)) rfl hr ?_
  rw [writeLinkctl_stop (m := s.host) h14 h13 h15 hact hen hflight]
  refine ⟨rfl, rfl, fun n hn => ?_, linkctlSet_words s.host v true false⟩
  have h := lanesOff_lane (s.host.linkctlSet v true false) n ((laneReads hs v false).symm ▸ hn)
  rw [linkctlSet_lane] at h
  exact h

/-- The clearing of EN with a packet in flight (R502). -/
theorem linkEnWrite_waits (hr : s.reaches 0 0x38) (h14 : tst v 14 = false) (h13 : tst v 13 = false)
    (h15 : tst v 15 = false) (hact : s.chip.link.act = true) (hen : s.chip.linkEn = true)
    (hflight : s.chip.link.flight.isSome = true) :
    Answers (.linkEnWrite v) s (fun t => t.link.offAfter = true ∧ t.link.act = true ∧ t.link.st = s.chip.link.st ∧
      t.link.lanes = s.chip.link.lanes ∧ t.link.flight = s.chip.link.flight ∧ t.streams = s.chip.streams) := by
  have hlink := linkctlSet_link s.host v true false
  refine answers_hostWrite_leaves (f := (·.writeLinkctl v)) rfl hr ?_
  rw [writeLinkctl_stopping (m := s.host) h14 h13 h15 hact hen hflight]
  exact ⟨rfl, (congrArg Link.act hlink).trans rfl, (congrArg Link.st hlink).trans rfl, (congrArg Link.lanes hlink).trans rfl,
    (congrArg Link.flight hlink).trans rfl, linkctlSet_streams s.host v true false⟩

/-- RETRAIN with no packet in flight (R513). -/
theorem retrain_trains (hr : s.reaches 0 0x38) (hs : s.chip.shaped) (h14 : tst v 14 = true) (h13 : tst v 13 = false)
    (h15 : tst v 15 = true) (hact : s.chip.link.act = true) (hen : s.chip.linkEn = true) (hoff : s.chip.link.offAfter = false)
    (hflight : s.chip.link.flight = none) (hpw : s.chip.pw.link = true) (hgen : 4 ≤ s.chip.st.gen) :
    Answers (.retrain v) s (fun t => t.link.st = 1 ∧ t.link.rate = fld v 8 2 ∧
      (∀ n, n < 4 → (t.lane n).st =
        if (s.chip.lane n).st = .retired ∧ tst v (4 + n) = false then .retired else trains v n) ∧
      WordsKept s.chip t [(0, 0x38)]) := by
  have hlen : (s.host.linkctlSet v true s.host.link.pend).link.lanes.length = 4 := laneReads hs v _
  have hlen' : ((s.host.linkctlSet v true s.host.link.pend).restoreLanes (fld v 4 4)).link.lanes.length = 4 := by
    unfold Chip.restoreLanes Chip.mapLink
    simp [hlen]
  have hlink := linkctlSet_link s.host v true s.host.link.pend
  have hrequest : ((s.host.linkctlSet v true s.host.link.pend).restoreLanes (fld v 4 4)).requestTrain =
      ((s.host.linkctlSet v true s.host.link.pend).restoreLanes (fld v 4 4)).train := by
    refine if_neg ?_
    rw [show ((s.host.linkctlSet v true s.host.link.pend).restoreLanes (fld v 4 4)).link.flight = none from
      (congrArg Link.flight hlink).trans hflight]
    decide
  obtain ⟨_, h2, h3, h4, _, h6⟩ := train_leaves (m := (s.host.linkctlSet v true s.host.link.pend).restoreLanes (fld v 4 4))
    hlen' (congrArg Link.act hlink) ((linkctlSet_en s.host v true s.host.link.pend).trans h15)
    ((congrArg Power.link (linkctlSet_pw s.host v true s.host.link.pend)).trans hpw)
    ((congrArg Stores.gen (linkctlSet_st s.host v true s.host.link.pend)).ge.trans' hgen)
  refine answers_hostWrite_leaves (f := (·.writeLinkctl v)) rfl hr ?_
  rw [writeLinkctl_retrain (m := s.host) h14 h13 h15 hact hen hoff, hrequest]
  refine ⟨h2, h3.trans (linkctlSet_rate s.host v true s.host.link.pend), fun n hn => ?_,
    fun k hk => (congrArg (Bank.get · k) h6).trans (linkctlSet_words s.host v true s.host.link.pend k hk)⟩
  rw [h4 n hn, restoreLanes_lane _ hlen hn, linkctlSet_lane]
  have htrains : trains (((s.host.linkctlSet v true s.host.link.pend).restoreLanes (fld v 4 4)).rd 0 0x38) n = trains v n :=
    linkctlSet_trains s.host v true s.host.link.pend hn
  have hlane : s.host.lane n = s.chip.lane n := rfl
  unfold Lane.trained
  rw [htrains, hlane]
  cases hsel : tst v (4 + n) with
  | true => by_cases hret : (s.chip.lane n).st = .retired <;> simp [hret]
  | false => simp

/-- RETRAIN with a packet in flight (R500). -/
theorem retrain_waits (hr : s.reaches 0 0x38) (h14 : tst v 14 = true) (h13 : tst v 13 = false)
    (h15 : tst v 15 = true) (hact : s.chip.link.act = true) (hen : s.chip.linkEn = true) (hoff : s.chip.link.offAfter = false)
    (hflight : s.chip.link.flight.isSome = true) :
    Answers (.retrain v) s (fun t => t.link.trainAfter = true ∧ t.link.st = s.chip.link.st ∧
      t.link.flight = s.chip.link.flight ∧ t.streams = s.chip.streams) := by
  have hlink := linkctlSet_link s.host v true s.host.link.pend
  have hrequest : ((s.host.linkctlSet v true s.host.link.pend).restoreLanes (fld v 4 4)).requestTrain =
      ((s.host.linkctlSet v true s.host.link.pend).restoreLanes (fld v 4 4)).mapLink (fun l => { l with trainAfter := true }) := by
    refine if_pos ?_
    rw [show ((s.host.linkctlSet v true s.host.link.pend).restoreLanes (fld v 4 4)).link.flight = s.chip.link.flight from
      (congrArg Link.flight hlink).trans rfl]
    exact hflight
  refine answers_hostWrite_leaves (f := (·.writeLinkctl v)) rfl hr ?_
  rw [writeLinkctl_retrain (m := s.host) h14 h13 h15 hact hen hoff, hrequest]
  exact ⟨rfl, (congrArg Link.st hlink).trans rfl, (congrArg Link.flight hlink).trans rfl, linkctlSet_streams s.host v true s.host.link.pend⟩

end

/-! RETIRE. -/

section
variable {m : Chip} {mask : BitVec 4}

theorem retireRequest_none (h : mask &&& BitVec.ofNat 4 (m.lanesIn .active) = 0) : (m.retireRequest mask).1 = m :=
  congrArg Prod.fst (if_pos h)

theorem retireRequest_all (h : mask &&& BitVec.ofNat 4 (m.lanesIn .active) ≠ 0)
    (hall : (m.link.retire ||| mask &&& BitVec.ofNat 4 (m.lanesIn .active)) &&& BitVec.ofNat 4 (m.lanesIn .active) =
      BitVec.ofNat 4 (m.lanesIn .active)) : (m.retireRequest mask).1 = m.orBits 0 0x39 0x0100 :=
  congrArg Prod.fst ((if_neg h).trans (if_pos hall))

theorem retireRequest_some (h : mask &&& BitVec.ofNat 4 (m.lanesIn .active) ≠ 0)
    (hall : (m.link.retire ||| mask &&& BitVec.ofNat 4 (m.lanesIn .active)) &&& BitVec.ofNat 4 (m.lanesIn .active) ≠
      BitVec.ofNat 4 (m.lanesIn .active)) :
    (m.retireRequest mask).1 = m.mapLink (fun l => { l with
      retire := l.retire ||| mask &&& BitVec.ofNat 4 (m.lanesIn .active)
      retireAt := if l.retire = 0 then m.now else l.retireAt }) :=
  congrArg Prod.fst ((if_neg h).trans (if_neg hall))

end

/-- Settles O57: LINKCTL by its command bits and by the packet in flight. -/
theorem linkControl : Obligations.LinkControl := by
  unfold Obligations.LinkControl
  intro s v hr hs
  refine ⟨fun h14 h13 => ?_, fun h14 h13 => ⟨fun h15 hact hpw hflight hoff hgen =>
      linkEnWrite_trains hr hs h14 h13 h15 hact hpw hflight hoff hgen,
      fun h15 hact hen => ⟨linkEnWrite_stops hr hs h14 h13 h15 hact hen, linkEnWrite_waits hr h14 h13 h15 hact hen⟩⟩,
    fun h14 h13 h15 hact hen hoff => ⟨retrain_trains hr hs h14 h13 h15 hact hen hoff,
      retrain_waits hr h14 h13 h15 hact hen hoff⟩, fun act new h13 h14 h15 hact hact' hnew => ?_⟩
  · have hsame : Unchanged s.chip (s.host.writeLinkctl v).settle := by
      rw [writeLinkctl_both h14 h13]
      exact unchanged_begin s.chip 0
    exact ⟨answers_hostWrite (f := (·.writeLinkctl v)) rfl hr hsame, answers_hostWrite (f := (·.writeLinkctl v)) rfl hr hsame,
      answers_hostWrite (f := (·.writeLinkctl v)) rfl hr hsame⟩
  · obtain ⟨p, hp⟩ := writeLinkctl_retire (m := s.host) h13 h14 h15 hact
    have hlink := linkctlSet_link s.host v true p
    have hin : BitVec.ofNat 4 ((s.host.linkctlSet v true p).lanesIn .active) = act := by
      rw [hact']
      unfold Chip.lanesIn
      simp only [linkctlSet_lane]
      rfl
    have hretire : (s.host.linkctlSet v true p).link.retire = s.chip.link.retire := (congrArg Link.retire hlink).trans rfl
    have hlanes : (s.host.linkctlSet v true p).link.lanes = s.chip.link.lanes := (congrArg Link.lanes hlink).trans rfl
    have hwords := linkctlSet_words s.host v true p
    refine ⟨fun h0 => ?_, fun h0 hsome => ?_, fun h0 hall => ?_⟩
    · refine answers_hostWrite_leaves (f := (·.writeLinkctl v)) rfl hr ?_
      rw [hp, retireRequest_none (by rw [hin, ← hnew, h0])]
      exact ⟨hretire, hwords⟩
    · refine answers_hostWrite_leaves (f := (·.writeLinkctl v)) rfl hr ?_
      rw [hp, retireRequest_some (by rw [hin, ← hnew]; exact h0) (by rw [hin, ← hnew, hretire]; exact hsome)]
      refine ⟨?_, hlanes, hwords⟩
      rw [hin, ← hnew]
      exact congrArg (· ||| new) hretire
    · refine answers_hostWrite_leaves (f := (·.writeLinkctl v)) rfl hr ?_
      rw [hp, retireRequest_all (by rw [hin, ← hnew]; exact h0) (by rw [hin, ← hnew, hretire]; exact hall)]
      refine ⟨hretire, hlanes, ?_, ?_⟩
      · rw [Chip.rd_orBits, if_pos rfl]
        exact tst_or_bitW (i := 8) _ (by decide)
      · exact WordsKept.orBits (fun k hk => hwords k fun w hw => hk w (List.mem_append_left [(0, 0x39)] hw)) _ (by simp)

/-! ## Columns, sync and lost lanes (O58) -/

section
variable {m : Chip} {n : Nat}

/-- Lanes of the same state and cause. -/
def SameStates (ls ms : List Lane) : Prop :=
  ls.length = ms.length ∧ ∀ n, (ls.getD n Lane.reset).st = (ms.getD n Lane.reset).st ∧
    (ls.getD n Lane.reset).cause = (ms.getD n Lane.reset).cause

theorem SameStates.refl (ls : List Lane) : SameStates ls ls := ⟨rfl, fun _ => ⟨rfl, rfl⟩⟩

theorem SameStates.trans {ls ms ns : List Lane} (h : SameStates ls ms) (h' : SameStates ms ns) : SameStates ls ns :=
  ⟨h.1.trans h'.1, fun n => ⟨(h.2 n).1.trans (h'.2 n).1, (h.2 n).2.trans (h'.2 n).2⟩⟩

/-- A lane that moves its scrambler on. -/
theorem sameStates_scr (ls : List Lane) (n : Nat) (c : BitVec 58) : SameStates (upd ls n (fun l => { l with scr := c })) ls := by
  refine ⟨List.length_modify .., fun k => ?_⟩
  unfold upd
  rw [List.getD_eq_getElem?_getD, List.getD_eq_getElem?_getD, List.getElem?_modify]
  cases ls[k]? with
  | none => exact ⟨rfl, rfl⟩
  | some l => by_cases hk : n = k <;> simp [hk]

theorem senders_length (m : Chip) : m.senders.length ≤ 4 := by
  unfold Chip.senders
  exact (List.length_filter_le ..).trans (by simp)

/-- A column moves the scramblers on and is as wide as the lanes that send. -/
theorem sendColumn_leaves (m : Chip) (f : Nat → Nat → Bool × List Byte) :
    ∃ ls col, m.sendColumn f = m.mapLink (fun l => { l with
        lanes := ls, column := col, sinceAlign := l.sinceAlign + 1, sinceIdle := l.sinceIdle + 1 }) ∧
      col.length = m.senders.length ∧ SameStates ls m.link.lanes := by
  have hfold : ∀ (ps : List (Nat × Nat)) (a : Chip × List (BitVec 66)), ∃ ls col,
      ps.foldl (fun (a : Chip × List (BitVec 66)) p =>
        let b := f p.2 p.1
        let s := scramble (a.1.lane p.1).scr (BitVec.ofNat 64 (ofBytes b.2))
        let blk := blockOf b.1 s.1
        (a.1.mapLane p.1 (fun l => { l with scr := s.2 }), a.2 ++ [if a.1.inverted p.1 then ~~~blk else blk])) a =
        (a.1.withLanes ls, col) ∧ col.length = a.2.length + ps.length ∧ SameStates ls a.1.link.lanes := by
    intro ps
    induction ps with
    | nil => exact fun a => ⟨a.1.link.lanes, a.2, rfl, rfl, .refl _⟩
    | cons p ps ih =>
      intro a
      obtain ⟨ls, col, hf, hlen, hst⟩ := ih (a.1.mapLane p.1 (fun l => { l with
        scr := (scramble (a.1.lane p.1).scr (BitVec.ofNat 64 (ofBytes (f p.2 p.1).2))).2 }),
        a.2 ++ [if a.1.inverted p.1 then ~~~(blockOf (f p.2 p.1).1
          (scramble (a.1.lane p.1).scr (BitVec.ofNat 64 (ofBytes (f p.2 p.1).2))).1) else blockOf (f p.2 p.1).1
          (scramble (a.1.lane p.1).scr (BitVec.ofNat 64 (ofBytes (f p.2 p.1).2))).1])
      refine ⟨ls, col, hf, ?_, hst.trans (sameStates_scr ..)⟩
      rw [hlen, List.length_append, List.length_cons, List.length_cons, List.length_nil]
      omega
  obtain ⟨ls, col, hf, hlen, hst⟩ := hfold (m.senders.zip (List.range 4)) (m, [])
  refine ⟨ls, col, ?_, ?_, hst⟩
  · unfold Chip.sendColumn
    rw [hf]
    rfl
  · have h4 := senders_length m
    rw [hlen, List.length_zip, List.length_range, List.length_nil]
    omega

theorem SameStates.lane {ls : List Lane} (h : SameStates ls m.link.lanes) (k : Nat) :
    (ls.getD k Lane.reset).st = (m.lane k).st ∧ (ls.getD k Lane.reset).cause = (m.lane k).cause := h.2 k

/-- A training lane changes the lanes and LINKSTAT alone. -/
theorem trainLane_link (m : Chip) (rate n : Nat) :
    ∃ ls r c, m.trainLane rate n = { m.withLanes ls with regs := r, cyc := c } := by
  refine ⟨(m.trainLane rate n).link.lanes, ?_⟩
  unfold Chip.trainLane
  split
  · exact ⟨m.regs, m.cyc, rfl⟩
  · dsimp only
    split
    · exact ⟨_, _, rfl⟩
    · exact ⟨m.regs, m.cyc, rfl⟩

theorem trainLanes_link (rate : Nat) (l : List Nat) (m : Chip) :
    ∃ ls r c, l.foldl (fun m n => m.trainLane rate n) m = { m.withLanes ls with regs := r, cyc := c } := by
  induction l generalizing m with
  | nil => exact ⟨m.link.lanes, m.regs, m.cyc, rfl⟩
  | cons n l ih =>
    obtain ⟨ls, r, c, h⟩ := trainLane_link m rate n
    obtain ⟨ls', r', c', h'⟩ := ih (m.trainLane rate n)
    refine ⟨ls', r', c', ?_⟩
    rw [List.foldl_cons, h', h]
    rfl

/-- Training of a link with EN, whatever the board table says. -/
theorem train_starts (hact : m.link.act = true) (hen : m.linkEn = true) (hpw : m.pw.link = true) :
    m.train.link.st = 1 ∧ (∀ j, (m.train.stream j).credits = 0) ∧ m.train.link.trainAfter = false := by
  unfold Chip.train
  extract_lets m1 rate now m2
  have hrun : (m1.link.act && m1.linkEn && m1.pw.link) = true := by
    rw [show m1.link.act = true from hact, show m1.linkEn = true from hen, show m1.pw.link = true from hpw]
    rfl
  rw [if_pos hrun]
  obtain ⟨ls, r, c, h⟩ := trainLanes_link rate [0, 1, 2, 3] m2
  rw [h]
  exact ⟨rfl, fun j => sessionEnd_credits m1 j, rfl⟩

theorem lanesIn_eq_zero {st : LaneState} : m.lanesIn st = 0 ↔ ∀ n, n < 4 → (m.lane n).st ≠ st := by
  unfold Chip.lanesIn
  rw [List.sum_eq_zero_iff]
  simp only [List.mem_map, List.mem_range, forall_exists_index, and_imp, forall_apply_eq_imp_iff₂]
  refine forall₂_congr fun n _ => ?_
  split
  next h => simp [h]
  next h => simp [h]

theorem linkBoundary_none (hflight : m.link.flight = none) (hoff : m.link.offAfter = false) (htrain : m.link.trainAfter = false) :
    m.linkBoundary = m := by
  unfold Chip.linkBoundary
  rw [hflight, hoff, htrain]
  rfl

/-! Lost lanes. -/

/-- A lane is retired: its state and cause. -/
theorem retireLane_leaves (m : Chip) (n cause : Nat) :
    ∃ l, m.retireLane n cause = { m.mapLane n (fun l => { l with st := .retired, cause := cause }) with st := l } := by
  obtain ⟨l, hl⟩ := Chip.ledger_leaves (m.mapLane n (fun l => { l with st := .retired, cause := cause })) 3 1
  exact ⟨_, hl⟩

/-- An event sets its bit and leaves the other words of EVSTAT and the FAULT count. -/
theorem raise_bit {e : Nat} (hcore : m.pw.core = true) : tst ((m.raise e).rd 0 (0x13 + e / 16)) (e % 16) = true := by
  rw [Chip.rd_raise _ _ _ _ hcore, if_pos rfl]
  exact tst_or_bitW _ (Nat.mod_lt _ (by decide))

theorem raise_keeps {e b off : Nat} (hcore : m.pw.core = true) (hb : b < 16) (h : tst (m.rd 0 off) b = true) :
    tst ((m.raise e).rd 0 off) b = true := by
  rw [Chip.rd_raise _ _ _ _ hcore]
  split
  next hk =>
    have hoff : off = 0x13 + e / 16 := by
      unfold key at hk
      omega
    rw [tst_or, ← hoff, h, Bool.true_or]
  next => exact h

/-- What the last step of a lost lane does: the last ACTIVE lane leaves the link without a lane, else the others go on with a
reconfiguration column (R508, R509). -/
theorem laneLost_leaves (m : Chip) (rest : Nat) :
    ∃ t, (if rest = 0 then (m.sessionEnd).mapLink (fun l => { l with st := 3, retire := 0, column := [] }) else m.alignCol true) = t ∧
      t.regs = m.regs ∧ t.pw = m.pw ∧ t.link.flight = m.link.flight ∧ t.link.offAfter = m.link.offAfter ∧
      t.link.trainAfter = m.link.trainAfter ∧ SameStates t.link.lanes m.link.lanes ∧
      t.link.st = if rest = 0 then 3 else m.link.st := by
  refine ⟨_, rfl, ?_⟩
  split
  · exact ⟨rfl, rfl, rfl, rfl, rfl, .refl _, rfl⟩
  · obtain ⟨ls, col, h, _, hst⟩ := sendColumn_leaves m (fun l p => (true, m.alignBytes true l p))
    have h' : m.alignCol true = _ := h
    rw [h']
    exact ⟨rfl, rfl, rfl, rfl, rfl, hst, rfl⟩

/-- The record, the events and the end of a lost lane, from the chip with the lane RETIRED. -/
theorem laneRecord_leaves (detail : List Byte) (fn rest : Nat) (hcore : m.pw.core = true) (hflight : m.link.flight = none)
    (hoff : m.link.offAfter = false) (htrain : m.link.trainAfter = false) (hmov : m.moversOff) :
    ∃ t, (((if rest = 0 then
          (((m.writeRecordFn 0x0D detail false fn).raise evLaneFault).sessionEnd).mapLink (fun l => { l with st := 3, retire := 0, column := [] })
        else ((m.writeRecordFn 0x0D detail false fn).raise evLaneFault).alignCol true)).raise evLinkState).linkBoundary = t ∧
      SameStates t.link.lanes m.link.lanes ∧ t.rd spFault 0 = m.rd spFault 0 + 1 ∧ tst (t.rd 0 0x14) 5 = true ∧
      tst (t.rd 0 0x14) 6 = true ∧ t.link.st = if rest = 0 then 3 else m.link.st := by
  obtain ⟨honly, hcount⟩ := onlyFault_writeRecordFn m 0x0D detail false fn hmov
  generalize m.writeRecordFn 0x0D detail false fn = r at honly hcount
  obtain ⟨w, c, hr, -⟩ := onlyFault_iff.mp honly
  have hrcore : r.pw.core = true := by rw [hr]; exact hcore
  have hrlink : (r.raise evLaneFault).link = m.link := by rw [Chip.raise_link, hr]
  obtain ⟨u, hu, huregs, hupw, huflight, huoff, hutrain, hulanes, hust⟩ := laneLost_leaves (r.raise evLaneFault) rest
  rw [hu]
  rw [hrlink] at huflight huoff hutrain hulanes hust
  have hucore : u.pw.core = true := by rw [hupw, Chip.raise_pw_on hrcore]; exact hrcore
  have hurd : ∀ sp off, u.rd sp off = (r.raise evLaneFault).rd sp off := fun sp off => congrArg (Bank.get · _) huregs
  have hflight' : (u.raise evLinkState).link.flight = none := by rw [Chip.raise_link, huflight, hflight]
  have hoff' : (u.raise evLinkState).link.offAfter = false := by rw [Chip.raise_link, huoff, hoff]
  have htrain' : (u.raise evLinkState).link.trainAfter = false := by rw [Chip.raise_link, hutrain, htrain]
  refine ⟨_, linkBoundary_none hflight' hoff' htrain', ?_, ?_, ?_, raise_bit (e := evLinkState) hucore, ?_⟩
  · rw [Chip.raise_link]
    exact hulanes
  · rw [Chip.rd_raise _ _ _ _ hucore, if_neg (by decide), hurd, Chip.rd_raise _ _ _ _ hrcore, if_neg (by decide), hcount]
  · refine raise_keeps hucore (by decide) ?_
    rw [hurd]
    exact raise_bit (e := evLaneFault) hrcore
  · rw [Chip.raise_link, hust]

theorem laneFault_eq {cause : Nat} (hst : (m.lane n).st = .active) (hflight : m.link.flight = none) :
    ∃ detail fn, (m.laneFault n cause).1 = ((if (m.retireLane n cause).lanesIn .active = 0 then
          ((((m.retireLane n cause).writeRecordFn 0x0D detail false fn).raise evLaneFault).sessionEnd).mapLink
            (fun l => { l with st := 3, retire := 0, column := [] })
        else (((m.retireLane n cause).writeRecordFn 0x0D detail false fn).raise evLaneFault).alignCol true).raise
          evLinkState).linkBoundary := by
  unfold Chip.laneFault
  rw [if_pos hst]
  simp only [hflight, Option.isSome_none, Bool.false_eq_true, if_false]
  exact ⟨_, _, rfl⟩

/-- A driver fault or a LANEFAULT of an ACTIVE lane with no packet in flight (R507 to R509). -/
theorem laneFault_leaves {cause : Nat} (hn : n < m.link.lanes.length) (hst : (m.lane n).st = .active) (hcore : m.pw.core = true)
    (hflight : m.link.flight = none) (hoff : m.link.offAfter = false) (htrain : m.link.trainAfter = false) (hmov : m.moversOff) :
    ∃ t, (m.laneFault n cause).1 = t ∧ (t.lane n).st = .retired ∧ (t.lane n).cause = cause ∧
      (∀ j, j ≠ n → (t.lane j).st = (m.lane j).st) ∧
      t.rd spFault 0 = m.rd spFault 0 + 1 ∧ tst (t.rd 0 0x14) 5 = true ∧ tst (t.rd 0 0x14) 6 = true ∧
      ((∃ j, j < 4 ∧ j ≠ n ∧ (m.lane j).st = .active) → t.link.st = m.link.st) ∧
      ((∀ j, j < 4 → j ≠ n → (m.lane j).st ≠ .active) → t.link.st = 3) := by
  obtain ⟨detail, fn, heq⟩ := laneFault_eq (cause := cause) hst hflight
  obtain ⟨st, hret⟩ := retireLane_leaves m n cause
  have hsame : (m.retireLane n cause).lane n = { m.lane n with st := .retired, cause := cause } := by
    rw [hret]
    exact Chip.lane_mapLane_same _ hn
  have hne : ∀ j, j ≠ n → (m.retireLane n cause).lane j = m.lane j := by
    intro j hj
    rw [hret]
    exact Chip.lane_mapLane_ne m _ hj
  have hparts : (m.retireLane n cause).pw = m.pw ∧ (m.retireLane n cause).link.flight = m.link.flight ∧
      (m.retireLane n cause).link.offAfter = m.link.offAfter ∧ (m.retireLane n cause).link.trainAfter = m.link.trainAfter ∧
      (m.retireLane n cause).movers = m.movers ∧ (m.retireLane n cause).regs = m.regs ∧
      (m.retireLane n cause).link.st = m.link.st := by
    rw [hret]
    exact ⟨rfl, rfl, rfl, rfl, rfl, rfl, rfl⟩
  generalize m.retireLane n cause = m1 at heq hsame hne hparts
  obtain ⟨hpw, hfl, hof, htr, hmv, hregs, hst1⟩ := hparts
  obtain ⟨t, ht, hlanes, hcount, h5, h6, hlst⟩ := laneRecord_leaves (m := m1) detail fn (m1.lanesIn .active) (hpw ▸ hcore)
    (hfl.trans hflight) (hof.trans hoff) (htr.trans htrain) (fun c hc => (congrArg (fun l : List Mover =>
      (l.getD c Mover.reset).act) hmv).trans (hmov c hc))
  refine ⟨t, heq.trans ht, ?_, ?_, fun j hj => ?_, ?_, h5, h6, fun ⟨j, hj4, hj, hact⟩ => ?_, fun hall => ?_⟩
  · exact (hlanes.lane n).1.trans (congrArg Lane.st hsame)
  · exact (hlanes.lane n).2.trans (congrArg Lane.cause hsame)
  · exact (hlanes.lane j).1.trans (congrArg Lane.st (hne j hj))
  · rw [hcount, Chip.rd, hregs, Chip.rd]
  · rw [hlst, if_neg, hst1]
    exact fun h => lanesIn_eq_zero.mp h j hj4 ((congrArg Lane.st (hne j hj)).trans hact)
  · rw [hlst, if_pos]
    refine lanesIn_eq_zero.mpr fun j hj4 => ?_
    by_cases hj : j = n
    · subst hj
      rw [hsame]
      exact fun h => nomatch h
    · rw [hne j hj]
      exact hall j hj4 hj

/-- Lanes retired one after the other. -/
theorem retireLanes_leaves (l : List Nat) (m : Chip) (hl : ∀ n ∈ l, n < m.link.lanes.length) :
    ∃ ls st, l.foldl (fun m n => m.retireLane n 3) m = { m.withLanes ls with st := st } ∧
      ls.length = m.link.lanes.length ∧
      ∀ n, (ls.getD n Lane.reset).st = if n ∈ l then .retired else (m.lane n).st := by
  induction l generalizing m with
  | nil => exact ⟨m.link.lanes, m.st, rfl, rfl, fun n => (if_neg List.not_mem_nil).symm⟩
  | cons n l ih =>
    obtain ⟨st, hret⟩ := retireLane_leaves m n 3
    have hlen : (m.retireLane n 3).link.lanes.length = m.link.lanes.length := by
      rw [hret]
      exact List.length_modify ..
    obtain ⟨ls, st', hls, hlen', hst⟩ := ih (m.retireLane n 3) (fun k hk => hlen ▸ hl k (List.mem_cons_of_mem _ hk))
    refine ⟨ls, st', ?_, hlen'.trans hlen, fun k => (hst k).trans ?_⟩
    · rw [List.foldl_cons, hls, hret]
      rfl
    · by_cases hk : k = n
      · subst hk
        have hlane : (m.retireLane k 3).lane k = { m.lane k with st := .retired, cause := 3 } := by
          rw [hret]
          exact Chip.lane_mapLane_same _ (hl k List.mem_cons_self)
        rw [hlane, if_pos List.mem_cons_self, ite_self]
      · have hlane : (m.retireLane n 3).lane k = m.lane k := by
          rw [hret]
          exact Chip.lane_mapLane_ne m _ hk
        rw [hlane]
        simp only [List.mem_cons, hk, false_or]

/-- A planned retirement that leaves a lane (R510). -/
theorem applyRetire_some {act go : BitVec 4} (hlen : m.link.lanes.length = 4) (hcore : m.pw.core = true)
    (hact : act = BitVec.ofNat 4 (m.lanesIn .active)) (hgo : go = m.link.retire &&& act) (h0 : go ≠ 0) (hall : go ≠ act) :
    ∃ t, m.applyRetire = t ∧ t.link.retire = 0 ∧ tst (t.rd 0 0x14) 6 = true ∧
      ∀ n, n < 4 → (t.lane n).st = if go.getLsbD n then .retired else (m.lane n).st := by
  unfold Chip.applyRetire
  dsimp only
  rw [← hact, ← hgo]
  rw [if_neg h0, if_neg hall]
  generalize hm1 : m.mapLink (fun l => { l with retire := 0, retireNow := false, retireEdge := false }) = m1
  have hlink : m1.link.lanes = m.link.lanes ∧ m1.link.retire = 0 ∧ m1.pw = m.pw := by
    rw [← hm1]
    exact ⟨rfl, rfl, rfl⟩
  obtain ⟨ls, st, hls, hlen', hst⟩ := retireLanes_leaves ([0, 1, 2, 3].filter (fun n => go.getLsbD n)) m1 (by
    intro n hn
    rw [hlink.1, hlen]
    have hn := List.mem_of_mem_filter hn
    simp only [List.mem_cons, List.not_mem_nil, or_false] at hn
    omega)
  rw [hls]
  obtain ⟨ls', col, hcol, _, hstates⟩ := sendColumn_leaves { m1.withLanes ls with st := st }
    (fun l p => (true, Chip.alignBytes { m1.withLanes ls with st := st } true l p))
  have hcol' : Chip.alignCol { m1.withLanes ls with st := st } true = _ := hcol
  refine ⟨_, rfl, ?_, ?_, fun n hn => ?_⟩
  · rw [hcol', Chip.raise_link]
    exact hlink.2.1
  · rw [hcol']
    refine raise_bit (e := evLinkState) ?_
    exact (congrArg Power.core hlink.2.2).trans hcore
  · rw [hcol', Chip.lane, Chip.raise_link]
    refine (hstates.lane n).1.trans ((hst n).trans ?_)
    have hlane : m1.lane n = m.lane n := congrArg (fun l : List Lane => l.getD n Lane.reset) hlink.1
    have hmem : n ∈ [0, 1, 2, 3].filter (fun n => go.getLsbD n) ↔ go.getLsbD n = true := by
      rw [List.mem_filter]
      simp only [List.mem_cons, List.not_mem_nil, or_false, and_iff_right_iff_imp]
      omega
    rw [hlane]
    simp only [hmem]

theorem applyRetire_all {act go : BitVec 4} (hact : act = BitVec.ofNat 4 (m.lanesIn .active)) (hgo : go = m.link.retire &&& act)
    (h0 : go ≠ 0) (hall : go = act) :
    m.applyRetire = (m.mapLink (fun l => { l with retire := 0, retireNow := false, retireEdge := false })).orBits 0 0x39 0x0100 := by
  unfold Chip.applyRetire
  dsimp only
  rw [← hact, ← hgo]
  rw [if_neg h0, if_pos hall]

end

section
variable {s : State}

theorem trainTimeout_reports {f : Tick} (hlink : s.chip.pw.link = true) (hcore : s.chip.pw.core = true) (hst : s.chip.link.st = 1)
    (hms : s.chip.rd spLink 0x10 ≠ 0) (hf : s.chip.link.trainFrom = some f)
    (hlim : f.toNat + 100000 * (s.chip.rd spLink 0x10).toNat ≤ s.chip.tb.stb.toNat) :
    Answers .trainTimeout s (fun t => t.rd 0 0x39 = s.chip.rd 0 0x39 ||| 0x0800 ∧ tst (t.rd 0 0x14) 6 = true ∧
      OnlyThese { s.chip with link := { s.chip.link with trainFrom := none } } t [(0, 0x39), (0, 0x14)]) := by
  have hms' : (s.chip.rd spLink 0x10).toNat ≠ 0 := fun h => hms (BitVec.eq_of_toNat_eq h)
  refine answers_leaves (b := s.chip.pw.link && s.chip.link.st == 1 && (s.chip.rd spLink 0x10).toNat != 0 &&
      s.chip.link.trainFrom.any (fun t => s.chip.msSince t (s.chip.rd spLink 0x10).toNat)) rfl ?_ ⟨?_, ?_, ?_⟩
    fun _ h => ⟨h.1, h.2.1, h.2.2.settle⟩
  · simp [hlink, hst, hms', hf, Chip.msSince, Chip.now, hlim]
  · rw [Chip.rd_raise _ _ _ _ (by exact hcore), if_neg (by decide)]
    exact (Chip.rd_orBits ..).trans (if_pos rfl)
  · exact raise_bit (e := evLinkState) (by exact hcore)
  · exact ((OnlyThese.refl _ _).orBits _ (by simp)).raise (n := evLinkState) hcore (by simp [evLinkState])

theorem rxlossExpiry_guard (hlink : s.chip.pw.link = true) (hsync : s.chip.link.rxSync = false) (hsess : s.chip.inSession = true)
    (hlim : s.chip.link.lostAt.toNat + 100000 * fld (s.chip.rd spLink 0x11) 0 8 ≤ s.chip.tb.stb.toNat) :
    (s.chip.pw.link && s.chip.inSession && !s.chip.link.rxSync &&
      s.chip.msSince s.chip.link.lostAt (fld (s.chip.rd spLink 0x11) 0 8)) = true := by
  simp [hlink, hsync, hsess, Chip.msSince, Chip.now, hlim]

theorem rxlossExpiry_trains (hlink : s.chip.pw.link = true) (hsync : s.chip.link.rxSync = false) (hsess : s.chip.inSession = true)
    (hlim : s.chip.link.lostAt.toNat + 100000 * fld (s.chip.rd spLink 0x11) 0 8 ≤ s.chip.tb.stb.toNat)
    (hflight : s.chip.link.flight = none) (hact : s.chip.link.act = true) (hen : s.chip.linkEn = true) :
    Answers .rxlossExpiry s (fun t => t.link.st = 1 ∧ (∀ j, (t.stream j).credits = 0) ∧ t.link.trainAfter = false) := by
  have hreq : s.chip.requestTrain = s.chip.train := if_neg (by rw [hflight]; decide)
  refine answers_leaves (m := s.chip.requestTrain) rfl (rxlossExpiry_guard hlink hsync hsess hlim) ?_
  rw [hreq]
  exact train_starts hact hen hlink

theorem rxlossExpiry_waits (hlink : s.chip.pw.link = true) (hsync : s.chip.link.rxSync = false) (hsess : s.chip.inSession = true)
    (hlim : s.chip.link.lostAt.toNat + 100000 * fld (s.chip.rd spLink 0x11) 0 8 ≤ s.chip.tb.stb.toNat)
    (hflight : s.chip.link.flight.isSome = true) :
    Answers .rxlossExpiry s (fun t => t.link = { s.chip.link with trainAfter := true } ∧ OnlyLink s.chip t) := by
  have hreq : s.chip.requestTrain = s.chip.mapLink (fun l => { l with trainAfter := true }) := if_pos hflight
  refine answers_guarded (m := s.chip.requestTrain) rfl (rxlossExpiry_guard hlink hsync hsess hlim) ?_
  rw [hreq]
  exact ⟨rfl, rfl⟩

/-- A /K28.0/ by the fill of the elastic buffer (R493). -/
theorem rxlSkip_answers (hlink : s.chip.pw.link = true) (fill : Nat) :
    (20 < fill → Answers (.rxlSkip fill) s (fun t => t.rd spLink 0x1A = satAdd (s.chip.rd spLink 0x1A) 1 ∧
        OnlyThese s.chip t [(spLink, 0x1A)])) ∧
      (fill < 12 → Answers (.rxlSkip fill) s (fun t => t.rd spLink 0x19 = satAdd (s.chip.rd spLink 0x19) 1 ∧
        OnlyThese s.chip t [(spLink, 0x19)])) ∧
      (12 ≤ fill → fill ≤ 20 → Answers (.rxlSkip fill) s (Unchanged s.chip)) := by
  have hexec : exec (.rxlSkip fill) s = guarded s s.chip.pw.link
    (if 20 < fill then s.chip.bump spLink 0x1A 1 else if fill < 12 then s.chip.bump spLink 0x19 1 else s.chip) := rfl
  refine ⟨fun h => ?_, fun h => ?_, fun h h' => ?_⟩
  · rw [if_pos h] at hexec
    exact answers_leaves hexec hlink ⟨(Chip.rd_bump ..).trans (if_pos rfl), (OnlyThese.refl _ _).bump 1 (by simp)⟩
      fun _ h => ⟨h.1, h.2.settle⟩
  · rw [if_neg (by omega), if_pos h] at hexec
    exact answers_leaves hexec hlink ⟨(Chip.rd_bump ..).trans (if_pos rfl), (OnlyThese.refl _ _).bump 1 (by simp)⟩
      fun _ h => ⟨h.1, h.2.settle⟩
  · rw [if_neg (by omega), if_neg (by omega)] at hexec
    exact answers_guarded hexec hlink rfl

/-- A marker column advances MCOUNT. -/
theorem markerCol_leaves (m : Chip) :
    ∃ ls col, m.markerCol = m.mapLink (fun l => { l with
        mcount := l.mcount + 1, lanes := ls, column := col, sinceAlign := 0, sinceIdle := l.sinceIdle + 1 }) ∧
      col.length = m.senders.length ∧ SameStates ls m.link.lanes := by
  unfold Chip.markerCol
  generalize hx : m.mapLink (fun l => { l with mcount := l.mcount + 1 }) = x
  obtain ⟨ls, col, hcol, hlen, hst⟩ := sendColumn_leaves x (fun l p => (true, x.alignBytes false l p))
  have hcol' : x.alignCol false = _ := hcol
  subst hx
  exact ⟨ls, col, by rw [hcol']; rfl, hlen, hst⟩

/-- The marker column that is due (R485). -/
theorem alignColumn_sent (hlink : s.chip.pw.link = true) (hsend : s.chip.senders ≠ []) (hdue : 16383 ≤ s.chip.link.sinceAlign) :
    Answers .alignColumn s (fun t => t.link.mcount = s.chip.link.mcount + 1 ∧ t.link.sinceAlign = 0 ∧
      t.link.column.length = s.chip.senders.length ∧ (∀ n, (t.lane n).st = (s.chip.lane n).st) ∧ OnlyLink s.chip t) := by
  obtain ⟨ls, col, hmark, hlen, hst⟩ := markerCol_leaves s.chip
  refine answers_guarded (m := s.chip.markerCol) rfl (b := s.chip.pw.link && !s.chip.senders.isEmpty && s.chip.alignDue)
    (by simp [hlink, hsend, Chip.alignDue, hdue]) ?_
  rw [hmark]
  exact ⟨rfl, rfl, hlen, fun n => (hst.2 n).1, rfl⟩

/-- An IDLE column, where no marker column is due (R483). -/
theorem idleColumn_sent (hlink : s.chip.pw.link = true) (hsend : s.chip.senders ≠ []) (hdue : s.chip.link.sinceAlign < 16383) :
    Answers .idleColumn s (fun t => t.link.mcount = s.chip.link.mcount ∧ t.link.sinceIdle = 0 ∧
      t.link.sinceAlign = s.chip.link.sinceAlign + 1 ∧ t.link.column.length = s.chip.senders.length ∧
      (∀ n, (t.lane n).st = (s.chip.lane n).st) ∧ OnlyLink s.chip t) := by
  obtain ⟨ls, col, hcol, hlen, hst⟩ := sendColumn_leaves s.chip (fun _ _ => (true, [0x1E, 0, 0, 0, 0, 0, 0, 0]))
  have hidle : s.chip.idleCol = (Chip.mapLink _ _).mapLink (fun l => { l with sinceIdle := 0 }) :=
    congrArg (fun m : Chip => m.mapLink (fun l => { l with sinceIdle := 0 })) hcol
  refine answers_guarded (m := s.chip.idleCol) rfl (b := s.chip.pw.link && !s.chip.senders.isEmpty && !s.chip.alignDue)
    (by simp [hlink, hsend, Chip.alignDue, hdue]) ?_
  rw [hidle]
  exact ⟨rfl, rfl, rfl, hlen, fun n => (hst.2 n).1, rfl⟩

end

/-- Settles O58: each event of RXL and of the columns, and lost lanes by the lanes that are left. -/
theorem linkEvents : Obligations.LinkEvents := by
  unfold Obligations.LinkEvents
  refine ⟨fun s hlink hcore => ⟨fun f hst hms hf hlim => trainTimeout_reports hlink hcore hst hms hf hlim,
      answers_guarded rfl hlink ⟨rfl, rfl⟩, fun hsync => ?_, fun hsync hsess hlim =>
        ⟨rxlossExpiry_trains hlink hsync hsess hlim, rxlossExpiry_waits hlink hsync hsess hlim⟩,
      rxlSkip_answers hlink, ?_, ?_, fun hsend => ⟨alignColumn_sent hlink hsend, idleColumn_sent hlink hsend⟩⟩,
    fun s n hs hlink hcore => ⟨completes_guarded rfl hlink, fun hst => ?_, fun hst hflight hoff htrain hmov => ?_⟩,
    fun s act go hs hlink hcore hsess hflight hdue hact hgo => ⟨fun h0 hall => ?_, fun h0 hall => ?_⟩, fun s hret hlim => ?_⟩
  · have hexec : exec .rxlSyncLoss s = guarded s (s.chip.pw.link && s.chip.link.rxSync)
        ((s.chip.mapLink (fun l => { l with rxSync := false, lostAt := s.chip.now })).bump spLink 0x1C 1) := rfl
    exact answers_leaves hexec (by rw [hlink, hsync]; rfl) ⟨rfl, (Chip.rd_bump ..).trans (if_pos rfl),
      WordsKept.bump (t := s.chip.mapLink _) (WordsKept.refl _ _) 1 (by simp)⟩
  · refine answers_leaves (m := (s.chip.bump spLink 0x1B 1).orBits 0 0x39 0x0200) rfl hlink ⟨?_, ?_, ?_⟩
      fun _ h => ⟨h.1, h.2.1, h.2.2.settle⟩
    · rw [Chip.rd_orBits, if_neg (by decide), Chip.rd_bump, if_pos rfl]
    · rw [Chip.rd_orBits, if_pos rfl, Chip.rd_bump, if_neg (by decide)]
    · exact ((OnlyThese.refl _ _).bump 1 (by simp)).orBits _ (by simp)
  · exact answers_leaves (m := s.chip.bump spLink 0x18 1) rfl hlink
      ⟨(Chip.rd_bump ..).trans (if_pos rfl), (OnlyThese.refl _ _).bump 1 (by simp)⟩ fun _ h => ⟨h.1, h.2.settle⟩
  · have hexec : exec (.laneDriverFault n) s = guarded s s.chip.pw.link (s.chip.laneFault n.val 1).1 := rfl
    rw [show s.chip.laneFault n.val 1 = (s.chip, false) from if_neg hst] at hexec
    exact answers_guarded hexec hlink rfl
  · obtain ⟨t, ht, hrest⟩ := laneFault_leaves (cause := 1) (by rw [hs.lanes]; exact n.isLt) hst hcore hflight hoff htrain hmov
    have hexec : exec (.laneDriverFault n) s = guarded s s.chip.pw.link (s.chip.laneFault n.val 1).1 := rfl
    rw [ht] at hexec
    exact answers_leaves hexec hlink hrest
  · obtain ⟨t, ht, hrest⟩ := applyRetire_some hs.lanes hcore hact hgo h0 hall
    have hexec : exec .retirementApply s =
      guarded s (s.chip.pw.link && s.chip.inSession && s.chip.link.flight.isNone && s.chip.retireDue) s.chip.applyRetire := rfl
    rw [ht] at hexec
    exact answers_leaves hexec (by rw [hlink, hsess, hflight, hdue]; rfl) hrest
  · have hexec : exec .retirementApply s =
      guarded s (s.chip.pw.link && s.chip.inSession && s.chip.link.flight.isNone && s.chip.retireDue) s.chip.applyRetire := rfl
    rw [applyRetire_all hact hgo h0 hall] at hexec
    exact answers_leaves hexec (by rw [hlink, hsess, hflight, hdue]; rfl) ⟨rfl, rfl, (Chip.rd_orBits ..).trans (if_pos rfl),
      WordsKept.orBits (t := s.chip.mapLink _) (WordsKept.refl _ _) _ (by simp)⟩
  · have hexec : exec .retmaxExpiry s = guarded s (s.chip.link.retire != 0 &&
      s.chip.msSince s.chip.link.retireAt (s.chip.rd spLink 0x12).toNat) (s.chip.mapLink (fun l => { l with retireNow := true })) := rfl
    exact answers_guarded hexec (by rw [Bool.and_eq_true]; exact ⟨bne_iff_ne.mpr hret, decide_eq_true hlim⟩) ⟨rfl, rfl⟩

end Sys2Proof.Machine
end


section
/-! PROOFS. Packets and the messages of the return lane. -/

namespace Sys2Proof.Machine
-- What the steps below change is compared with the model by unfolding: one elaboration at a time.
set_option Elab.async false

/-! ## Packets (O59) -/

/-- Only what columns move on has changed: the lanes, MCOUNT, the column and the columns since a marker and an IDLE column. -/
def Columns (m t : Chip) : Prop :=
  ∃ ls col mc sa si, t = m.mapLink (fun l => { l with lanes := ls, column := col, mcount := mc, sinceAlign := sa, sinceIdle := si })

section
variable {m t : Chip}

theorem Columns.refl (m : Chip) : Columns m m :=
  ⟨m.link.lanes, m.link.column, m.link.mcount, m.link.sinceAlign, m.link.sinceIdle, rfl⟩

theorem Columns.trans {u : Chip} (h : Columns m t) (h' : Columns t u) : Columns m u := by
  obtain ⟨_, _, _, _, _, rfl⟩ := h
  obtain ⟨ls, col, mc, sa, si, rfl⟩ := h'
  exact ⟨ls, col, mc, sa, si, rfl⟩

theorem Columns.ite {a b : Chip} {c : Prop} [Decidable c] (ha : Columns m a) (hb : Columns m b) :
    Columns m (if c then a else b) := by
  split
  · exact ha
  · exact hb

theorem columns_sendColumn (m : Chip) (f : Nat → Nat → Bool × List Byte) : Columns m (m.sendColumn f) := by
  obtain ⟨ls, col, h, _⟩ := sendColumn_leaves m f
  rw [h]
  exact ⟨ls, col, m.link.mcount, m.link.sinceAlign + 1, m.link.sinceIdle + 1, rfl⟩

theorem columns_markerCol (m : Chip) : Columns m m.markerCol := by
  obtain ⟨ls, col, h, _⟩ := markerCol_leaves m
  rw [h]
  exact ⟨ls, col, m.link.mcount + 1, 0, m.link.sinceIdle + 1, rfl⟩

theorem columns_idleCol (m : Chip) : Columns m m.idleCol := by
  obtain ⟨ls, col, h, _⟩ := sendColumn_leaves m (fun _ _ => (true, [0x1E, 0, 0, 0, 0, 0, 0, 0]))
  have h' : m.idleCol = (Chip.mapLink _ _).mapLink (fun l => { l with sinceIdle := 0 }) :=
    congrArg (fun m : Chip => m.mapLink (fun l => { l with sinceIdle := 0 })) h
  rw [h']
  exact ⟨ls, col, m.link.mcount, m.link.sinceAlign + 1, 0, rfl⟩

theorem columns_packetColumn (m : Chip) (f : Nat → Nat → Bool × List Byte) : Columns m (m.packetColumn f) := by
  unfold Chip.packetColumn
  extract_lets m1 m2
  have h1 : Columns m m1 := .ite (columns_markerCol m) (.refl m)
  have h2 : Columns m m2 := .ite (h1.trans (columns_idleCol m1)) h1
  exact h2.trans (columns_sendColumn m2 f)

theorem columns_sendRest (m : Chip) (bytes : List Byte) (k : Nat) : Columns m (m.sendRest bytes k) := by
  induction k generalizing m bytes with
  | zero => exact .refl m
  | succ k ih =>
    unfold Chip.sendRest
    exact .ite (.refl m) ((columns_packetColumn m _).trans (ih _ _))

end

section
variable {m : Chip} {n : Nat} {r : Rec} {rest : List Rec}

/-- A stream after one of its packets has started. -/
def Stream.started (need : Nat) (t : Stream) : Stream :=
  { t with pseq := t.pseq + 1, credits := if t.inf then t.credits else t.credits - need }

/-- A packet that starts, where no frame start latches a seal. -/
theorem startPacket_leaves (hrecs : (m.stream n).recs = r :: rest) (hseal : tst (m.rd spSeal (0x10 + n)) 15 = false ∨ r.dt ≠ 1) :
    ∃ t x, m.startPacket n = t.mapLink (fun l => { l with flight := some x }) ∧
      Columns (m.mapStream n (Stream.started (creditsFor (m.packetLen n r)))) t ∧ x.stream = n ∧ x.bytes = m.packetBytes n r ∧
      x.final = !r.atLineStart := by
  have hlatch : ∀ f, r.dt = 1 → m.latchSeal n f = m := by
    intro f hdt
    unfold Chip.latchSeal
    rcases hseal with h | h
    · exact if_pos (by rw [h]; rfl)
    · exact absurd hdt h
  unfold Chip.startPacket
  rw [hrecs]
  dsimp -zeta only
  extract_lets m1 bytes need f x m2
  have hm1 : m1 = m := by
    unfold m1
    split
    next hdt _ => exact hlatch _ hdt
    next => rfl
  clear_value m1
  subst hm1
  exact ⟨_, x, rfl, columns_packetColumn _ _, rfl, rfl, rfl⟩

theorem streamIdle_link (m : Chip) (s : Nat) : (m.streamIdle s).link = m.link := by
  unfold Chip.streamIdle
  dsimp only
  split
  · rfl
  · rfl

/-- A record's buffer is given back: its stream's records stay. -/
theorem freeRec_leaves {s g : Nat} (hs : s < m.streams.length) :
    ((m.freeRec s g).stream s).recs = (m.stream s).recs ∧ (∀ j, j ≠ s → (m.freeRec s g).stream j = m.stream j) ∧
      (m.freeRec s g).streams.length = m.streams.length ∧ (m.freeRec s g).regs = m.regs ∧ (m.freeRec s g).link = m.link := by
  unfold Chip.freeRec
  refine ⟨?_, fun j hj => ?_, ?_, streamIdle_regs .., streamIdle_link ..⟩
  · rw [streamIdle_stream_same (by rw [Chip.length_mapStream]; exact hs), (Stream.idle_recs ..).1,
      Chip.stream_mapStream_same m s _ hs]
  · rw [streamIdle_stream_ne hj, Chip.stream_mapStream_ne m s _ hj]
  · rw [streamIdle_length, Chip.length_mapStream]

variable {x : Flight}

/-- A stream whose first record's line start has gone. -/
def Stream.lineStarted (t : Stream) : Stream := { t with recs := t.recs.modifyHead (fun r => { r with sent := 1 }) }

/-- What is left of the completion of a packet of no frame and no mover once its columns have gone. -/
theorem packetSent_leaves (hframed : x.framed = false) (hchan : x.chan = none) :
    ∃ t, Columns (m.mapLink (fun l => { l with flight := none })) t ∧
      m.packetSent x = ((if x.final then (t.mapStream x.stream (fun s => { s with recs := s.recs.drop 1 })).freeRec x.stream x.buf
        else t.mapStream x.stream Stream.lineStarted).streamIdle x.stream).linkBoundary := by
  unfold Chip.packetSent
  extract_lets s m1 sent line m2 m3 m4 m5
  have hnone : ∀ t : Chip, t.flightFrame x = none := fun t => if_neg (by rw [hframed]; decide)
  have hm2 : m2 = m1 := by
    unfold m2
    rw [hnone]
  have hm4 : m4 = if x.final then m3 else m2.mapStream s Stream.lineStarted := by
    unfold m4
    split
    · split
      next f _ hf => exact absurd ((hnone m3).symm.trans hf) (by simp)
      next => rfl
    · congr 1
      funext t
      unfold Stream.lineStarted
      split <;> simp [*]
  have hm5 : m5 = m4 := by
    unfold m5
    rw [hchan]
  refine ⟨m1, ?_, ?_⟩
  · obtain ⟨ls, col, mc, sa, si, h⟩ := columns_sendRest m (x.bytes.drop (8 * m.senders.length - 1)) x.bytes.length
    unfold m1
    rw [h]
    exact ⟨ls, col, mc, sa, si, rfl⟩
  · rw [hm5, hm4]
    unfold m3
    rw [hm2]

end

section
variable {s : State}

theorem exec_packetStart {n : Nat} (hn : s.chip.nextStream = some n) :
    exec .packetStart s = guarded s s.chip.packetBoundary (s.chip.startPacket n) := by
  change execPacketStart s = _
  unfold execPacketStart
  dsimp only
  rw [hn]

theorem exec_packetComplete {x : Flight} (hx : s.chip.link.flight = some x) :
    exec .packetComplete s = guarded s s.chip.pw.link (s.chip.packetSent x) := by
  change execPacketComplete s = _
  unfold execPacketComplete
  dsimp only
  rw [hx]

/-- The packet of the chosen stream goes into flight (R515, R526). -/
theorem packetStart_flies {n : Nat} {r : Rec} {rest : List Rec} (hn : s.chip.nextStream = some n)
    (hb : s.chip.packetBoundary = true) (hrecs : (s.chip.stream n).recs = r :: rest)
    (hseal : tst (s.chip.rd spSeal (0x10 + n)) 15 = false ∨ r.dt ≠ 1) :
    Answers .packetStart s (fun t => t.link.flight.map (·.stream) = some n ∧
      t.link.flight.map (·.bytes) = some (s.chip.packetBytes n r) ∧ t.link.flight.map (·.final) = some (!r.atLineStart) ∧
      (t.stream n).pseq = (s.chip.stream n).pseq + 1 ∧ (t.stream n).recs = r :: rest ∧
      ((s.chip.stream n).inf = false →
        (t.stream n).credits = (s.chip.stream n).credits - (20 + s.chip.packetLen n r + 255) / 256) ∧
      ((s.chip.stream n).inf = true → (t.stream n).credits = (s.chip.stream n).credits) ∧ AllWordsKept s.chip t) := by
  have hlen : n < s.chip.streams.length := by
    by_contra h
    have hreset : s.chip.stream n = Stream.reset := List.getD_eq_default _ _ (Nat.not_lt.mp h)
    rw [hreset] at hrecs
    exact nomatch hrecs
  obtain ⟨t, x, ht, ⟨ls, col, mc, sa, si, hcol⟩, hx, hbytes, hfinal⟩ := startPacket_leaves (m := s.chip) hrecs hseal
  have hstream : (s.chip.mapStream n (Stream.started (creditsFor (s.chip.packetLen n r)))).stream n =
      (s.chip.stream n).started (creditsFor (s.chip.packetLen n r)) := Chip.stream_mapStream_same _ _ _ hlen
  have hstream' : (t.mapLink (fun l => { l with flight := some x })).stream n =
      (s.chip.stream n).started (creditsFor (s.chip.packetLen n r)) := by
    rw [← hstream, hcol]
    rfl
  have hexec := exec_packetStart hn
  rw [ht] at hexec
  refine answers_leaves hexec hb ?_
  rw [hstream']
  refine ⟨congrArg some hx, congrArg some hbytes, congrArg some hfinal, rfl, hrecs, fun hinf => ?_, fun hinf => ?_, ?_⟩
  · exact if_neg (by rw [hinf]; decide)
  · exact if_pos hinf
  · rw [hcol]
    rfl

/-- The packet of no frame and no mover that has gone (R470). -/
theorem packetComplete_leaves {x : Flight} (hs : s.chip.shaped) (hlink : s.chip.pw.link = true)
    (hx : s.chip.link.flight = some x) (hframed : x.framed = false) (hchan : x.chan = none)
    (hoff : s.chip.link.offAfter = false) (htrain : s.chip.link.trainAfter = false) (hlt : x.stream < 8) :
    (x.final = true →
      Answers .packetComplete s (fun t => t.link.flight = none ∧
        (t.stream x.stream).recs = (s.chip.stream x.stream).recs.drop 1 ∧
        (∀ j, j ≠ x.stream → t.stream j = s.chip.stream j) ∧ AllWordsKept s.chip t)) ∧
    (x.final = false →
      Answers .packetComplete s (fun t => t.link.flight = none ∧
        (t.stream x.stream).recs.length = (s.chip.stream x.stream).recs.length ∧
        ((t.stream x.stream).recs.head?).map (·.sent) = ((s.chip.stream x.stream).recs.head?).map (fun _ => 1) ∧
        AllWordsKept s.chip t)) := by
  obtain ⟨t, ⟨ls, col, mc, sa, si, hcol⟩, hsent⟩ := packetSent_leaves (m := s.chip) hframed hchan
  have hstreams : t.streams = s.chip.streams := by
    rw [hcol]
    rfl
  have hstream : ∀ j, t.stream j = s.chip.stream j := fun j => congrArg (fun l : List Stream => l.getD j Stream.reset) hstreams
  have hlen : x.stream < t.streams.length := by
    rw [hstreams, hs.streams]
    exact hlt
  have hlinkt : t.link.flight = none ∧ t.link.offAfter = false ∧ t.link.trainAfter = false := by
    rw [hcol]
    exact ⟨rfl, hoff, htrain⟩
  have hregs : t.regs = s.chip.regs := by
    rw [hcol]
    rfl
  have hend : ∀ u : Chip, u.link = t.link → (u.streamIdle x.stream).linkBoundary = u.streamIdle x.stream := fun u hu => by
    obtain ⟨h1, h2, h3⟩ := hlinkt
    exact linkBoundary_none (by rw [streamIdle_link, hu, h1]) (by rw [streamIdle_link, hu, h2]) (by rw [streamIdle_link, hu, h3])
  have hexec := exec_packetComplete hx
  rw [hsent] at hexec
  constructor
  · intro hfinal
    have hlen' : x.stream < (t.mapStream x.stream (fun s => { s with recs := s.recs.drop 1 })).streams.length := by
      rw [Chip.length_mapStream]
      exact hlen
    obtain ⟨hrecs, hne, hflen, hfregs, hflink⟩ := freeRec_leaves (g := x.buf) hlen'
    rw [if_pos hfinal, hend _ (by rw [hflink]; rfl)] at hexec
    refine answers_leaves hexec hlink ⟨?_, ?_, fun j hj => ?_, ?_⟩
    · rw [streamIdle_link, hflink]
      exact hlinkt.1
    · rw [streamIdle_stream_same (by rw [hflen]; exact hlen'), (Stream.idle_recs ..).1, hrecs,
        Chip.stream_mapStream_same _ _ _ hlen, hstream]
    · rw [streamIdle_stream_ne hj, hne j hj, Chip.stream_mapStream_ne _ _ _ hj, hstream]
    · exact ((streamIdle_regs ..).trans hfregs).trans hregs
  · intro hfinal
    rw [if_neg (by rw [hfinal]; decide), hend (t.mapStream x.stream Stream.lineStarted) rfl] at hexec
    have hrecs : (((t.mapStream x.stream Stream.lineStarted).streamIdle x.stream).stream x.stream).recs =
        (s.chip.stream x.stream).lineStarted.recs := by
      rw [streamIdle_stream_same (by rw [Chip.length_mapStream]; exact hlen), (Stream.idle_recs ..).1,
        Chip.stream_mapStream_same _ _ _ hlen, hstream]
    refine answers_leaves hexec hlink ⟨?_, ?_, ?_, (streamIdle_regs ..).trans hregs⟩
    · rw [streamIdle_link]
      exact hlinkt.1
    · rw [hrecs]
      exact List.length_modifyHead
    · rw [hrecs, Stream.lineStarted]
      cases (s.chip.stream x.stream).recs with
      | nil => rfl
      | cons r rest => rfl

end

/-- Settles O59: a packet goes into flight with its stream's PSEQ and credits, and takes its record or its line start along. -/
theorem packets : Obligations.Packets := by
  unfold Obligations.Packets
  exact ⟨fun s n hn hb => completes_guarded (exec_packetStart hn) hb,
    fun s x hlink hx => completes_guarded (exec_packetComplete hx) hlink,
    fun s n r rest _ hn hb hrecs hseal => packetStart_flies hn hb hrecs hseal,
    fun s x hs hlink hx hframed hchan hoff htrain hlt =>
      packetComplete_leaves hs hlink hx hframed hchan hoff htrain hlt⟩

/-! ## Messages of the return lane (O60) -/

section
variable {m : Chip}

/-- An event writes no word of another space than the direct map. -/
theorem rd_raise_other (m : Chip) (e : Nat) {sp off : Nat} (hsp : sp ≠ 0) (hoff : off < 0x1000000) (he : e < 32) :
    (m.raise e).rd sp off = m.rd sp off := by
  unfold Chip.raise
  split
  · rw [Chip.rd_orBits, if_neg (key_ne_of_space hsp hoff (by omega))]
  · rfl

/-- A message whose acknowledgement is not sent counts. -/
theorem messageDone_quiet {r : Chip × Bool} {type : Nat} {mseq : Byte} {a : Bool}
    (hq : a = true → tst (r.1.rd spSeal 1) 3 = false) : Chip.messageDone r type mseq a true = r.1.bump spSeal 3 1 := by
  unfold Chip.messageDone
  dsimp only
  rw [if_pos rfl, if_neg]
  rw [Chip.rd_bump, if_neg (by decide), Bool.and_eq_true]
  exact fun h => absurd ((hq h.1).symm.trans h.2) (by decide)

/-- Of a message that is acted on, from the chip that the action leaves. -/
theorem counted_bump {t : Chip} (h : t.rd spSeal 3 = m.rd spSeal 3) : counted m (t.bump spSeal 3 1) := by
  unfold counted
  rw [Chip.rd_bump, if_pos rfl, h]

/-- The lanes of a state as a mask. -/
theorem lanesIn_bit (m : Chip) (st : LaneState) {n : Nat} (hn : n < 4) :
    (BitVec.ofNat 4 (m.lanesIn st)).getLsbD n = decide ((m.lane n).st = st) := by
  have hsum : m.lanesIn st = b2n (decide ((m.lane 0).st = st)) + (2 * b2n (decide ((m.lane 1).st = st)) +
      (4 * b2n (decide ((m.lane 2).st = st)) + 8 * b2n (decide ((m.lane 3).st = st)))) := by
    unfold Chip.lanesIn b2n
    simp only [List.range_succ, List.range_zero, List.nil_append, List.cons_append, List.map_cons, List.map_nil, List.sum_cons,
      List.sum_nil, decide_eq_true_eq]
    split <;> split <;> split <;> split <;> rfl
  have hbits : ∀ a b c d : Bool, (BitVec.ofNat 4 (b2n a + (2 * b2n b + (4 * b2n c + 8 * b2n d)))).getLsbD 0 = a ∧
      (BitVec.ofNat 4 (b2n a + (2 * b2n b + (4 * b2n c + 8 * b2n d)))).getLsbD 1 = b ∧
      (BitVec.ofNat 4 (b2n a + (2 * b2n b + (4 * b2n c + 8 * b2n d)))).getLsbD 2 = c ∧
      (BitVec.ofNat 4 (b2n a + (2 * b2n b + (4 * b2n c + 8 * b2n d)))).getLsbD 3 = d := by decide
  rw [hsum]
  obtain ⟨h0, h1, h2, h3⟩ := hbits (decide ((m.lane 0).st = st)) (decide ((m.lane 1).st = st)) (decide ((m.lane 2).st = st))
    (decide ((m.lane 3).st = st))
  interval_cases n
  · exact h0
  · exact h1
  · exact h2
  · exact h3

/-! LINKUP. -/

/-- The lanes after a LINKUP. -/
def lanesUp (go : BitVec 4) (ls : List Lane) : List Lane :=
  (ls.zip [0, 1, 2, 3]).map (fun p =>
    if p.1.st = .train then { p.1 with st := if go.getLsbD p.2 then .active else .unused } else p.1)

theorem lanesUp_st {go : BitVec 4} {ls : List Lane} (hlen : ls.length = 4) {n : Nat} (hn : n < 4) :
    ((lanesUp go ls).getD n Lane.reset).st =
      if (ls.getD n Lane.reset).st = .train then (if go.getLsbD n then .active else .unused) else (ls.getD n Lane.reset).st := by
  have hlane : (lanesUp go ls).getD n Lane.reset = if (ls.getD n Lane.reset).st = .train then
      { ls.getD n Lane.reset with st := if go.getLsbD n then .active else .unused } else ls.getD n Lane.reset := by
    match ls, hlen with
    | [a, b, c, d], _ => interval_cases n <;> rfl
  rw [hlane]
  split
  · rfl
  · rfl

/-- A LINKUP that no link in TRAIN meets, or that names no lane of TRAIN. -/
theorem linkup_refused {mask : BitVec 4} (h : m.link.st ≠ 1) : m.linkup mask = (m, false) := if_pos (.inl h)

/-- The chip with the session open: its lanes, no credits, one more LINKUP counted. -/
def Chip.linkedUp (m : Chip) (go : BitVec 4) : Chip :=
  Chip.wr { m with
    link := { m.link with st := 2, trainFrom := none, lanes := lanesUp go m.link.lanes }
    streams := m.streams.map (fun (t : Stream) => { t with credits := 0, inf := false }) } spLink 0x1E (m.rd spLink 0x1E + 1)

theorem linkup_eq {mask : BitVec 4} (hst : m.link.st = 1) (hgo : mask &&& BitVec.ofNat 4 (m.lanesIn .train) ≠ 0) :
    (m.linkup mask).1 = ((m.linkedUp (mask &&& BitVec.ofNat 4 (m.lanesIn .train))).alignCol true).raise evLinkState :=
  congrArg Prod.fst (if_neg (fun h => h.elim (fun h => h hst) hgo))

theorem linkedUp_stream (m : Chip) (go : BitVec 4) (j : Nat) :
    ((m.linkedUp go).stream j).credits = 0 ∧ ((m.linkedUp go).stream j).inf = false := by
  have hstream : (m.linkedUp go).stream j = (m.streams.map (fun (t : Stream) => { t with credits := 0, inf := false })).getD j
      Stream.reset := rfl
  rw [hstream, List.getD_eq_getElem?_getD, List.getElem?_map]
  cases m.streams[j]? with
  | none => exact ⟨rfl, rfl⟩
  | some t => exact ⟨rfl, rfl⟩

theorem linkup_leaves {mask : BitVec 4} (hlen : m.link.lanes.length = 4) (hst : m.link.st = 1)
    (hgo : mask &&& BitVec.ofNat 4 (m.lanesIn .train) ≠ 0) (hcore : m.pw.core = true) :
    ∃ t, (m.linkup mask).1 = t ∧ t.link.st = 2 ∧
      (∀ n, n < 4 → (t.lane n).st = if (m.lane n).st = .train then (if mask.getLsbD n then .active else .unused)
        else (m.lane n).st) ∧
      (∀ j, (t.stream j).credits = 0 ∧ (t.stream j).inf = false) ∧ t.rd spLink 0x1E = m.rd spLink 0x1E + 1 ∧
      tst (t.rd 0 0x14) 6 = true ∧ WordsKept m t [(spLink, 0x1E), (0, 0x14)] := by
  refine ⟨_, linkup_eq hst hgo, ?_⟩
  have hstream := linkedUp_stream m (mask &&& BitVec.ofNat 4 (m.lanesIn .train))
  have hlane : ∀ n, n < 4 → ((m.linkedUp (mask &&& BitVec.ofNat 4 (m.lanesIn .train))).lane n).st =
      if (m.lane n).st = .train then (if mask.getLsbD n then .active else .unused) else (m.lane n).st := fun n hn => by
    refine (lanesUp_st hlen hn).trans ?_
    change (if (m.lane n).st = .train then _ else (m.lane n).st) = _
    split
    next h => rw [BitVec.getLsbD_and, lanesIn_bit m .train hn, decide_eq_true h, Bool.and_true]
    next => rfl
  have hwords : WordsKept m (m.linkedUp (mask &&& BitVec.ofNat 4 (m.lanesIn .train))) [(spLink, 0x1E), (0, 0x14)] :=
    WordsKept.wr (t := { m with link := _, streams := _ }) (WordsKept.refl m _) _ (by simp)
  have hcount : (m.linkedUp (mask &&& BitVec.ofNat 4 (m.lanesIn .train))).rd spLink 0x1E = m.rd spLink 0x1E + 1 :=
    (Chip.rd_wr ..).trans (if_pos rfl)
  have hparts : (m.linkedUp (mask &&& BitVec.ofNat 4 (m.lanesIn .train))).pw.core = true ∧
      (m.linkedUp (mask &&& BitVec.ofNat 4 (m.lanesIn .train))).link.st = 2 := ⟨hcore, rfl⟩
  generalize m.linkedUp (mask &&& BitVec.ofNat 4 (m.lanesIn .train)) = x at *
  obtain ⟨ls, col, hcol, _, hstates⟩ := sendColumn_leaves x (fun l p => (true, x.alignBytes true l p))
  have hcol' : x.alignCol true = _ := hcol
  rw [hcol']
  refine ⟨?_, fun n hn => ?_, fun j => ?_, ?_, raise_bit (e := evLinkState) hparts.1, ?_⟩
  · rw [Chip.raise_link]
    exact hparts.2
  · rw [Chip.lane, Chip.raise_link]
    exact (hstates.2 n).1.trans (hlane n hn)
  · rw [Chip.stream, Chip.raise_streams]
    exact hstream j
  · rw [rd_raise_other _ _ (by decide) (by decide) (by decide)]
    exact hcount
  · exact WordsKept.raise (n := evLinkState) (t := x.mapLink _) hwords (by simp [evLinkState])

/-! LANEFAULT. -/

/-- A lane that is lost, whatever is clocked: its state and cause, and no word of SEAL. -/
theorem laneFault_lane {n cause : Nat} (hn : n < m.link.lanes.length) (hst : (m.lane n).st = .active)
    (hflight : m.link.flight = none) (hoff : m.link.offAfter = false) (htrain : m.link.trainAfter = false) (hmov : m.moversOff) :
    ∃ t, (m.laneFault n cause).1 = t ∧ (t.lane n).st = .retired ∧ (t.lane n).cause = cause ∧
      ∀ off, off < 0x1000000 → t.rd spSeal off = m.rd spSeal off := by
  obtain ⟨detail, fn, heq⟩ := laneFault_eq (cause := cause) hst hflight
  obtain ⟨st, hret⟩ := retireLane_leaves m n cause
  have hsame : (m.retireLane n cause).lane n = { m.lane n with st := .retired, cause := cause } := by
    rw [hret]
    exact Chip.lane_mapLane_same _ hn
  have hparts : (m.retireLane n cause).link.flight = m.link.flight ∧
      (m.retireLane n cause).link.offAfter = m.link.offAfter ∧ (m.retireLane n cause).link.trainAfter = m.link.trainAfter ∧
      (m.retireLane n cause).movers = m.movers ∧ (m.retireLane n cause).regs = m.regs := by
    rw [hret]
    exact ⟨rfl, rfl, rfl, rfl, rfl⟩
  generalize m.retireLane n cause = m1 at heq hsame hparts
  obtain ⟨hfl, hof, htr, hmv, hregs⟩ := hparts
  have honly := (onlyFault_writeRecordFn m1 0x0D detail false fn (fun c hc => (congrArg (fun l : List Mover =>
      (l.getD c Mover.reset).act) hmv).trans (hmov c hc))).1
  generalize m1.writeRecordFn 0x0D detail false fn = r at heq honly
  obtain ⟨w, c, hr, -⟩ := onlyFault_iff.mp honly
  have hrlink : (r.raise evLaneFault).link = m1.link := by rw [Chip.raise_link, hr]
  obtain ⟨u, hu, huregs, _, huflight, huoff, hutrain, hulanes, _⟩ := laneLost_leaves (r.raise evLaneFault) (m1.lanesIn .active)
  rw [hu] at heq
  rw [hrlink] at huflight huoff hutrain hulanes
  rw [linkBoundary_none (by rw [Chip.raise_link, huflight, hfl, hflight]) (by rw [Chip.raise_link, huoff, hof, hoff])
    (by rw [Chip.raise_link, hutrain, htr, htrain])] at heq
  refine ⟨_, heq, ?_, ?_, fun off hlt => ?_⟩
  · rw [Chip.lane, Chip.raise_link]
    exact (hulanes.lane n).1.trans (congrArg Lane.st hsame)
  · rw [Chip.lane, Chip.raise_link]
    exact (hulanes.lane n).2.trans (congrArg Lane.cause hsame)
  · rw [rd_raise_other _ _ (by decide) hlt (by decide), Chip.rd, huregs]
    change (r.raise evLaneFault).rd spSeal off = _
    rw [rd_raise_other _ _ (by decide) hlt (by decide), honly.rd (by decide) hlt, Chip.rd, hregs, Chip.rd]

/-! CREDIT. -/

/-- A stream after a CREDIT (R527). -/
def Stream.credited (inf : Bool) (n : Nat) (t : Stream) : Stream :=
  if inf then { t with inf := true }
  else if t.inf then { t with inf := false, credits := n }
  else { t with credits := min (t.credits + n) 0xFFFFFF }

theorem Stream.credited_leaves (inf : Bool) (n : Nat) (t : Stream) : ∃ i c, t.credited inf n = { t with inf := i, credits := c } := by
  unfold Stream.credited
  split
  · exact ⟨true, t.credits, rfl⟩
  · split
    · exact ⟨false, n, rfl⟩
    · exact ⟨t.inf, _, rfl⟩

theorem giveCredit_eq (m : Chip) (s : Nat) (inf : Bool) (n : Nat) : m.giveCredit s inf n = m.mapStream s (Stream.credited inf n) := rfl

end

section
variable {s : State} {q : Byte} {a : Bool}

theorem exec_linkup (lanes : BitVec 4) :
    exec (.linkup lanes q a) s = guarded s s.chip.rxOn (Chip.messageDone (s.chip.linkup lanes) 1 q a true) := rfl

theorem linkup_opens {lanes : BitVec 4} (hs : s.chip.shaped) (hq : s.quiet a) (hst : s.chip.link.st = 1)
    (hgo : lanes &&& BitVec.ofNat 4 (s.chip.lanesIn .train) ≠ 0) (hcore : s.chip.pw.core = true) :
    Answers (.linkup lanes q a) s (fun t => counted s.chip t ∧ t.link.st = 2 ∧
      (∀ n, n < 4 → (t.lane n).st = if (s.chip.lane n).st = .train then (if lanes.getLsbD n then .active else .unused)
        else (s.chip.lane n).st) ∧
      (∀ j, (t.stream j).credits = 0 ∧ (t.stream j).inf = false) ∧ t.rd spLink 0x1E = s.chip.rd spLink 0x1E + 1 ∧
      tst (t.rd 0 0x14) 6 = true ∧ WordsKept s.chip t [(spSeal, 3), (spLink, 0x1E), (0, 0x14)]) := by
  obtain ⟨t, ht, h1, h2, h3, h4, h5, hw⟩ := linkup_leaves (mask := lanes) hs.lanes hst hgo hcore
  have hexec := exec_linkup (s := s) (q := q) (a := a) lanes
  rw [messageDone_quiet (by rw [ht, hw.rd (by decide)]; exact hq.2), ht] at hexec
  refine answers_leaves hexec hq.1 ⟨counted_bump (hw.rd (by decide)), h1, h2, h3, ?_, ?_, ?_⟩
  · rw [Chip.rd_bump, if_neg (by decide), h4]
  · rw [Chip.rd_bump, if_neg (by decide)]
    exact h5
  · exact WordsKept.bump (fun k hk => hw k fun w hw => hk w (List.mem_cons_of_mem _ hw)) 1 (by simp)

/-- A message that changes nothing counts. -/
theorem message_ignored {c : Instr} {type : Nat} (hq : s.quiet a)
    (hexec : exec c s = guarded s s.chip.rxOn (Chip.messageDone (s.chip, false) type q a true)) :
    Answers c s (fun t => counted s.chip t ∧ OnlyThese s.chip t [(spSeal, 3)]) := by
  rw [messageDone_quiet (r := (s.chip, false)) hq.2] at hexec
  refine answers_leaves (m := s.chip.bump spSeal 3 1) hexec hq.1 ⟨counted_bump rfl, ?_⟩ fun _ h => ⟨h.1, h.2.settle⟩
  exact (OnlyThese.refl s.chip _).bump 1 (by simp)

theorem exec_credit (c : Fin 8) (inf : Bool) (n : BitVec 24) :
    exec (.credit c inf n q a) s = guarded s s.chip.rxOn (Chip.messageDone
      (if s.chip.inSession then (s.chip.giveCredit c.val inf n.toNat, true) else (s.chip, false)) 2 q a s.chip.inSession) := rfl

theorem credit_refused {c : Fin 8} {inf : Bool} {n : BitVec 24} (hq : s.quiet a) (hsess : s.chip.inSession = false) :
    Answers (.credit c inf n q a) s (Unchanged s.chip) := by
  have hexec := exec_credit (s := s) (q := q) (a := a) c inf n
  rw [hsess, if_neg (by decide)] at hexec
  have hdone : Chip.messageDone (s.chip, false) 2 q a false = s.chip := by
    unfold Chip.messageDone
    simp only [Bool.false_eq_true, if_false]
    rw [if_neg]
    rw [Bool.and_eq_true]
    exact fun h => absurd ((hq.2 h.1).symm.trans h.2) (by decide)
  rw [hdone] at hexec
  exact answers_guarded hexec hq.1 rfl

theorem credit_given {c : Fin 8} {inf : Bool} {n : BitVec 24} (hs : s.chip.shaped) (hq : s.quiet a)
    (hsess : s.chip.inSession = true) :
    Answers (.credit c inf n q a) s (fun t => counted s.chip t ∧ WordsKept s.chip t [(spSeal, 3)] ∧
      (∀ j, j ≠ c.val → t.stream j = s.chip.stream j) ∧
      (inf = true → (t.stream c.val).inf = true) ∧ (inf = false → (t.stream c.val).inf = false) ∧
      (inf = false → (s.chip.stream c.val).inf = false →
        (t.stream c.val).credits = min ((s.chip.stream c.val).credits + n.toNat) 0xFFFFFF) ∧
      (inf = false → (s.chip.stream c.val).inf = true → (t.stream c.val).credits = n.toNat)) := by
  have hexec := exec_credit (s := s) (q := q) (a := a) c inf n
  rw [hsess, if_pos rfl, giveCredit_eq, messageDone_quiet (by exact hq.2)] at hexec
  have hstream := Chip.stream_mapStream_same s.chip c.val (Stream.credited inf n.toNat) (by rw [hs.streams]; exact c.isLt)
  have hne := fun j (hj : j ≠ c.val) => Chip.stream_mapStream_ne s.chip c.val (Stream.credited inf n.toNat) hj
  refine answers_leaves hexec hq.1 ⟨counted_bump rfl, WordsKept.bump (t := s.chip.mapStream _ _) (WordsKept.refl _ _) 1 (by simp),
    hne, ?_⟩
  change (inf = true → ((s.chip.mapStream c.val (Stream.credited inf n.toNat)).stream c.val).inf = true) ∧
    (inf = false → ((s.chip.mapStream c.val (Stream.credited inf n.toNat)).stream c.val).inf = false) ∧
    (inf = false → _ → ((s.chip.mapStream c.val (Stream.credited inf n.toNat)).stream c.val).credits = _) ∧
    (inf = false → _ → ((s.chip.mapStream c.val (Stream.credited inf n.toNat)).stream c.val).credits = _)
  rw [hstream]
  refine ⟨fun h => ?_, fun h => ?_, fun h hi => ?_, fun h hi => ?_⟩
  · subst h
    rfl
  · subst h
    unfold Stream.credited
    rw [if_neg (by decide)]
    split
    · rfl
    next hi => exact Bool.eq_false_iff.mpr hi
  · subst h
    unfold Stream.credited
    rw [if_neg (by decide), if_neg (by rw [hi]; decide)]
  · subst h
    unfold Stream.credited
    rw [if_neg (by decide), if_pos hi]

/-! TRIG. -/

variable {k : Fin 16}

theorem exec_trig (mask : Word) :
    exec (.trig mask q a) s = guarded s s.chip.rxOn (Chip.messageDone ((s.chip.begin 60).triggerMask 2 mask) 3 q a true) := rfl

/-- A TRIG for a context that is not armed (R531). -/
theorem trig_ignored (hq : s.quiet a) (hen : tst (s.chip.rd spCtx (0x100 * k.val + 1)) 2 = true)
    (hfirst : s.chip.cyc.triggered = 0) (harm : s.chip.armed k.val = false) :
    Answers (.trig (bitW k.val) q a) s (fun t => counted s.chip t ∧
      t.rd spCtx (0x100 * k.val + 0xA) = satAdd (s.chip.rd spCtx (0x100 * k.val + 0xA)) 1 ∧
      OnlyThese s.chip t [(spSeal, 3), (spCtx, 0x100 * k.val + 0xA)]) := by
  have htrig : ((s.chip.begin 60).triggerMask 2 (bitW k.val)).1 =
      ((s.chip.begin 60).marked k).bump spCtx (0x100 * k.val + 0xA) 1 :=
    (triggerMask_bit ..).trans (triggerFrom_ignored (m := s.chip.begin 60) hen (triggered_begin 60 hfirst) harm)
  have hne : ∀ o, o < 4 → key spSeal o ≠ key spCtx (0x100 * k.val + 0xA) := fun o ho => by
    unfold key spSeal spCtx
    omega
  have hrd : ∀ o, o < 4 → (((s.chip.begin 60).marked k).bump spCtx (0x100 * k.val + 0xA) 1).rd spSeal o = s.chip.rd spSeal o :=
    fun o ho => (Chip.rd_bump ..).trans (if_neg (hne o ho))
  have hexec := exec_trig (s := s) (q := q) (a := a) (bitW k.val)
  rw [messageDone_quiet (by rw [htrig, hrd 1 (by decide)]; exact hq.2), htrig] at hexec
  refine answers_leaves hexec hq.1 ⟨counted_bump (hrd 3 (by decide)), ?_, ?_⟩ fun _ h => ⟨h.1, h.2.1, h.2.2.settle⟩
  · rw [Chip.rd_bump, if_neg (hne 3 (by decide)).symm, Chip.rd_bump, if_pos rfl]
    rfl
  · exact ((OnlyThese.cyc (onlyThese_begin s.chip 60 _) _).bump 1 (by simp)).bump 1 (by simp)

/-- A TRIG for an armed context while the array is busy is held (R175). -/
theorem trig_held (hq : s.quiet a) (hen : tst (s.chip.rd spCtx (0x100 * k.val + 1)) 2 = true)
    (hfirst : s.chip.cyc.triggered = 0) (harm : s.chip.armed k.val = true) (hcheck : s.chip.cc.checking = none)
    (hsusp : s.chip.cc.susp = []) (hcap : ∀ c, s.chip.cc.cap = some c → c.ctx ≠ k) (hbusy : s.chip.cc.cap.isSome = true)
    (hnot : k ∉ s.chip.cc.heldTrig) (hhold : tst (s.chip.rd spCtx (0x100 * k.val)) 3 = false) :
    Answers (.trig (bitW k.val) q a) s (fun t => counted s.chip t ∧
      t.cc = { s.chip.cc with heldTrig := s.chip.cc.heldTrig ++ [k] } ∧ WordsKept s.chip t [(spSeal, 3)]) := by
  obtain ⟨hcc, hregs, _⟩ := triggerFrom_held (m := s.chip.begin 60) hen (triggered_begin 60 hfirst) harm hcheck hsusp hcap
    hbusy hnot hhold
  have hexec := exec_trig (s := s) (q := q) (a := a) (bitW k.val)
  rw [← triggerMask_bit] at hcc hregs
  generalize (s.chip.begin 60).triggerMask 2 (bitW k.val) = r at hcc hregs hexec
  have hregs' : r.1.regs = s.chip.regs := hregs
  have hrd : ∀ o, r.1.rd spSeal o = s.chip.rd spSeal o := fun o => congrArg (Bank.get · _) hregs'
  rw [messageDone_quiet (by rw [hrd]; exact hq.2)] at hexec
  exact answers_leaves hexec hq.1 ⟨counted_bump (hrd 3), hcc, WordsKept.bump (fun k _ => congrArg (Bank.get · k) hregs') 1 (by simp)⟩

/-! ACK, LANEMAP and LANEFAULT. -/

/-- The registers of an ACK (R532). -/
theorem ack_writes (hq : s.quiet a) (c : Fin 8) (nak : Bool) (fn : Long) :
    Answers (.ack c nak fn q a) s (fun t => counted s.chip t ∧ t.rd32 spSeal (sealOff c.val 4) = fn.toNat ∧
      t.rd spSeal (sealOff c.val 6) = (if nak then satAdd (s.chip.rd spSeal (sealOff c.val 6)) 1
        else s.chip.rd spSeal (sealOff c.val 6)) ∧
      OnlyThese s.chip t [(spSeal, 3), (spSeal, sealOff c.val 4), (spSeal, sealOff c.val 5), (spSeal, sealOff c.val 6)]) := by
  have hk : ∀ i j, i < 4 → key spSeal i ≠ key spSeal (sealOff c.val j) := fun i j hi => by
    unfold key sealOff
    omega
  have hk' : ∀ i j, i < j → key spSeal (sealOff c.val i) ≠ key spSeal (sealOff c.val j) := fun i j hij => by
    unfold key sealOff
    omega
  have hoff : sealOff c.val 4 + 1 = sealOff c.val 5 := rfl
  have h32 : (s.chip.wr32 spSeal (sealOff c.val 4) fn.toNat).rd32 spSeal (sealOff c.val 4) = fn.toNat := by
    rw [Chip.rd32_wr32_same]
    exact Nat.mod_eq_of_lt fn.isLt
  have hwr : ∀ k, k ≠ key spSeal (sealOff c.val 4) → k ≠ key spSeal (sealOff c.val 5) →
      Bank.get (s.chip.wr32 spSeal (sealOff c.val 4) fn.toNat).regs k = Bank.get s.chip.regs k := fun k h4 h5 =>
    (WordsKept.wr32 (WordsKept.refl s.chip [(spSeal, sealOff c.val 4), (spSeal, sealOff c.val 5)]) fn.toNat (by simp)
      (by simp [hoff])) k (by simp [h4, h5])
  have honly : OnlyThese s.chip (s.chip.wr32 spSeal (sealOff c.val 4) fn.toNat)
      [(spSeal, 3), (spSeal, sealOff c.val 4), (spSeal, sealOff c.val 5), (spSeal, sealOff c.val 6)] :=
    (OnlyThese.refl _ _).wr32 _ (by simp) (by simp [hoff])
  have hexec : exec (.ack c nak fn q a) s =
    guarded s s.chip.rxOn (Chip.messageDone (s.chip.ackWrite c.val nak fn, true) 6 q a true) := rfl
  have hack : ∃ t, s.chip.ackWrite c.val nak fn = t ∧ (∀ o, o < 4 → t.rd spSeal o = s.chip.rd spSeal o) ∧
      t.rd32 spSeal (sealOff c.val 4) = fn.toNat ∧ t.rd spSeal (sealOff c.val 6) =
        (if nak then satAdd (s.chip.rd spSeal (sealOff c.val 6)) 1 else s.chip.rd spSeal (sealOff c.val 6)) ∧
      OnlyThese s.chip t [(spSeal, 3), (spSeal, sealOff c.val 4), (spSeal, sealOff c.val 5), (spSeal, sealOff c.val 6)] := by
    refine ⟨_, rfl, ?_⟩
    unfold Chip.ackWrite
    dsimp only
    cases nak with
    | false =>
      rw [if_neg (by decide), if_neg (by decide)]
      exact ⟨fun o ho => hwr _ (hk o 4 ho) (hk o 5 ho), h32, hwr _ (hk' 4 6 (by decide)).symm (hk' 5 6 (by decide)).symm, honly⟩
    | true =>
      rw [if_pos rfl, if_pos rfl]
      refine ⟨fun o ho => ?_, ?_, ?_, honly.bump 1 (by simp)⟩
      · rw [Chip.rd_bump, if_neg (hk o 6 ho)]
        exact hwr _ (hk o 4 ho) (hk o 5 ho)
      · rw [Chip.rd32, hoff, Chip.rd_bump, if_neg (hk' 4 6 (by decide)), Chip.rd_bump, if_neg (hk' 5 6 (by decide)), ← hoff]
        exact h32
      · rw [Chip.rd_bump, if_pos rfl]
        exact congrArg (satAdd · 1) (hwr _ (hk' 4 6 (by decide)).symm (hk' 5 6 (by decide)).symm)
  obtain ⟨t, ht, hlow, h4, h6, hkept⟩ := hack
  rw [ht, messageDone_quiet (r := (t, true)) (by rw [hlow 1 (by decide)]; exact hq.2)] at hexec
  refine answers_leaves (m := t.bump spSeal 3 1) hexec hq.1 ⟨counted_bump (hlow 3 (by decide)), ?_, ?_, hkept.bump 1 (by simp)⟩
    fun _ h => ⟨h.1, h.2.1, h.2.2.1, h.2.2.2.settle⟩
  · rw [Chip.rd32, hoff, Chip.rd_bump, if_neg (hk 3 4 (by decide)).symm, Chip.rd_bump, if_neg (hk 3 5 (by decide)).symm, ← hoff]
    exact h4
  · rw [Chip.rd_bump, if_neg (hk 3 6 (by decide)).symm]
    exact h6

theorem exec_lanemap (lanes : BitVec 4) :
    exec (.lanemap lanes q a) s = guarded s s.chip.rxOn (Chip.messageDone (s.chip.retireRequest lanes) 4 q a true) := rfl

/-- A LANEMAP asks for a retirement that leaves a lane (R510). -/
theorem lanemap_asks {lanes act new : BitVec 4} (hq : s.quiet a) (hact : act = BitVec.ofNat 4 (s.chip.lanesIn .active))
    (hnew : new = lanes &&& act) (h0 : new ≠ 0) (hall : (s.chip.link.retire ||| new) &&& act ≠ act) :
    Answers (.lanemap lanes q a) s (fun t => counted s.chip t ∧
      t.link.retire = s.chip.link.retire ||| new ∧ t.link.lanes = s.chip.link.lanes ∧
      (s.chip.link.retire = 0 → t.link.retireAt = s.chip.tb.stb) ∧ WordsKept s.chip t [(spSeal, 3)]) := by
  subst hact hnew
  have hexec := exec_lanemap (s := s) (q := q) (a := a) lanes
  rw [messageDone_quiet (by rw [retireRequest_some h0 hall]; exact hq.2), retireRequest_some h0 hall] at hexec
  exact answers_leaves hexec hq.1 ⟨counted_bump rfl, rfl, rfl, fun h => if_pos h,
    WordsKept.bump (t := s.chip.mapLink _) (WordsKept.refl _ _) 1 (by simp)⟩

/-- A LANEMAP that would leave no lane is discarded with RETERR (R511). -/
theorem lanemap_refused {lanes act new : BitVec 4} (hq : s.quiet a) (hact : act = BitVec.ofNat 4 (s.chip.lanesIn .active))
    (hnew : new = lanes &&& act) (h0 : new ≠ 0) (hall : (s.chip.link.retire ||| new) &&& act = act) :
    Answers (.lanemap lanes q a) s (fun t => counted s.chip t ∧ t.link = s.chip.link ∧
      t.rd 0 0x39 = s.chip.rd 0 0x39 ||| 0x0100) := by
  subst hact hnew
  have hexec := exec_lanemap (s := s) (q := q) (a := a) lanes
  have hrd : ∀ o, o < 4 → (s.chip.orBits 0 0x39 0x0100).rd spSeal o = s.chip.rd spSeal o := fun o ho =>
    (Chip.rd_orBits ..).trans (if_neg (key_ne_of_space (by decide) (by omega) (by decide)))
  rw [messageDone_quiet (by rw [retireRequest_all h0 hall, hrd 1 (by decide)]; exact hq.2), retireRequest_all h0 hall] at hexec
  refine answers_leaves hexec hq.1 ⟨counted_bump (hrd 3 (by decide)), rfl, ?_⟩
  rw [Chip.rd_bump, if_neg (by decide), Chip.rd_orBits, if_pos rfl]

theorem exec_lanefault (n : Fin 4) :
    exec (.lanefault n q a) s = guarded s s.chip.rxOn (Chip.messageDone (s.chip.laneFault n.val 2) 5 q a true) := rfl

/-- A LANEFAULT of an ACTIVE lane (R507). -/
theorem lanefault_retires {n : Fin 4} (hs : s.chip.shaped) (hq : s.quiet a) (hst : (s.chip.lane n.val).st = .active)
    (hflight : s.chip.link.flight = none) (hoff : s.chip.link.offAfter = false) (htrain : s.chip.link.trainAfter = false)
    (hmov : s.chip.moversOff) :
    Answers (.lanefault n q a) s (fun t => counted s.chip t ∧ (t.lane n.val).st = .retired ∧ (t.lane n.val).cause = 2) := by
  obtain ⟨t, ht, h1, h2, hrd⟩ := laneFault_lane (cause := 2) (by rw [hs.lanes]; exact n.isLt) hst hflight hoff htrain hmov
  have hexec := exec_lanefault (s := s) (q := q) (a := a) n
  rw [messageDone_quiet (by rw [ht, hrd 1 (by decide)]; exact hq.2), ht] at hexec
  exact answers_leaves hexec hq.1 ⟨counted_bump (hrd 3 (by decide)), h1, h2⟩

end

/-! The acknowledgement. -/

section
variable {m : Chip} {k : Nat} {b : Buf} {r : Rec}

/-- A record of no frame, no mover and no waveform port that its stream takes into the open buffer. -/
theorem offer_plain (hframed : r.framed = false) (h0 : r.dt ≠ 0) (h2 : r.dt ≠ 2) (hc : r.chan = none) (h5 : r.src ≠ 5)
    (h6 : r.src ≠ 6) (hact : (m.stream k).act = true) (hpend : (m.stream k).pend = false) (hen : m.streamEn k = true)
    (hheld : (m.stream k).held = []) (hframes : (m.stream k).frames = []) (hb : (m.stream k).bufs.getLast? = some b)
    (hw : b.weight = 1) (hfit : b.used + r.bytes ≤ 16384) :
    m.offer k r .policy = m.mapStream k (Stream.takes b r) := by
  have haccepts : m.accepts k r = true := by
    unfold Chip.accepts
    dsimp only
    rw [hact, hpend, hen, hframed]
    rfl
  unfold Chip.offer
  rw [if_pos haccepts, if_neg (by simp [hframes]), if_pos (by simp [hheld]), Chip.place_open hb hw hfit]
  dsimp only
  rw [Chip.accepted_plain]
  · unfold Chip.mapStream upd
    rw [List.modify_modify_eq]
    rfl
  · exact h0
  · exact h2
  · exact hc
  · exact h5
  · exact h6

end

/-- A CREDIT whose acknowledgement is asked for and enabled (R530). -/
theorem credit_acknowledged {s : State} {q : Byte} {c : Fin 8} {inf : Bool} {n : BitVec 24} {k : Nat} {b : Buf}
    (hs : s.chip.shaped) (hrx : s.chip.rxOn = true) (hsess : s.chip.inSession = true) (hack : tst (s.chip.rd spSeal 1) 3 = true)
    (hk : k = fld (s.chip.rd spSeal 1) 0 3) (hact : (s.chip.stream k).act = true) (hpend : (s.chip.stream k).pend = false)
    (hen : s.chip.streamEn k = true) (hheld : (s.chip.stream k).held = []) (hframes : (s.chip.stream k).frames = [])
    (hb : (s.chip.stream k).bufs.getLast? = some b) (hw : b.weight = 1) (hfit : b.used + 80 ≤ 16384) :
    Answers (.credit c inf n q true) s (fun t => counted s.chip t ∧ (t.stream k).recs.map (·.payload) =
      (s.chip.stream k).recs.map (·.payload) ++ [bytesN s.chip.tb.stb.toNat 8 ++ [1, q, 0, 0, 0x82, 0, 0, 0]]) := by
  have hlen : k < s.chip.streams.length := by
    rw [hs.streams, hk]
    exact fld_lt _ 0 3
  have hcredited : ∃ i x, (s.chip.mapStream c.val (Stream.credited inf n.toNat)).stream k =
      { s.chip.stream k with inf := i, credits := x } := by
    by_cases hkc : k = c.val
    · rw [hkc, Chip.stream_mapStream_same _ _ _ (hkc ▸ hlen)]
      exact Stream.credited_leaves ..
    · exact ⟨_, _, Chip.stream_mapStream_ne _ _ _ hkc⟩
  obtain ⟨i, x, hstream⟩ := hcredited
  have hstream' : ((s.chip.mapStream c.val (Stream.credited inf n.toNat)).bump spSeal 3 1).stream k =
      { s.chip.stream k with inf := i, credits := x } := hstream
  have hrd1 : ((s.chip.mapStream c.val (Stream.credited inf n.toNat)).bump spSeal 3 1).rd spSeal 1 = s.chip.rd spSeal 1 :=
    (Chip.rd_bump ..).trans (if_neg (by decide))
  have hrd3 : ((s.chip.mapStream c.val (Stream.credited inf n.toNat)).bump spSeal 3 1).rd spSeal 3 =
      satAdd (s.chip.rd spSeal 3) 1 := (Chip.rd_bump ..).trans (if_pos rfl)
  have hen' : ((s.chip.mapStream c.val (Stream.credited inf n.toNat)).bump spSeal 3 1).streamEn k = true := by
    rw [← hen, Chip.streamEn, Chip.rd_bump, if_neg (by decide)]
    rfl
  have hnow : ((s.chip.mapStream c.val (Stream.credited inf n.toNat)).bump spSeal 3 1).now = s.chip.tb.stb := rfl
  have hlen' : k < ((s.chip.mapStream c.val (Stream.credited inf n.toNat)).bump spSeal 3 1).streams.length := by
    rw [Chip.bump_streams, Chip.length_mapStream]
    exact hlen
  have hexec := exec_credit (s := s) (q := q) (a := true) c inf n
  rw [hsess, if_pos rfl, giveCredit_eq] at hexec
  have hdone : Chip.messageDone (s.chip.mapStream c.val (Stream.credited inf n.toNat), true) 2 q true true =
      ((s.chip.mapStream c.val (Stream.credited inf n.toNat)).bump spSeal 3 1).offer k
        (((s.chip.mapStream c.val (Stream.credited inf n.toNat)).bump spSeal 3 1).ackRecord 2 q true) .policy := by
    unfold Chip.messageDone
    simp only [if_true, hrd1, hack, Bool.and_self, hk]
  rw [hdone] at hexec
  generalize (s.chip.mapStream c.val (Stream.credited inf n.toNat)).bump spSeal 3 1 = m1 at *
  have hoffer : m1.offer k (m1.ackRecord 2 q true) .policy = m1.mapStream k (Stream.takes b (m1.ackRecord 2 q true)) :=
    offer_plain rfl (by decide : (0x33 : Nat) ≠ 0) (by decide : (0x33 : Nat) ≠ 2) rfl (by decide : (11 : Nat) ≠ 5)
      (by decide : (11 : Nat) ≠ 6) (by rw [hstream']; exact hact) (by rw [hstream']; exact hpend) hen'
      (by rw [hstream']; exact hheld) (by rw [hstream']; exact hframes) (by rw [hstream']; exact hb) hw hfit
  rw [hoffer] at hexec
  refine answers_leaves hexec hrx ⟨hrd3, ?_⟩
  rw [Chip.stream_mapStream_same _ _ _ hlen', hstream', Stream.takes, List.map_append]
  rw [← hnow]
  rfl

/-- Settles O60: each message by what its action leaves, with the count of MSGCNT after it. -/
theorem messages : Obligations.Messages := by
  unfold Obligations.Messages
  refine ⟨fun s q a hs hq => ⟨fun lanes => ⟨fun hst => ?_, linkup_opens hs hq⟩,
      fun c inf n => ⟨credit_refused hq, credit_given hs hq⟩,
      fun k hen hfirst => ⟨trig_ignored hq hen hfirst, fun harm hcheck hsusp _ hcap hbusy hnot hhold =>
        trig_held hq hen hfirst harm hcheck hsusp hcap hbusy hnot hhold⟩,
      fun c nak fn => ack_writes hq c nak fn,
      fun lanes act new hact hnew => ⟨lanemap_asks hq hact hnew, lanemap_refused hq hact hnew⟩,
      fun n => ⟨fun hst => ?_, lanefault_retires hs hq⟩, ?_⟩,
    fun s q c inf n k b hs hrx hsess hack hk hact hpend hen hheld hframes hb hw hfit =>
      credit_acknowledged hs hrx hsess hack hk hact hpend hen hheld hframes hb hw hfit⟩
  · have hexec := exec_linkup (s := s) (q := q) (a := a) lanes
    rw [linkup_refused hst] at hexec
    exact message_ignored hq hexec
  · have hexec := exec_lanefault (s := s) (q := q) (a := a) n
    rw [show s.chip.laneFault n.val 2 = (s.chip, false) from if_neg hst] at hexec
    exact message_ignored hq hexec
  · exact answers_leaves (m := s.chip.bump spSeal 2 1) rfl hq.1
      ⟨(Chip.rd_bump ..).trans (if_pos rfl), (OnlyThese.refl s.chip _).bump 1 (by simp)⟩ fun _ h => ⟨h.1, h.2.settle⟩

end Sys2Proof.Machine
end


section
/-! PROOFS. The window and the host's accesses (R35 to R48, R52, R53). -/

namespace Sys2Proof.Machine
-- What the steps below change is compared with the model by unfolding: one elaboration at a time.
set_option Elab.async false

/-! ## The pointer -/

theorem Chip.ptrOff_lt (m : Chip) : m.ptrOff < 0x1000000 := by
  have hhi := fld_lt (m.rd 0 0x1F) 0 8
  have hlo := (m.rd 0 0x1E).isLt
  unfold Chip.ptrOff
  omega

theorem Chip.ptrSpace_lt (m : Chip) : m.ptrSpace < 0x100 := fld_lt _ 8 8

/-- The next offset of the window is an offset (R45, R46). -/
theorem nextOff_lt {wrap off : Nat} (hw : wrap < 16) (h : off < 0x1000000) : nextOff wrap off < 0x1000000 := by
  unfold nextOff
  split
  · exact Nat.mod_lt _ (by decide)
  · have hdvd : 2 ^ wrap ∣ 0x1000000 := Nat.pow_dvd_pow 2 (Nat.le_of_lt (Nat.lt_of_lt_of_le hw (by decide : 16 ≤ 24)))
    obtain ⟨k, hk⟩ := hdvd
    have hpos : 0 < 2 ^ wrap := Nat.two_pow_pos wrap
    have hblock : off / 2 ^ wrap < k := Nat.div_lt_of_lt_mul (hk ▸ h)
    calc off / 2 ^ wrap * 2 ^ wrap + (off % 2 ^ wrap + 1) % 2 ^ wrap
        < off / 2 ^ wrap * 2 ^ wrap + 2 ^ wrap := Nat.add_lt_add_left (Nat.mod_lt _ hpos) _
      _ = (off / 2 ^ wrap + 1) * 2 ^ wrap := (Nat.succ_mul _ _).symm
      _ ≤ k * 2 ^ wrap := Nat.mul_le_mul_right _ hblock
      _ = 0x1000000 := by rw [hk, Nat.mul_comm]

/-- The pointer after an access: its space stands, its offset advances where AINC is 1 (R45, R46). -/
theorem Chip.advance_ptr (m : Chip) : m.advance.ptrSpace = m.ptrSpace ∧
    m.advance.ptrOff = (if tst (m.rd 0 0x21) 0 then nextOff (fld (m.rd 0 0x21) 4 4) m.ptrOff else m.ptrOff) := by
  unfold Chip.advance
  by_cases h : tst (m.rd 0 0x21) 0 = true
  · have hnext := nextOff_lt (fld_lt (m.rd 0 0x21) 4 4) m.ptrOff_lt
    have hsp := m.ptrSpace_lt
    simp only [if_pos h]
    generalize nextOff (fld (m.rd 0 0x21) 4 4) m.ptrOff = o at hnext ⊢
    have hhi : ((m.wr 0 0x1E (wd o)).wr 0 0x1F (wd (m.ptrSpace * 256 + o / 0x10000))).rd 0 0x1F =
        wd (m.ptrSpace * 256 + o / 0x10000) := Chip.rd_wr_same ..
    have hlo : ((m.wr 0 0x1E (wd o)).wr 0 0x1F (wd (m.ptrSpace * 256 + o / 0x10000))).rd 0 0x1E = wd o := by
      rw [Chip.rd_wr_ne _ _ (by decide), Chip.rd_wr_same]
    constructor
    · rw [Chip.ptrSpace, hhi]
      simp only [fld, wd, BitVec.toNat_ofNat]
      omega
    · rw [Chip.ptrOff, hhi, hlo]
      simp only [fld, wd, BitVec.toNat_ofNat]
      omega
  · simp only [if_neg h]
    exact ⟨trivial, trivial⟩

theorem Chip.advance_still {m : Chip} (h : tst (m.rd 0 0x21) 0 = false) : m.advance = m := by
  rw [Chip.advance, h]
  rfl

theorem OnlyThese.advance {m t : Chip} {ws : List (Nat × Nat)} (h : OnlyThese m t ws) (hlo : (0, 0x1E) ∈ ws)
    (hhi : (0, 0x1F) ∈ ws) : OnlyThese m t.advance ws :=
  .ite ((h.wr _ hlo).wr _ hhi) h

/-- A read clears the RC bits of its word alone (R9). -/
theorem OnlyThese.clearRc {m t : Chip} {ws : List (Nat × Nat)} {sp off : Nat} (h : OnlyThese m t ws)
    (hw : (sp, off) ∈ ws) : OnlyThese m (t.clearRc sp off) ws := by
  unfold Chip.clearRc
  split
  · exact .ite h (h.wr _ hw)
  · exact h

theorem OnlyThese.win {m t : Chip} {ws : List (Nat × Nat)} (h : OnlyThese m t ws) : t.win = m.win := by
  obtain ⟨r, c, i, rfl⟩ := onlyWords_iff.mp h.1
  rfl

theorem OnlyThese.rd {m t : Chip} {ws : List (Nat × Nat)} (h : OnlyThese m t ws) {sp off : Nat}
    (hne : ∀ w ∈ ws, key sp off ≠ key w.1 w.2) : t.rd sp off = m.rd sp off := h.2 _ hne

/-- Where a word's read leaves the words of space 0, the pointer stands. -/
theorem Chip.clearRc_direct (m : Chip) {sp off o : Nat} (hsp : sp ≠ 0) (hoff : off < 0x1000000) (ho : o < 0x1000000) :
    (m.clearRc sp off).rd 0 o = m.rd 0 o := by
  refine ((OnlyThese.refl m [(sp, off)]).clearRc (List.mem_singleton_self _)).rd fun w hw => ?_
  rw [List.mem_singleton] at hw
  subst hw
  exact key_ne_of_space (Ne.symm hsp) ho hoff

theorem spaceKnown_ne {sp : Nat} (h : spaceKnown sp = true) : sp ≠ 0 := by
  rintro rfl
  exact absurd h (by decide)

theorem Chip.clearRc_ptr (m : Chip) {sp off : Nat} (hsp : sp ≠ 0) (hoff : off < 0x1000000) :
    (m.clearRc sp off).ptrSpace = m.ptrSpace ∧ (m.clearRc sp off).ptrOff = m.ptrOff := by
  constructor
  · rw [Chip.ptrSpace, Chip.clearRc_direct m hsp hoff (by decide)]
    rfl
  · rw [Chip.ptrOff, Chip.clearRc_direct m hsp hoff (by decide), Chip.clearRc_direct m hsp hoff (by decide)]
    rfl

/-! ## Reads and writes -/

section
variable {s : State} {v : Word}

theorem windataRead_reads {m : Chip} (hb : s.chip.busOn = true) (hcore : s.chip.coreOn = true) (hm : m = s.host.windowFirst)
    (hk : spaceKnown m.ptrSpace = true) (ho : m.owned m.ptrSpace m.ptrOff = true) :
    Answers .windataRead s (fun t => t.hd = m.rcValue m.ptrSpace m.ptrOff (m.peekSpace m.ptrSpace m.ptrOff) ∧
      t.ptrSpace = m.ptrSpace ∧
      t.ptrOff = (if tst (m.rd 0 0x21) 0 then nextOff (fld (m.rd 0 0x21) 4 4) m.ptrOff else m.ptrOff) ∧ t.win = m.win ∧
      OnlyThese { m with hd := t.hd } t [(m.ptrSpace, m.ptrOff), (0, 0x1E), (0, 0x1F)]) := by
  let n := (m.clearRc m.ptrSpace m.ptrOff).drive (m.rcValue m.ptrSpace m.ptrOff (m.peekSpace m.ptrSpace m.ptrOff))
  have hread : s.host.windowRead = n.advance := by
    simp only [Chip.windowRead, ← hm, hk, ho, Bool.not_true, Bool.false_eq_true, if_false]
    rfl
  have hne := spaceKnown_ne hk
  have hoff := m.ptrOff_lt
  have honly : OnlyThese (m.drive n.hd) n.advance [(m.ptrSpace, m.ptrOff), (0, 0x1E), (0, 0x1F)] :=
    (((OnlyThese.refl m _).clearRc (by simp)).drive n.hd).advance (by simp) (by simp)
  have hhd : n.advance.hd = n.hd := by
    obtain ⟨r, c, i, ht⟩ := onlyWords_iff.mp honly.1
    rw [ht]
    rfl
  obtain ⟨hsp, hpo⟩ := n.advance_ptr
  obtain ⟨hsp', hpo'⟩ := m.clearRc_ptr (off := m.ptrOff) hne hoff
  have hctl : n.rd 0 0x21 = m.rd 0 0x21 := Chip.clearRc_direct m hne hoff (by decide)
  refine answers_hostRead (f := (·.windowRead)) rfl ⟨hb, hcore⟩ ?_
  show _ ∧ _
  rw [hread]
  refine ⟨hhd, hsp.trans hsp', ?_, honly.win, ?_⟩
  · rw [hctl, show n.ptrOff = m.ptrOff from hpo'] at hpo
    exact hpo
  · show OnlyThese (m.drive n.advance.hd) n.advance.settle _
    rw [hhd]
    exact honly.settle

theorem exec_windataWrite {held : Bool} (hb : s.chip.busOn = true) (hcore : s.chip.coreOn = true) :
    exec (.windataWrite v held) s = done s (s.host.windowAccess v held) :=
  hostWrite_on s 0 0x20 (·.windowAccess v held) hb hcore

/-- A staged word that a write does not complete takes effect alone before it (R48). -/
theorem Chip.windowWrite_alone {m n : Chip} (hk : spaceKnown m.ptrSpace = true)
    (hst : ∀ x, m.win.staged = some x → x.1 ≠ m.ptrSpace ∨ x.2.1 + 1 ≠ m.ptrOff) (hn : n = m.stagedAlone)
    (ho : n.owned m.ptrSpace m.ptrOff = true) : m.windowWrite v =
      if itemLow m.ptrSpace m.ptrOff then
        Chip.advance { n with win := { n.win with staged := some (m.ptrSpace, m.ptrOff, v) } }
      else (n.writeSpace m.ptrSpace m.ptrOff v).advance := by
  unfold Chip.windowWrite
  rw [← hn]
  cases hx : m.win.staged with
  | none => simp [hk, ho]
  | some x =>
    obtain ⟨a, b, c⟩ := x
    have hpair : (decide (a = m.ptrSpace) && decide (b + 1 = m.ptrOff)) = false := by
      rcases hst _ hx with h | h
      · rw [decide_eq_false h, Bool.false_and]
      · rw [decide_eq_false h, Bool.and_false]
    simp [hk, ho, hpair]

/-- The high word of a staged item goes in with it (R47). -/
theorem Chip.windowWrite_pair {m : Chip} {lo : Word} {o : Nat} (hst : m.win.staged = some (m.ptrSpace, o, lo))
    (hoff : o + 1 = m.ptrOff) (ho : m.owned m.ptrSpace m.ptrOff = true) : m.windowWrite v =
      (Chip.writeItem { m with win := { m.win with staged := none } } m.ptrSpace o lo v).advance := by
  unfold Chip.windowWrite
  rw [hst]
  simp [hoff, ho]

theorem Chip.windowAccess_now (m : Chip) : m.windowAccess v false = m.heldDone.windowWrite v := by
  simp [Chip.windowAccess]

theorem windataWrite_holds {m : Chip} (hb : s.chip.busOn = true) (hcore : s.chip.coreOn = true) (hm : m = s.host.heldDone)
    (hk : spaceKnown m.ptrSpace = true) (ho : m.owned m.ptrSpace m.ptrOff = true) :
    exec (.windataWrite v true) s = done s { m with win := { m.win with heldWrite := some v } } := by
  rw [exec_windataWrite hb hcore, Chip.windowAccess, ← hm]
  simp [hk, ho]

theorem windataWrite_now {m : Chip} (hb : s.chip.busOn = true) (hcore : s.chip.coreOn = true) (hm : m = s.host.heldDone) :
    exec (.windataWrite v false) s = done s (m.windowWrite v) := by
  rw [exec_windataWrite hb hcore, Chip.windowAccess_now, ← hm]

end

/-! ## Loam's plain words -/

theorem Chip.writeSpace_watchdog (m : Chip) (v : Word) : m.writeSpace spLoam 0x3002 v = m.plainWrite spLoam 0x3002 v := rfl

theorem regRow_data {o : Nat} (h : 0x3040 ≤ o) (h' : o < 0x30C0) :
    regRow spLoam o = some ⟨0x3040, 128, 1, 1, 0, 0xFFFF, 0, 0⟩ := by
  simp [regRow, spLoam, rowsLoam, RegRow.covers]
  omega

theorem Chip.writeSpace_data (m : Chip) {o : Nat} (v : Word) (h : 0x3040 ≤ o) (h' : o < 0x30C0) :
    m.writeSpace spLoam o v = m.plainWrite spLoam o v := by
  show m.writeLoam o v 1 = _
  unfold Chip.writeLoam
  rw [if_neg (by omega), if_neg (by omega), if_neg (by omega), if_neg (by omega)]

theorem Chip.writeItem_data (m : Chip) {o : Nat} (lo hi : Word) (h : 0x3040 ≤ o) (h' : o < 0x30BF) :
    m.writeItem spLoam o lo hi = (m.plainWrite spLoam o lo).plainWrite spLoam (o + 1) hi := by
  unfold Chip.writeItem
  rw [if_neg (by rintro ⟨hsp, -⟩; exact absurd hsp (by decide)), Chip.writeSpace_data m lo h (by omega),
    Chip.writeSpace_data _ hi (by omega) (by omega)]

/-- A plain word that the window writes with nothing staged, AINC 0. -/
theorem Chip.windowWrite_watchdog {m : Chip} (v : Word) (hcore : m.coreOn = true) (hst : m.win.staged = none)
    (hsp : m.ptrSpace = spLoam) (hoff : m.ptrOff = 0x3002) (hinc : tst (m.rd 0 0x21) 0 = false) :
    m.windowWrite v = m.plainWrite spLoam 0x3002 v := by
  have hnone : m.stagedAlone = m := Chip.stagedAlone_of_none hst
  have hplain : (m.plainWrite spLoam 0x3002 v).rd 0 0x21 = m.rd 0 0x21 := Chip.rd_plainWrite_ne m v (by decide)
  rw [Chip.windowWrite_alone (n := m) (by rw [hsp]; decide) (fun x hx => absurd (hst.symm.trans hx) (by simp)) hnone.symm
    (by rw [hsp]; exact hcore), hsp, hoff, if_neg (by decide), Chip.writeSpace_watchdog,
    Chip.advance_still (by rw [hplain]; exact hinc)]

theorem rd_watchdog (m : Chip) (v : Word) : (m.plainWrite spLoam 0x3002 v).rd spLoam 0x3002 = v :=
  Chip.rd_plainWrite_rw m v (by decide : regRow spLoam 0x3002 = some ⟨0x3002, 1, 1, 1, 0x1388, 0xFFFF, 0, 0⟩) rfl rfl

/-- A plain write changes words alone. -/
theorem Chip.plainWrite_only (m : Chip) (sp off : Nat) (v : Word) : OnlyThese m (m.plainWrite sp off v) [(sp, off)] :=
  (OnlyThese.refl m _).plainWrite v (List.mem_singleton_self _)

section
variable {s : State} {v : Word}

theorem windataWrite_watchdog (hr : s.reaches 0 0x20) (hst : s.chip.win.staged = none) (hh : s.chip.win.heldWrite = none)
    (hsp : s.chip.ptrSpace = spLoam) (hoff : s.chip.ptrOff = 0x3002) (hinc : tst (s.chip.rd 0 0x21) 0 = false) :
    Answers (.windataWrite v false) s (fun t => t.rd spLoam 0x3002 = v ∧ OnlyThese s.chip t [(spLoam, 0x3002)]) := by
  have hexec : exec (.windataWrite v false) s = done s (s.host.plainWrite spLoam 0x3002 v) := by
    rw [windataWrite_now hr.1 hr.2 (Chip.heldDone_of_none (m := s.host) hh).symm,
      Chip.windowWrite_watchdog (m := s.host) v hr.2 hst hsp hoff hinc]
  refine answers_of_done hexec ⟨rd_watchdog s.host v, ?_⟩
  exact ((onlyThese_host s _).plainWrite v (List.mem_singleton_self _)).settle

/-- Both words of a data item of Loam, from the chip with nothing staged any more. -/
theorem writesItem {m n : Chip} {o : Nat} {lo : Word} (h : 0x3040 ≤ o) (h' : o < 0x30BF)
    (hn : n = (m.plainWrite spLoam o lo).plainWrite spLoam (o + 1) v) :
    n.rd spLoam o = lo ∧ n.rd spLoam (o + 1) = v ∧ OnlyThese m n [(spLoam, o), (spLoam, o + 1)] := by
  subst hn
  refine ⟨?_, Chip.rd_plainWrite_rw _ v (regRow_data (by omega) (by omega)) rfl rfl,
    ((OnlyThese.refl m _).plainWrite lo (by simp)).plainWrite v (by simp)⟩
  rw [Chip.rd_plainWrite_ne _ v (key_succ_ne spLoam o), Chip.rd_plainWrite_rw m lo (regRow_data h (by omega)) rfl rfl]

theorem windataWrite_item {lo : Word} {o : Nat} (hr : s.reaches 0 0x20) (hh : s.chip.win.heldWrite = none)
    (hst : s.chip.win.staged = some (spLoam, o, lo)) (hsp : s.chip.ptrSpace = spLoam) (hoff : s.chip.ptrOff = o + 1)
    (h : 0x3040 ≤ o) (h' : o < 0x30BF) (hinc : tst (s.chip.rd 0 0x21) 0 = false) :
    Answers (.windataWrite v false) s (fun t => t.rd spLoam o = lo ∧ t.rd spLoam (o + 1) = v ∧ t.win.staged = none ∧
      WordsKept s.chip t [(spLoam, o), (spLoam, o + 1)]) := by
  let m : Chip := { s.host with win := { s.host.win with staged := none } }
  have hsp' : s.host.ptrSpace = spLoam := hsp
  obtain ⟨hlo, hhi, honly⟩ := writesItem (m := m) (v := v) (lo := lo) h h' rfl
  have hctl : ((m.plainWrite spLoam o lo).plainWrite spLoam (o + 1) v).rd 0 0x21 = s.chip.rd 0 0x21 := by
    refine honly.rd fun w hw => ?_
    simp only [List.mem_cons, List.not_mem_nil, or_false] at hw
    rcases hw with rfl | rfl
    · exact key_ne_of_space (sp := 0) (sp' := spLoam) (by decide) (by decide) (by omega)
    · exact key_ne_of_space (sp := 0) (sp' := spLoam) (by decide) (by decide) (by omega)
  have hexec : exec (.windataWrite v false) s =
      done s ((m.plainWrite spLoam o lo).plainWrite spLoam (o + 1) v) := by
    rw [windataWrite_now hr.1 hr.2 (Chip.heldDone_of_none (m := s.host) hh).symm,
      Chip.windowWrite_pair (m := s.host) (lo := lo) (o := o) (by rw [hsp']; exact hst) hoff.symm
        (by rw [hsp']; exact hr.2), hsp']
    show done s (Chip.advance (m.writeItem spLoam o lo v)) = _
    rw [Chip.writeItem_data m lo v h h', Chip.advance_still (by rw [hctl]; exact hinc)]
  exact answers_of_done hexec ⟨hlo, hhi, congrArg Window.staged honly.win, honly.2⟩

end

/-! ## Time-outs and held writes -/

/-- The chip whose window holds nothing. -/
def Chip.winClear (m : Chip) : Chip := { m with win := { staged := none, heldWrite := none } }

theorem Chip.winClear_of_none {m : Chip} (hst : m.win.staged = none) (hh : m.win.heldWrite = none) : m.winClear = m := by
  have hw : m.win = { staged := none, heldWrite := none } := by rw [← hst, ← hh]
  rw [Chip.winClear, ← hw]

theorem Chip.dropHeld_winClear {m : Chip} (hst : m.win.staged = none) :
    { m with win := { m.win with heldWrite := none } } = m.winClear := by
  simp only [Chip.winClear, hst]

/-- With nothing staged a time-out drops the held value and sets TMO (R35, R36). -/
theorem Chip.windowTimeout_drops {m : Chip} {read : Bool} (hst : m.win.staged = none)
    (hgo : m.win.heldWrite = none ∨ m.winClear.modeGo = m.winClear) : m.windowTimeout read =
      if read then (m.winClear.orBits 0 0x21 0x0100).drive 0xFFFF else m.winClear.orBits 0 0x21 0x0100 := by
  unfold Chip.windowTimeout
  rw [Chip.stagedAlone_of_none hst]
  cases hh : m.win.heldWrite with
  | none => simp only [hh, Chip.winClear_of_none hst hh]
  | some v =>
    have hsame : m.winClear.modeGo = m.winClear := hgo.resolve_left (by simp [hh])
    simp only [hh, Chip.dropHeld_winClear hst, hsame]

section
variable {s : State} {v : Word}

theorem State.steady.winClear (hs : s.steady) : s.host.winClear.modeGo = s.host.winClear := modeGo_steady hs rfl

theorem windowTimeout_drops {read : Bool} (hb : s.chip.busOn = true) (hcore : s.chip.coreOn = true)
    (hst : s.chip.win.staged = none) (hgo : s.chip.win.heldWrite = none ∨ s.steady) :
    Answers (.windowTimeout read) s (fun t => t.win = { staged := none, heldWrite := none } ∧
      t.rd 0 0x21 = s.chip.rd 0 0x21 ||| 0x0100 ∧ t.hd = (if read then 0xFFFF else s.chip.hd) ∧
      OnlyThese { s.chip with hd := t.hd, win := t.win } t [(0, 0x21)]) := by
  have honly : OnlyThese s.chip.winClear (s.host.winClear.orBits 0 0x21 0x0100) [(0, 0x21)] :=
    OnlyThese.orBits (onlyThese_begin s.chip.winClear 0 _) _ (List.mem_singleton_self _)
  have hval : (s.host.winClear.orBits 0 0x21 0x0100).rd 0 0x21 = s.chip.rd 0 0x21 ||| 0x0100 := Chip.rd_orBits_same ..
  have hexec : exec (.windowTimeout read) s = done s (s.host.windowTimeout read) :=
    hostWrite_on s 0 0x20 (·.windowTimeout read) hb hcore
  rw [Chip.windowTimeout_drops (m := s.host) hst (hgo.imp id State.steady.winClear)] at hexec
  cases read with
  | false => exact answers_of_done hexec ⟨rfl, hval, rfl, honly.settle⟩
  | true => exact answers_of_done hexec ⟨rfl, hval, rfl, (honly.drive 0xFFFF).settle⟩

theorem exec_heldWindowWriteDone (hb : s.chip.busOn = true) (hcore : s.chip.coreOn = true) :
    exec .heldWindowWriteDone s = done s s.host.heldDone := hostWrite_on s 0 0x20 (·.heldDone) hb hcore

/-- A held write that completes is a window write of the chip that holds nothing. -/
theorem heldDone_writes (hb : s.chip.busOn = true) (hcore : s.chip.coreOn = true) (hst : s.chip.win.staged = none)
    (hh : s.chip.win.heldWrite = some v) :
    exec .heldWindowWriteDone s = done s (s.host.winClear.windowWrite v).modeGo := by
  have hh' : s.host.win.heldWrite = some v := hh
  rw [exec_heldWindowWriteDone hb hcore, Chip.heldDone, hh']
  simp only [Chip.dropHeld_winClear (m := s.host) hst]

theorem heldDone_unknown (hr : s.reaches 0 0x20) (hs : s.steady) (hst : s.chip.win.staged = none)
    (hh : s.chip.win.heldWrite = some v) (hsp : s.chip.ptrSpace = 0x13) :
    Answers .heldWindowWriteDone s (fun t => t.win = { staged := none, heldWrite := none } ∧
      t.rd 0 0x21 = s.chip.rd 0 0x21 ||| 0x0200 ∧ WordsKept s.chip t [(0, 0x21)]) := by
  have hexec := heldDone_writes hr.1 hr.2 hst hh
  rw [Chip.windowWrite_of_unknown (m := s.host.winClear) v rfl (by rw [show s.host.winClear.ptrSpace = 0x13 from hsp]; decide),
    modeGo_steady (m := s.host.winClear.orBits 0 0x21 0x0200) hs rfl] at hexec
  refine answers_of_done hexec ⟨rfl, Chip.rd_orBits_same .., ?_⟩
  exact (onlyThese_begin s.chip.winClear 0 _ |>.orBits _ (List.mem_singleton_self _)).settle.2

theorem heldDone_watchdog (hr : s.reaches 0 0x20) (hs : s.steady) (hst : s.chip.win.staged = none)
    (hh : s.chip.win.heldWrite = some v) (hsp : s.chip.ptrSpace = spLoam) (hoff : s.chip.ptrOff = 0x3002)
    (hinc : tst (s.chip.rd 0 0x21) 0 = false) :
    Answers .heldWindowWriteDone s (fun t => t.win = { staged := none, heldWrite := none } ∧ t.rd spLoam 0x3002 = v ∧
      WordsKept s.chip t [(spLoam, 0x3002)]) := by
  have hexec := heldDone_writes hr.1 hr.2 hst hh
  have honly := s.host.winClear.plainWrite_only spLoam 0x3002 v
  have hpw : (s.host.winClear.plainWrite spLoam 0x3002 v).pw = s.chip.pw := honly.pw
  rw [Chip.windowWrite_watchdog (m := s.host.winClear) v hr.2 rfl hsp hoff hinc, modeGo_steady hs hpw] at hexec
  exact answers_of_done hexec ⟨honly.win, rd_watchdog s.host.winClear v, honly.2⟩

/-- A word of no space: SPERR, once what the window holds has completed (log entry 14). -/
theorem registerWrite_unknown {sp off : Nat} (hb : s.chip.busOn = true) (hcore : s.chip.coreOn = true) (hsp : sp ≠ 0)
    (hk : spaceKnown sp = false) :
    exec (.registerWrite sp off v) s = done s (s.host.windowFirst.orBits 0 0x21 0x0200) := by
  have hexec : exec (.registerWrite sp off v) s = hostWrite s 0 0x21 (·.windowFirst.orBits 0 0x21 0x0200) := by
    simp [exec, execRegisterWrite, hsp, hk]
  exact hexec.trans (hostWrite_on s 0 0x21 (·.windowFirst.orBits 0 0x21 0x0200) hb hcore)

theorem windowFirst_of_none {m : Chip} (hst : m.win.staged = none) (hh : m.win.heldWrite = none) : m.windowFirst = m := by
  rw [Chip.windowFirst, Chip.heldDone_of_none hh, Chip.stagedAlone_of_none hst]

end

/-- Settles O10: every access comes down to the chip after what the window holds, to a word written, and to the pointer's
advance. -/
theorem windowAccess : Obligations.WindowAccess := by
  unfold Obligations.WindowAccess
  refine ⟨⟨?read, ?write, ?plain, ?item, ?advance⟩, ⟨?timeout, ?held, ?unknown, ?watchdog⟩, ?noSpace⟩
  case read => exact fun s m hb hcore hm hk ho => windataRead_reads hb hcore hm hk ho
  case write =>
    intro s m n v hb hcore hm hk
    refine ⟨fun ho => ?_, fun hst hn ho => ⟨fun hlow => ?_, fun hlow => ?_⟩, fun lo o hst hoff ho => ?_⟩
    · exact answers_of_done (windataWrite_holds hb hcore hm hk ho) ⟨rfl, rfl, rfl, rfl, rfl, rfl⟩
    · have hexec := windataWrite_now (v := v) hb hcore hm
      rw [Chip.windowWrite_alone hk hst hn ho, hlow] at hexec
      exact hexec
    · have hexec := windataWrite_now (v := v) hb hcore hm
      rw [Chip.windowWrite_alone hk hst hn ho, hlow] at hexec
      let k : Chip := { n with win := { n.win with staged := some (m.ptrSpace, m.ptrOff, v) } }
      have honly : OnlyThese k k.advance [(0, 0x1E), (0, 0x1F)] := (OnlyThese.refl k _).advance (by simp) (by simp)
      refine answers_of_done (m := k.advance) hexec ?_
      obtain ⟨r, c, i, ht⟩ := onlyWords_iff.mp honly.1
      exact ⟨congrArg Window.staged honly.win, honly.2, honly.tb, (congrArg Chip.cc ht).trans rfl,
        (congrArg Chip.loam ht).trans rfl⟩
    · have hexec := windataWrite_now (v := v) hb hcore hm
      rw [Chip.windowWrite_pair hst hoff ho] at hexec
      exact hexec
  case plain => exact fun s v hr hst hh hsp hoff hinc => windataWrite_watchdog hr hst hh hsp hoff hinc
  case item => exact fun s v lo o hr hh hst hsp hoff h h' hinc => windataWrite_item hr hh hst hsp hoff h h' hinc
  case advance =>
    intro m hinc hwrap hoff
    obtain ⟨hsp, hpo⟩ := m.advance_ptr
    rw [if_pos hinc, hwrap] at hpo
    exact ⟨hpo.trans (Nat.mod_eq_of_lt (by omega)), hsp⟩
  case timeout =>
    exact fun s read hb hcore => ⟨hostWrite_on s 0 0x20 (·.windowTimeout read) hb hcore, windowTimeout_drops hb hcore⟩
  case held =>
    refine fun s hb hcore => ⟨fun hh => ?_, fun v hh => ?_⟩
    · refine answers_of_done (exec_heldWindowWriteDone hb hcore) ?_
      rw [Chip.heldDone_of_none (m := s.host) hh]
      exact unchanged_begin s.chip 0
    · have hh' : s.host.win.heldWrite = some v := hh
      have hexec := exec_heldWindowWriteDone hb hcore
      rw [Chip.heldDone, hh'] at hexec
      exact hexec
  case unknown => exact fun s v hr hs hst hh hsp => heldDone_unknown hr hs hst hh hsp
  case watchdog => exact fun s v hr hs hst hh hsp hoff hinc => heldDone_watchdog hr hs hst hh hsp hoff hinc
  case noSpace =>
    refine fun s sp off v hb hcore hsp hk => ⟨registerWrite_unknown hb hcore hsp hk, fun hst hh => ?_⟩
    refine answers_of_done (registerWrite_unknown hb hcore hsp hk) ?_
    rw [windowFirst_of_none (m := s.host) hst hh]
    exact ⟨Chip.rd_orBits_same .., ((onlyThese_host s _).orBits _ (List.mem_singleton_self _)).settle⟩

/-! ## Which commands are writes -/

/-- A command that writes a direct register is the host's write of its address. -/
theorem exec_directWord {c : Instr} {a : Nat} {v : Word} (s : State) (h : directWord c = some (a, v)) :
    exec c s = hostWrite s 0 a (·.writeDirect a v) := by
  cases c with
  | registerWrite sp off w =>
    obtain ⟨hcond, heq⟩ := Option.ite_none_right_eq_some.mp h
    obtain ⟨rfl, ha, hw⟩ := hcond
    cases heq
    exact exec_registerWrite_direct s _ ha hw
  | gpioset hi w | gpioclr hi w | gpiotgl hi w =>
    cases hi
    · cases h
      rfl
    · cases h
      rfl
  | modeRequest | sysrst | wphraseWrite | aonlockWrite | xtalretry | pixnWrite | blkrstCapt | blkrstHkc | blkrstIllum
  | blkrstWave | blkrstPipe | blkrstCsi | blkrstPool | blkrstLnkpkt | blkrstLnkphy | blkrstNvmc | blkrstMarl | evvecWrite
  | tstartStart | tstartStop | arm | disarm | abort | trigsw | halt | resume | step | marlenClear | unpinall | runVref
  | runWhite | cancel | stage | commit | load | lflush | linkEnWrite | retrain | retire | streamEnWrite | resync | wpEnWrite
  | p2play | p2stop | muteall | prog | keyprog | glock | keylockWrite =>
    cases h
    rfl
  | _ => cases h

/-- A command that writes a word of a space is the host's write of it through the window. -/
theorem exec_windowWord {c : Instr} {sp off : Nat} {v : Word} (s : State) (h : windowWord c = some (sp, off, v)) :
    exec c s = hostWindow s sp off v := by
  cases c with
  | registerWrite sp off w =>
    obtain ⟨hk, heq⟩ := Option.ite_none_right_eq_some.mp h
    cases heq
    simp [exec, execRegisterWrite, spaceKnown_ne hk, hk]
  | programRamWrite off w =>
    obtain ⟨hoff, heq⟩ := Option.ite_none_right_eq_some.mp h
    cases heq
    exact if_pos hoff
  | trimTargetWrite off w =>
    by_cases hh : 0x300 ≤ off ∧ off < 0x306
    · cases (if_pos hh).symm.trans h
      exact if_pos hh
    · obtain ⟨hc, heq⟩ := Option.ite_none_right_eq_some.mp ((if_neg hh).symm.trans h)
      cases heq
      exact (if_neg hh).trans (if_pos hc)
  | commitStagedPins w =>
    obtain ⟨hc, heq⟩ := Option.ite_none_right_eq_some.mp h
    cases heq
    exact if_pos hc
  | stageDiscard w =>
    obtain ⟨hc, heq⟩ := Option.ite_none_left_eq_some.mp h
    cases heq
    exact if_neg hc
  | cameraPortEnWrite | force | restore | fackWrite | hkctrig | hkcctlEnWrite | calmodeWrite | seallockWrite | pcfgWrite
  | padWrite | slpWrite | statctlUnlock | retcmd | cmpMatchLoad | alarmLoad | alarmDisarm | rearm | wp2GainWrite
  | wp2MuteWrite | regctlEnWrite | isetvalWrite | regBoundWrite =>
    cases h
    rfl
  | _ => cases h

/-! ## Where the owner answers, and before the bus is ready -/

section
variable {s : State}

/-- A window write that the owner answers, once what the window holds has completed (R36, R48). -/
theorem hostWindow_answers {sp off : Nat} {v : Word} (hb : s.chip.busOn = true) (ho : s.window.owned sp off = true) :
    hostWindow s sp off v = done s (s.window.writeSpace sp off v) := by
  have hb' : (s.chip.begin 0).busOn = true := hb
  have ho' : (if (s.chip.begin 0).coreOn then (s.chip.begin 0).windowFirst else s.chip.begin 0).owned sp off = true := ho
  unfold hostWindow
  simp only [hb', ho', if_true]
  rfl

theorem unchanged_settle (m : Chip) : Unchanged m m.settle := rfl

/-- Before the bus is ready a host's write has no effect (R576). -/
theorem hostWrite_early {c : Instr} {sp off : Nat} {f : Chip → Chip} (h : exec c s = hostWrite s sp off f)
    (hb : s.chip.busOn = false) : Answers c s (Unchanged s.chip) :=
  answers_of_done (h.trans (hostWrite_notReady s sp off f hb)) (unchanged_settle s.chip)

theorem hostRead_early {c : Instr} {sp off : Nat} {f : Chip → Chip} (h : exec c s = hostRead s sp off f)
    (hb : s.chip.busOn = false) : Answers c s (Unchanged s.chip) := by
  have hb' : (s.chip.begin 0).busOn = false := hb
  have hread : hostRead s sp off f = done s s.chip := by simp [hostRead, hb']
  exact answers_of_done (h.trans hread) (unchanged_settle s.chip)

theorem registerWrite_early {sp off : Nat} {v : Word} (hb : s.chip.busOn = false) :
    Answers (.registerWrite sp off v) s (Unchanged s.chip) := by
  by_cases hsp : sp = 0
  · subst hsp
    by_cases hoff : off < 0x40
    · obtain ⟨f, hf⟩ := exec_registerWrite_zero s v hoff
      exact hostWrite_early hf hb
    · have hexec : exec (.registerWrite 0 off v) s = done s s.chip := by
        simp only [exec, execRegisterWrite, if_true, if_neg hoff]
        rw [if_neg (by omega), if_neg (by omega)]
      exact answers_of_done hexec (unchanged_settle s.chip)
  · cases hk : spaceKnown sp with
    | false =>
      have hexec : exec (.registerWrite sp off v) s = hostWrite s 0 0x21 (·.windowFirst.orBits 0 0x21 0x0200) := by
        simp [exec, execRegisterWrite, hsp, hk]
      exact hostWrite_early hexec hb
    | true =>
      have hb' : (s.chip.begin 0).busOn = false := hb
      have hexec : exec (.registerWrite sp off v) s = done s s.chip := by
        simp [exec, execRegisterWrite, hsp, hk, hostWindow, hb']
      exact answers_of_done hexec (unchanged_settle s.chip)

/-! ## Reads -/

/-- The record of the cycle has no part in what a direct register reads. -/
theorem Chip.peekDirect_begin (m : Chip) (a : Nat) : (m.begin 0).peekDirect a = m.peekDirect a := by
  unfold Chip.peekDirect
  split <;> rfl

theorem exec_plainRead {a : Nat} (ha : a < 0x40) (hne : a ∉ [0x07, 0x18, 0x20, 0x2D, 0x2E]) :
    exec (.domainOffRead a) s = hostRead s 0 a (·.readPlain a) := by
  simp only [List.mem_cons, List.not_mem_nil, or_false, not_or] at hne
  obtain ⟨h1, h2, h3, h4, h5⟩ := hne
  show execDomainOffRead a s = _
  unfold execDomainOffRead
  rw [if_neg (Nat.not_le.mpr ha)]
  split
  case h_1 => exact absurd rfl h1
  case h_2 => exact absurd rfl h2
  case h_3 => exact absurd rfl h3
  case h_4 => exact absurd rfl h4
  case h_5 => exact absurd rfl h5
  case h_6 => rfl

/-- A register without an effect of its own: its word goes to HD (log entry 82). -/
theorem Chip.readPlain_direct (m : Chip) {a : Nat} (hne : a ∉ [0x1E, 0x1F, 0x21]) : m.readPlain a = m.drive (m.peekDirect a) := by
  simp only [List.mem_cons, List.not_mem_nil, or_false] at hne
  simp only [Chip.readPlain, if_neg hne]

/-- A window register: what the window holds comes first (R36, R48). -/
theorem Chip.readPlain_window (m : Chip) {a : Nat} (h : a ∈ [0x1E, 0x1F, 0x21]) :
    m.readPlain a = m.windowFirst.drive (m.windowFirst.peekDirect a) := by
  simp only [List.mem_cons, List.not_mem_nil, or_false] at h
  simp only [Chip.readPlain, if_pos h]

theorem stb0Read_latches (hb : s.chip.busOn = true) (hcore : s.chip.coreOn = true) :
    Answers .stb0Read s (fun t => t.hd = wd s.chip.tb.stb.toNat ∧ t.tb.stbLatch = (s.chip.tb.stb >>> 16).setWidth 48 ∧
      t.rd 0 0x1D = s.chip.rd 0 0x1D + 1 ∧ WordsKept s.chip t [(0, 0x1D)] ∧ t.tb.stb = s.chip.tb.stb) :=
  answers_hostRead (rfl : execStb0Read s = _) ⟨hb, hcore⟩
    ⟨rfl, rfl, Chip.rd_wr_same .., (WordsKept.refl s.chip _).wr _ (List.mem_singleton_self _), rfl⟩

theorem domainOffRead_plain {a : Nat} (hb : s.chip.busOn = true) (ha : a < 0x40)
    (hne : a ∉ [0x07, 0x18, 0x1E, 0x1F, 0x20, 0x21, 0x2D, 0x2E]) (ho : s.chip.owned 0 a = true) :
    Answers (.domainOffRead a) s (fun t => t.hd = s.chip.peekDirect a ∧ Unchanged { s.chip with hd := t.hd } t) := by
  have hplain : a ∉ [0x07, 0x18, 0x20, 0x2D, 0x2E] := fun h => hne (by simp at h ⊢; omega)
  have hwin : a ∉ [0x1E, 0x1F, 0x21] := fun h => hne (by simp at h ⊢; omega)
  refine answers_of_done ((exec_plainRead ha hplain).trans (hostRead_on s 0 a (·.readPlain a) hb ho)) ?_
  rw [Chip.readPlain_direct _ hwin, Chip.peekDirect_begin]
  exact ⟨rfl, rfl⟩

end

/-- Settles O11: the reads by what each latches, the writes by the address that each command names. -/
theorem hostReads : Obligations.HostReads := by
  unfold Obligations.HostReads
  refine ⟨fun s hb => ⟨fun hcore => ⟨stb0Read_latches hb hcore, ?_⟩, ?_, fun a ha hne ho => ?_, fun a ha hcore => ?_⟩,
    ⟨fun s c a v hc hr => ?_, fun s c sp off v hc hb ho => ?_, fun s a v hb ha hcore => ?_⟩, fun s hb => ?_⟩
  · exact answers_hostRead (rfl : execFramenumRead s = _) ⟨hb, hcore⟩ ⟨rfl, rfl, rfl⟩
  · exact answers_hostRead (rfl : execAoncnt0Read s = _) ⟨hb, hb⟩ ⟨rfl, rfl, rfl⟩
  · exact domainOffRead_plain hb ha hne ho
  · have hread : exec (.domainOffRead a) s = hostRead s 0 a (·.readPlain a) :=
      exec_plainRead (by simp at ha; omega) (by simp at ha ⊢; omega)
    have hown : s.chip.owned 0 a = true := by
      simp only [List.mem_cons, List.not_mem_nil, or_false] at ha
      rcases ha with rfl | rfl | rfl <;> exact hcore
    refine completes_of_done (hread.trans ((hostRead_on s 0 a (·.readPlain a) hb hown).trans ?_))
    exact congrArg (done s) (Chip.readPlain_window s.host ha)
  · exact completes_of_done ((exec_directWord s hc).trans (hostWrite_on s 0 a (·.writeDirect a v) hr.1 hr.2))
  · exact completes_of_done ((exec_windowWord s hc).trans (hostWindow_answers hb ho))
  · have hexec : exec (.registerWrite 0 a v) s = hostWrite s 0 a (·.windowFirst.plainWrite 0 a v) := by
      simp only [List.mem_cons, List.not_mem_nil, or_false] at ha
      simp only [exec, execRegisterWrite, if_true]
      rw [if_neg (by omega), if_pos ha]
    have hown : s.chip.owned 0 a = true := by
      simp only [List.mem_cons, List.not_mem_nil, or_false] at ha
      rcases ha with rfl | rfl | rfl <;> exact hcore
    exact completes_of_done (hexec.trans (hostWrite_on s 0 a (·.windowFirst.plainWrite 0 a v) hb hown))
  · exact ⟨fun _ _ _ => registerWrite_early hb, fun v h => hostWrite_early (rfl : execWindataWrite v h s = _) hb,
      hostRead_early (rfl : execWindataRead s = _) hb, hostRead_early (rfl : execStb0Read s = _) hb,
      hostRead_early (rfl : execAoncnt0Read s = _) hb, fun v => hostWrite_early (rfl : execModeRequest v s = _) hb⟩

end Sys2Proof.Machine
end


section
/-! PROOFS. A tick of the clocks, the modes and the block resets. -/

namespace Sys2Proof.Machine
-- What the steps below change is compared with the model by unfolding: one elaboration at a time.
set_option Elab.async false

/-! ## What a tick does to the counters -/

/-- The counters of a tick, with what may change the mode besides. -/
def Chip.counts (m : Chip) : Tick × Nat × AonTick × Bool × Option Commit :=
  (m.tb.stb, m.tb.sub, m.tb.aon, m.pw.auto, m.st.commit)

theorem Chip.counts_parts {m : Chip} {x : Tick × Nat × AonTick × Bool × Option Commit} (h : m.counts = x) :
    m.tb.stb = x.1 ∧ m.tb.sub = x.2.1 ∧ m.tb.aon = x.2.2.1 ∧ m.pw.auto = x.2.2.2.1 ∧ m.st.commit = x.2.2.2.2 := by
  subst h
  exact ⟨rfl, rfl, rfl, rfl, rfl⟩

/-- Where a step leaves all but what the wide level frames, it leaves the counters. -/
theorem Keeps.counts {b : Bool} {o m : Chip} (h : Keeps (.wide b) o m) : m.counts = o.counts :=
  calc m.counts = (m.kept (.wide b)).counts := rfl
    _ = (o.kept (.wide b)).counts := congrArg Chip.counts h
    _ = o.counts := rfl

theorem Chip.counts_ite {c : Prop} {_ : Decidable c} {a b : Chip} {x : Tick × Nat × AonTick × Bool × Option Commit}
    (ha : a.counts = x) (hb : b.counts = x) : (if c then a else b).counts = x := by
  split
  · exact ha
  · exact hb

theorem Chip.planSlews_counts (m : Chip) (k : Int) (left : Nat) : (m.planSlews k left).counts = m.counts := by
  unfold Chip.planSlews
  extract_lets n w src m1
  have hall : ∀ (l : List Nat) (a : Chip), (l.foldl (fun m i =>
      let g := m.takeFreeNat
      { g.2 with tb := { g.2.tb with slews := (i * w + g.1 % max 1 w) :: g.2.tb.slews } }) a).counts = a.counts := by
    intro l
    induction l with
    | nil => exact fun _ => rfl
    | cons i l ih => exact fun a => (ih _).trans rfl
  exact (hall _ m1).trans rfl

theorem Chip.nextEpoch_counts (m : Chip) : m.nextEpoch.counts = m.counts := by
  unfold Chip.nextEpoch
  split
  · exact m.planSlews_counts _ _
  · rfl

/-- What CORE does to the STB in a tick (R104, R118); the other counters stand. -/
theorem Chip.tickStb_counts (m : Chip) : m.tickStb.counts = (m.tickStb.tb.stb, m.counts.2) :=
  congrArg (fun x => (m.tickStb.tb.stb, x.2)) m.nextEpoch_counts

theorem Chip.tickSync_counts (m : Chip) : m.tickSync.counts = m.counts := by
  unfold Chip.tickSync
  split
  · exact Chip.counts_ite rfl rfl
  · rfl

theorem Chip.onTicks_counts (m : Chip) (x : Nat) (l : List Nat) :
    Chip.counts { m with st := { m.st with onTicks := x, incr := l } } = m.counts := rfl

theorem Chip.ledger_onTicks (m : Chip) (x : Nat) : ∃ l, Chip.ledger { m with st := { m.st with onTicks := x } } 1 1 =
    { m with st := { m.st with onTicks := x, incr := l } } := ⟨_, rfl⟩

theorem Chip.tickStrobes_leaves (m : Chip) : ∃ x l, m.tickStrobes = { m with st := { m.st with onTicks := x, incr := l } } := by
  unfold Chip.tickStrobes
  extract_lets t
  clear_value t
  by_cases h : t < 100000
  · rw [if_pos h]
    exact ⟨t, m.st.incr, rfl⟩
  · rw [if_neg h]
    exact ⟨_, m.ledger_onTicks (t - 100000)⟩

theorem Chip.tickStrobes_counts (m : Chip) : m.tickStrobes.counts = m.counts := by
  obtain ⟨x, l, h⟩ := m.tickStrobes_leaves
  rw [h]
  exact m.onTicks_counts x l

theorem Chip.tickPort_counts (m : Chip) (p : Nat) : (m.tickPort p).counts = m.counts := by
  unfold Chip.tickPort
  extract_lets w l a
  split <;> rfl

theorem Chip.tickWave_counts (m : Chip) : m.tickWave.counts = m.counts := by
  have hports : (((m.tickPort 0).tickPort 1).tickPort 2).counts = m.counts := by
    rw [Chip.tickPort_counts, Chip.tickPort_counts, Chip.tickPort_counts]
  unfold Chip.tickWave
  extract_lets n e
  split
  · exact hports
  · exact hports

theorem Keeps.tickDrift (m : Chip) : Keeps (.wide true) m m.tickDrift := by
  unfold Chip.tickDrift
  split
  · rfl
  · next c _ =>
    refine .ite rfl ?_
    unfold Chip.lineLimit
    have hpass : Keeps (.wide true) m (m.passDropped c) := .passDropped rfl
    exact .ite hpass.docEnd hpass

theorem Chip.calmodeTake_counts (m : Chip) : m.calmodeTake.counts = m.counts := by
  unfold Chip.calmodeTake
  extract_lets b
  split <;> rfl

theorem Chip.tickStores_none {m : Chip} (h : m.st.commit = none) : m.tickStores = m := by
  have hcommit : m.tickCommit = m := by
    unfold Chip.tickCommit
    split
    · rfl
    · next c hc => exact absurd (h.symm.trans hc) (by simp)
  rw [Chip.tickStores, h]
  exact hcommit

/-- Without a commit in progress a tick of CORE moves the STB as its own part says, and no other counter. -/
theorem Chip.tickCore_counts {m : Chip} (h : m.st.commit = none) :
    m.tickCore.counts = (m.tickStb.tb.stb, m.counts.2) := by
  unfold Chip.tickCore
  extract_lets m1 m2 l m3
  have h1 : m1.counts = (m.tickStb.tb.stb, m.counts.2) := by
    rw [Chip.tickWave_counts, Chip.tickStrobes_counts, Chip.tickSync_counts, Chip.tickStb_counts]
  clear_value m1
  have h2 : m2.counts = m1.counts := Chip.counts_ite rfl rfl
  clear_value m2
  have h3 : m3.counts = m2.counts := Chip.counts_ite rfl rfl
  have hall : m3.tickDrift.calmodeTake.counts = (m.tickStb.tb.stb, m.counts.2) := by
    rw [Chip.calmodeTake_counts, (Keeps.tickDrift m3).counts, h3, h2, h1]
  obtain ⟨-, -, -, -, hcommit⟩ := Chip.counts_parts hall
  have hnone : m3.tickDrift.calmodeTake.st.commit = none := hcommit.trans h
  rw [Chip.tickStores_none hnone, hall]

theorem Chip.autoGo_off {m : Chip} (h : m.pw.auto = false) : m.autoGo = m := by
  rw [Chip.autoGo, h]
  rfl

/-- The chip after the parts of a tick that need no clock of CORE. -/
def Chip.ticked (m : Chip) : Chip := (Chip.tickSupplies { m with cyc := Cycle.fresh }).tickAon

theorem Chip.ticked_counts (m : Chip) : m.ticked.counts =
    (m.tb.stb, if m.tb.sub + 128 < 390625 then m.tb.sub + 128 else m.tb.sub + 128 - 390625,
      if m.tb.sub + 128 < 390625 then m.tb.aon else m.tb.aon + 1, m.pw.auto, m.st.commit) := by
  unfold Chip.ticked Chip.tickAon
  extract_lets sub
  split
  · next h => rw [if_pos (show m.tb.sub + 128 < 390625 from h), if_pos (show m.tb.sub + 128 < 390625 from h)]; rfl
  · next h => rw [if_neg (show ¬m.tb.sub + 128 < 390625 from h), if_neg (show ¬m.tb.sub + 128 < 390625 from h)]; rfl

section
variable {s : State}

theorem Chip.tick_off {m : Chip} (h : m.pw.vddaon = false) : m.tick = m := by
  rw [Chip.tick, h]
  rfl

/-- With no request of AUTORUN and no commit, a tick leaves the counters as the parts that count them do. -/
theorem Chip.tick_counts {m : Chip} (hv : m.pw.vddaon = true) (ha : m.pw.auto = false) (hc : m.st.commit = none) :
    m.tick.counts = (if m.pw.core then m.ticked.tickStb.tb.stb else m.tb.stb, m.ticked.counts.2) := by
  have hparts := m.ticked_counts
  obtain ⟨hstb, -, -, hauto, hcommit⟩ := Chip.counts_parts hparts
  have hcore : m.ticked.pw.core = m.pw.core := by
    unfold Chip.ticked Chip.tickAon
    extract_lets sub
    split <;> rfl
  have htick : m.tick = (if m.ticked.pw.core then m.ticked.tickCore else m.ticked).autoGo := by
    rw [Chip.tick, hv]
    rfl
  rw [htick, hcore]
  cases m.pw.core with
  | true =>
    have hcounts := Chip.tickCore_counts (hcommit.trans hc)
    obtain ⟨-, -, -, hsame, -⟩ := Chip.counts_parts hcounts
    rw [if_pos rfl, if_pos rfl, Chip.autoGo_off (hsame.trans (hauto.trans ha)), hcounts]
  | false =>
    rw [if_neg (by decide), if_neg (by decide), Chip.autoGo_off (hauto.trans ha)]
    exact congrArg (fun x => (x, m.ticked.counts.2)) hstb

/-- The tick leaves the follower's plan to CORE. -/
theorem Chip.ticked_plan (m : Chip) : m.ticked.tb = { m.tb with sub := m.ticked.tb.sub, aon := m.ticked.tb.aon } := by
  unfold Chip.ticked Chip.tickAon
  extract_lets sub
  split <;> rfl

theorem Chip.tickStb_free {m : Chip} (h : m.tb.locked = false) : m.tickStb.tb.stb = m.tb.stb + 1 := by
  have hnext : m.nextEpoch = m := by
    rw [Chip.nextEpoch, h]
    rfl
  have hfix : m.tickStb.tb.stb = m.tb.stb + 1 + BitVec.ofInt 64 0 := by
    unfold Chip.tickStb
    rw [hnext]
    simp only [h, Bool.false_and, Bool.false_eq_true, if_false]
  exact hfix.trans (BitVec.add_zero _)

theorem Chip.tickStb_follows {m : Chip} (h : m.tb.locked = true) (he : m.tb.epochLeft ≠ 0) : m.tickStb.tb.stb =
    m.tb.stb + (if m.tb.slews.contains (m.tb.epochLeft - 1) then (if m.tb.slewUp then 2 else 0) else 1) := by
  have hnext : m.nextEpoch = m := by
    rw [Chip.nextEpoch, h, Bool.true_and, if_neg (by simpa using he)]
  unfold Chip.tickStb
  rw [hnext]
  simp only [h, Bool.true_and]
  cases m.tb.slews.contains (m.tb.epochLeft - 1) with
  | false => exact BitVec.add_zero _
  | true =>
    cases m.tb.slewUp with
    | true => exact BitVec.add_assoc _ _ _
    | false => exact BitVec.add_assoc _ _ _

end

/-- Settles O2: what a tick does to the counters, and the part of CORE that moves the STB. -/
theorem emptyQueueTicks : Obligations.EmptyQueueTicks := by
  intro s hp
  refine ⟨?step, Chip.tick_off, fun hv ha hc => ?counters⟩
  case step =>
    obtain ⟨p, m⟩ := s
    cases hp
    rfl
  case counters =>
    have hcounts := Chip.tick_counts hv ha hc
    obtain ⟨hstb, hsub, haon, -, -⟩ := Chip.counts_parts hcounts
    rw [s.chip.ticked_counts] at hsub haon
    have hplan := s.chip.ticked_plan
    refine ⟨fun hcore hl => ?_, fun hcore hl he => ?_, fun hcore => ?_, fun h => ⟨?_, ?_⟩, fun h => ⟨?_, ?_⟩⟩
    · rw [hcore] at hstb
      exact hstb.trans ((Chip.tickStb_free ((congrArg TimeBase.locked hplan).trans hl)).trans
        (congrArg (fun t => t.stb + 1) hplan))
    · rw [hcore] at hstb
      refine hstb.trans ((Chip.tickStb_follows ((congrArg TimeBase.locked hplan).trans hl)
        (fun h0 => he ((congrArg TimeBase.epochLeft hplan).symm.trans h0))).trans ?_)
      rw [hplan]
    · rw [hcore] at hstb
      exact hstb
    · exact hsub.trans (if_pos h)
    · exact haon.trans (if_pos h)
    · exact hsub.trans (if_neg (Nat.not_lt.mpr h))
    · exact haon.trans (if_neg (Nat.not_lt.mpr h))

/-! ## Block resets (O18) -/

/-- The pool runs, and the statistics set that waits for its turn holds a word that is POOLSTAT's: the model confines the words
of a waiting set to no space. -/
def poolState : State :=
  { pending := []
    chip := { Chip.reset with
      pw := { Power.reset with cur := .run, target := .run, vddaon := true, ready := true, core := true, pipe := true }
      pipe := { Pipe.reset with waiting := some [(key 0 0x3A, 1)] } } }

theorem pool_reaches : poolState.chip.busOn = true ∧ poolState.chip.owned 0 0x12 = true := by decide +kernel

/-- The reset clears POOLSTAT before it ends the copies, so the waiting set is shown after that. -/
theorem pool_shown : (poolState.host.writeBlkrst 0x0040).rd 0 0x3A = 1 := by decide +kernel

theorem exec_blkrstPool {s : State} (hr : s.reaches 0 0x12) :
    exec .blkrstPool s = .next { s with chip := (s.host.writeBlkrst 0x0040).settle } :=
  hostWrite_on s 0 0x12 (·.writeBlkrst 0x0040) hr.1 hr.2

/-- What a reset of the pool answers, of the chip that the write leaves. -/
theorem blkrstPool_answers {s : State} {P : Chip → Prop} (hr : s.reaches 0 0x12) (h : Answers .blkrstPool s P) :
    P (s.host.writeBlkrst 0x0040).settle := by
  obtain ⟨t, ht, _, hP⟩ := h
  rw [exec_blkrstPool hr] at ht
  injection ht with ht
  rw [← ht] at hP
  exact hP

/-- Refutes O18: a reset of the pool ends every copy of a statistics set, so a set that waits is shown, and one that holds a
word of POOLSTAT leaves it at 1. -/
theorem not_blockResets : ¬Obligations.BlockResets := by
  unfold Obligations.BlockResets
  intro ⟨hreset, _⟩
  obtain ⟨_, hpipe, _⟩ := hreset poolState pool_reaches (by decide +kernel)
  obtain ⟨_, _, hpool, _⟩ := hpipe (by decide +kernel)
  obtain ⟨_, _, hstat, _⟩ := blkrstPool_answers pool_reaches hpool
  rw [Chip.rd_settle] at hstat
  exact absurd (pool_shown.symm.trans hstat) (by decide)

/-! ## Mode requests (O12) -/

section
variable {m : Chip}

theorem Chip.plainWrite_leaves (m : Chip) (sp off : Nat) (v : Word) : ∃ r, m.plainWrite sp off v = { m with regs := r } := by
  unfold Chip.plainWrite
  split
  · exact ⟨m.regs, rfl⟩
  · exact ⟨_, rfl⟩

/-- The chip with a request of AUTORUN waiting or not. -/
def Chip.autoIs (m : Chip) (b : Bool) : Chip := { m with pw := { m.pw with auto := b } }

theorem Chip.autorun_leaves (m : Chip) : ∃ b, m.autorun = m.autoIs b := by
  unfold Chip.autorun
  split
  · exact ⟨true, rfl⟩
  · exact ⟨m.pw.auto, rfl⟩

/-- A request of a mode, AUTORUN's part apart (R63). -/
theorem writePwrctl_asks {v : Word} (hcode : fld v 0 3 < 4) (hrst : tst v 7 = false) :
    ∃ b, m.writePwrctl v = ((m.plainWrite 0 0x02 v).requestMode (modeOf (fld v 0 3))).autoIs b := by
  unfold Chip.writePwrctl
  rw [if_neg (Nat.not_le.mpr hcode), hrst, if_neg (by decide)]
  extract_lets was n
  split
  · exact n.autorun_leaves
  · exact ⟨n.pw.auto, rfl⟩

/-- The mode that a request is for, and the mark that a running capture ends with it (R66). -/
def Chip.goingTo (m : Chip) (goal : Mode) : Chip :=
  { m with cc := { m.cc with cap := m.cc.cap.map (fun c => { c with left := true }) }, pw := { m.pw with target := goal } }

def Chip.target (m : Chip) (goal : Mode) : Chip := { m with pw := { m.pw with target := goal } }

/-- With no sequence in progress a request for another mode than RUN only marks the capture before the mode's sequence. -/
theorem requestMode_leaves {goal : Mode} {w : Chip} (hgoal : goal ≠ .run) (hw : (if goal = .idle then m.wakeFire 10 else m) = w)
    (hsq : w.pw.sq = none) : m.requestMode goal = (w.goingTo goal).modeGo := by
  unfold Chip.requestMode
  extract_lets m1 m2 m3 src
  show Chip.modeGo (m3.target goal) = _
  have h1 : m1 = w := by
    rw [← hw]
    by_cases h : goal = .idle
    · rw [if_pos h]
      exact if_pos (by rw [h]; rfl)
    · rw [if_neg h]
      exact if_neg (by simp [hgoal, h])
  clear_value m1
  subst h1
  have h2 : m2 = m1.mapCap (fun c => { c with left := true }) := if_pos hgoal
  have hsq2 : m2.pw.sq = none := by rw [h2]; exact hsq
  have h3 : m3 = m2 := if_neg (by rw [hsq2]; simp)
  rw [h3, h2]
  exact congrArg Chip.modeGo rfl

theorem requestMode_run {w : Chip} (hw : m.wakeFire 10 = w) : m.requestMode .run = (w.target .run).modeGo := by
  unfold Chip.requestMode
  extract_lets m1 m2 m3 src
  show Chip.modeGo (m3.target .run) = _
  have h1 : m1 = w := (if_pos rfl).trans hw
  have h2 : m2 = m1 := if_neg (by decide)
  have h3 : m3 = m2 := if_neg (by simp)
  rw [h3, h2, h1]

/-! ### What a mode's sequence starts with -/

theorem modeGo_leaves (hready : m.pw.ready = true) (hsq : m.pw.sq = none) (hcur : m.pw.cur = .run) (ht : m.pw.target ≠ .run)
    (hhalt : m.loam.halted = false) :
    m.modeGo = if m.cc.cap.isSome then m.setSeq (some .runIdleWait) else m.runIdleNow := by
  have hgo : m.modeGo = m.leaveRun := by
    unfold Chip.modeGo
    simp [hready, hsq, hcur, ht]
  rw [hgo, Chip.leaveRun, hhalt]
  rfl

theorem modeGo_wakes (hready : m.pw.ready = true) (hsq : m.pw.sq = none) (hcur : m.pw.cur = .sleep)
    (ht : m.pw.target = .run ∨ m.pw.target = .idle) (hbelow : m.pw.below = 0) : m.modeGo =
      Chip.bootField { m with pw := { m.pw with bound := m.pw.target, sq := some .wakeSleep } } 12 4 2 := by
  have hgo : m.modeGo = m.wakeStart m.pw.target := by
    unfold Chip.modeGo
    simp [hready, hsq, hcur, ht]
  rw [hgo, wakeStart_asleep m _ hcur hbelow]

theorem modeGo_dozes (hready : m.pw.ready = true) (hsq : m.pw.sq = none) (hcur : m.pw.cur = .idle) (ht : m.pw.target = .doze)
    (hbusy : m.storesBusy = false) (hheld : m.win.heldWrite = none) : m.modeGo = m.dozeEntry := by
  unfold Chip.modeGo
  simp [hready, hsq, hcur, ht, hbusy, hheld]

theorem modeGo_sleeps (hready : m.pw.ready = true) (hsq : m.pw.sq = none) (hcur : m.pw.cur = .doze) (ht : m.pw.target = .sleep)
    (hwake : m.pw.wake = false) : m.modeGo = m.sleepEntry := by
  unfold Chip.modeGo
  simp [hready, hsq, hcur, ht, hwake]

theorem modeGo_rises (hready : m.pw.ready = true) (hsq : m.pw.sq = none) (hcur : m.pw.cur = .idle) (ht : m.pw.target = .run)
    (hbelow : m.pw.below = 0) : m.modeGo = m.pixStart.setSeq (some .idleRun) := by
  unfold Chip.modeGo Chip.runStartSeq
  simp [hready, hsq, hcur, ht, hbelow]

/-- In a mode that is its own target nothing starts, where no wake is pending in DOZE or SLEEP. -/
theorem modeGo_stays (hcur : m.pw.cur = m.pw.target) (hwake : m.pw.cur = .run ∨ m.pw.cur = .idle ∨ m.pw.wake = false) :
    m.modeGo = m := by
  unfold Chip.modeGo
  split
  · rfl
  · rw [← hcur]
    rcases hwake with h | h | h
    · rw [h]
      rfl
    · rw [h]
      rfl
    · cases m.pw.cur with
      | run => rfl
      | idle => rfl
      | doze => simp [h]
      | sleep => simp [h]

/-- A part that no element of a fold changes. -/
theorem foldl_part {α β γ : Type} (g : β → γ) {f : β → α → β} (hf : ∀ b a, g (f b a) = g b) (l : List α) (b : β) :
    g (l.foldl f b) = g b :=
  List.foldlRecOn l f (motive := fun x => g x = g b) rfl fun x hx a _ => (hf x a).trans hx

theorem Chip.drainNodes_pw (m : Chip) : m.drainNodes.pw = m.pw := rfl

theorem strobesLow_pw (m : Chip) : m.strobesLow.pw = m.pw := by
  obtain ⟨r, c, h, l, ht, -⟩ := onlyStrobes_iff.mp (onlyStrobes_strobesLow m)
  rw [ht]

/-- RUN to IDLE at once: no node holds charge, and the sequence runs (R66). -/
theorem runIdleNow_leaves (m : Chip) : m.runIdleNow.pw.sq = some .runIdle ∧ m.runIdleNow.pw.isetOn = false ∧
    m.runIdleNow.pw.target = m.pw.target ∧ m.runIdleNow.cc.nodes = 0 := by
  unfold Chip.runIdleNow
  extract_lets m1 m2 m3 m4 src
  have h1 : m1.pw = m.pw := (Chip.drainNodes_pw _).trans (strobesLow_pw m)
  have hn : m1.cc.nodes = 0 := rfl
  clear_value m1
  have h2 : Keeps (.wide false) m1 m2 := by
    unfold m2
    split
    · exact .marlLeave (.refl _ m1)
    · exact .refl _ m1
  have h3 : Keeps (.wide false) m1 m3 := h2.foldl fun _ _ h => h.clearHist
  have h4 : Keeps (.wide false) m1 m4 := by
    unfold m4
    split
    · exact h3.runEnd
    · exact h3
  have ht : m4.pw.target = m1.pw.target := h4.part (·.pw.target)
  exact ⟨rfl, rfl, ht.trans (congrArg Power.target h1), h4.nodes.trans hn⟩

/-- What DOZE entry leaves of the power state (R67). -/
theorem dozeEntry_leaves (m : Chip) : m.dozeEntry.pw.sq = some .idleDoze ∧ m.dozeEntry.pw.cur = m.pw.cur := by
  unfold Chip.dozeEntry
  extract_lets m1
  have h1 : m1.pw = m.pw := by
    unfold m1
    split <;> rfl
  clear_value m1
  have hcams : m1.camsSleep.pw.cur = m1.pw.cur := (Keeps.camsSleep (.refl _ m1)).part (·.pw.cur)
  generalize m1.camsSleep = m2 at hcams
  have hwaves : m2.wavesSleep.pw = m2.pw := by
    unfold Chip.wavesSleep
    extract_lets m3 m4
    have h3 : m3.pw = m2.pw := foldl_part Chip.pw (fun a p => by dsimp only; split <;> rfl) [0, 1] m2
    exact h3
  generalize m2.wavesSleep = m3 at hwaves
  exact ⟨rfl, (congrArg Power.cur hwaves).trans (hcams.trans (congrArg Power.cur h1))⟩

end

section
variable {s : State} {v : Word}

/-- The chip that a request's mode sequence finds: PWRCTL written. -/
def State.asked (s : State) (p : Chip) : Prop :=
  (∃ r, p = { s.host with regs := r }) ∧ WordsKept s.chip p [(0, 0x02)]

theorem State.asked.parts {p : Chip} (h : s.asked p) : p.pw = s.chip.pw ∧ p.cc = s.chip.cc ∧ p.loam = s.chip.loam ∧
    p.tb = s.chip.tb ∧ p.keep = s.chip.keep ∧ p.st = s.chip.st ∧ p.win = s.chip.win := by
  obtain ⟨⟨r, rfl⟩, -⟩ := h
  exact ⟨rfl, rfl, rfl, rfl, rfl, rfl, rfl⟩

/-- A mode request answers what the request leaves of the chip that its write finds, AUTORUN's part apart. -/
theorem answers_modeRequest {P : Chip → Prop} (hb : s.chip.busOn = true) (hcode : fld v 0 3 < 4) (hrst : tst v 7 = false)
    (hP : ∀ p b, s.asked p → P ((p.requestMode (modeOf (fld v 0 3))).autoIs b))
    (hset : ∀ t : Chip, P t → P t.settle := by exact fun _ h => h) : Answers (.modeRequest v) s P := by
  refine answers_hostWrite_leaves (f := (·.writePwrctl v)) rfl ⟨hb, hb⟩ ?_ hset
  obtain ⟨b, hw⟩ := writePwrctl_asks (m := s.host) hcode hrst
  show P (s.host.writePwrctl v)
  rw [hw]
  exact hP _ b ⟨s.host.plainWrite_leaves 0 0x02 v, (s.host.plainWrite_only 0 0x02 v).2⟩

theorem State.busOn_ready (hb : s.chip.busOn = true) : s.chip.pw.ready = true := by
  simp only [Chip.busOn, Bool.and_eq_true] at hb
  exact hb.1

theorem modeRequest_discarded (hb : s.chip.busOn = true) (h : 4 ≤ fld v 0 3) :
    Answers (.modeRequest v) s (Unchanged s.chip) := by
  refine answers_hostWrite (f := (·.writePwrctl v)) rfl ⟨hb, hb⟩ ?_
  rw [Chip.writePwrctl, if_pos h]
  exact unchanged_begin s.chip 0

/-- IDLE from RUN: what the request leaves before the sequence. -/
theorem modeRequest_idle {P : Chip → Prop} (hb : s.chip.busOn = true) (hcode : fld v 0 3 = 1) (hrst : tst v 7 = false)
    (hcur : s.chip.pw.cur = .run) (hsq : s.chip.pw.sq = none) (hwake : s.chip.pw.wake = false)
    (hhalt : s.chip.loam.halted = false)
    (hP : ∀ p b, s.asked p →
      P ((if s.chip.cc.cap.isSome then (p.goingTo .idle).setSeq (some .runIdleWait) else (p.goingTo .idle).runIdleNow).autoIs b))
    (hset : ∀ t : Chip, P t → P t.settle := by exact fun _ h => h) : Answers (.modeRequest v) s P := by
  refine answers_modeRequest hb (by omega) hrst (fun p b hp => ?_) hset
  obtain ⟨hpw, hcc, hloam, -, -, -, -⟩ := hp.parts
  have hgoal : modeOf (fld v 0 3) = .idle := by rw [hcode]; rfl
  have hfire : p.wakeFire 10 = p := Chip.wakeFire_steady 10 (by rw [hpw, hcur]) (by rw [hpw, hsq]) (by rw [hpw, hwake])
  have hgo : (p.goingTo .idle).modeGo =
      if s.chip.cc.cap.isSome then (p.goingTo .idle).setSeq (some .runIdleWait) else (p.goingTo .idle).runIdleNow := by
    have hcap : (p.goingTo .idle).cc.cap.isSome = s.chip.cc.cap.isSome := by
      rw [← hcc]
      exact Option.isSome_map
    rw [← hcap]
    exact modeGo_leaves ((congrArg Power.ready hpw).trans (State.busOn_ready hb)) ((congrArg Power.sq hpw).trans hsq)
      ((congrArg Power.cur hpw).trans hcur) (fun h => nomatch h) ((congrArg Loam.halted hloam).trans hhalt)
  rw [hgoal, requestMode_leaves (by decide) ((if_pos rfl).trans hfire) ((congrArg Power.sq hpw).trans hsq), hgo]
  exact hP p b hp

theorem modeRequest_idle_now (hb : s.chip.busOn = true) (hcode : fld v 0 3 = 1) (hrst : tst v 7 = false)
    (hcur : s.chip.pw.cur = .run) (hsq : s.chip.pw.sq = none) (hwake : s.chip.pw.wake = false)
    (hhalt : s.chip.loam.halted = false) (hcap : s.chip.cc.cap = none) :
    Answers (.modeRequest v) s (fun t => t.pw.sq = some .runIdle ∧ t.pw.isetOn = false ∧ t.pw.target = .idle ∧
      t.cc.nodes = 0) := by
  refine modeRequest_idle hb hcode hrst hcur hsq hwake hhalt fun p b _ => ?_
  obtain ⟨h1, h2, h3, h4⟩ := runIdleNow_leaves (p.goingTo .idle)
  rw [hcap, if_neg (by decide)]
  generalize (p.goingTo .idle).runIdleNow = n at h1 h2 h3 h4
  exact ⟨h1, h2, h3, h4⟩

theorem modeRequest_idle_waits (hb : s.chip.busOn = true) (hcode : fld v 0 3 = 1) (hrst : tst v 7 = false)
    (hcur : s.chip.pw.cur = .run) (hsq : s.chip.pw.sq = none) (hwake : s.chip.pw.wake = false)
    (hhalt : s.chip.loam.halted = false) (hcap : s.chip.cc.cap.isSome = true) :
    Answers (.modeRequest v) s (fun t => t.pw.sq = some .runIdleWait ∧ t.pw.target = .idle ∧
      t.cc = { s.chip.cc with cap := s.chip.cc.cap.map (fun c => { c with left := true }) } ∧
      WordsKept s.chip t [(0, 0x02)]) := by
  refine modeRequest_idle hb hcode hrst hcur hsq hwake hhalt fun p b hp => ?_
  obtain ⟨-, hcc, -⟩ := hp.parts
  rw [hcap, if_pos rfl, ← hcc]
  exact ⟨rfl, rfl, rfl, hp.2⟩

/-- The chip that a request of a mode from SLEEP finds once it has fired as a wake source. -/
theorem wakes_from_sleep {m : Chip} {goal : Mode} (hready : m.pw.ready = true) (hcur : m.pw.cur = .sleep) (hsq : m.pw.sq = none)
    (hbelow : m.pw.below = 0) (hgoal : goal = .run ∨ goal = .idle) :
    (m.requestMode goal).pw.sq = some .wakeSleep ∧ (m.requestMode goal).pw.bound = goal ∧
      tst ((m.requestMode goal).rd 0 0x04) 10 = true ∧ (m.requestMode goal).keep = m.keep ∧ (m.requestMode goal).tb = m.tb := by
  obtain ⟨hbit, -, hpw, hparts⟩ := wakeFire_counts m (n := 10) (by decide) (by simp [Chip.sourcesCount, hcur])
    (by simp [Chip.inWake, Chip.waking, hsq])
  have hkeep : (m.wakeFire 10).keep = m.keep := (congrArg Chip.keep hparts).trans rfl
  have htb : (m.wakeFire 10).tb = m.tb := (congrArg Chip.tb hparts).trans rfl
  generalize hw : m.wakeFire 10 = w at hbit hpw hkeep htb
  clear hparts
  have hready' : w.pw.ready = true := (congrArg Power.ready hpw).trans hready
  have hcur' : w.pw.cur = .sleep := (congrArg Power.cur hpw).trans hcur
  have hsq' : w.pw.sq = none := (congrArg Power.sq hpw).trans hsq
  have hbelow' : w.pw.below = 0 := (congrArg Power.below hpw).trans hbelow
  rcases hgoal with rfl | rfl
  · rw [requestMode_run hw, modeGo_wakes (m := w.target .run) hready' hsq' hcur' (.inl rfl) hbelow']
    refine ⟨rfl, rfl, ?_, hkeep, htb⟩
    refine (congrArg (fun x => tst x 10) (Chip.rd_wr_ne _ _ ?_)).trans hbit
    decide
  · rw [requestMode_leaves (by decide) ((if_pos rfl).trans hw) hsq',
      modeGo_wakes (m := w.goingTo .idle) hready' hsq' hcur' (.inr rfl) hbelow']
    refine ⟨rfl, rfl, ?_, hkeep, htb⟩
    refine (congrArg (fun x => tst x 10) (Chip.rd_wr_ne _ _ ?_)).trans hbit
    decide

theorem modeRequest_wakes (hb : s.chip.busOn = true) (hcode : fld v 0 3 < 2) (hrst : tst v 7 = false)
    (hcur : s.chip.pw.cur = .sleep) (hsq : s.chip.pw.sq = none) (hbelow : s.chip.pw.below = 0) :
    Answers (.modeRequest v) s (fun t => t.pw.sq = some .wakeSleep ∧ t.pw.bound = modeOf (fld v 0 3) ∧
      tst (t.rd 0 0x04) 10 = true ∧ t.keep = s.chip.keep ∧ t.tb = s.chip.tb) := by
  have hgoal : modeOf (fld v 0 3) = .run ∨ modeOf (fld v 0 3) = .idle := by
    have hcase : fld v 0 3 = 0 ∨ fld v 0 3 = 1 := by omega
    rcases hcase with h | h
    · exact .inl (by rw [h]; rfl)
    · exact .inr (by rw [h]; rfl)
  refine answers_modeRequest hb (by omega) hrst fun p b hp => ?_
  obtain ⟨hpw, -, -, htb, hkeep, -, -⟩ := hp.parts
  obtain ⟨h1, h2, h3, h4, h5⟩ := wakes_from_sleep (m := p) ((congrArg Power.ready hpw).trans (State.busOn_ready hb))
    ((congrArg Power.cur hpw).trans hcur) ((congrArg Power.sq hpw).trans hsq) ((congrArg Power.below hpw).trans hbelow) hgoal
  generalize p.requestMode (modeOf (fld v 0 3)) = n at h1 h2 h3 h4 h5
  exact ⟨h1, h2, h3, h4.trans hkeep, h5.trans htb⟩

theorem modeRequest_dozes (hb : s.chip.busOn = true) (hcode : fld v 0 3 = 2) (hrst : tst v 7 = false)
    (hcur : s.chip.pw.cur = .idle) (hsq : s.chip.pw.sq = none) (hbusy : s.chip.storesBusy = false)
    (hheld : s.chip.win.heldWrite = none) :
    Answers (.modeRequest v) s (fun t => t.pw.sq = some .idleDoze ∧ t.pw.cur = .idle) := by
  refine answers_modeRequest hb (by omega) hrst fun p b hp => ?_
  obtain ⟨hpw, -, -, -, -, hst, hwin⟩ := hp.parts
  have hstores : (p.goingTo .doze).storesBusy = false := by
    show (p.st.commit.isSome || p.st.waiting.isSome || p.st.flush.isSome) = false
    rw [hst]
    exact hbusy
  rw [show modeOf (fld v 0 3) = .doze by rw [hcode]; rfl,
    requestMode_leaves (w := p) (by decide) (if_neg (by decide)) ((congrArg Power.sq hpw).trans hsq),
    modeGo_dozes (m := p.goingTo .doze) ((congrArg Power.ready hpw).trans (State.busOn_ready hb)) ((congrArg Power.sq hpw).trans hsq)
      ((congrArg Power.cur hpw).trans hcur) rfl hstores ((congrArg Window.heldWrite hwin).trans hheld)]
  obtain ⟨h1, h2⟩ := dozeEntry_leaves (p.goingTo .doze)
  generalize (p.goingTo .doze).dozeEntry = n at h1 h2
  exact ⟨h1, h2.trans ((congrArg Power.cur hpw).trans hcur)⟩

theorem modeRequest_rises (hb : s.chip.busOn = true) (hcode : fld v 0 3 = 0) (hrst : tst v 7 = false)
    (hcur : s.chip.pw.cur = .idle) (hsq : s.chip.pw.sq = none) (hwake : s.chip.pw.wake = false)
    (hbelow : s.chip.pw.below = 0) :
    Answers (.modeRequest v) s (fun t => t.pw.sq = some .idleRun ∧ t.pw.pixFb = false) := by
  refine answers_modeRequest hb (by omega) hrst fun p b hp => ?_
  obtain ⟨hpw, -⟩ := hp.parts
  have hno : p.sourcesCount = false := by simp [Chip.sourcesCount, Chip.entering, hpw, hcur, hsq, hwake]
  have hfire : p.wakeFire 10 = p := if_neg (by rw [hno]; decide)
  rw [show modeOf (fld v 0 3) = .run by rw [hcode]; rfl, requestMode_run hfire,
    modeGo_rises (m := p.target .run) ((congrArg Power.ready hpw).trans (State.busOn_ready hb)) ((congrArg Power.sq hpw).trans hsq)
      ((congrArg Power.cur hpw).trans hcur) rfl ((congrArg Power.below hpw).trans hbelow)]
  exact ⟨rfl, rfl⟩

end

/-! ### CORE stays on through the make-up of the clocks (R106) -/

section
variable {o m : Chip}

/-- CORE is powered as it was. -/
def CoreKept (o m : Chip) : Prop := m.pw.core = o.pw.core

theorem CoreKept.refl (m : Chip) : CoreKept m m := rfl

theorem CoreKept.trans {t : Chip} (h : CoreKept o m) (h' : CoreKept m t) : CoreKept o t := Eq.trans h' h

theorem CoreKept.ite {c : Prop} [Decidable c] {a b : Chip} (ha : CoreKept o a) (hb : CoreKept o b) :
    CoreKept o (if c then a else b) := by
  split
  · exact ha
  · exact hb

theorem CoreKept.foldl {α : Type} {f : Chip → α → Chip} (hf : ∀ m a, CoreKept m (f m a)) (l : List α) (m : Chip) :
    CoreKept m (l.foldl f m) := foldl_part (fun t : Chip => t.pw.core) hf l m

theorem Keeps.coreKept {lv : Level} (h : Keeps lv o m) : CoreKept o m := h.core

theorem coreKept_raise (m : Chip) (n : Nat) : CoreKept m (m.raise n) := by
  unfold Chip.raise
  exact .ite rfl rfl

theorem coreKept_raiseIf (m : Chip) (c : Bool) (n : Nat) : CoreKept m (m.raiseIf c n) := .ite (coreKept_raise m n) (.refl m)

theorem coreKept_wr (m : Chip) (sp off : Nat) (v : Word) : CoreKept m (m.wr sp off v) := rfl

theorem coreKept_wr64 (m : Chip) (sp off v : Nat) : CoreKept m (m.wr64 sp off v) := rfl

theorem coreKept_wr32 (m : Chip) (sp off v : Nat) : CoreKept m (m.wr32 sp off v) := rfl

theorem coreKept_tmSet (m : Chip) (n i : Nat) (b : Bool) : CoreKept m (m.tmSet n i b) := rfl

theorem coreKept_bump (m : Chip) (sp off n : Nat) : CoreKept m (m.bump sp off n) := rfl

theorem coreKept_orBits (m : Chip) (sp off : Nat) (b : Word) : CoreKept m (m.orBits sp off b) := rfl

theorem coreKept_makeUpTimer (m : Chip) (n e : Nat) : CoreKept m (m.makeUpTimer n e) := by
  unfold Chip.makeUpTimer
  extract_lets psc total c m1 count tc mt up _ within r
  have h1 : CoreKept m m1 := coreKept_wr32 m _ _ _
  clear_value m1
  have hr : CoreKept m1 r.1 := by
    unfold r
    split
    · exact (coreKept_wr32 m1 _ _ _).trans ((coreKept_tmSet _ _ _ _).trans (coreKept_tmSet _ _ _ _))
    · split
      · exact coreKept_wr32 m1 _ _ _
      · exact coreKept_wr32 m1 _ _ _
  clear_value r
  have hraise := (coreKept_bump r.1 spTmr (tmOff n 0x10) r.2).trans
    ((coreKept_orBits _ spTmr 0x0B (bitW n)).trans (coreKept_raise _ evTmrMissed))
  exact h1.trans (.ite hr (hr.trans hraise))

theorem coreKept_makeUpTimers (m : Chip) (mk n : Nat) : CoreKept m (m.makeUpTimers mk n) := by
  refine .foldl (fun m t => ?_) _ m
  dsimp only
  refine .ite ?_ (.refl m)
  split
  · exact coreKept_makeUpTimer m t _
  · exact coreKept_makeUpTimer m t _
  · exact coreKept_makeUpTimer m t _
  · exact coreKept_makeUpTimer m t _
  · exact .refl m

theorem coreKept_autorun (m : Chip) : CoreKept m m.autorun := by
  obtain ⟨b, h⟩ := m.autorun_leaves
  rw [h]
  rfl

theorem coreKept_trigger (m : Chip) (k : Fin 16) : CoreKept m (m.trigger k).1 := by
  unfold Chip.trigger
  extract_lets cont
  split
  · rfl
  · split
    · split
      · exact (Keeps.overrun (.refl (.wide true) m)).coreKept
      · exact .trans (.refl m) (coreKept_autorun _)
    · exact (Keeps.startCapture (.refl (.wide true) m)).coreKept

theorem coreKept_triggerFrom (m : Chip) (src : Nat) (k : Fin 16) : CoreKept m (m.triggerFrom src k).1 := by
  unfold Chip.triggerFrom
  split
  · split
    · rfl
    · exact .trans (.refl m) (coreKept_trigger _ k)
  · rfl

theorem coreKept_driveOut (m : Chip) (rank : Nat) (a b c : BitVec 32) : CoreKept m (m.driveOut rank a b c) := rfl

theorem coreKept_strobeDrive (m : Chip) (k : Cycle) (c : Nat) (on : Bool) (t : Tick) :
    CoreKept m (Chip.strobeDrive { m with cyc := k } c on t) :=
  have h : Keeps (.wide true) m { m with cyc := k } := rfl
  h.strobeDrive.coreKept

theorem coreKept_timerStrobe (m : Chip) (rank c op : Nat) : CoreKept m (m.timerStrobe rank c op) :=
  .ite (coreKept_strobeDrive m _ _ _ _) (.refl m)

theorem coreKept_doAction (m : Chip) (rank : Nat) (w : Word) : CoreKept m (m.doAction rank w) := by
  unfold Chip.doAction
  extract_lets a t
  clear_value a t
  split
  · unfold Chip.targetEvent
    exact .ite (Keeps.slotEvent (.refl (.wide true) m)).coreKept (.refl m)
  · exact (Keeps.moverRequest (.refl (.wide true) m)).coreKept
  · exact .ite (.refl m) (.refl m)
  · exact .refl m
  · exact coreKept_triggerFrom m 1 _
  · refine .ite (.ite ?_ ?_) (.refl m)
    · unfold Chip.drivePin
      extract_lets b
      exact .ite (coreKept_driveOut m _ _ _ _) (.refl m)
    · exact coreKept_timerStrobe m _ _ _

theorem coreKept_cmpMiss (m : Chip) (n : Nat) : CoreKept m (m.cmpMiss n) := by
  unfold Chip.cmpMiss
  extract_lets k m1 m2
  have h1 : CoreKept m m1 := .trans (.refl m) (coreKept_raise _ _)
  clear_value m1
  have h2 : CoreKept m m2 := by
    refine .ite h1 (h1.trans ?_)
    unfold Chip.cmpAct
    extract_lets ctl
    refine .ite (.refl m1) ?_
    have hnote : CoreKept m1 (m1.noteActed n) := .ite (.refl m1) (.refl m1)
    exact (hnote.trans (coreKept_doAction _ _ _)).trans (.trans (.refl _) (coreKept_raiseIf _ _ _))
  clear_value m2
  refine h2.trans ?_
  unfold Chip.cmpNext
  exact .ite (.refl m2) (.refl m2)

theorem coreKept_stbResume (m : Chip) (slept : Bool) : CoreKept m (m.stbResume slept) := by
  unfold Chip.stbResume
  split
  · extract_lets n mk _ _ m1 w m2
    have h1 : CoreKept m m1 := .refl m
    clear_value m1
    have h2 : CoreKept m m2 := h1.trans ((coreKept_wr64 m1 _ _ _).trans (coreKept_wr _ _ _ _))
    clear_value m2
    refine h2.trans (.trans (coreKept_makeUpTimers m2 mk n) ?_)
    exact .foldl (fun m k => .ite (coreKept_cmpMiss m k) (.refl m)) _ _
  · rfl

theorem coreKept_trainLane (m : Chip) (rate n : Nat) : CoreKept m (m.trainLane rate n) := by
  unfold Chip.trainLane
  refine .ite (.refl m) ?_
  extract_lets t dis on m1
  have h1 : CoreKept m m1 := .refl m
  clear_value m1
  exact .ite (h1.trans (coreKept_orBits _ _ _ _)) h1

theorem coreKept_train (m : Chip) : CoreKept m m.train := by
  unfold Chip.train
  extract_lets m1 rate now m2
  have h1 : CoreKept m m1 := .refl m
  clear_value m1
  have h2 : CoreKept m1 m2 := .refl m1
  clear_value m2
  exact .ite (h1.trans (h2.trans (.foldl (fun m n => coreKept_trainLane m rate n) _ _))) h1

theorem coreKept_linkWake (m : Chip) : CoreKept m m.linkWake := .ite (coreKept_train _) (.refl m)

/-- The clocks that come back on the way to SLEEP stay on. -/
theorem Chip.clocksBack_core (m : Chip) : m.clocksBack.pw.core = true := by
  unfold Chip.clocksBack
  extract_lets _ m1 m2 _ m3
  have h1 : m1.pw.core = true := rfl
  clear_value m1
  have h2 : m2.pw.core = true := Eq.trans (coreKept_stbResume m1 false) h1
  clear_value m2
  exact Eq.trans (coreKept_linkWake m3) h2

theorem Chip.dropHeldTriggers_core (m : Chip) : CoreKept m m.dropHeldTriggers := by
  unfold Chip.dropHeldTriggers
  refine .ite (.refl m) ?_
  extract_lets m1 d
  have h1 : CoreKept m m1 := .foldl (fun m k => coreKept_bump m _ _ _) _ m
  clear_value m1
  exact h1

theorem Chip.drainGiveUp_leaves (m : Chip) : m.drainGiveUp.pw = { m.pw with drained := true } := by
  unfold Chip.drainGiveUp
  extract_lets m1
  split <;> rfl

/-- What SLEEP entry leaves of the power state (R69, R106). -/
theorem sleepEntry_leaves (m : Chip) : m.sleepEntry.pw.sq = some .dozeSleep ∧ m.sleepEntry.pw.core = true := by
  unfold Chip.sleepEntry
  extract_lets m1 _ m2
  have h1 : m1.pw.core = true := Eq.trans (m.clocksBack.dropHeldTriggers_core) m.clocksBack_core
  have hsq : m1.pw.sq = some .dozeSleep := rfl
  clear_value m1
  split
  · rw [Chip.drainGiveUp_leaves]
    exact ⟨hsq, h1⟩
  · exact ⟨hsq, h1⟩

end

section
variable {s : State} {v : Word}

theorem modeRequest_sleeps (hb : s.chip.busOn = true) (hcode : fld v 0 3 = 3) (hrst : tst v 7 = false)
    (hcur : s.chip.pw.cur = .doze) (hsq : s.chip.pw.sq = none) (hwake : s.chip.pw.wake = false) :
    Answers (.modeRequest v) s (fun t => t.pw.sq = some .dozeSleep ∧ t.pw.core = true) := by
  refine answers_modeRequest hb (by omega) hrst fun p b hp => ?_
  obtain ⟨hpw, -⟩ := hp.parts
  rw [show modeOf (fld v 0 3) = .sleep by rw [hcode]; rfl,
    requestMode_leaves (w := p) (by decide) (if_neg (by decide)) ((congrArg Power.sq hpw).trans hsq),
    modeGo_sleeps (m := p.goingTo .sleep) ((congrArg Power.ready hpw).trans (State.busOn_ready hb)) ((congrArg Power.sq hpw).trans hsq)
      ((congrArg Power.cur hpw).trans hcur) rfl ((congrArg Power.wake hpw).trans hwake)]
  have h := sleepEntry_leaves (p.goingTo .sleep)
  generalize (p.goingTo .sleep).sleepEntry = n at h
  exact h

end

/-! ### The ends of the mode sequences (R64, R66) -/

section
variable {m : Chip}

theorem Chip.regIdle_leaves (m : Chip) (c : Nat) : ∃ l, m.regIdle c = { m with chans := l } := by
  unfold Chip.regIdle
  dsimp only
  split
  · split
    · exact ⟨_, rfl⟩
    · exact ⟨_, rfl⟩
  · exact ⟨m.chans, rfl⟩

theorem Chip.regsIdle_leaves (m : Chip) : ∃ l, m.regsIdle = { m with chans := l } := by
  refine List.foldlRecOn (List.range 8) _ (motive := fun t : Chip => ∃ l, t = { m with chans := l }) ⟨m.chans, rfl⟩
    fun t ⟨l, hl⟩ c _ => ?_
  obtain ⟨l', h⟩ := t.regIdle_leaves c
  exact ⟨l', by rw [h, hl]⟩

theorem Chip.linkSleep_leaves (m : Chip) : ∃ l st, m.linkSleep = { m with link := l, streams := st } := by
  unfold Chip.linkSleep
  extract_lets stop m1
  split
  · exact ⟨_, _, rfl⟩
  · exact ⟨_, _, rfl⟩

/-- With no wake pin enabled no level wakes (R75). -/
theorem Chip.levelWakes_none (h : m.rd 0 0x05 = 0) : m.levelWakes = m := by
  refine List.foldlRecOn (List.range 8) _ (motive := fun t => t = m) rfl fun t ht n _ => ?_
  have hno : tst (t.rd 0 0x05) n = false := by
    rw [ht, h]
    exact BitVec.getLsbD_zero
  simp only [hno, Bool.false_and, Bool.false_eq_true, if_false]
  exact ht

/-- The warning bits of the supplies that nothing takes any more: words of space 0 alone. -/
theorem Chip.warnTrim_leaves (m : Chip) : ∃ r, m.warnTrim = { m with regs := r } ∧ WordsKept m m.warnTrim [(0, 0x06)] := by
  refine List.foldlRecOn (List.range 4) _
    (motive := fun t : Chip => ∃ r, t = { m with regs := r } ∧ WordsKept m t [(0, 0x06)]) ⟨m.regs, rfl, .refl m _⟩
    fun t ⟨r, ht, hk⟩ n _ => ?_
  split
  · exact ⟨r, ht, hk⟩
  · refine ⟨(t.clrBits 0 0x06 (bitW n)).regs, ?_, hk.clrBits _ (List.mem_singleton_self _)⟩
    subst ht
    rfl

theorem Chip.bootField_value (m : Chip) {v : Nat} (hv : v < 16) : fld ((m.bootField 12 4 v).rd 0 0x0D) 12 4 = v := by
  rw [Chip.bootField, Chip.rd_wr_same]
  exact fld_setFld_same _ (by decide) hv

theorem WordsKept.bootField {o : Chip} {ws : List (Nat × Nat)} {lo n v : Nat} (h : WordsKept o m ws) (hw : (0, 0x0D) ∈ ws) :
    WordsKept o (m.bootField lo n v) ws := h.wr _ hw

/-- The chip in IDLE, the trim of the warnings and the boot field apart. -/
def Chip.idles (m : Chip) : Chip :=
  { m with pw := { m.pw with cur := .idle, sq := none, array := false, pixFb := false, pixPend := false } }

theorem runIdleEnd_leaves (m : Chip) : m.runIdleEnd.pw = m.idles.pw ∧ fld (m.runIdleEnd.rd 0 0x0D) 12 4 = 4 ∧
    WordsKept m m.runIdleEnd [(0, 0x0D), (0, 0x06)] ∧ m.runIdleEnd.cc = m.cc ∧ m.runIdleEnd.tb = m.tb := by
  have h0 : m.runIdleEnd = m.idles.warnTrim.bootField 12 4 4 := rfl
  obtain ⟨r, hr, hk⟩ := m.idles.warnTrim_leaves
  have hk' : WordsKept m m.idles.warnTrim [(0, 0x0D), (0, 0x06)] :=
    fun k hne => hk k fun w hw => hne w (List.mem_cons_of_mem _ hw)
  have hcc : m.idles.cc = m.cc ∧ m.idles.tb = m.tb := ⟨rfl, rfl⟩
  rw [h0]
  generalize m.idles = i at hr hk' hcc ⊢
  generalize i.warnTrim = w at hr hk' ⊢
  have hpw : w.pw = i.pw := (congrArg Chip.pw hr).trans rfl
  refine ⟨hpw, w.bootField_value (by decide), hk'.bootField (by simp), ?_, ?_⟩
  · exact (congrArg Chip.cc hr).trans hcc.1
  · exact (congrArg Chip.tb hr).trans hcc.2

theorem Chip.cancelRequests_leaves (m : Chip) : ∃ h l, m.cancelRequests = { m with hkc := h, chans := l } := by
  obtain ⟨l, hl⟩ := Chip.regsIdle_leaves { m with hkc := { m.hkc with reqs := List.replicate 8 none } }
  exact ⟨_, l, hl⟩

/-- DOZE is reached: the clocks stop and the phase of the AON clock is recorded (R106). -/
theorem dozeReached_leaves (hwakeen : m.rd 0 0x05 = 0) : m.dozeReached.pw = { m.pw with
    cur := .doze, sq := none, core := false, pipe := false, link := false, rcUsed := m.pw.rc,
    phase := some (m.tb.stb, m.tb.aon, m.aonPhase) } := by
  obtain ⟨h, l, hc⟩ := m.cancelRequests_leaves
  obtain ⟨k, st, hl⟩ := m.cancelRequests.phaseRecord.linkSleep_leaves
  unfold Chip.dozeReached
  rw [hl, hc]
  extract_lets _ _ _ n
  have hn : n.rd 0 0x05 = m.rd 0 0x05 := rfl
  have hpw : n.pw = { m.pw with cur := .doze, sq := none, core := false, pipe := false, link := false, rcUsed := m.pw.rc, phase := some (m.tb.stb, m.tb.aon, m.aonPhase) } := rfl
  clear_value n
  rw [Chip.levelWakes_none (m := n.bootField 12 4 6) ((Chip.rd_wr_ne _ _ (by decide)).trans (hn.trans hwakeen))]
  exact hpw

/-- A held trigger that the way to SLEEP drops counts in a word of its context, and its event waits for the wake (R177). -/
theorem Chip.dropHeldTriggers_leaves (m : Chip) : ∃ d, m.dropHeldTriggers.tb = m.tb ∧
    m.dropHeldTriggers.pw = { m.pw with deferred := d } ∧ m.dropHeldTriggers.cc.frameNum = m.cc.frameNum ∧
    m.dropHeldTriggers.rd 0 0x05 = m.rd 0 0x05 := by
  let f : Chip → Fin 16 → Chip := fun m k => m.bump spCtx (0x100 * k.val + 9) 1
  have htb : (m.cc.heldTrig.foldl f m).tb = m.tb := foldl_part Chip.tb (f := f) (fun _ _ => rfl) _ m
  have hpw : (m.cc.heldTrig.foldl f m).pw = m.pw := foldl_part Chip.pw (f := f) (fun _ _ => rfl) _ m
  have hcc : (m.cc.heldTrig.foldl f m).cc = m.cc := foldl_part Chip.cc (f := f) (fun _ _ => rfl) _ m
  have hrd : (m.cc.heldTrig.foldl f m).rd 0 0x05 = m.rd 0 0x05 := by
    refine foldl_part (fun t : Chip => t.rd 0 0x05) (f := f) (fun t k => ?_) _ m
    show (t.bump spCtx (0x100 * k.val + 9) 1).rd 0 0x05 = _
    rw [Chip.rd_bump, if_neg (key_ne_of_space (by decide) (by decide) (by omega))]
  by_cases hnone : m.cc.heldTrig.isEmpty = true
  · rw [Chip.dropHeldTriggers, if_pos hnone]
    exact ⟨m.pw.deferred, rfl, rfl, rfl, rfl⟩
  · rw [Chip.dropHeldTriggers, if_neg hnone]
    change ∃ d, (m.cc.heldTrig.foldl f m).tb = m.tb ∧ _ ∧ (m.cc.heldTrig.foldl f m).cc.frameNum = m.cc.frameNum ∧
      (m.cc.heldTrig.foldl f m).rd 0 0x05 = m.rd 0 0x05
    generalize m.cc.heldTrig.foldl f m = n at htb hpw hcc hrd ⊢
    refine ⟨{ n.pw.deferred with events := n.pw.deferred.events ||| BitVec.ofNat 32 (2 ^ evTrigOverrun) }, htb, ?_,
      congrArg CaptureCtl.frameNum hcc, hrd⟩
    rw [← hpw]

/-- What SLEEP finds once the pins are down and the keep store is saved (R81). -/
theorem sleepSaved_leaves (m : Chip) : ∃ d w l n, n = m.dropHeldTriggers.keepSave.pinsDown.phaseRecord ∧ n.tb = m.tb ∧
    n.pw = { m.pw with deferred := d, phase := some (m.tb.stb, m.tb.aon, m.aonPhase), rcUsed := m.pw.rc } ∧
    n.keep = .saved w l ∧ n.cc.frameNum = m.cc.frameNum ∧ n.rd 0 0x05 = m.rd 0 0x05 := by
  obtain ⟨d, htb, hpw, hfn, hrd⟩ := m.dropHeldTriggers_leaves
  have hdown (a : Chip) : ∃ p, a.pinsDown = { a with pins := p } := by
    unfold Chip.pinsDown
    split
    · exact ⟨a.pins, rfl⟩
    · exact ⟨_, rfl⟩
  generalize m.dropHeldTriggers = a at htb hpw hfn hrd
  obtain ⟨p, hp⟩ := hdown a.keepSave
  rw [hp]
  refine ⟨d, _, _, _, rfl, htb, ?_, rfl, hfn, hrd⟩
  show { a.pw with phase := some (a.tb.stb, a.tb.aon, a.tb.sub / 128), rcUsed := a.pw.rc } = _
  rw [hpw, htb]
  rfl

/-- The power state once CORE has lost its supply: the domains are off, what only CORE keeps is gone. -/
def Power.asleep (p : Power) : Power :=
  { p with core := false, array := false, pipe := false, link := false, isetOn := false, pixFb := false, pixPend := false,
           drained := false, goodHeld := false, auto := false }

theorem Chip.coreLoss_leaves (m : Chip) : m.coreLoss.pw = m.pw.asleep ∧ m.coreLoss.keep = m.keep ∧
    m.coreLoss.cc.frameNum = m.cc.frameNum ∧ m.coreLoss.rd 0 0x05 = m.rd 0 0x05 := by
  refine ⟨rfl, rfl, rfl, ?_⟩
  show Bank.get (Bank.keepIf m.regs aonKey) (key 0 0x05) = _
  rw [Bank.get_keepIf, if_pos (by decide)]
  rfl

/-- What is left of the chip in SLEEP. -/
theorem sleepLoss_leaves (m : Chip) : ∃ n, n = ((m.ledger 6 1).coreLoss).strapOptions ∧ n.pw = m.pw.asleep ∧ n.keep = m.keep ∧
    n.cc.frameNum = m.cc.frameNum ∧ n.rd 0 0x05 = m.rd 0 0x05 := by
  obtain ⟨l, hl⟩ := m.ledger_leaves 6 1
  have hled : (m.ledger 6 1).pw = m.pw ∧ (m.ledger 6 1).keep = m.keep ∧ (m.ledger 6 1).cc = m.cc ∧
      (m.ledger 6 1).rd 0 0x05 = m.rd 0 0x05 := by
    rw [hl]
    exact ⟨rfl, rfl, rfl, rfl⟩
  obtain ⟨hpw, hkeep, hcc, hrd⟩ := hled
  generalize m.ledger 6 1 = a at hpw hkeep hcc hrd
  obtain ⟨hpw1, hkeep1, hfn1, hrd1⟩ := a.coreLoss_leaves
  generalize a.coreLoss = b at hpw1 hkeep1 hfn1 hrd1
  have hstrap := onlyThese_strapOptions b
  have hrd2 : b.strapOptions.rd 0 0x05 = b.rd 0 0x05 := hstrap.rd (by decide)
  obtain ⟨r, c, i, ht⟩ := onlyWords_iff.mp hstrap.1
  have hparts : b.strapOptions.pw = b.pw ∧ b.strapOptions.keep = b.keep ∧ b.strapOptions.cc = b.cc := by
    rw [ht]
    exact ⟨rfl, rfl, rfl⟩
  obtain ⟨hpw2, hkeep2, hcc2⟩ := hparts
  refine ⟨_, rfl, hpw2.trans (hpw1.trans (congrArg Power.asleep hpw)), hkeep2.trans (hkeep1.trans hkeep), ?_,
    hrd2.trans (hrd1.trans hrd)⟩
  exact (congrArg CaptureCtl.frameNum hcc2).trans (hfn1.trans (congrArg CaptureCtl.frameNum hcc))

/-- SLEEP is reached: the keep store is saved, CORE's domains are off, the STB stands at its recorded value (R81, R106). -/
theorem sleepReached_leaves (hwakeen : m.rd 0 0x05 = 0) : ∃ d, m.sleepReached.pw = { m.pw.asleep with
      deferred := d, phase := some (m.tb.stb, m.tb.aon, m.aonPhase), rcUsed := m.pw.rc, cur := .sleep, sq := none } ∧
    m.sleepReached.tb.stb = m.tb.stb ∧ (∃ w l, m.sleepReached.keep = .saved w l) ∧
    m.sleepReached.cc.frameNum = m.cc.frameNum := by
  obtain ⟨d, w, l, n, hn, htb, hpw, hkeep, hfn, hrd⟩ := sleepSaved_leaves m
  obtain ⟨a, ha, hpwa, hkeepa, hfna, hrda⟩ := sleepLoss_leaves n
  unfold Chip.sleepReached
  rw [← hn]
  dsimp only
  rw [← ha]
  obtain ⟨r, hr, hk⟩ := Chip.warnTrim_leaves (Chip.bootField { a with pw := { a.pw with cur := .sleep, sq := none }, tb := { a.tb with stb := n.now } } 12 4 6)
  have hrdk := hk.rd (sp := 0) (off := 0x05) (by decide)
  rw [Chip.levelWakes_none (hrdk.trans ((Chip.rd_wr_ne _ _ (by decide)).trans (hrda.trans (hrd.trans hwakeen)))), hr]
  have hstb : n.now = m.tb.stb := congrArg TimeBase.stb htb
  refine ⟨d, ?_, hstb, ⟨w, l, hkeepa.trans hkeep⟩, hfna.trans hfn⟩
  show { a.pw with cur := .sleep, sq := none } = _
  rw [hpwa, hpw]
  rfl

theorem drainGiveUp_empties (hempty : m.poolEmpty = false) : m.drainGiveUp.poolEmpty = true ∧
    m.drainGiveUp.pw.drained = true ∧ m.drainGiveUp.rd 0 0x03 = m.rd 0 0x03 ||| 0x0100 ∧
    WordsKept m m.drainGiveUp [(0, 0x03)] ∧ m.drainGiveUp.tb = m.tb ∧ m.drainGiveUp.cc = m.cc := by
  let n : Chip := { m with pw := { m.pw with drained := true } }
  have hno : ¬n.poolEmpty = true := by
    show ¬m.poolEmpty = true
    rw [hempty]
    decide
  have hgive : m.drainGiveUp = Chip.orBits { n with
      streams := n.streams.map (fun (t : Stream) => { t with recs := [], bufs := [], held := [], frames := [] })
      link := { n.link with flight := none } } 0 0x03 0x0100 := if_neg hno
  rw [hgive]
  refine ⟨?_, rfl, Chip.rd_orBits_same .., ?_, rfl, rfl⟩
  · simp [Chip.poolEmpty, Chip.orBits, Chip.wr]
  · exact WordsKept.orBits (t := { n with streams := _, link := _ }) (.refl m _) _ (List.mem_singleton_self _)

end

section
variable {s : State}

theorem exec_runToIdleEntry (hsq : s.chip.pw.sq = some .runIdleWait) (hcap : s.chip.cc.cap = none) :
    exec .runToIdleEntry s = done s (if s.chip.pw.target = .run then s.chip.setSeq none else s.chip.runIdleNow) := by
  have hg : (s.chip.pw.sq == some .runIdleWait && s.chip.cc.cap.isNone) = true := by rw [hsq, hcap]; rfl
  show guarded s _ _ = _
  rw [hg]
  rfl

theorem runToIdleEntry_starts (hsq : s.chip.pw.sq = some .runIdleWait) (hcap : s.chip.cc.cap = none)
    (ht : s.chip.pw.target ≠ .run) :
    Answers .runToIdleEntry s (fun t => t.pw.sq = some .runIdle ∧ t.pw.isetOn = false) := by
  have hexec := exec_runToIdleEntry hsq hcap
  rw [if_neg ht] at hexec
  obtain ⟨h1, h2, -, -⟩ := runIdleNow_leaves s.chip
  generalize s.chip.runIdleNow = n at hexec h1 h2
  exact answers_of_done hexec ⟨h1, h2⟩

theorem runToIdleEntry_stays (hsq : s.chip.pw.sq = some .runIdleWait) (hcap : s.chip.cc.cap = none)
    (ht : s.chip.pw.target = .run) :
    Answers .runToIdleEntry s (fun t => t.pw = { s.chip.pw with sq := none } ∧
      t = { s.chip with pw := t.pw, pins := { s.chip.pins with irq := t.pins.irq } }) := by
  have hexec := exec_runToIdleEntry hsq hcap
  rw [if_pos ht] at hexec
  exact answers_of_done hexec ⟨rfl, rfl⟩

/-- A sequence that ends in the mode that is its own target is the sequence's end alone. -/
theorem answers_modeSequenceEnd {n : Chip} {P : Chip → Prop} (hready : s.chip.seqReady = true) (hend : s.chip.seqEnd = n)
    (hstay : n.modeGo = n) (hP : P n) (hset : ∀ t : Chip, P t → P t.settle := by exact fun _ h => h) :
    Answers .modeSequenceEnd s P := by
  refine answers_leaves (m := s.chip.seqEnd.modeGo) rfl hready ?_ hset
  rw [hend, hstay]
  exact hP

theorem modeSequenceEnd_idle (hsq : s.chip.pw.sq = some .runIdle) (ht : s.chip.pw.target = .idle) :
    Answers .modeSequenceEnd s (fun t => t.pw = { s.chip.pw with
        cur := .idle, sq := none, array := false, pixFb := false, pixPend := false } ∧
      fld (t.rd 0 0x0D) 12 4 = 4 ∧ WordsKept s.chip t [(0, 0x0D), (0, 0x06)] ∧ t.cc = s.chip.cc ∧ t.tb = s.chip.tb) := by
  obtain ⟨hpw, hfld, hkept, hcc, htb⟩ := runIdleEnd_leaves s.chip
  have hend : s.chip.seqEnd = s.chip.runIdleEnd := by simp only [Chip.seqEnd, hsq]
  generalize s.chip.runIdleEnd = n at hpw hfld hkept hcc htb hend
  have hcur : n.pw.cur = .idle := congrArg Power.cur hpw
  have htarget : n.pw.target = .idle := (congrArg Power.target hpw).trans ht
  exact answers_modeSequenceEnd (by simp only [Chip.seqReady, hsq]) hend (modeGo_stays (hcur.trans htarget.symm) (.inr (.inl hcur)))
    ⟨hpw, hfld, hkept, hcc, htb⟩

theorem modeSequenceEnd_run (hsq : s.chip.pw.sq = some .idleRun) (ht : s.chip.pw.target = .run) :
    Answers .modeSequenceEnd s (fun t => t.pw = { s.chip.pw with
        cur := .run, sq := none, wake := false, array := true, isetOn := true } ∧
      fld (t.rd 0 0x0D) 12 4 = 5 ∧ WordsKept s.chip t [(0, 0x0D)] ∧ t.cc = s.chip.cc ∧ t.tb = s.chip.tb) := by
  let u : Chip := { s.chip with pw := { s.chip.pw with cur := .run, sq := none, wake := false, array := true, isetOn := true } }
  have hend : s.chip.seqEnd = u.bootField 12 4 5 := by
    simp only [Chip.seqEnd, hsq]
    rfl
  have hstay : (u.bootField 12 4 5).modeGo = u.bootField 12 4 5 := modeGo_stays ht.symm (.inl rfl)
  refine answers_modeSequenceEnd (by simp only [Chip.seqReady, hsq]) hend hstay ⟨rfl, u.bootField_value (by decide), ?_, rfl, rfl⟩
  exact WordsKept.bootField (m := u) (.refl s.chip _) (List.mem_singleton_self _)

theorem modeSequenceEnd_doze (hsq : s.chip.pw.sq = some .idleDoze) (hready : s.chip.seqReady = true)
    (ht : s.chip.pw.target = .doze) (hwake : s.chip.pw.wake = false) (hen : s.chip.rd 0 0x05 = 0) :
    Answers .modeSequenceEnd s (fun t => t.pw.cur = .doze ∧ t.pw.sq = none ∧ t.pw.core = false ∧ t.pw.pipe = false ∧
      t.pw.link = false ∧ t.pw.phase = some (s.chip.tb.stb, s.chip.tb.aon, s.chip.aonPhase)) := by
  have hpw := dozeReached_leaves hen
  have hend : s.chip.seqEnd = s.chip.dozeReached := by simp only [Chip.seqEnd, hsq]
  generalize s.chip.dozeReached = n at hpw hend
  have hcur : n.pw.cur = .doze := congrArg Power.cur hpw
  have htarget : n.pw.target = .doze := (congrArg Power.target hpw).trans ht
  have hwake' : n.pw.wake = false := (congrArg Power.wake hpw).trans hwake
  refine answers_modeSequenceEnd hready hend (modeGo_stays (hcur.trans htarget.symm) (.inr (.inr hwake'))) ?_
  rw [hpw]
  exact ⟨rfl, rfl, rfl, rfl, rfl, rfl⟩

theorem modeSequenceEnd_sleep (hsq : s.chip.pw.sq = some .dozeSleep) (hready : s.chip.seqReady = true)
    (ht : s.chip.pw.target = .sleep) (hwake : s.chip.pw.wake = false) (hen : s.chip.rd 0 0x05 = 0) :
    Answers .modeSequenceEnd s (fun t => t.pw.cur = .sleep ∧ t.pw.sq = none ∧ t.pw.core = false ∧ t.pw.pipe = false ∧
      t.pw.link = false ∧ t.tb.stb = s.chip.tb.stb ∧ t.pw.phase = some (s.chip.tb.stb, s.chip.tb.aon, s.chip.aonPhase) ∧
      (∃ w l, t.keep = .saved w l) ∧ t.cc.frameNum = s.chip.cc.frameNum) := by
  obtain ⟨d, hpw, hstb, hkeep, hfn⟩ := sleepReached_leaves hen
  have hend : s.chip.seqEnd = s.chip.sleepReached := by simp only [Chip.seqEnd, hsq]
  generalize s.chip.sleepReached = n at hpw hstb hkeep hfn hend
  have hcur : n.pw.cur = .sleep := congrArg Power.cur hpw
  have htarget : n.pw.target = .sleep := (congrArg Power.target hpw).trans ht
  have hwake' : n.pw.wake = false := (congrArg Power.wake hpw).trans hwake
  refine answers_modeSequenceEnd hready hend (modeGo_stays (hcur.trans htarget.symm) (.inr (.inr hwake'))) ?_
  rw [hpw]
  exact ⟨rfl, rfl, rfl, rfl, rfl, hstb, rfl, hkeep, hfn⟩

theorem drainTimeout_givesUp (hsq : s.chip.pw.sq = some .dozeSleep) (hdrained : s.chip.pw.drained = false)
    (hempty : s.chip.poolEmpty = false) (hlate : s.chip.drainLate = true) :
    Answers .drainTimeout s (fun t => t.pw.drained = true ∧ t.poolEmpty = true ∧
      t.rd 0 0x03 = s.chip.rd 0 0x03 ||| 0x0100 ∧ WordsKept s.chip t [(0, 0x03)] ∧ t.tb = s.chip.tb ∧ t.cc = s.chip.cc) := by
  have hg : (s.chip.pw.sq == some .dozeSleep && !s.chip.pw.drained && !s.chip.poolEmpty && s.chip.drainLate) = true := by
    rw [hsq, hdrained, hempty, hlate]
    rfl
  obtain ⟨h1, h2, h3, h4, h5, h6⟩ := drainGiveUp_empties hempty
  exact answers_leaves (m := s.chip.drainGiveUp) rfl hg ⟨h2, h1, h3, h4, h5, h6⟩

end

/-- Settles O12: the requests by the chip that the write of PWRCTL leaves to the mode's sequence, the ends by what each
sequence leaves in the mode that is its own target. -/
theorem powerModes : Obligations.PowerModes := by
  unfold Obligations.PowerModes
  refine ⟨fun s v hb => ⟨?_, modeRequest_discarded hb, fun hcode hrst hcur hsq hwake hhalt => ⟨?_, ?_⟩, ?_, ?_, ?_, ?_⟩,
    ⟨fun s hsq hcap => ⟨runToIdleEntry_starts hsq hcap, runToIdleEntry_stays hsq hcap⟩, fun s hready => ?_, ?_, ?_, ?_, ?_⟩, ?_⟩
  · exact hostWrite_on s 0 0x02 (·.writePwrctl v) hb hb
  · exact fun hcap => modeRequest_idle_now hb hcode hrst hcur hsq hwake hhalt hcap
  · exact fun hcap => modeRequest_idle_waits hb hcode hrst hcur hsq hwake hhalt hcap
  · exact fun hcode hrst hcur hsq hbelow => modeRequest_wakes hb hcode hrst hcur hsq hbelow
  · exact fun hcode hrst hcur hsq hbusy hheld => modeRequest_dozes hb hcode hrst hcur hsq hbusy hheld
  · exact fun hcode hrst hcur hsq hwake => modeRequest_sleeps hb hcode hrst hcur hsq hwake
  · exact fun hcode hrst hcur hsq hwake hbelow => modeRequest_rises hb hcode hrst hcur hsq hwake hbelow
  · exact completes_guarded (m := s.chip.seqEnd.modeGo) rfl hready
  · exact fun s hsq ht => modeSequenceEnd_idle hsq ht
  · exact fun s hsq hready ht hwake hen => modeSequenceEnd_doze hsq hready ht hwake hen
  · exact fun s hsq hready ht hwake hen => modeSequenceEnd_sleep hsq hready ht hwake hen
  · exact fun s hsq ht => modeSequenceEnd_run hsq ht
  · exact fun s hsq hdrained hempty hlate => drainTimeout_givesUp hsq hdrained hempty hlate

end Sys2Proof.Machine
end
